-- ==== Sys2Proof/Word.lean ====
section
/-! DEFINITION. The word types of the module (R7 to R9). -/

namespace Sys2Proof

/-- A byte. -/
abbrev Byte := BitVec 8

/-- A 32-bit word: a register, a CONV word, a handle field. -/
abbrev Word32 := BitVec 32

/-- A 64-bit word: a descriptor or ticket word, a host address (R9, R127). -/
abbrev Word64 := BitVec 64

end Sys2Proof
end

