-- ==== Sys2Proof/Types.lean ====
section
/-! DEFINITION. The small types shared by the operands of commands, the state and the arithmetic:
formats, exact values, wide words. -/

namespace Sys2Proof.Machine

/-- The number formats of Table 2.6, the reserved codes left out (R32, R37, R38, R40, R54, R60). -/
inductive Fmt where
  | l8 | lg8 | l16 | l32 | w4p1 | w8p2 | b1
  | fp32 | bf16 | fp16 | e4m3 | e5m2 | int8 | int4
deriving DecidableEq, Repr

/-- The rounding modes of the CONV word, RND = 0b11 left out (Table 2.5, R48). -/
inductive Rnd where
  | nearestEven | towardZero | stochastic
deriving DecidableEq, Repr

/-- The non-zero real number `(-1)^neg * (num/den)^(1/2^root) * 2^(p/2^k)`, held exactly.
`num` and `den` are positive. Log codes have `num = den = 1` (R31); edge, weight and drained
values have `k = 0`; `root = 1` arises only from SQRT of a W8P2 value (R141). -/
structure Exact where
  neg : Bool
  num : Nat
  den : Nat
  root : Nat
  p : Int
  k : Nat
deriving DecidableEq, Repr

/-- What an element of any format, an X40 value or a drained value means (R31 to R40, R54, R89).
The sign of `zero` matters only between two edge formats (R56). -/
inductive Val where
  | zero (neg : Bool)
  | nar
  | inf (neg : Bool)
  | fin (x : Exact)
deriving DecidableEq, Repr

/-- A wide word W (Table 3.5): a special or a finite integer in the unit 2^(E - 33). -/
inductive Wide where
  | nar
  | inf (neg : Bool)
  | fin (w : Int)
deriving DecidableEq, Repr

/-- A wide state that crosses a boundary: the content of a CHAIN word (Table 4.8).
`e = none` is E_SET = 0 (R81, R123). -/
structure Chain where
  w : Wide
  e : Option Int
deriving DecidableEq, Repr

/-- The CONV word of a descriptor, decoded (Table 2.5). -/
structure Conv where
  src : Option Fmt
  dst : Option Fmt
  rnd : Option Rnd
  ovfInf : Bool
  tAuto : Bool
  tValue : Int
  zeroPoint : Int
  intMode : Bool
  reserved : Bool
deriving DecidableEq, Repr

/-- The CONV_STATUS bits of Table 2.12 with the two engine counts of R67. -/
structure ConvStatus where
  overflow : Bool
  narLost : Bool
  scaleClamped : Bool
  ovfCount : Nat
  narCount : Nat
deriving DecidableEq, Repr

/-- A sorted association list: the canonical form of every sparse table of the state.
Keys rise strictly. -/
abbrev Tab (α : Type) := List (Nat × α)

end Sys2Proof.Machine
end

