-- ==== Sys2Proof/Objects.lean ====
section
/-! DEFINITION. What commands and messages carry: parameters of the Gheit commands, tickets and
descriptors, journal records, messages between modules, what the outside reports. -/

namespace Sys2Proof.Machine

/-! ### Command blocks -/

/-- The head of a command block as the module takes it (Table 12.3): the issuing function, IRQ,
TAG, and whether any reserved bit or byte of the block is non-zero. -/
structure CmdHead where
  fn : Nat
  irq : Bool
  tag : Word32
  reserved : Bool
deriving DecidableEq, Repr

/-- Parameters of PARTITION_CREATE (Tables 10.3, 12.6); sizes in units of 2 MiB. -/
structure PartitionParams where
  dies : Nat
  channels : Nat
  stashArea : Nat
  spillHbm : Nat
  cowHbm : Nat
  seats : Nat
  quantum : Nat
  functions : BitVec 64
deriving DecidableEq, Repr

/-- Parameters of CONTEXT_CREATE (Tables 10.5, 12.7); sizes in units of 2 MiB. -/
structure ContextParams where
  partition : Nat
  client : Nat
  priority : Nat
  seed : Word64
  hbmQuota : Nat
  stashHbm : Nat
  chainArea : Nat
  ballastQuota : Nat
  stashBallast : Nat
deriving DecidableEq, Repr

/-- Parameters of RING_CREATE (R360). -/
structure RingParams where
  ctx : Nat
  depth : Nat
  ticketAddr : Nat
  complAddr : Nat
  ctrlAddr : Nat
  vector : Nat
deriving DecidableEq, Repr

/-- What a KV view names (R307). -/
structure KvView where
  pool : Nat
  slot : Nat
  firstEntry : Nat
  maxRows : Nat
  width : Nat
deriving DecidableEq, Repr

/-- Parameters of TENSOR_CREATE (Table 10.6, R307); `kind` and `format` as coded. -/
structure TensorParams where
  kind : Nat
  format : Nat
  dims : List Nat
  t : Int
  persistent : Bool
  pin : Bool
  kv : KvView
deriving DecidableEq, Repr

/-- Parameters of QUEUE_CREATE (Table 6.8). -/
structure QueueParams where
  id : Nat
  send : Bool
  peer : Nat
  depth : Nat
  entryBytes : Nat
  bulkVc : Nat
deriving DecidableEq, Repr

/-- One cut of a plan (Tables 9.1, 9.2). -/
structure Cut where
  kind : Nat
  degree : Nat
  weight : Nat
deriving DecidableEq, Repr

/-- Parameters of MAP_PLAN (Table 9.1). -/
structure PlanParams where
  id : Nat
  modules : List Nat
  cuts : List Cut
  prior : Nat
  resultAddr : Nat
deriving DecidableEq, Repr

/-- The computed plan: the position list L, the node index of each position, the node count, the
cuts in order with stride and WORST_CLASS, MOVED (R260 to R265). -/
structure PlanResult where
  id : Nat
  order : List Nat
  nodeIndex : List Nat
  nodes : Nat
  cuts : List (Nat × Nat × Nat)
  moved : Nat
  /-- the pair classes the modules reported, by module (log entry 17: DEDUCED) -/
  classes : Tab (Tab Nat)
deriving DecidableEq, Repr

/-! ### Tickets and descriptors -/

/-- A 64-byte descriptor: eight little-endian words (R127, R135, R172, R189, R195, R379). -/
structure Desc where
  w0 : Word64
  w1 : Word64
  w2 : Word64
  w3 : Word64
  w4 : Word64
  w5 : Word64
  w6 : Word64
  w7 : Word64
deriving DecidableEq, Repr

/-- A ticket, its 128 bytes decoded (Table 12.8); `reserved` says that a reserved byte or bit of
it is non-zero. -/
structure Ticket where
  tseq : Nat
  kind : Nat
  irqDone : Bool
  irqAccept : Bool
  descCount : Nat
  descAddr : Nat
  resultAddr : Nat
  commitId : Nat
  userTag : Word64
  reserved : Bool
deriving DecidableEq, Repr

/-- What a fetch brings: the 128 bytes of the ticket and those of its descriptors, 64 each (R9, R364). -/
structure Fetched where
  ticket : List Byte
  descs : List Byte
deriving DecidableEq, Repr

/-! ### Journal -/

/-- The journaled Gheit commands with their parameters: the body of a CONFIG record (R321). -/
inductive ConfigOp where
  | partitionCreate (p : PartitionParams)
  | partitionDestroy (part : Nat)
  | partitionQuantum (part quantum : Nat)
  | contextCreate (fn : Nat) (p : ContextParams)
  | contextDestroy (ctx : Nat)
  | contextPriority (ctx prio : Nat)
  | ringCreate (p : RingParams)
  | ringDestroy (ring : Nat)
  | tensorCreate (ctx : Nat) (p : TensorParams)
  | tensorDelete (ctx handle : Nat)
  | kvPoolCreate (ctx pages : Nat) (persistent : Bool)
  | kvMap (ctx slot first : Nat) (entries : List Word32)
  | kvPoolDestroy (ctx pool : Nat)
  | slotAssign (ctx slot : Nat)
  | slotRelease (ctx slot : Nat)
  | queueCreate (ctx : Nat) (p : QueueParams)
  | queueDestroy (ctx id : Nat)
  | xgroupCreate (ctx id : Nat) (members : List Nat)
  | xgroupDestroy (ctx id : Nat)
  | gatherBudget (ctx units : Nat)
  | mapPlan (ctx : Nat) (p : PlanParams) (r : PlanResult)
  | mapPlanDrop (ctx id : Nat)
  | fabricReserve (part share : Nat) (lend : Bool)
deriving DecidableEq, Repr

/-- The bodies of Table 11.8. -/
inductive JBody where
  | accept (t : Ticket)
  | desc (ds : List Desc)
  | complete (entry : List Byte)
  | config (op : ConfigOp)
  | hostWrite (handle offset : Nat) (bytes : List Byte)
  | freeze (commit : Nat)
  | sealed (commit : Nat)
  | release (commit : Nat)
  | rollback (commit : Nat)
  | prompt (slot : Nat) (bytes : List Byte)
  /-- a job fault, with the LAYER_ID of the scope it met (R183), else 0 -/
  | fault (cause layer : Nat)
deriving DecidableEq, Repr

/-- A journal record, the fields of its 256 bytes (Table 11.7); `ring` and `ctx` are 0xFFFF for none. (Log entry 93:
DEDUCED.) -/
structure JRec where
  seq : Nat
  part : Nat
  count : Nat
  ring : Nat
  ctx : Nat
  tseq : Nat
  commit : Nat
  body : JBody
deriving DecidableEq, Repr

/-! ### Tensor objects and the job header -/

/-- The kinds of Table 10.6. -/
inductive TKind where
  | ordinary | wide | kvView
deriving DecidableEq, Repr

/-- The bytes of a memory: (address, byte) pairs in canonical form. -/
abbrev Mem := List (Nat × Byte)

/-- A tensor object without its contents (R290, R291, R331). -/
structure TObj where
  kind : TKind
  fmt : Fmt
  dims : List Nat
  t : Int
  persistent : Bool
  pin : Bool
  kv : KvView
  writes : Nat
deriving DecidableEq, Repr

/-- A group of the job header: members in rank order, the next collective number (R196, R209). -/
structure GroupObj where
  members : List Nat
  nextNumber : Nat
deriving DecidableEq, Repr

/-- A KV pool of the job header (R305). -/
structure PoolObj where
  pages : Nat
  persistent : Bool
deriving DecidableEq, Repr

/-- A serving slot of the job header: its length and page table (R306, R378). -/
structure SlotObj where
  length : Nat
  table : Tab Word32
  prompt : List Byte
deriving DecidableEq, Repr

/-- Gather levels (Table 9.6). -/
inductive GatherLevel where
  | kept | node | group
deriving DecidableEq, Repr

/-- A gathered tensor (R270 to R274). -/
structure Gathered where
  level : GatherLevel
  charge : Nat
  group : Nat
  /-- the collective number of its XGATHER, the same on every member -/
  number : Nat
  shardChunks : Nat
  src : Nat
  /-- the recorded node, members in ascending rank -/
  node : List Nat
  held : Bool
  /-- the ticket of its XGATHER, which alone holds it until it completes (R272) -/
  first : Option (Nat × Nat)
  /-- tickets that hold it after a re-gather: (ring, TSEQ) (R273) -/
  holders : List (Nat × Nat)
  /-- write counts of the SRC shards at the gather with their handles on their members, by rank -/
  counts : Tab (Nat × Nat)
  /-- the span of this member's node shard, which a tensor of its own holds (R271) -/
  shard : Option (Nat × Nat)
  /-- ranks whose read data are still awaited in a re-gather; elements received, nibbles by block of 32 -/
  awaiting : List Nat
  back : Tab Nat
  backNibs : Tab Nat
  /-- the nibbles of the whole tensor by block of 32 elements, which peers are sent with a span of it -/
  flatNibs : Tab Nat
deriving DecidableEq, Repr

/-- An accepted ticket of a job that is incomplete when a commit is frozen: a COMMIT, or one that waits behind it
(R325, R330), with the RECORD_SEQ of its acceptance and the gather budget then. -/
structure WaitingTicket where
  ring : Nat
  tseq : Nat
  accAt : Nat
  gatherHbm : Nat
deriving DecidableEq, Repr

/-- The job header of a commit (R331), with what a re-gather after a restore needs (R275; log entry 21: DEDUCED), and what
the tickets that wait behind the commit see: tensors being deleted, earlier page tables (R294, R306, R325; log entry 108:
DEDUCED). -/
structure JobHeader where
  params : ContextParams
  gatherHbm : Nat
  tensors : Tab TObj
  nextHandle : Nat
  groups : Tab GroupObj
  epoch : Nat
  pendingEpoch : Bool
  queues : Tab QueueParams
  pools : Tab PoolObj
  slots : Tab SlotObj
  gathered : Tab Gathered
  waiting : List WaitingTicket := []
  deleting : Tab Nat := []
  tables : Tab (List (Nat × Tab Word32)) := []
deriving DecidableEq, Repr

/-- A 2 MiB extent of a persistent image: a tensor's handle, or a pool, with its number. -/
structure ExtentId where
  pool : Bool
  handle : Nat
  index : Nat
deriving DecidableEq, Repr

/-- A kept sealed commit as its module knows it (R334): its FREEZE record, for each extent the commit
whose transfer wrote its slot, its header, the error rollbacks made to it (R424). -/
structure Kept where
  id : Nat
  freezeSeq : Nat
  map : List (ExtentId × Nat)
  header : JobHeader
  rollbacks : Nat
deriving DecidableEq, Repr

/-! ### Messages -/

/-- What every exchange message carries (R209), with the job it is for; `round` tells the integer rounds of
low-rank thinning apart (R214). (Log entry 92: DEDUCED.) -/
structure CollHead where
  ctx : Nat
  group : Nat
  epoch : Nat
  number : Nat
  round : Nat
  run : Nat
deriving DecidableEq, Repr

/-- What the digest of an XS message covers (R210, R217, R219). (Log entry 91: DEDUCED.) -/
structure Digest where
  opcode : Nat
  all : Bool
  q32 : Bool
  lowRank : Bool
  rank : Nat
  scale : Nat
  elems : Nat
  shardChunks : Nat
  newGroup : Nat
  newShardChunks : Nat
  fmt : Option Fmt
  t : Int
deriving DecidableEq, Repr

/-- A chunk's local figure and flags (R198, R208); `fig = none` is EMPTY. -/
structure Figure where
  fig : Option Int
  nar : Bool
  pinf : Bool
  ninf : Bool
deriving DecidableEq, Repr

/-- An XS message: the ranks whose figures it combines (Table 7.5), and the nodes that its sender has, of which those of
rank 0 are the collective's (log entry 146: DEDUCED). -/
structure XsMsg where
  head : CollHead
  covers : List Nat
  digest : Digest
  figures : List Figure
  nodes : List (List Nat)
deriving DecidableEq, Repr

/-- A word with its hallmark (R205). -/
structure MarkedWord where
  word : Int
  mark : Nat
deriving DecidableEq, Repr

/-- An XD message: a partial sum of one chunk over the ranks it covers, on its way to rank `dest`; `across`
in the second stage of its route (R266). -/
structure XdMsg where
  head : CollHead
  dest : Nat
  across : Bool
  covers : List Nat
  chunk : Nat
  words : List MarkedWord
deriving DecidableEq, Repr

/-- An XV message: the failed ranks of the ranks it covers. -/
structure XvMsg where
  head : CollHead
  covers : List Nat
  failed : List Nat
deriving DecidableEq, Repr

/-- XGATHER or PERMUTE data: elements of the whole tensor from `first` on, with the scale nibbles of their
blocks, out of the shard of `rank`, for `dest`; `handle` names that shard on its member, `writes` is its write
count, `nodes` is its route. -/
structure CopyMsg where
  head : CollHead
  nodes : List (List Nat)
  rank : Nat
  dest : Nat
  handle : Nat
  first : Nat
  codes : List Nat
  nibbles : List Nat
  writes : Nat
deriving DecidableEq, Repr

/-- A CHAIN word with its place. -/
structure ChainWord where
  b : Nat
  i : Nat
  j : Nat
  word : Word64
deriving DecidableEq, Repr

/-- CHAIN words of a chained split reduction (R126). -/
structure ChainMsg where
  ctx : Nat
  src : Nat
  tag : Nat
  batch : Nat
  m : Nat
  n : Nat
  words : List ChainWord
deriving DecidableEq, Repr

/-- A tensor in a queue slot (R190): codes (CHAIN words of a wide tensor), scales, format and shape. -/
structure SlotImage where
  wide : Bool
  fmt : Fmt
  dims : List Nat
  t : Int
  codes : List (List Nat)
  nibs : List (List Nat)
deriving DecidableEq, Repr

/-- What a memory-write message carries: the header or an extent of a commit on its way to the twin (R333), or, as an
image, back to the module whose job it is (R340, R348). -/
structure MirrorMsg where
  image : Bool
  ctx : Nat
  commit : Nat
  header : Option JobHeader
  extent : Option ExtentId
  bytes : Mem
deriving DecidableEq, Repr

/-- What pairing needs to know of the other end (Table 11.1); `asks` wants the receiver's in return. -/
structure PairInfo where
  asks : Bool
  ident : Option Nat
  names : Option Nat
  revision : Nat
  ballast : Nat
  /-- the identity whose journal and mirror it holds -/
  holds : Option Nat
deriving DecidableEq, Repr

/-- Winch-to-winch messages (R240, R256, R259, R310, R318, R349, R428). -/
inductive WinchMsg where
  /-- discovery: an identity (or its 64-identity block) is reached through the arrival port -/
  | discovery (ident : Nat) (block : Bool) (port : Nat)
  /-- a report to a plan's lead: what the digest covers, and the reach class of every module of the
  plan, its class-0 neighbours among them (log entry 17: DEDUCED) -/
  | planReport (ctx : Nat) (p : PlanParams) (classes : Tab Nat)
  /-- the lead's answer -/
  | planResult (ctx : Nat) (r : PlanResult)
  /-- a plan refused for a digest that differs (true) or an unheard module (false) -/
  | planRefused (ctx id : Nat) (mismatch : Bool)
  /-- neighbour list of a group member, to rank 0 -/
  | groupNeighbours (ctx group : Nat) (neighbours : List Nat)
  /-- the nodes of a group, from rank 0 -/
  | groupNodes (ctx group : Nat) (nodes : List (List Nat))
  /-- rank 0 has lost the neighbour lists of a group and asks for them again -/
  | groupAsk (ctx group : Nat)
  /-- present reach classes of a module to those of a plan (log entry 145: DEDUCED) -/
  | planClasses (ctx id : Nat) (classes : Tab Nat)
  | pairInfo (info : PairInfo)
  | unpaired
  /-- the twin reports an uncorrectable extent of this module's sealed commit -/
  | mirrorFault (ctx commit : Nat) (extent : ExtentId) (time : Nat)
  /-- ask for a record of the receiver's own or partner journal -/
  | recordRequest (partner : Bool) (seq : Nat)
  | recordAnswer (partner : Bool) (record : JRec)
  /-- notice of another module's fault -/
  | faultNotice (ident : Nat)
  /-- the survivor's answer to a restore request: WRONG_ID, or accepted, with its revision and ballast code (R340) -/
  | restoreAnswer (facts : Option (Nat × Nat))
  /-- did rows 3 to 5 of Table 11.1 hold on the survivor (Table 11.13)? -/
  | restoreChecked (ok : Bool)
  /-- a module in recovery asks its twin for an image (R404); the image it serves (R405) -/
  | imageRequest (ident : Nat)
  | recoveryImage (image : List Byte)
deriving DecidableEq, Repr

/-- The authentication messages of R312; `fresh` says that the sender holds no session key any more (R314). -/
inductive AuthMsg where
  | hello (fresh : Bool) (certs : List Byte) (encapKey : List Byte)
  | cipher (ciphertext : List Byte)
  | signed (signature : List Byte)
deriving DecidableEq, Repr

/-- What a remote read asks for (R273): the elements of a node shard of a gather, `count` from `first` on, or the source
shard `handle` with the write count of the gather; `tag` is the tensor it is for. -/
structure ReadReq where
  ctx : Nat
  group : Nat
  number : Nat
  handle : Nat
  node : Bool
  tag : Nat
  first : Nat
  count : Nat
  writes : Nat
deriving DecidableEq, Repr

/-- Read data for a tensor of the reader: elements with their nibbles, the shard's present write count; `tag` is
the collective number of the gather. `gone`: the node shard is no longer held (R275; log entry 61: DEDUCED). -/
structure ReadData where
  gone : Bool
  ctx : Nat
  handle : Nat
  rank : Nat
  tag : Nat
  first : Nat
  codes : List Nat
  nibbles : List Nat
  writes : Nat
deriving DecidableEq, Repr

/-- A restore request of a replacement (R340). -/
structure RestoreReq where
  ident : Nat
  survivor : Nat
  revision : Nat
  ballast : Nat
deriving DecidableEq, Repr

/-- The three counts of a client (R359). -/
structure Counts where
  accepted : Nat := 0
  completed : Nat := 0
  faulted : Nat := 0
deriving DecidableEq, Repr

/-- A ring of the configuration tables: its parameters, A_g, C_g, completed numbers above C_g (R321). -/
structure RingRow where
  params : RingParams
  accepted : Nat := 0
  complete : Nat := 0
  above : List Nat := []
deriving DecidableEq, Repr

/-- The configuration tables of a module as its twin keeps them (Tables 11.6, 11.13): partitions (parameters, dies,
channels, quantum, share) and LEND, contexts (owner, parameters, priority), rings, client counts; `next` is the first
RECORD_SEQ that they do not hold yet. (Log entry 151: DEDUCED.) -/
structure ModTables where
  parts : Tab (PartitionParams × List Nat × List Nat × Nat × Nat) := []
  lend : Bool := false
  ctxs : Tab (Nat × ContextParams × Nat) := []
  rings : Tab RingRow := []
  clients : Tab Counts := []
  next : Nat := 0
deriving DecidableEq, Repr

/-- What step 2 of a restore sends (Table 11.13): the configuration tables, kept commits by context, the partner
journal, jobs whose state is lost (R428). -/
structure RestoreTables where
  tables : ModTables
  kept : Tab (List Kept)
  records : List JRec
  lost : List Nat
deriving DecidableEq, Repr

/-- The messages of Table 8.4. -/
inductive Msg where
  | journal (recs : List JRec)
  | journalAck (upTo : Nat)
  /-- the partner journal has no room for records, or has room again (R324) -/
  | journalFull
  | journalRoom
  /-- the configuration tables of the sender (R321, R340) -/
  | tables (t : ModTables)
  /-- step 2 of a restore -/
  | restoreTables (t : RestoreTables)
  /-- a seal request with the SEALED record that the twin writes (R333) -/
  | sealRequest (ctx commit : Nat) (rec : JRec)
  | sealAck (ctx commit : Nat)
  | winch (m : WinchMsg)
  | auth (m : AuthMsg)
  | restoreRequest (r : RestoreReq)
  | xs (m : XsMsg)
  | xd (m : XdMsg)
  | xv (m : XvMsg)
  | gatherData (m : CopyMsg)
  | permuteData (m : CopyMsg)
  | chain (m : ChainMsg)
  | mirror (m : MirrorMsg)
  | mirrorAck (image : Bool) (ctx commit : Nat) (extent : Option ExtentId)
  | readRequest (r : ReadReq)
  | readData (d : ReadData)
  | queueSlot (ctx id : Nat) (slot : SlotImage)
  | slotWritten (ctx id : Nat)
  | queueCredit (ctx id : Nat)
deriving DecidableEq, Repr

/-- A packet: what the head header of Table 8.3 says of it, beside the message it is part of, its payload
bytes counted but not listed; `tag` is the tag at the end of a protected tether message, else empty (R313). -/
structure Packet where
  dest : Nat
  src : Nat
  len : Nat
  msgType : Nat
  vc : Nat
  seq : Nat
  offset : Nat
  msgLen : Nat
  msg : Msg
  tag : List Byte
deriving DecidableEq, Repr

/-- A FEC group as the lanes bring it (R225): for each of the lanes 0 to 3 the 5,140 message bits of its
codeword, `none` where the codeword is uncorrectable; and the symbol errors counted before correction. -/
structure FecGroup where
  lanes : List (Option (BitVec 5140))
  symErrors : Nat
deriving DecidableEq, Repr

/-- A REPLAY group as it arrives (R233): the number that its REPLAY flit names, and the group that holds the flit. -/
structure ReplayGroup where
  seq : Nat
  group : FecGroup
deriving DecidableEq, Repr

/-- The content of a TRAIN flit (Table 8.5). -/
structure TrainFlit where
  ident : Option Nat
  revision : Nat
  /-- port index of the sender (R223) -/
  port : Nat
  /-- peer kind: a switch rather than a module -/
  switch : Bool
  txDelay : Nat
  rxDelay : Nat
  remoteRtt : Nat
  incarnation : Nat
deriving DecidableEq, Repr

/-- The content of a TIME_SYNC flit (Table 8.5). -/
structure SyncFlit where
  t1 : Int
  t4 : Option Int
  rootId : Nat
  hops : Nat
  inSync : Bool
deriving DecidableEq, Repr

/-! ### What the outside reports -/

/-- Where a detected error lies (Table 14.3). -/
inductive Place where
  | cleanCopy (ctx : Nat)
  | secureWay
  | jobState (ctx : Nat)
  | jobHome (ctx : Nat) (extent : ExtentId)
  | cowArea (ctx : Nat)
  | moduleArea (part : Nat)
  | ownRecord (seq : Nat)
  | partnerRecord (seq : Nat)
  | mirrorSlot (slot : Nat)
  | moduleState
  | blocked (ctx : Nat)
  | datapath (ctx : Option Nat)
deriving DecidableEq, Repr

/-- A detected error (Tables 14.3 to 14.5): corrected by its code or not, where, by which unit. -/
structure ErrorReport where
  corrected : Bool
  place : Place
  source : Nat
  unit : Nat
  address : Nat
  syndrome : Nat
  /-- the ring, ticket and descriptor that met the error, when a descriptor was reading -/
  reader : Option (Nat × Nat × Nat)
deriving DecidableEq, Repr

/-- One pass of the patrol scrub (R419): the compute die whose memories it reads, `none` for those of the module; and what
it found there. -/
structure ScrubPass where
  die : Option Nat
  found : Option ErrorReport
deriving DecidableEq, Repr

/-- The sensors of one power sample: input power in W, input voltage in units of 10 mV, the hottest
sensor of each of the twelve dies and the temperature of each of the twenty stacks, in °C. -/
structure Sensors where
  watts : Nat
  vin : Nat
  dieTemps : List Int
  stackTemps : List Int
deriving DecidableEq, Repr

/-- A tile-task: its descriptor (context, ring, TSEQ, position), batch member, output tile, chunk
(R101, R113). -/
structure TaskId where
  ctx : Nat
  ring : Nat
  tseq : Nat
  pos : Nat
  b : Nat
  ti : Nat
  tj : Nat
  chunk : Nat
deriving DecidableEq, Repr

/-- The source of a recovery image (R404). -/
inductive RecSource where
  | host | twin
deriving DecidableEq, Repr

end Sys2Proof.Machine
end

