-- ==== Sys2Proof/Syntax.lean ====
section
/-! DEFINITION. The commands of the block: one constructor per row of the opcode table. A Gheit
command carries the head of its block and its parameters (R478); a register access its function,
place and value; a descriptor row the context whose next descriptor is dispatched; a message row
the sender whose next delivered message is taken. -/

namespace Sys2Proof

open Sys2Proof.Machine

inductive Instr where
  | partitionCreate (h : CmdHead) (p : PartitionParams)
  | partitionDestroy (h : CmdHead) (part : Nat)
  | partitionQuantum (h : CmdHead) (part : Nat) (quantum : Nat)
  | contextCreate (h : CmdHead) (p : ContextParams)
  | contextDestroy (h : CmdHead) (ctx : Nat)
  | contextPriority (h : CmdHead) (ctx : Nat) (prio : Nat)
  | contextQuery (h : CmdHead) (ctx : Nat)
  | ringCreate (h : CmdHead) (p : RingParams)
  | ringDestroy (h : CmdHead) (ring : Nat)
  | clientCounts (h : CmdHead) (client : Nat)
  | tensorCreate (h : CmdHead) (ctx : Nat) (p : TensorParams)
  | tensorDelete (h : CmdHead) (ctx : Nat) (handle : Nat)
  | tensorMap (h : CmdHead) (ctx : Nat) (handle : Nat) (offset : Nat)
  | tensorUnmap (h : CmdHead) (ctx : Nat) (handle : Nat)
  | tensorQuery (h : CmdHead) (ctx : Nat) (handle : Nat)
  | kvPoolCreate (h : CmdHead) (ctx : Nat) (pages : Nat) (persistent : Nat)
  | kvMap (h : CmdHead) (ctx : Nat) (slot : Nat) (first : Nat) (count : Nat) (entries : Option (List Word32))
  | kvPoolDestroy (h : CmdHead) (ctx : Nat) (pool : Nat)
  | slotAssign (h : CmdHead) (ctx : Nat) (bytes : Nat) (prompt : Option (List Byte))
  | slotRelease (h : CmdHead) (ctx : Nat) (slot : Nat)
  | slotQuery (h : CmdHead) (ctx : Nat) (slot : Nat) (addr : Nat)
  | queueCreate (h : CmdHead) (ctx : Nat) (p : QueueParams)
  | xgroupCreate (h : CmdHead) (ctx : Nat) (group : Nat) (count : Nat) (members : Option (List Nat))
  | gatherBudget (h : CmdHead) (ctx : Nat) (units : Nat)
  | mapPlan (h : CmdHead) (ctx : Nat) (p : PlanParams) (readFails : Bool)
  | queueDestroy (h : CmdHead) (ctx : Nat) (queue : Nat)
  | xgroupDestroy (h : CmdHead) (ctx : Nat) (group : Nat)
  | mapPlanDrop (h : CmdHead) (ctx : Nat) (plan : Nat)
  | moduleIdSet (h : CmdHead) (ident : Nat) (size : Nat)
  | fabricReserve (h : CmdHead) (part : Nat) (share : Nat) (lend : Nat)
  | portReset (h : CmdHead) (port : Nat)
  | cartridgeRelease (h : CmdHead) (cart : Nat)
  | twinPair (h : CmdHead) (ident : Nat)
  | twinUnpair (h : CmdHead) (discard : Nat)
  | twinSolo (h : CmdHead)
  | twinRestore (h : CmdHead) (survivor : Nat)
  | jobRollback (h : CmdHead) (ctx : Nat) (commit : Nat)
  | commitRelease (h : CmdHead) (ctx : Nat) (commit : Nat)
  | journalQuery (h : CmdHead) (byRing : Bool) (number : Nat)
  | fwUpdate (h : CmdHead) (addr : Nat) (len : Nat) (image : Option (List Byte))
  | moduleReset (h : CmdHead)
  | functionResync (h : CmdHead) (discard : Nat)
  | certRead (h : CmdHead) (addr : Nat)
  | attestQuote (h : CmdHead) (nonce : List Byte) (scope : Nat) (ctx : Nat) (addr : Nat)
  | regionQuery (h : CmdHead) (addr : Nat)
  | winchMboxCfgWrite (fn : Nat) (value : Word32)
  | winchEvqCfgWrite (fn : Nat) (value : Word32)
  | ringDoorbell (fn : Nat) (ring : Nat) (width : Nat) (tailSeq : Nat)
  | fabricTimeLoRead (fn : Nat)
  | logSnap (fn : Nat) (value : Word32)
  | logSnapDone
  | logDataRead (fn : Nat)
  | xdTelemCfgWrite (fn : Nat) (value : Word32)
  | xdTelemPeriodWrite (fn : Nat) (value : Word32)
  | keepAwakeWrite (fn : Nat) (value : Word32)
  | recoveryGo (fn : Nat) (value : Word32)
  | registerWrite (fn : Nat) (offset : Nat) (width : Nat) (value : Nat)
  | bar2Read (fn : Nat) (offset : Nat) (len : Nat)
  | bar2Write (fn : Nat) (offset : Nat) (bytes : List Byte)
  | ticketFetch (ring : Nat) (got : Option Fetched)
  | ticketAccept (ring : Nat)
  | ticketComplete (ring : Nat) (tseq : Nat)
  | journalRecords (src : Nat)
  | matrix (ctx : Nat)
  | operandsReady (tile : Nat) (task : TaskId)
  | taskDispatch (tile : Nat)
  | roundStart (tile : Nat) (eng : Nat)
  | windowClose (tile : Nat) (eng : Nat)
  | groupClose (tile : Nat) (eng : Nat)
  | groupPark (tile : Nat) (eng : Nat) (group : Nat)
  | mergeCombine (task : TaskId)
  | groupDrainStart (tile : Nat)
  | groupDrainReadDone (tile : Nat)
  | drainStageDone (tile : Nat)
  | convert (ctx : Nat)
  | add (ctx : Nat)
  | sub (ctx : Nat)
  | mul (ctx : Nat)
  | div (ctx : Nat)
  | mulAdd (ctx : Nat)
  | max (ctx : Nat)
  | min (ctx : Nat)
  | ladd (ctx : Nat)
  | square (ctx : Nat)
  | sqrt (ctx : Nat)
  | recip (ctx : Nat)
  | exp (ctx : Nat)
  | log (ctx : Nat)
  | act (ctx : Nat)
  | abs (ctx : Nat)
  | epilogue (ctx : Nat)
  | sum (ctx : Nat)
  | sumsq (ctx : Nat)
  | reduceMax (ctx : Nat)
  | reduceMin (ctx : Nat)
  | count (ctx : Nat)
  | lse (ctx : Nat)
  | meanvar (ctx : Nat)
  | softmax (ctx : Nat)
  | layer (ctx : Nat)
  | scopeComplete (ctx : Nat)
  | stashMove (ctx : Nat) (handle : Nat)
  | recompute (ctx : Nat) (handle : Nat)
  | qsend (ctx : Nat)
  | qrecv (ctx : Nat)
  | queueSlot (src : Nat) (vc : Nat)
  | slotWrittenAck (src : Nat) (vc : Nat)
  | queueCredit (src : Nat) (vc : Nat)
  | xreduce (ctx : Nat)
  | xgather (ctx : Nat)
  | permute (ctx : Nat)
  | xs (src : Nat)
  | xd (src : Nat)
  | xv (src : Nat)
  | xgatherData (src : Nat)
  | permuteData (src : Nat)
  | chainWords (src : Nat)
  | regather (ctx : Nat) (handle : Nat)
  | slotSet (ctx : Nat)
  | commitFreeze (ctx : Nat)
  | cowCopy (ctx : Nat) (ext : ExtentId)
  | commitTransfer (ctx : Nat)
  | memoryWrite (src : Nat)
  | mirrorExtentAck (src : Nat)
  | commitCoordination (src : Nat)
  | commitSealed (src : Nat)
  | memoryReadRequest (src : Nat)
  | memoryReadData (src : Nat)
  | winchControl (src : Nat)
  | twinAuth (src : Nat)
  | sessionRekey
  | twinPairRetry
  | twinLost
  | restoreRequest (src : Nat)
  | twinRestoreTimeout
  | restoreStepDone (step : Nat)
  | jobReplay (ctx : Nat) (consumed : Tab Nat)
  | partitionYieldPoint (part : Nat)
  | sliceEnd (part : Nat)
  | switchDone (part : Nat)
  | lightDetected (port : Nat)
  | lightLost (port : Nat)
  | trainingStepTimeout (port : Nat)
  | trainingTimeout (port : Nat)
  | portRetry (port : Nat)
  | train (port : Nat) (flit : TrainFlit)
  | fecGroupReceive (port : Nat) (group : FecGroup)
  | packetReceive (port : Nat) (packet : Packet)
  | ack (port : Nat) (seq : Nat) (nak : Bool)
  | replay (port : Nat) (got : ReplayGroup)
  | nakResendTimeout (port : Nat)
  | ackInterval (port : Nat)
  | credit (port : Nat) (counts : List Nat)
  | packetTransmit (port : Nat)
  | down (port : Nat)
  | timeSync (port : Nat) (flit : SyncFlit)
  | timeReply (port : Nat) (t2 : Int) (t3 : Int)
  | timeSyncTimer (port : Nat)
  | rootTimeout
  | rootInSync
  | portWindowEnd (port : Nat)
  | laserBiasLimit (laser : Nat) (bias : Nat)
  | cartridgeInsert (cart : Nat) (serial : Nat) (factory : List Nat)
  | laserLock (cart : Nat)
  | mapPlanTimeout (ctx : Nat) (plan : Nat)
  | placementWindow
  | extentMoveDone (ctx : Nat) (ext : ExtentId)
  | errorDetected (report : ErrorReport)
  | patrolScrub (pass : ScrubPass)
  | errorWindowClose
  | logbookCommit
  | logbookSecondSample
  | logbookHourlySample
  | powerSample (r : Sensors)
  | governorInterval
  | stepUpCheck
  | clockStepApply
  | engineGate (tile : Nat) (eng : Nat)
  | engineStart (tile : Nat) (eng : Nat)
  | clusterSleep (cluster : Nat)
  | dieNap (die : Nat)
  | dieOff (die : Nat)
  | dieRailUp (die : Nat)
  | dieWakeDone (die : Nat)
  | clusterWakeDone (cluster : Nat)
  | thermalShutdown (r : Sensors)
  | telemetryWindowEnd
  | powerApplied
  | inputDisconnect (vin : Nat) (micros : Nat)
  | bootHeaderRead
  | bootBodyVerified
  | firmwareReady
  | recoveryHeader (source : RecSource) (header : List Byte)
  | recoveryImageReceived (image : Option (List Byte))
  | recoveryImageRequest (ident : Nat)
  | warmReset
  | linkReset
  | functionLevelReset (fn : Nat)
  | functionUnavailable (fn : Nat)
  | functionAvailable (fn : Nat)
  | winchMboxTailWrite (fn : Nat) (value : Word32) (readFails : Bool)
  | equaliserLocked (port : Nat)
  | codewordBoundariesFound (port : Nat)
  | cartridgeReleaseTimeout (cart : Nat)
  | spillMergeDone (ctx : Nat) (ext : ExtentId)
deriving DecidableEq, Repr

end Sys2Proof
end

