-- ==== Sys2Proof/WellFormed.lean ====
section
/-! DEFINITION. Well-formedness: the units a command numbers exist on the module (R15, R16, R22). -/

namespace Sys2Proof

open Sys2Proof.Machine

/-- Does every unit number of a command name a unit of the module? -/
def Instr.wf : Instr → Bool
  | .partitionCreate h _ => decide (h.fn ≤ 62)
  | .partitionDestroy h _ => decide (h.fn ≤ 62)
  | .partitionQuantum h _ _ => decide (h.fn ≤ 62)
  | .contextCreate h _ => decide (h.fn ≤ 62)
  | .contextDestroy h _ => decide (h.fn ≤ 62)
  | .contextPriority h _ _ => decide (h.fn ≤ 62)
  | .contextQuery h _ => decide (h.fn ≤ 62)
  | .ringCreate h _ => decide (h.fn ≤ 62)
  | .ringDestroy h _ => decide (h.fn ≤ 62)
  | .clientCounts h _ => decide (h.fn ≤ 62)
  | .tensorCreate h _ _ => decide (h.fn ≤ 62)
  | .tensorDelete h _ _ => decide (h.fn ≤ 62)
  | .tensorMap h _ _ _ => decide (h.fn ≤ 62)
  | .tensorUnmap h _ _ => decide (h.fn ≤ 62)
  | .tensorQuery h _ _ => decide (h.fn ≤ 62)
  | .kvPoolCreate h _ _ _ => decide (h.fn ≤ 62)
  | .kvMap h _ _ _ _ _ => decide (h.fn ≤ 62)
  | .kvPoolDestroy h _ _ => decide (h.fn ≤ 62)
  | .slotAssign h _ _ _ => decide (h.fn ≤ 62)
  | .slotRelease h _ _ => decide (h.fn ≤ 62)
  | .slotQuery h _ _ _ => decide (h.fn ≤ 62)
  | .queueCreate h _ _ => decide (h.fn ≤ 62)
  | .xgroupCreate h _ _ _ _ => decide (h.fn ≤ 62)
  | .gatherBudget h _ _ => decide (h.fn ≤ 62)
  | .mapPlan h _ _ _ => decide (h.fn ≤ 62)
  | .queueDestroy h _ _ => decide (h.fn ≤ 62)
  | .xgroupDestroy h _ _ => decide (h.fn ≤ 62)
  | .mapPlanDrop h _ _ => decide (h.fn ≤ 62)
  | .moduleIdSet h _ _ => decide (h.fn ≤ 62)
  | .fabricReserve h _ _ _ => decide (h.fn ≤ 62)
  | .portReset h _ => decide (h.fn ≤ 62)
  | .cartridgeRelease h _ => decide (h.fn ≤ 62)
  | .twinPair h _ => decide (h.fn ≤ 62)
  | .twinUnpair h _ => decide (h.fn ≤ 62)
  | .twinSolo h => decide (h.fn ≤ 62)
  | .twinRestore h _ => decide (h.fn ≤ 62)
  | .jobRollback h _ _ => decide (h.fn ≤ 62)
  | .commitRelease h _ _ => decide (h.fn ≤ 62)
  | .journalQuery h _ _ => decide (h.fn ≤ 62)
  | .fwUpdate h _ _ _ => decide (h.fn ≤ 62)
  | .moduleReset h => decide (h.fn ≤ 62)
  | .functionResync h _ => decide (h.fn ≤ 62)
  | .certRead h _ => decide (h.fn ≤ 62)
  | .attestQuote h _ _ _ _ => decide (h.fn ≤ 62)
  | .regionQuery h _ => decide (h.fn ≤ 62)
  | .winchMboxCfgWrite fn _ => decide (fn ≤ 62)
  | .winchEvqCfgWrite fn _ => decide (fn ≤ 62)
  | .ringDoorbell fn _ _ _ => decide (fn ≤ 62)
  | .fabricTimeLoRead fn => decide (fn ≤ 62)
  | .logSnap fn _ => decide (fn ≤ 62)
  | .logSnapDone => true
  | .logDataRead fn => decide (fn ≤ 62)
  | .xdTelemCfgWrite fn _ => decide (fn ≤ 62)
  | .xdTelemPeriodWrite fn _ => decide (fn ≤ 62)
  | .keepAwakeWrite fn _ => decide (fn ≤ 62)
  | .recoveryGo fn _ => decide (fn ≤ 62)
  | .registerWrite fn _ _ _ => decide (fn ≤ 62)
  | .bar2Read fn _ _ => decide (fn ≤ 62)
  | .bar2Write fn _ _ => decide (fn ≤ 62)
  | .ticketFetch _ _ => true
  | .ticketAccept _ => true
  | .ticketComplete _ _ => true
  | .journalRecords _ => true
  | .matrix _ => true
  | .operandsReady tile _ => decide (tile < 320)
  | .taskDispatch tile => decide (tile < 320)
  | .roundStart tile eng => decide (tile < 320) && decide (eng < 3)
  | .windowClose tile eng => decide (tile < 320) && decide (eng < 3)
  | .groupClose tile eng => decide (tile < 320) && decide (eng < 3)
  | .groupPark tile eng group => decide (tile < 320) && decide (eng < 3) && decide (group < 8)
  | .mergeCombine _ => true
  | .groupDrainStart tile => decide (tile < 320)
  | .groupDrainReadDone tile => decide (tile < 320)
  | .drainStageDone tile => decide (tile < 320)
  | .convert _ => true
  | .add _ => true
  | .sub _ => true
  | .mul _ => true
  | .div _ => true
  | .mulAdd _ => true
  | .max _ => true
  | .min _ => true
  | .ladd _ => true
  | .square _ => true
  | .sqrt _ => true
  | .recip _ => true
  | .exp _ => true
  | .log _ => true
  | .act _ => true
  | .abs _ => true
  | .epilogue _ => true
  | .sum _ => true
  | .sumsq _ => true
  | .reduceMax _ => true
  | .reduceMin _ => true
  | .count _ => true
  | .lse _ => true
  | .meanvar _ => true
  | .softmax _ => true
  | .layer _ => true
  | .scopeComplete _ => true
  | .stashMove _ _ => true
  | .recompute _ _ => true
  | .qsend _ => true
  | .qrecv _ => true
  | .queueSlot _ vc => decide (vc < 8)
  | .slotWrittenAck _ vc => decide (vc < 8)
  | .queueCredit _ vc => decide (vc < 8)
  | .xreduce _ => true
  | .xgather _ => true
  | .permute _ => true
  | .xs _ => true
  | .xd _ => true
  | .xv _ => true
  | .xgatherData _ => true
  | .permuteData _ => true
  | .chainWords _ => true
  | .regather _ _ => true
  | .slotSet _ => true
  | .commitFreeze _ => true
  | .cowCopy _ _ => true
  | .commitTransfer _ => true
  | .memoryWrite _ => true
  | .mirrorExtentAck _ => true
  | .commitCoordination _ => true
  | .commitSealed _ => true
  | .memoryReadRequest _ => true
  | .memoryReadData _ => true
  | .winchControl _ => true
  | .twinAuth _ => true
  | .sessionRekey => true
  | .twinPairRetry => true
  | .twinLost => true
  | .restoreRequest _ => true
  | .twinRestoreTimeout => true
  | .restoreStepDone _ => true
  | .jobReplay _ _ => true
  | .partitionYieldPoint _ => true
  | .sliceEnd _ => true
  | .switchDone _ => true
  | .lightDetected port => decide (port < 36)
  | .lightLost port => decide (port < 36)
  | .trainingStepTimeout port => decide (port < 36)
  | .trainingTimeout port => decide (port < 36)
  | .portRetry port => decide (port < 36)
  | .train port _ => decide (port < 36)
  | .fecGroupReceive port _ => decide (port < 36)
  | .packetReceive port _ => decide (port < 36)
  | .ack port _ _ => decide (port < 36)
  | .replay port _ => decide (port < 36)
  | .nakResendTimeout port => decide (port < 36)
  | .ackInterval port => decide (port < 36)
  | .credit port _ => decide (port < 36)
  | .packetTransmit port => decide (port < 36)
  | .down port => decide (port < 36)
  | .timeSync port _ => decide (port < 36)
  | .timeReply port _ _ => decide (port < 36)
  | .timeSyncTimer port => decide (port < 36)
  | .rootTimeout => true
  | .rootInSync => true
  | .portWindowEnd port => decide (port < 36)
  | .laserBiasLimit laser _ => decide (laser < 48)
  | .cartridgeInsert cart _ _ => decide (cart < 4)
  | .laserLock cart => decide (cart < 4)
  | .mapPlanTimeout _ _ => true
  | .placementWindow => true
  | .extentMoveDone _ _ => true
  | .errorDetected _ => true
  | .patrolScrub pass => pass.die.all (fun d => decide (d < 10))
  | .errorWindowClose => true
  | .logbookCommit => true
  | .logbookSecondSample => true
  | .logbookHourlySample => true
  | .powerSample _ => true
  | .governorInterval => true
  | .stepUpCheck => true
  | .clockStepApply => true
  | .engineGate tile eng => decide (tile < 320) && decide (eng < 3)
  | .engineStart tile eng => decide (tile < 320) && decide (eng < 3)
  | .clusterSleep cluster => decide (cluster < 80)
  | .dieNap die => decide (die < 10)
  | .dieOff die => decide (die < 10)
  | .dieRailUp die => decide (die < 10)
  | .dieWakeDone die => decide (die < 10)
  | .clusterWakeDone cluster => decide (cluster < 80)
  | .thermalShutdown _ => true
  | .telemetryWindowEnd => true
  | .powerApplied => true
  | .inputDisconnect _ _ => true
  | .bootHeaderRead => true
  | .bootBodyVerified => true
  | .firmwareReady => true
  | .recoveryHeader _ _ => true
  | .recoveryImageReceived _ => true
  | .recoveryImageRequest _ => true
  | .warmReset => true
  | .linkReset => true
  | .functionLevelReset fn => decide (fn ≤ 62)
  | .functionUnavailable fn => decide (fn ≤ 62)
  | .functionAvailable fn => decide (fn ≤ 62)
  | .winchMboxTailWrite fn _ _ => decide (fn ≤ 62)
  | .equaliserLocked port => decide (port < 36)
  | .codewordBoundariesFound port => decide (port < 36)
  | .cartridgeReleaseTimeout cart => decide (cart < 4)
  | .spillMergeDone _ _ => true

end Sys2Proof
end

