-- ==== Sys2Proof/Decode.lean ====
section
/-! DEFINITION. The commands that words spell. The command table gives none of its rows any bits, so
no word spells a command (log entry 2: DEDUCED). -/

namespace Sys2Proof

/-- The command an `nbits`-bit word spells by the table's bits: none, as no row has bits. -/
def decodeTableWord (_nbits _w : Nat) : Option Instr := none

end Sys2Proof
end

