-- ==== Sys2Proof/Config.lean ====
section
/-! DEFINITION. What an implementation fixes and the spec leaves open: constants without a body. -/

namespace Sys2Proof.Machine.Config

/-- OVF_INF of the conversions into L32 that LADD and LOG make of an edge operand; the spec names
none (R92, R143; log entry 3: DEDUCED). -/
opaque internalOvfInf : Bool

/-- Does a Falcon-1024 signature verify under a key over a byte string (R312, R397; log entry 5: PRESUMED)? -/
opaque falconVerify : List Byte → List Byte → List Byte → Bool

/-- The Falcon-1024 signature by the unwrapped device key, 1 to 1,462 bytes: from the wrapped key
block, WRAP_KEY, the signed bytes and a draw (R412, R415; log entry 5: PRESUMED). -/
opaque falconSign : List Byte → Nat → List Byte → Nat → List Byte

/-- The device public key of the wrapped key block: the ML-KEM-1024 encapsulation key of a draw, the
ciphertext for a key and a draw, and the two shared secrets (R312; log entry 5: PRESUMED). -/
opaque kemKey : Nat → List Byte
opaque kemCipher : List Byte → Nat → List Byte
opaque kemShared : List Byte → Nat → List Byte

/-- Length and bytes of a message whose payload layout the spec does not give (R229; log entry 6: UNVERIFIED). -/
opaque msgBytes : Msg → Nat
opaque msgPayload : Msg → List Byte

/-- The parameters of a journaled command as the body of a CONFIG record (Table 11.8; log entry 93: DEDUCED). -/
opaque configBody : ConfigOp → List Byte

/-- The 16-byte AES-256-GCM tag under a key and a 96-bit nonce, over associated data and a message (R313; log entry 5:
PRESUMED). -/
opaque gcmTag : List Byte → BitVec 96 → List Byte → List Byte → List Byte

/-- A fresh value of the given number of bits, for the draw of the given number (log entry 7: DESIGN CHOICE). -/
opaque freeValue : Nat → Nat → Nat

/-- Does the module use the slew step offered at a given fabric time? The spec bounds the rate by 100
ppm and leaves it open below that (R245; log entry 8: UNVERIFIED). -/
opaque slews : Nat → Bool

/-- Factory transmit and receive delays of a port, in ns (R245; log entry 19: UNVERIFIED). -/
opaque txDelay : Nat → Nat
opaque rxDelay : Nat → Nat

/-- T of the tensors that low-rank thinning writes for itself; the spec names none (R214; log entry 38: UNVERIFIED). -/
opaque internalT : BitVec 8

end Sys2Proof.Machine.Config
end

