-- ==== Sys2Proof/Machine/Bits.lean ====
section
/-! DEFINITION. Bit fields, sign extension, little-endian bytes, sorted tables, CRC-32C. -/

namespace Sys2Proof.Machine

/-- Bits [hi:lo] of a number (R8). -/
def fieldOf (w hi lo : Nat) : Nat := (w >>> lo) % 2 ^ (hi + 1 - lo)

/-- Bit i of a number. -/
def bitOf (w i : Nat) : Bool := (w >>> i) % 2 = 1

/-- The two's-complement value of the low n bits of w (n positive). -/
def signedOf (w n : Nat) : Int :=
  let v := w % 2 ^ n
  if v < 2 ^ (n - 1) then (v : Int) else (v : Int) - (2 ^ n : Nat)

/-- The n-bit two's-complement pattern of an integer. -/
def twosOf (x : Int) (n : Nat) : Nat := (x % (2 ^ n : Nat)).toNat

/-- The n bytes of a number, least significant first (R9). -/
def leBytes : Nat → Nat → List Byte
  | 0, _ => []
  | n + 1, w => BitVec.ofNat 8 w :: leBytes n (w >>> 8)

/-- The number that little-endian bytes spell (R9). -/
def ofLeBytes : List Byte → Nat
  | [] => 0
  | b :: bs => b.toNat + 256 * ofLeBytes bs

/-- A list cut or padded with zeros to n bytes. -/
def padTo (n : Nat) (bs : List Byte) : List Byte := bs.take n ++ List.replicate (n - bs.length) 0

/-- A little-endian field of n bytes at a. -/
def fieldAt (bs : List Byte) (a n : Nat) : Nat := ofLeBytes ((bs.drop a).take n)

/-- The ceiling of a / b. -/
def ceilDiv (a b : Nat) : Nat := (a + b - 1) / b

/-- a rounded up to a multiple of b. -/
def alignUp (a b : Nat) : Nat := ceilDiv a b * b

/-- The entry of a table at a key. -/
def Tab.get {α : Type} : Tab α → Nat → Option α
  | [], _ => none
  | (k, a) :: t, i => if k = i then some a else Tab.get t i

/-- The entry of a table at a key, or a default. -/
def Tab.getD {α : Type} (t : Tab α) (i : Nat) (d : α) : α := (Tab.get t i).getD d

/-- The table with the entry at a key set, keys kept rising. -/
def Tab.set {α : Type} : Tab α → Nat → α → Tab α
  | [], i, a => [(i, a)]
  | (k, b) :: t, i, a =>
    if i < k then (i, a) :: (k, b) :: t
    else if i = k then (i, a) :: t
    else (k, b) :: Tab.set t i a

/-- The table without the entry at a key. -/
def Tab.erase {α : Type} (t : Tab α) (i : Nat) : Tab α := t.filter (fun e => e.1 != i)

/-- Is there an entry at the key? -/
def Tab.has {α : Type} (t : Tab α) (i : Nat) : Bool := (Tab.get t i).isSome

/-- The keys of a table, rising. -/
def Tab.keys {α : Type} (t : Tab α) : List Nat := t.map (·.1)

/-- The entries of a table in key order. -/
def Tab.vals {α : Type} (t : Tab α) : List α := t.map (·.2)

/-- Change every entry of a table. -/
def Tab.mapVals {α β : Type} (t : Tab α) (f : Nat → α → β) : Tab β := t.map (fun e => (e.1, f e.1 e.2))

/-- Change the entry at a key, if there is one. -/
def Tab.modify {α : Type} (t : Tab α) (i : Nat) (f : α → α) : Tab α :=
  match Tab.get t i with
  | some a => Tab.set t i (f a)
  | none => t

/-- The keys of a table rise strictly: its canonical form. -/
def Tab.wf {α : Type} : Tab α → Bool
  | [] => true
  | [_] => true
  | a :: b :: t => decide (a.1 < b.1) && Tab.wf (b :: t)

/-- The lowest number below `n` that the list does not hold. -/
def lowestFree (n : Nat) (used : List Nat) : Option Nat :=
  (List.range n).find? (fun i => !used.contains i)

/-- One bit of the reflected CRC-32C division, polynomial 0x1EDC_6F41 (R228). -/
def crcStep (c : Nat) : Nat :=
  if c % 2 = 1 then Nat.xor (c >>> 1) 0x82F63B78 else c >>> 1

/-- One byte of the CRC-32C division. -/
def crcByte (c : Nat) (b : Byte) : Nat :=
  (List.range 8).foldl (fun a _ => crcStep a) (Nat.xor c b.toNat)

/-- CRC-32C: reflected, initial value and final XOR 0xFFFF_FFFF (R228). -/
def crc32c (bs : List Byte) : Nat := Nat.xor (bs.foldl crcByte 0xFFFFFFFF) 0xFFFFFFFF

/-- The least n with 2^n at or above a. -/
def clog2 (a : Nat) : Nat := if a ≤ 1 then 0 else Nat.log2 (a - 1) + 1

/-- A counter of the given width that holds at its largest value. -/
def satAdd (bits a b : Nat) : Nat := min (2 ^ bits - 1) (a + b)

end Sys2Proof.Machine
end

