-- ==== Sys2Proof/Machine/Exact.lean ====
section
/-! DEFINITION. Exact real arithmetic for rounding: floors of log2 and of powers of two, found by
interval steps at rising working precision (log entry 1: DEDUCED). -/

namespace Sys2Proof.Machine

/-- Newton steps for the integer square root, from above. -/
def isqrtGo (n : Nat) : Nat → Nat → Nat
  | 0, x => x
  | fuel + 1, x =>
    let y := (x + n / x) / 2
    if y < x then isqrtGo n fuel y else x

/-- The floor of the square root. -/
def isqrt (n : Nat) : Nat :=
  if n = 0 then 0 else isqrtGo n (Nat.log2 n + 8) (2 ^ (Nat.log2 n / 2 + 1))

/-- a / 2^s rounded up. -/
def shiftCeil (a s : Nat) : Nat := (a + (2 ^ s - 1)) >>> s

/-- The next `p` bits of log2 x for x in the interval [lo, hi] / 2^w inside [1, 2]: square, compare
with 2, halve. `none` when the interval straddles 2. -/
def log2Bits (w : Nat) : Nat → Nat → Nat → Nat → Option Nat
  | 0, _, _, acc => some acc
  | p + 1, lo, hi, acc =>
    let lo2 := (lo * lo) >>> w
    let hi2 := shiftCeil (hi * hi) w
    if 2 ^ (w + 1) ≤ lo2 then log2Bits w p (lo2 >>> 1) (shiftCeil hi2 1) (2 * acc + 1)
    else if hi2 < 2 ^ (w + 1) then log2Bits w p lo2 hi2 (2 * acc)
    else none

/-- The floor of log2 (num / den), both positive. -/
def ilog2 (num den : Nat) : Int :=
  let e : Int := (Nat.log2 num : Int) - (Nat.log2 den : Int)
  let ok : Bool := if 0 ≤ e then den * 2 ^ e.toNat ≤ num else den ≤ num * 2 ^ (-e).toNat
  if ok then e else e - 1

/-- Try the working precisions in order. -/
def firstSome {α : Type} (f : Nat → Option α) (d : α) : List Nat → α
  | [] => d
  | w :: ws => match f w with
    | some a => a
    | none => firstSome f d ws

/-- The floor of log2 (num / den) * 2^p. -/
def flog2 (num den p : Nat) : Int :=
  let e := ilog2 num den
  let a := if 0 ≤ e then num else num * 2 ^ (-e).toNat
  let b := if 0 ≤ e then den * 2 ^ e.toNat else den
  let at_ (w : Nat) : Option Nat :=
    let lo := a * 2 ^ w / b
    let hi := if a * 2 ^ w % b = 0 then lo else lo + 1
    log2Bits w p lo hi 0
  e * (2 ^ p : Nat) + (firstSome at_ 0 [p + 48, 2 * p + 96, 4 * p + 192, 8 * p + 384] : Nat)

/-- An interval around 2^(f / 2^k) in units of 2^-w, for the k bits of f from the top: multiply the
square roots of 2 that the bits of f name. -/
def pow2Go (w f : Nat) : Nat → Nat → Nat → Nat → Nat → Nat × Nat
  | 0, _, _, lo, hi => (lo, hi)
  | k + 1, slo, shi, lo, hi =>
    let slo := isqrt (slo * 2 ^ w)
    let shi := isqrt (shi * 2 ^ w) + 1
    if bitOf f k then pow2Go w f k slo shi ((lo * slo) >>> w) (shiftCeil (hi * shi) w)
    else pow2Go w f k slo shi lo hi

/-- The interval around 2^(f / 2^k), f below 2^k, in units of 2^-w. -/
def pow2Frac (w f k : Nat) : Nat × Nat :=
  if f = 0 then (2 ^ w, 2 ^ w) else pow2Go w f k (2 * 2 ^ w) (2 * 2 ^ w) (2 ^ w) (2 ^ w)

/-- num * 2^s / den, floor, and whether it is exact. -/
def shiftDiv (num den : Nat) (s : Int) : Nat × Bool :=
  let n := if 0 ≤ s then num * 2 ^ s.toNat else num
  let d := if 0 ≤ s then den else den * 2 ^ (-s).toNat
  (n / d, n % d = 0)

/-- The odd part of a positive number and its power of two. -/
def oddPart : Nat → Nat → Nat × Nat
  | 0, n => (n, 0)
  | fuel + 1, n => if n % 2 = 0 ∧ n ≠ 0 then
      let r := oddPart fuel (n / 2)
      (r.1, r.2 + 1)
    else (n, 0)

/-- Is the magnitude a rational times an integer power of two? Then its exponent, else none. -/
def Exact.intExp? (x : Exact) : Option Int :=
  if x.root = 0 ∧ x.p % (2 ^ x.k : Nat) = 0 then some (x.p / (2 ^ x.k : Nat)) else none

/-- The floor of |x| * 2^s, and whether it is exact. -/
def Exact.floorScaled (x : Exact) (s : Int) : Nat × Bool :=
  if x.root = 0 ∧ ilog2 x.num x.den + x.p / (2 ^ x.k : Nat) + s < -1 then (0, false)
  else match x.intExp? with
  | some q => shiftDiv x.num x.den (q + s)
  | none =>
    let q := x.p / (2 ^ x.k : Nat)
    let f := (x.p % (2 ^ x.k : Nat)).toNat
    let b : Int := ilog2 x.num x.den + q + s + 2
    let w0 := (if 0 ≤ b then b.toNat else 0) + 48
    let at_ (w : Nat) : Option Nat :=
      let (lo, hi) := pow2Frac w f x.k
      let rt (n : Nat) (up : Nat) : Nat × Nat :=
        if x.root = 0 then (x.num * n, x.den)
        else (n * (isqrt (x.num * 2 ^ (2 * w) / x.den) + up), 2 ^ w)
      let (ln, ld) := rt lo 0
      let (hn, hd) := rt hi 1
      let l := (shiftDiv ln ld (q + s - (w : Int))).1
      let h := (shiftDiv hn hd (q + s - (w : Int))).1
      if l = h then some l else none
    (firstSome at_ 0 [w0, 2 * w0, 4 * w0, 8 * w0], false)

/-- The magnitude's ratio in lowest terms with its powers of two taken out: odd numerator, odd denominator,
exponent of two (net of `p`). -/
def Exact.oddRatio (x : Exact) : Nat × Nat × Int :=
  let (n, a) := oddPart (Nat.log2 x.num + 1) x.num
  let (d, b) := oddPart (Nat.log2 x.den + 1) x.den
  let g := Nat.gcd n d
  (n / g, d / g, (a : Int) - (b : Int))

/-- The floor of log2 |x| * 2^p, and whether it is exact. -/
def Exact.logFloor (x : Exact) (p : Nat) : Int × Bool :=
  let (n, d, ab) := x.oddRatio
  let kk := max (max x.k p) x.root + x.root
  let twos : Int := ab * (2 ^ (kk - x.root) : Nat) + x.p * (2 ^ (kk - x.k) : Nat)
  if n = 1 ∧ d = 1 then
    (twos / (2 ^ (kk - p) : Nat), twos % (2 ^ (kk - p) : Nat) = 0)
  else
    ((flog2 n d (kk - x.root) + twos) / (2 ^ (kk - p) : Nat), false)

/-- Round to nearest, ties to even, from twice the value's floor and its exactness. -/
def rneOfTwice (v : Nat) (exact : Bool) : Nat :=
  let q := v / 2
  if v % 2 = 0 then q else if exact ∧ q % 2 = 0 then q else q + 1

/-- The same for a signed floor. -/
def rneOfTwiceInt (v : Int) (exact : Bool) : Int :=
  let q := v / 2
  if v % 2 = 0 then q else if exact ∧ q % 2 = 0 then q else q + 1

/-- |x| * 2^s rounded to the nearest integer, ties to even. -/
def Exact.rneScaled (x : Exact) (s : Int) : Nat :=
  let (v, e) := x.floorScaled (s + 1)
  rneOfTwice v e

/-- An integer divided by 2^s, rounded to nearest, ties to even: the magnitude rule is the same on
both signs (R75, R81). -/
def rneShift (w : Int) (s : Nat) : Int :=
  match s with
  | 0 => w
  | s + 1 => rneOfTwiceInt (w / (2 ^ s : Nat)) (w % (2 ^ s : Nat) = 0)

/-- The exact value m * 2^e of an integer m. -/
def Exact.dyadic (neg : Bool) (m : Nat) (e : Int) : Exact := ⟨neg, m, 1, 0, e, 0⟩

/-- The value of an integer times 2^e, or zero. -/
def Val.ofInt (m : Int) (e : Int) : Val :=
  if m = 0 then .zero false else .fin (Exact.dyadic (m < 0) m.natAbs e)

/-- The exact value 2^(p / 2^k). -/
def Exact.pow (neg : Bool) (p : Int) (k : Nat) : Exact := ⟨neg, 1, 1, 0, p, k⟩

/-- The product of two exact values; a ratio that stands under fewer roots than the other is raised to the power
that brings it under as many. -/
def Exact.mul (a b : Exact) : Exact :=
  let k := max a.k b.k
  let r := max a.root b.root
  let ea := 2 ^ (r - a.root)
  let eb := 2 ^ (r - b.root)
  ⟨a.neg != b.neg, a.num ^ ea * b.num ^ eb, a.den ^ ea * b.den ^ eb, r,
    a.p * (2 ^ (k - a.k) : Nat) + b.p * (2 ^ (k - b.k) : Nat), k⟩

/-- The reciprocal. -/
def Exact.recip (a : Exact) : Exact := { a with num := a.den, den := a.num, p := -a.p }

/-- The quotient. -/
def Exact.div (a b : Exact) : Exact := a.mul b.recip

/-- The square root of the magnitude. -/
def Exact.sqrt (a : Exact) : Exact :=
  let (n, d, ab) := a.oddRatio
  let tw : Int := ab * (2 ^ a.k : Nat) + a.p
  let rn := isqrt n
  let rd := isqrt d
  if rn * rn = n ∧ rd * rd = d then ⟨false, rn, rd, 0, tw, a.k + 1⟩
  else ⟨false, n, d, 1, tw, a.k + 1⟩

/-- The value times 2^t. -/
def Exact.scale (a : Exact) (t : Int) : Exact := { a with p := a.p + t * (2 ^ a.k : Nat) }

/-- A value times 2^t. -/
def Val.scale (v : Val) (t : Int) : Val :=
  match v with
  | .fin x => .fin (x.scale t)
  | v => v

/-- The magnitude order of two exact values: decided from the floor of the logarithm of their ratio, which is
exactly 0 only when they are equal. -/
def Exact.magCmp (a b : Exact) : Ordering :=
  let r := a.div b
  let (l, e) := r.logFloor 40
  if l < 0 then .lt
  else if l = 0 ∧ e then .eq
  else if l > 0 then .gt
  else
    let (l2, _) := r.logFloor 300
    if l2 < 0 then .lt else .gt

/-- The order of R64 between two values that are not NaR. -/
def Val.cmp (a b : Val) : Ordering :=
  let sgn : Val → Int := fun v => match v with
    | .zero _ => 0
    | .nar => 0
    | .inf n => if n then -2 else 2
    | .fin x => if x.neg then -1 else 1
  match a, b with
  | .fin x, .fin y =>
    if x.neg != y.neg then compare (sgn a) (sgn b)
    else if x.neg then y.magCmp x else x.magCmp y
  | a, b => compare (sgn a) (sgn b)

/-- An ordered comparison: false when either operand is NaR, NaR with itself among them (R65). -/
def Val.ordered (test : Ordering → Bool) (a b : Val) : Bool :=
  match a, b with
  | .nar, _ => false
  | _, .nar => false
  | a, b => test (a.cmp b)

/-- The five ordered comparisons of R65, and the not-equal test, the negation of equal. -/
def Val.lt (a b : Val) : Bool := Val.ordered Ordering.isLT a b
def Val.le (a b : Val) : Bool := Val.ordered Ordering.isLE a b
def Val.eq (a b : Val) : Bool := Val.ordered Ordering.isEq a b
def Val.ge (a b : Val) : Bool := Val.ordered Ordering.isGE a b
def Val.gt (a b : Val) : Bool := Val.ordered Ordering.isGT a b
def Val.ne (a b : Val) : Bool := !a.eq b

/-- The floor of log2 of a finite value's magnitude. -/
def Exact.log2Floor (x : Exact) : Int := (x.logFloor 0).1

end Sys2Proof.Machine
end

