-- ==== Sys2Proof/Machine/Formats.lean ====
section
/-! DEFINITION. The number formats: bit layouts, special codes, rounding of one element
(R31 to R41, R47, R51 to R60, R64). -/

namespace Sys2Proof.Machine

/-- The format of a format code; codes 0x7 and 0xF are reserved (Table 2.6). -/
def fmtOfCode : Nat → Option Fmt
  | 0 => some .l8 | 1 => some .lg8 | 2 => some .l16 | 3 => some .l32
  | 4 => some .w4p1 | 5 => some .w8p2 | 6 => some .b1
  | 8 => some .fp32 | 9 => some .bf16 | 10 => some .fp16 | 11 => some .e4m3 | 12 => some .e5m2
  | 13 => some .int8 | 14 => some .int4
  | _ => none

/-- The code of a format (Table 2.6). -/
def fmtCode : Fmt → Nat
  | .l8 => 0 | .lg8 => 1 | .l16 => 2 | .l32 => 3 | .w4p1 => 4 | .w8p2 => 5 | .b1 => 6
  | .fp32 => 8 | .bf16 => 9 | .fp16 => 10 | .e4m3 => 11 | .e5m2 => 12 | .int8 => 13 | .int4 => 14

/-- The bits of one element (R32, R37, R38, R40, R54, R60). -/
def Fmt.width : Fmt → Nat
  | .l8 => 8 | .lg8 => 8 | .l16 => 16 | .l32 => 32 | .w4p1 => 4 | .w8p2 => 8 | .b1 => 1
  | .fp32 => 32 | .bf16 => 16 | .fp16 => 16 | .e4m3 => 8 | .e5m2 => 8 | .int8 => 8 | .int4 => 4

/-- The four log formats (Table 2.1). -/
def Fmt.isLog : Fmt → Bool
  | .l8 => true | .lg8 => true | .l16 => true | .l32 => true | _ => false

/-- The weight formats (R40). -/
def Fmt.isWeight : Fmt → Bool
  | .w4p1 => true | .w8p2 => true | _ => false

/-- The edge formats (R54). -/
def Fmt.isEdge : Fmt → Bool
  | .fp32 => true | .bf16 => true | .fp16 => true | .e4m3 => true | .e5m2 => true | _ => false

/-- The narrow integer formats (R60). -/
def Fmt.isInt : Fmt → Bool
  | .int8 => true | .int4 => true | _ => false

/-- The formats that carry block scales (R42). -/
def Fmt.hasBlocks : Fmt → Bool
  | .l8 => true | .lg8 => true | .l16 => true | .w4p1 => true | .w8p2 => true | _ => false

/-- The formats that carry a coarse scale T (R41). -/
def Fmt.hasT : Fmt → Bool
  | .l8 => true | .lg8 => true | .l16 => true | .l32 => true | .w4p1 => true | .w8p2 => true
  | .b1 => true | _ => false

/-- log2 of the units per octave of a log format or a W4P1 term (Table 2.1, R51). -/
def Fmt.unitBits : Fmt → Nat
  | .l8 => 3 | .lg8 => 2 | .l16 => 9 | .l32 => 23 | _ => 0

/-- The bias of the magnitude field (Table 2.1; 4 for W4P1 terms, R37). -/
def Fmt.bias : Fmt → Nat
  | .l8 => 64 | .lg8 => 64 | .l16 => 16384 | .l32 => 2 ^ 30 | _ => 4

/-- The largest finite magnitude field (Table 2.1, R37). -/
def Fmt.eMax : Fmt → Nat
  | .l8 => 126 | .lg8 => 126 | .l16 => 32766 | .l32 => 2 ^ 31 - 2 | _ => 7

/-- Exponent bits, mantissa bits and bias of an edge format (R54). -/
def Fmt.edgeShape : Fmt → Nat × Nat × Nat
  | .fp32 => (8, 23, 127) | .bf16 => (8, 7, 127) | .fp16 => (5, 10, 15)
  | .e4m3 => (4, 3, 7) | .e5m2 => (5, 2, 15) | _ => (0, 0, 0)

/-- The magnitude pattern of the largest finite edge value (Table 2.10). -/
def Fmt.edgeMax : Fmt → Nat
  | .fp32 => 0x7F7FFFFF | .bf16 => 0x7F7F | .fp16 => 0x7BFF | .e4m3 => 0x7E | .e5m2 => 0x7B | _ => 0

/-- The pattern of +Inf; E4M3 has none and uses its NaN (Table 2.10, R57). -/
def Fmt.edgeInf : Fmt → Nat
  | .fp32 => 0x7F800000 | .bf16 => 0x7F80 | .fp16 => 0x7C00 | .e4m3 => 0x7F | .e5m2 => 0x7C | _ => 0

/-- The canonical NaN written (Table 2.10). -/
def Fmt.edgeNan : Fmt → Nat
  | .fp32 => 0x7FC00000 | .bf16 => 0x7FC0 | .fp16 => 0x7E00 | .e4m3 => 0x7F | .e5m2 => 0x7E | _ => 0

/-- The value of a log code (R31 to R35). -/
def decodeLog (f : Fmt) (code : Nat) (tb : Int) : Val :=
  let e := code % 2 ^ (f.width - 1)
  let neg := bitOf code (f.width - 1)
  if e = 0 then (if neg then .nar else .zero false)
  else if e = 2 ^ (f.width - 1) - 1 then .inf neg
  else .fin (Exact.pow neg ((e : Int) - (f.bias : Int) + tb * (2 ^ f.unitBits : Nat)) f.unitBits)

/-- The value of a W4P1 term in units of 1/8, as an integer: ±2^(e-1), or 0 (R37). -/
def w4Eighths (code : Nat) : Int :=
  let e := code % 8
  let m : Int := if e = 0 then 0 else (2 ^ (e - 1) : Nat)
  if bitOf code 3 then -m else m

/-- The value of an edge-format pattern (R54, Table 2.10). -/
def decodeEdge (f : Fmt) (code : Nat) : Val :=
  let (eb, mb, bias) := f.edgeShape
  let neg := bitOf code (eb + mb)
  let e := fieldOf code (eb + mb - 1) mb
  let m := code % 2 ^ mb
  if f = .e4m3 then
    if e = 15 ∧ m = 7 then .nar
    else if e = 0 then (if m = 0 then .zero neg else .fin (Exact.dyadic neg m (-9)))
    else .fin (Exact.dyadic neg (8 + m) ((e : Int) - 10))
  else if e = 2 ^ eb - 1 then (if m = 0 then .inf neg else .nar)
  else if e = 0 then
    (if m = 0 then .zero neg else .fin (Exact.dyadic neg m (1 - (bias : Int) - (mb : Int))))
  else .fin (Exact.dyadic neg (2 ^ mb + m) ((e : Int) - (bias : Int) - (mb : Int)))

/-- The value of an element code under the scale T + B; the caller reads a block with B = 15 as
ZERO itself (R31, R37, R38, R40, R54, R60). -/
def decodeElem (f : Fmt) (code : Nat) (tb : Int) : Val :=
  match f with
  | .l8 => decodeLog .l8 code tb
  | .lg8 => decodeLog .lg8 code tb
  | .l16 => decodeLog .l16 code tb
  | .l32 => decodeLog .l32 code tb
  | .w4p1 => Val.ofInt (w4Eighths code) (tb - 3)
  | .w8p2 => Val.ofInt (w4Eighths (code / 16) + w4Eighths code) (tb - 3)
  | .b1 => .fin (Exact.pow (code % 2 = 1) tb 0)
  | .int8 => Val.ofInt (signedOf code 8) 0
  | .int4 => Val.ofInt (signedOf code 4) 0
  | .fp32 => decodeEdge .fp32 code
  | .bf16 => decodeEdge .bf16 code
  | .fp16 => decodeEdge .fp16 code
  | .e4m3 => decodeEdge .e4m3 code
  | .e5m2 => decodeEdge .e5m2 code

/-- The value of an unscaled L16 code (R61, R62, R135, R195). -/
def l16Val (code : Nat) : Val := decodeLog .l16 (code % 2 ^ 16) 0

/-- Rounding of a position p, given q = floor (p * 2^16) and whether that is exact (Table 2.8). -/
def roundPos (rnd : Rnd) (r16 : Nat) (q : Int) (exact : Bool) : Int :=
  let fl := q / 65536
  let fr := q % 65536
  match rnd with
  | .nearestEven =>
    if fr < 32768 then fl
    else if fr > 32768 then fl + 1
    else if exact && fl % 2 = 0 then fl else fl + 1
  | .towardZero => fl
  | .stochastic => if (r16 : Int) < fr then fl + 1 else fl

/-- The steps of R51 on a position: `none` is ZERO, otherwise the magnitude field and whether it
overflowed e_max. -/
def fieldOfPos (eMax : Nat) (rnd : Rnd) (r16 : Nat) (q : Int) (exact : Bool) : Option (Nat × Bool) :=
  if q < 32768 then none
  else
    let e := roundPos rnd r16 q exact
    if e < 1 then some (1, false)
    else if e > (eMax : Int) then some (eMax, true)
    else some (e.toNat, false)

/-- The sign bit of a code of the given width. -/
def signBit (neg : Bool) (width : Nat) : Nat := if neg then 2 ^ (width - 1) else 0

/-- A finite value into a log format under T + B (R51, R52): the code and whether it overflowed. -/
def toLog (f : Fmt) (tb : Int) (rnd : Rnd) (ovfInf : Bool) (r16 : Nat) (x : Exact) : Nat × Bool :=
  let (t, ex) := x.logFloor (f.unitBits + 16)
  let q := t - tb * (2 ^ (f.unitBits + 16) : Nat) + (f.bias : Int) * 65536
  match fieldOfPos f.eMax rnd r16 q ex with
  | none => (0, false)
  | some (e, ovf) =>
    (signBit x.neg f.width + (if ovf && ovfInf then 2 ^ (f.width - 1) - 1 else e), ovf)

/-- A position in units of 2^-24 octave, already net of nothing, into a log or weight format under
T + B (R92, R159): the code and whether it overflowed. -/
def posToLog (f : Fmt) (tb : Int) (rnd : Rnd) (ovfInf : Bool) (r16 : Nat) (neg : Bool) (z24 : Int) :
    Nat × Bool :=
  toLog f tb rnd ovfInf r16 (Exact.pow neg z24 24)

/-- Units, bias and fields of a W4P1 term: a finite value net of T + B (R37, R51). -/
def toW4 (rnd : Rnd) (r16 : Nat) (neg : Bool) (t : Int) (ex : Bool) : Nat × Bool :=
  match fieldOfPos 7 rnd r16 (t + 4 * 65536) ex with
  | none => (0, false)
  | some (e, ovf) => (signBit neg 4 + e, ovf)

/-- The sign of v - d/8 and floor (log2 |v - d/8| * 2^16) with exactness, for the remainder of R39;
`none` when it is zero. -/
def w8Remainder (x : Exact) (d : Int) : Option (Bool × Int × Bool) :=
  match x.intExp? with
  | some q =>
    let m : Int := if x.neg then -(x.num : Int) else x.num
    let den : Nat := x.den * 8
    let num : Int := if 0 ≤ q then m * 8 * (2 ^ q.toNat : Nat) - d * x.den
      else m * 8 - d * x.den * (2 ^ (-q).toNat : Nat)
    let den : Nat := if 0 ≤ q then den else den * 2 ^ (-q).toNat
    if num = 0 then none
    else
      let y : Exact := ⟨num < 0, num.natAbs, den, 0, 0, 0⟩
      let (t, ex) := y.logFloor 16
      some (y.neg, t, ex)
  | none =>
    let at_ (w : Nat) : Option (Bool × Int × Bool) :=
      let n : Int := (x.floorScaled w).1
      let lo : Int := (if x.neg then -(n + 1) else n) * 8 - d * (2 ^ w : Nat)
      let hi : Int := (if x.neg then -n else n + 1) * 8 - d * (2 ^ w : Nat)
      if lo = 0 ∨ hi = 0 ∨ (lo < 0) ≠ (hi < 0) then none
      else
        let a := flog2 lo.natAbs (8 * 2 ^ w) 16
        let b := flog2 hi.natAbs (8 * 2 ^ w) 16
        if a = b then some (decide (lo < 0), a, false) else none
    firstSome (fun w => (at_ w).map some) none [64, 128, 256, 512]

/-- A finite value into W8P2 under T + B (R39): the code and whether the second term saturated. -/
def toW8 (tb : Int) (rnd : Rnd) (r16 : Nat) (x : Exact) : Nat × Bool :=
  let v := x.scale (-tb)
  let (t, ex) := v.logFloor 16
  let first := (toW4 .nearestEven 0 v.neg t ex).1
  match w8Remainder v (w4Eighths first) with
  | none => (first * 16, false)
  | some (neg, t2, ex2) =>
    let (second, ovf) := toW4 rnd r16 neg t2 ex2
    (first * 16 + second, ovf)

/-- A finite value into an edge format (R55 to R57): the code and whether it overflowed. -/
def toEdge (f : Fmt) (rnd : Rnd) (ovfInf : Bool) (x : Exact) : Nat × Bool :=
  let (eb, mb, bias) := f.edgeShape
  let emin : Int := 1 - (bias : Int)
  let e := max x.log2Floor emin
  let n := if rnd = .towardZero then (x.floorScaled ((mb : Int) - e)).1 else x.rneScaled ((mb : Int) - e)
  let mag := (e - emin).toNat * 2 ^ mb + n
  let sg := if x.neg then 2 ^ (eb + mb) else 0
  if mag ≤ f.edgeMax then (sg + mag, false)
  else if ovfInf then
    (if f = .e4m3 then f.edgeNan else sg + f.edgeInf, true)
  else (sg + f.edgeMax, true)

/-- The result of converting one element: its code, whether it counts as an overflow, whether a NaR
was lost. -/
structure Elem where
  code : Nat
  ovf : Bool
  narLost : Bool
deriving DecidableEq, Repr

/-- One element into a destination under T + B (R51 to R53, R55 to R59; Tables 2.9, 2.10). -/
def convElem (f : Fmt) (tb : Int) (rnd : Rnd) (ovfInf : Bool) (r16 : Nat) (v : Val) : Elem :=
  if f.isLog then
    match v with
    | .zero _ => ⟨0, false, false⟩
    | .nar => ⟨2 ^ (f.width - 1), false, false⟩
    | .inf n => ⟨signBit n f.width + (2 ^ (f.width - 1) - 1), false, false⟩
    | .fin x => let (c, o) := toLog f tb rnd ovfInf r16 x; ⟨c, o, false⟩
  else if f = .w4p1 then
    match v with
    | .zero _ => ⟨0, false, false⟩
    | .nar => ⟨0, false, true⟩
    | .inf n => ⟨signBit n 4 + 7, true, false⟩
    | .fin x =>
      let (t, ex) := (x.scale (-tb)).logFloor 16
      let (c, o) := toW4 rnd r16 x.neg t ex; ⟨c, o, false⟩
  else if f = .w8p2 then
    match v with
    | .zero _ => ⟨0, false, false⟩
    | .nar => ⟨0, false, true⟩
    | .inf n => ⟨if n then 0xFF else 0x77, true, false⟩
    | .fin x => let (c, o) := toW8 tb rnd r16 x; ⟨c, o, false⟩
  else if f = .b1 then
    match v with
    | .zero _ => ⟨0, false, false⟩
    | .nar => ⟨0, false, true⟩
    | .inf n => ⟨if n then 1 else 0, false, false⟩
    | .fin x => ⟨if x.neg then 1 else 0, false, false⟩
  else
    let (eb, mb, _) := f.edgeShape
    let sg (n : Bool) : Nat := if n then 2 ^ (eb + mb) else 0
    match v with
    | .zero n => ⟨sg n, false, false⟩
    | .nar => ⟨f.edgeNan, false, false⟩
    | .inf n =>
      if f = .e4m3 then ⟨if ovfInf then f.edgeNan else sg n + f.edgeMax, true, false⟩
      else ⟨sg n + f.edgeInf, false, false⟩
    | .fin x => let (c, o) := toEdge f rnd ovfInf x; ⟨c, o, false⟩

/-- The ZERO code of a format; 0 in every format (Table 2.2, R37, R38). -/
def zeroCode (_ : Fmt) : Nat := 0

/-- The CONV word of a descriptor (Table 2.5). -/
def Conv.ofNat (w : Nat) : Conv :=
  { src := fmtOfCode (fieldOf w 3 0)
    dst := fmtOfCode (fieldOf w 7 4)
    rnd := match fieldOf w 9 8 with
      | 0 => some .nearestEven
      | 1 => some .towardZero
      | 2 => some .stochastic
      | _ => none
    ovfInf := bitOf w 10
    tAuto := bitOf w 11
    tValue := signedOf (fieldOf w 19 12) 8
    zeroPoint := signedOf (fieldOf w 27 20) 8
    intMode := bitOf w 28
    reserved := fieldOf w 31 29 != 0 }

/-- The permitted source and destination pairs (Table 2.7). -/
def pairAllowed (s d : Fmt) : Bool :=
  if d.isInt then false
  else if s.isInt then d == .l8 || d == .lg8 || d == .l16
  else true

/-- Does a CONV word pass R48? -/
def Conv.ok (c : Conv) : Bool :=
  match c.src, c.dst, c.rnd with
  | some s, some d, some _ =>
    pairAllowed s d && !c.reserved && (s != .int4 || (-8 ≤ c.zeroPoint && c.zeroPoint ≤ 7))
  | _, _, _ => false

/-- Does a drain word pass R129 and R147: SRC_FMT, INT_MODE and ZERO_POINT zero, a destination
that is no integer format? -/
def Conv.drainOk (c : Conv) : Bool :=
  c.ok && c.src == some .l8 && !c.intMode && c.zeroPoint == 0

end Sys2Proof.Machine
end

