-- ==== Sys2Proof/Machine/X40.lean ====
section
/-! DEFINITION. X40 values, the pairs (x, T_c) of the vector engine, the rounding generator and
Gaussian logarithms (R89 to R98, R140). -/

namespace Sys2Proof.Machine

/-- An exact value rounded into X40: 32 significant bits, nearest-even, ZERO below 2^-126, INF at
or above 2^128 (R90). -/
def roundX40 (v : Val) : Val :=
  match v with
  | .zero _ => .zero false
  | .nar => .nar
  | .inf n => .inf n
  | .fin x =>
    let e := x.log2Floor
    let n := x.rneScaled (31 - e)
    let y := Exact.dyadic x.neg n (e - 31)
    let e' := y.log2Floor
    if e' < -126 then .zero false else if e' ≥ 128 then .inf x.neg else .fin y

/-- Did rounding a finite value leave the X40 range? (Table 5.14, X40_RANGE) -/
def x40Left (before after : Val) : Bool :=
  match before, after with
  | .fin _, .fin _ => false
  | .fin _, _ => true
  | _, _ => false

/-- The bits of an X40 value (Table 3.10). -/
def x40Bits (v : Val) : BitVec 40 :=
  match v with
  | .zero _ => 0#40
  | .nar => BitVec.ofNat 40 (255 * 2 ^ 31 + 1)
  | .inf n => BitVec.ofNat 40 ((if n then 2 ^ 39 else 0) + 255 * 2 ^ 31)
  | .fin x =>
    let e := x.log2Floor
    BitVec.ofNat 40 ((if x.neg then 2 ^ 39 else 0) + (e + 127).toNat * 2 ^ 31
      + (x.rneScaled (31 - e) - 2 ^ 31))

/-- A value inside the vector engine: x * 2^tc (R140), with whether an X40 intermediate has left
the X40 range on the way (Table 5.14). -/
structure VeVal where
  x : Val
  tc : Int
  range : Bool
deriving DecidableEq, Repr

/-- The full value of a pair. -/
def VeVal.full (v : VeVal) : Val := v.x.scale v.tc

/-- An exact value enters as an X40 pair with the carried scale (R140). -/
def veEnter (v : Val) (tc : Int) : VeVal :=
  let net := v.scale (-tc)
  let r := roundX40 net
  ⟨r, tc, x40Left net r⟩

/-- Is the value finite and not zero? -/
def Val.isFin : Val → Bool
  | .fin _ => true
  | _ => false

/-- The exact signed value of a dyadic as an integer times 2^e. -/
def Exact.asInt (x : Exact) : Int := if x.neg then -(x.num : Int) else x.num

/-- The exact sum of two dyadic values. -/
def addExact (a b : Exact) : Val :=
  let e := min a.p b.p
  Val.ofInt (a.asInt * (2 ^ (a.p - e).toNat : Nat) + b.asInt * (2 ^ (b.p - e).toNat : Nat)) e

/-- The sum by the special rows of Table 5.4, exact for dyadic values. -/
def addVal (a b : Val) : Val :=
  match a, b with
  | .nar, _ => .nar
  | _, .nar => .nar
  | .inf m, .inf n => if m = n then .inf m else .nar
  | .inf m, _ => .inf m
  | _, .inf n => .inf n
  | .zero _, .zero _ => .zero false
  | .zero _, .fin y => .fin y
  | .fin x, .zero _ => .fin x
  | .fin x, .fin y => addExact x y

/-- The product by Table 3.3. -/
def mulVal (a b : Val) : Val :=
  match a, b with
  | .nar, _ => .nar
  | _, .nar => .nar
  | .zero _, .inf _ => .nar
  | .inf _, .zero _ => .nar
  | .zero _, _ => .zero false
  | _, .zero _ => .zero false
  | .inf m, .inf n => .inf (m != n)
  | .inf m, .fin y => .inf (m != y.neg)
  | .fin x, .inf n => .inf (x.neg != n)
  | .fin x, .fin y => .fin (x.mul y)

/-- The quotient by Table 5.4. -/
def divVal (a b : Val) : Val :=
  match a, b with
  | .nar, _ => .nar
  | _, .nar => .nar
  | .zero _, .zero _ => .nar
  | .inf _, .inf _ => .nar
  | .zero _, _ => .zero false
  | .fin x, .zero _ => .inf x.neg
  | .inf m, .zero _ => .inf m
  | .fin _, .inf _ => .zero false
  | .inf m, .fin y => .inf (m != y.neg)
  | .fin x, .fin y => .fin (x.div y)

/-- The value with its sign reversed. -/
def negVal (v : Val) : Val :=
  match v with
  | .inf n => .inf (!n)
  | .fin x => .fin { x with neg := !x.neg }
  | v => v

/-- Bring a pair to a larger carried scale: an exact shift, then R90 (R140). -/
def veAlign (t : Int) (v : VeVal) : VeVal :=
  match v.x with
  | .fin x =>
    let y := Val.fin (x.scale (v.tc - t))
    let r := roundX40 y
    ⟨r, t, v.range || x40Left y r⟩
  | _ => ⟨v.x, t, v.range⟩

/-- The largest carried scale among the finite non-zero operands, 0 when there is none (R140). -/
def commonScale (a b : VeVal) : Int :=
  match a.x.isFin, b.x.isFin with
  | true, true => max a.tc b.tc
  | true, false => a.tc
  | false, true => b.tc
  | false, false => 0

/-- ADD of two pairs (R140, R141). -/
def veAdd (a b : VeVal) : VeVal :=
  let t := commonScale a b
  let a' := veAlign t a
  let b' := veAlign t b
  let e := addVal a'.x b'.x
  let r := roundX40 e
  ⟨r, t, a'.range || b'.range || x40Left e r⟩

/-- SUB of two pairs. -/
def veSub (a b : VeVal) : VeVal := veAdd a { b with x := negVal b.x }

/-- A function of exact values, rounded once into X40, with the carried scale given. -/
def veRound (e : Val) (tc : Int) (range : Bool) : VeVal :=
  let r := roundX40 e
  ⟨r, tc, range || x40Left e r⟩

/-- MUL of two pairs (R140). -/
def veMul (a b : VeVal) : VeVal := veRound (mulVal a.x b.x) (a.tc + b.tc) (a.range || b.range)

/-- MUL_ADD: the product exact, with carried scale T_a + T_b, product and addend brought to the larger of their two
carried scales exactly, whatever they are, and the sum rounded once (R140). -/
def veMulAdd (a b c : VeVal) : VeVal :=
  let tp := a.tc + b.tc
  let t := max tp c.tc
  veRound (addVal ((mulVal a.x b.x).scale (tp - t)) (c.x.scale (c.tc - t))) t (a.range || b.range || c.range)

/-- DIV of two pairs (R140). -/
def veDiv (a b : VeVal) : VeVal := veRound (divVal a.x b.x) (a.tc - b.tc) (a.range || b.range)

/-- The exact square root by Table 5.4. -/
def sqrtVal (v : Val) : Val :=
  match v with
  | .zero _ => .zero false
  | .nar => .nar
  | .inf n => if n then .nar else .inf false
  | .fin x => if x.neg then .nar else .fin x.sqrt

/-- SQRT of a pair: an odd T doubles x first (R140). -/
def veSqrt (a : VeVal) : VeVal :=
  if a.tc % 2 = 0 then veRound (sqrtVal a.x) (a.tc / 2) a.range
  else veRound (sqrtVal (a.x.scale 1)) ((a.tc - 1) / 2) a.range

/-- The magnitude of a value (Table 5.4, ABS). -/
def absVal (v : Val) : Val :=
  match v with
  | .inf _ => .inf false
  | .fin x => .fin { x with neg := false }
  | v => v

/-! ### The rounding generator -/

/-- 64-bit wrap. -/
def u64 (x : Nat) : Nat := x % 2 ^ 64

/-- The mixing function of R96. -/
def fold64 (x : Nat) : Nat :=
  let x := u64 (Nat.xor x (x >>> 32) * 0xC3A59B2D6E41F08B)
  let x := u64 (Nat.xor x (x >>> 29) * 0x8F2ED41735C9A6E3)
  Nat.xor x (x >>> 32)

/-- What a stochastic rounding draws from, besides the element index (R97). -/
structure Draw where
  seed : Nat
  seq : Nat
  desc : Nat
deriving DecidableEq, Repr

/-- The 16 random bits of an element (R96). -/
def srBits (d : Draw) (idx : Nat) : Nat :=
  let key := fold64 (Nat.xor d.seed (fold64 (Nat.xor d.seq (u64 (d.desc * 2 ^ 48)))))
  fold64 (u64 (key + idx * 0x9E3779B97F4A7C15)) >>> 48

/-! ### Gaussian logarithms -/

/-- log2 of a positive rational, times 2^24, nearest-even. -/
def rneLog2 (num den : Nat) : Int :=
  let (t, e) := (⟨false, num, den, 0, 0, 0⟩ : Exact).logFloor 25
  rneOfTwiceInt t e

/-- PHI[i] (R93). -/
def phiNode (i : Nat) : Int := rneLog2 (64 + i) 64

/-- PSI[i] (R93). -/
def psiNode (i : Nat) : Int := rneLog2 (128 - i) 128

/-- u = rne (2^(-d / 2^24) * 2^24) (R93). -/
def gaussU (d : Nat) : Nat := (Exact.pow false (-(d : Int)) 24).rneScaled 24

/-- The same-sign branch of R93: g for a distance d. -/
def phiOf (d : Nat) : Int :=
  let u := gaussU d
  let i := u >>> 18
  let t : Int := (u % 2 ^ 18 : Nat)
  if i = 64 then phiNode 64
  else phiNode i + (((phiNode (i + 1) - phiNode i) * t + 0x20000) / (2 ^ 18 : Nat))

/-- The opposite-sign branch of R93, d at least 2^24. -/
def psiOf (d : Nat) : Int :=
  let u := gaussU d
  let i := u >>> 17
  let t : Int := (u % 2 ^ 17 : Nat)
  if i = 64 then psiNode 64
  else psiNode i + (((psiNode (i + 1) - psiNode i) * t + 0x10000) / (2 ^ 17 : Nat))

/-- An operand of LADD as its position in units of 2^-24 octave, scales included, with its exact
value for the fall-back (R92). -/
structure LPos where
  neg : Bool
  pos : Int
  val : Exact
deriving DecidableEq, Repr

/-- W8P2 and edge operands of LADD are first rounded to L32 by R49 with nearest-even, with their own T, edge ones
with T = 0 (R92); OVF_INF is that of the descriptor's CONV word (log entry 3: DEDUCED). The value, and how many
overflows the conversion counts (R52; 0 or 1). (Log entry 112: DEDUCED.) -/
def ladOperand (ovfInf : Bool) (f : Fmt) (t : Int) (v : Val) : Val × Nat :=
  if f.isLog || f == .w4p1 || f == .b1 then (v, 0)
  else
    let t := if f.hasT then t else 0
    let e := convElem .l32 t .nearestEven ovfInf 0 v
    (decodeLog .l32 e.code t, if e.ovf then 1 else 0)

/-- The position of a finite operand (R92). -/
def ladPos (x : Exact) : LPos := ⟨x.neg, (x.logFloor 24).1, x⟩

/-- What LADD forms before its one rounding: a position with its sign, or an exact value or a
special (R92, R94). -/
inductive LSum where
  | pos (neg : Bool) (z24 : Int)
  | val (v : VeVal)
deriving DecidableEq, Repr

/-- Addition of two operands by Gaussian logarithms (R92 to R94). `ta`, `tb` are the coarse scales. -/
def laddVals (ta : Int) (a : Val) (tb : Int) (b : Val) : LSum :=
  match a, b with
  | .fin x, .fin y =>
    let p := ladPos x
    let q := ladPos y
    let (p, q, tp, tq) := if p.pos < q.pos then (q, p, tb, ta) else (p, q, ta, tb)
    let d := (p.pos - q.pos).toNat
    if p.neg = q.neg then .pos p.neg (p.pos + phiOf d)
    else if 2 ^ 24 ≤ d then .pos p.neg (p.pos + psiOf d)
    else .val (veAdd (veEnter (.fin p.val) tp) (veEnter (.fin q.val) tq))
  | .zero _, .fin y => .pos y.neg (ladPos y).pos
  | .fin x, .zero _ => .pos x.neg (ladPos x).pos
  | a, b => .val ⟨addVal a b, 0, false⟩

/-- LADD of two source elements (R92). -/
def laddVal (ovfInf : Bool) (fa : Fmt) (ta : Int) (a : Val) (fb : Fmt) (tb : Int) (b : Val) : LSum :=
  laddVals ta (ladOperand ovfInf fa ta a).1 tb (ladOperand ovfInf fb tb b).1

/-- What LADD writes, as a value: the exact position or the fall-back sum (R92). -/
def LSum.value (z : LSum) : Val :=
  match z with
  | .pos neg z24 => .fin (Exact.pow neg z24 24)
  | .val v => v.full

/-- Did the fall-back leave the X40 range? -/
def LSum.range (z : LSum) : Bool :=
  match z with
  | .pos _ _ => false
  | .val v => v.range

/-- The larger (or smaller) of two pairs by R64, NaR if either is NaR (R140, Table 5.4). -/
def veMax (max : Bool) (a b : VeVal) : VeVal :=
  let t := commonScale a b
  let a' := veAlign t a
  let b' := veAlign t b
  let r := a'.range || b'.range
  match a'.x, b'.x with
  | .nar, _ => ⟨.nar, t, r⟩
  | _, .nar => ⟨.nar, t, r⟩
  | x, y => ⟨if max then (if x.lt y then y else x) else (if y.lt x then y else x), t, r⟩

end Sys2Proof.Machine
end

