-- ==== Sys2Proof/Machine/Convert.lean ====
section
/-! DEFINITION. Conversion of whole tensors: block scales, T_AUTO, identity copies, narrow integers,
CONV_STATUS (R45, R46, R49, R61 to R63, R66). -/

namespace Sys2Proof.Machine

/-- L_top of Table 2.4 in units of 2^-23 octave. -/
def Fmt.lTop : Fmt → Int
  | .l8 => 31 * 2 ^ 21 | .lg8 => 31 * 2 ^ 22 | .l16 => 2 ^ 28 - 2 ^ 15
  | .w4p1 => 3 * 2 ^ 23 | .w8p2 => 2 ^ 25 | .l32 => 2 ^ 30 - 2 | _ => 0

/-- The ceiling of log2 |x| minus l, with l in units of 2^-23 octave. -/
def ceilAbove (x : Exact) (l : Int) : Int :=
  let (fl, ex) := x.logFloor 23
  if ex then -((l - fl) / (2 ^ 23 : Nat)) else (fl - l) / (2 ^ 23 : Nat) + 1

/-- The largest of a function over the finite non-zero values of a list, or none. -/
def maxOverFin (f : Exact → Int) : List Val → Option Int
  | [] => none
  | .fin x :: vs =>
    match maxOverFin f vs with
    | none => some (f x)
    | some m => some (max (f x) m)
  | _ :: vs => maxOverFin f vs

/-- An integer held inside a range, and whether it had to be moved. -/
def clampInt (lo hi x : Int) : Int × Bool :=
  if x < lo then (lo, true) else if x > hi then (hi, true) else (x, false)

/-- T under T_AUTO and whether its clamp took effect (R46, Table 2.4). (Log entry 113: DEDUCED.) -/
def autoT (f : Fmt) (vals : List Val) : Int × Bool :=
  match f with
  | .l8 | .lg8 | .l16 | .w4p1 | .w8p2 =>
    match maxOverFin (fun x => ceilAbove x f.lTop) vals with
    | none => (0, false)
    | some c => clampInt (-128) 127 (c - 14)
  | .l32 =>
    match maxOverFin (fun x => ceilAbove x f.lTop) vals with
    | none => (0, false)
    | some c => clampInt 0 127 c
  | .b1 =>
    match maxOverFin (fun x => x.log2Floor) vals with
    | none => (0, false)
    | some c => clampInt (-128) 127 c
  | _ => (0, false)

/-- No bit set, no count. -/
def ConvStatus.clear : ConvStatus := ⟨false, false, false, 0, 0⟩

/-- The union of two statuses. -/
def ConvStatus.join (a b : ConvStatus) : ConvStatus :=
  ⟨a.overflow || b.overflow, a.narLost || b.narLost, a.scaleClamped || b.scaleClamped,
    a.ovfCount + b.ovfCount, a.narCount + b.narCount⟩

/-- The CONV_STATUS byte (Table 2.12). -/
def ConvStatus.byte (s : ConvStatus) : Nat :=
  (if s.overflow then 1 else 0) + (if s.narLost then 2 else 0) + (if s.scaleClamped then 4 else 0)

/-- The status of one block's converted elements. -/
def statusOf (es : List Elem) (clamped : Bool) : ConvStatus :=
  let o := (es.filter (·.ovf)).length
  let n := (es.filter (·.narLost)).length
  ⟨o != 0, n != 0, clamped, o, n⟩

/-- What a conversion writes: T, the codes of each row, the B nibbles of each row, whether each element overflowed
and whether it lost a NaR, the status. -/
structure ConvOut where
  t : Int
  codes : List (List Nat)
  scales : List (List Nat)
  marks : List (List (Bool × Bool))
  st : ConvStatus
deriving DecidableEq, Repr

/-- How elements are rounded: destination, RND, OVF_INF, the draw of R96. -/
structure RoundSpec where
  fmt : Fmt
  rnd : Rnd
  ovfInf : Bool
  draw : Draw
deriving DecidableEq, Repr

/-- The random bits of an element; none are drawn outside the stochastic mode. -/
def RoundSpec.bits (r : RoundSpec) (idx : Nat) : Nat :=
  match r.rnd with
  | .stochastic => srBits r.draw idx
  | _ => 0

/-- Convert a run of elements under one T + B; `idx` is the index of the first (R97). Nothing else enters (R50). -/
def convRun (r : RoundSpec) (tb : Int) : Nat → List Val → List Elem
  | _, [] => []
  | idx, v :: vs => convElem r.fmt tb r.rnd r.ovfInf (r.bits idx) v :: convRun r tb (idx + 1) vs

/-- B of a block before its elements are looked at, and whether it had to be clamped (R45 steps 2
to 4). -/
def blockScale (f : Fmt) (t : Int) (vs : List Val) : Nat × Bool :=
  match maxOverFin (fun x => ceilAbove x f.lTop - t) vs with
  | none => (0, false)
  | some c => if c > 14 then (14, true) else (c.toNat, false)

/-- Convert one block (R45): its elements, its nibble, whether its scale was clamped. -/
def convBlock (r : RoundSpec) (t : Int) (idx : Nat) (vs : List Val) : List Elem × Nat × Bool :=
  let (b, clamped) := blockScale r.fmt t vs
  let es := convRun r (t + b) idx vs
  (es, if es.all (fun e => e.code == 0) then 15 else b, clamped)

/-- The list cut into pieces of n. -/
def chunksOf {α : Type} (n : Nat) : Nat → List α → List (List α)
  | 0, _ => []
  | fuel + 1, l => if l.isEmpty then [] else l.take n :: chunksOf n fuel (l.drop n)

/-- Convert the blocks of a row. -/
def convBlocks (r : RoundSpec) (t : Int) : Nat → List (List Val) → List Elem × List Nat × Bool
  | _, [] => ([], [], false)
  | idx, b :: bs =>
    let (c, n, s) := convBlock r t idx b
    let (cs, ns, ss) := convBlocks r t (idx + b.length) bs
    (c ++ cs, n :: ns, s || ss)

/-- Convert one row. -/
def convRow (r : RoundSpec) (t : Int) (idx : Nat) (row : List Val) : List Elem × List Nat × Bool :=
  if r.fmt.hasBlocks then convBlocks r t idx (chunksOf 32 row.length row)
  else (convRun r t idx row, [], false)

/-- Convert rows in order. -/
def convRows (r : RoundSpec) (t : Int) : Nat → List (List Val) → ConvOut
  | _, [] => ⟨t, [], [], [], .clear⟩
  | idx, row :: rows =>
    let (es, n, clamped) := convRow r t idx row
    let o := convRows r t (idx + row.length) rows
    ⟨t, es.map (·.code) :: o.codes, n :: o.scales, es.map (fun e => (e.ovf, e.narLost)) :: o.marks,
      (statusOf es clamped).join o.st⟩

/-- Write values into a destination by a CONV word (R45, R46, R49): every value rounded once. An identity copy
(`ConvOut.copyOf`) is no case of this. -/
def convValues (c : Conv) (f : Fmt) (draw : Draw) (rows : List (List Val)) : ConvOut :=
  let (t, clamped) :=
    if !f.hasT then (0, false) else if c.tAuto then autoT f rows.flatten else (c.tValue, false)
  let o := convRows ⟨f, c.rnd.getD .nearestEven, c.ovfInf, draw⟩ t 0 rows
  { o with st := { o.st with scaleClamped := o.st.scaleClamped || clamped } }

/-- Codes and nibbles written as the source holds them: an identity copy sets no status bit and draws no bits
(R49). -/
def ConvOut.copyOf (t : Int) (codes scales : List (List Nat)) : ConvOut :=
  ⟨t, codes, scales, codes.map (fun r => r.map (fun _ => (false, false))), .clear⟩

/-- The coarse scale a CONV word gives a destination for the given source values (R46). -/
def destT (c : Conv) (f : Fmt) (rows : List (List Val)) : Int :=
  if !f.hasT then 0 else if c.tAuto then (autoT f rows.flatten).1 else c.tValue

/-- The value of an integer element through an expansion table of L16 codes (R61). -/
def intTableVal (table : List Nat) (code : Nat) : Val := l16Val (table.getD code 0)

/-- The value s * (q - z) of R62 and R63; `s` is an L16 code. -/
def intScaleVal (s : Nat) (z q : Int) : Val :=
  let d := q - z
  match l16Val s with
  | .nar => .nar
  | .zero _ => .zero false
  | .inf n => if d = 0 then .nar else .inf (n != decide (d < 0))
  | .fin x =>
    if d = 0 then .zero false
    else
      let (t, ex) := (⟨false, d.natAbs, 1, 0, 0, 0⟩ : Exact).logFloor 10
      let pos := rneOfTwiceInt t ex + (x.logFloor 9).1
      .fin (Exact.pow (x.neg != decide (d < 0)) pos 9)

end Sys2Proof.Machine
end

