-- ==== Sys2Proof/Parts.lean ====
section
/-! DEFINITION. The parts of the state: functions, flash, boot, partitions, contexts, rings, tiles,
dies, ports, cartridges, fabric time, twin, journals, mirror, errors, logbook, power, telemetry. -/

namespace Sys2Proof.Machine

/-! ### The host side -/

/-- What the module sends to the host: a memory write, an MSI-X vector, read data, Unsupported
Request (R353, R367, R382, R386). -/
inductive HostItem where
  | write (fn addr : Nat) (bytes : List Byte)
  | vector (fn v : Nat)
  | readData (fn : Nat) (bytes : List Byte)
  | unsupported (fn : Nat)
deriving DecidableEq, Repr

/-- A BAR2 mapping: tensor, image size, and the 64-byte units written (R302, R321). -/
structure Mapping where
  ctx : Nat
  handle : Nat
  size : Nat
  touched : List Nat
deriving DecidableEq, Repr

/-- A command that waits inside its mailbox (R303, R256, R340). -/
inductive WaitCmd where
  | map (ctx handle offset : Nat)
  | plan (ctx plan : Nat)
  | restore (survivor : Nat)
deriving DecidableEq, Repr

/-- A mailbox (Tables 12.1, 12.2). -/
structure Mbox where
  baseLo : Word32 := 0
  baseHi : Word32 := 0
  logDepth : Nat := 0
  vector : Nat := 0
  enable : Bool := false
  head : Nat := 0
  tail : Nat := 0
  stopped : Bool := false
  dropped : Nat := 0
  /-- the index of the block that the host link cannot read (log entry 158: DEDUCED) -/
  badBlock : Option Nat := none
  /-- the waiting command with its head; BUSY and WAITING are set while it stands -/
  waiting : Option (CmdHead × WaitCmd) := none
  /-- the host address of its block; none once what is written to it is discarded (R392) -/
  block : Option Nat := none
  /-- HEAD has been set to 0 since it was taken -/
  restarted : Bool := false
deriving DecidableEq, Repr

/-- An event queue (Table 12.1, R382). -/
structure EvQ where
  baseLo : Word32 := 0
  baseHi : Word32 := 0
  logDepth : Nat := 0
  vector : Nat := 0
  enable : Bool := false
  head : Nat := 0
  tail : Nat := 0
  lost : Nat := 0
  seq : Nat := 0
deriving DecidableEq, Repr

/-- One PCIe function: 0 physical, n virtual function n (R384, R391 to R394). -/
structure Func where
  avail : Bool := false
  /-- held writes and ring fetching wait for FUNCTION_RESYNC (R394) -/
  awaitResync : Bool := false
  hold : List HostItem := []
  holdFullAt : Option Nat := none
  mbox : Mbox := {}
  evq : EvQ := {}
  badDoorbells : Nat := 0
  bar2Unmapped : Nat := 0
  timeHi : Word32 := 0
  maps : Tab Mapping := []
  /-- words of the MSI-X table that were written (R388) -/
  msix : Tab Word32 := []
deriving DecidableEq, Repr

/-! ### Flash, fuses, boot -/

/-- The one-time fuses (Table 13.7). -/
structure Fuses where
  serial : Nat := 0
  rootDigest : Nat := 0
  keyDigest0 : Nat := 0
  keyDigest1 : Nat := 0
  key0Revoked : Bool := false
  minSvn : Nat := 0
  wrapKey : Nat := 0
deriving DecidableEq, Repr

/-- The logbook's content (Table 14.11), each table by index; counters saturate. -/
structure Logbook where
  generation : Nat := 0
  liveSeconds : Nat := 0
  stateSeconds : Tab Nat := []
  events : Tab Nat := []
  /-- TJ_HIST by 32 × die + bin -/
  tjHist : Tab Nat := []
  vinHist : Tab Nat := []
  stackCe : Tab Nat := []
  stackUe : Tab Nat := []
  tileCe : Tab Nat := []
  tileUe : Tab Nat := []
  dimmCe : Tab Nat := []
  dimmUe : Tab Nat := []
  poolCe : Tab Nat := []
  poolUe : Tab Nat := []
  parity : Tab Nat := []
  /-- SER_HIST by 16 × port + bin -/
  serHist : Tab Nat := []
  portBad : Tab Nat := []
  portRetrains : Tab Nat := []
  portDowns : Tab Nat := []
  portMisrouted : Tab Nat := []
  portDuplicates : Tab Nat := []
  /-- BIAS_HIST by 16 × laser + bin -/
  biasHist : Tab Nat := []
  peakPermille : Tab Nat := []
  cartSerial : Tab Nat := []
  cartChanges : Tab Nat := []
  failovers : Tab Nat := []
  lastFailures : List (List Byte) := []
deriving DecidableEq, Repr

/-- What a certificate carries of its own (Table 13.17): serial number, subject key, the issuer's signature. -/
structure CertKey where
  serial : Nat := 0
  key : List Byte := []
  sig : List Byte := []
deriving DecidableEq, Repr

/-- Module flash (Table 13.6): image area as (offset, byte) pairs over zero, logbook banks,
identity block, device key block with its three certificates (log entry 159: DESIGN CHOICE). -/
structure Flash where
  image : Mem := []
  bank0 : Option Logbook := none
  bank1 : Option Logbook := none
  ident : Option (Nat × Nat) := none
  twinId : Option Nat := none
  rootCert : CertKey := {}
  makerCert : CertKey := {}
  deviceCert : CertKey := {}
  wrappedKey : List Byte := []
deriving DecidableEq, Repr

/-- STAGE of XD_BOOT_STATUS (Table 13.10). -/
inductive Stage where
  | rom | verify | recovery | firmwareStart | ready
deriving DecidableEq, Repr

/-- The running image (R415). -/
structure Running where
  release : Nat
  svn : Nat
  digest : List Byte
  bySecondKey : Bool
  commitSvn : Bool
  revokeKey0 : Bool
  /-- the image itself, which the twin serves (R405) -/
  image : List Byte
deriving DecidableEq, Repr

/-- Power presence, boot and recovery (R401 to R407, R459, R460). -/
structure Boot where
  powered : Bool := true
  stage : Stage := .rom
  source : Nat := 0
  fail : Nat := 0
  updatePending : Bool := false
  running : Option Running := none
  keyLocked : Bool := false
  /-- a cold boot (true) or a warm one (false) is under way or done -/
  cold : Bool := true
  recAddrLo : Word32 := 0
  recAddrHi : Word32 := 0
  recLen : Nat := 0
  recBusy : Bool := false
  recSource : Option RecSource := none
  recHeader : List Byte := []
  /-- a MODULE_RESET has completed and its warm reset is due (R402) -/
  resetDue : Bool := false
  /-- after a warm reset, the jobs still wait for steps 3 and 4 of R403 -/
  rebuildDue : Bool := false
deriving DecidableEq, Repr

/-! ### Partitions and contexts -/

/-- A slice: its holder, start and length in ns (R370). -/
structure Slice where
  ctx : Nat
  start : Nat
  length : Nat
deriving DecidableEq, Repr

/-- Why a partition yield point was asked for (R370, R374). -/
inductive YieldFor where
  | sliceEnd
  | preempt (ctx : Nat)
deriving DecidableEq, Repr

/-- A switch in progress: the incoming context, its slice length, the context leaving its seat. -/
structure Switch where
  incoming : Option Nat
  length : Nat
  swappedOut : Option Nat
deriving DecidableEq, Repr

/-- A partition (R285, R357, R237, R370 to R375). -/
structure Part where
  params : PartitionParams
  dies : List Nat
  channels : List Nat
  quantum : Nat
  share : Nat := 0
  slice : Option Slice := none
  yield : Option YieldFor := none
  switch : Option Switch := none
  /-- holders that were pre-empted, latest first, with the time they had left -/
  preempted : List (Nat × Nat) := []
  /-- a refused pre-emption, tried again at the end of the slice (R375) -/
  retry : Option Nat := none
deriving DecidableEq, Repr

/-- Context states (Table 12.12). -/
inductive CState where
  | idle | runnable | blocked | faulted
deriving DecidableEq, Repr

/-- The state of a descriptor of an accepted ticket. -/
inductive DState where
  | waiting | running | ended
deriving DecidableEq, Repr

/-- How a ticket writes to the host: normally, or in a replay by the rows of R343; `replayed` is the third row, which
writes and counts nothing (R328). -/
inductive HostMode where
  | normal | silent | rewrite | replayed
deriving DecidableEq, Repr

/-- An accepted ticket with its descriptors, their states and records (R325, R365). -/
structure Run where
  ring : Nat
  tseq : Nat
  ticket : Ticket
  descs : List Desc
  states : List DState
  next : Nat := 0
  /-- completion status, fault and descriptor index once decided -/
  status : Option Nat := none
  fault : Nat := 0
  index : Nat := 0xFFFF
  /-- last RECORD_SEQ of its COMPLETE record once DONE -/
  doneSeq : Option Nat := none
  gatherHbm : Nat := 0
  /-- RECORD_SEQ of its ACCEPT record, and the next RECORD_SEQ when it was accepted -/
  accSeq : Nat := 0
  accAt : Nat := 0
  mode : HostMode := .normal
  frozen : Bool := false
deriving DecidableEq, Repr

/-- Where an extent or a copy lies (Table 10.1). -/
inductive Home where
  | hbm (stack : Nat)
  | ballast (channel : Nat)
deriving DecidableEq, Repr

/-- An extent's placement (R279, R283, R295, R296, R301). Its 64 KiB pieces are numbered from 0. -/
structure Ext where
  home : Home
  count : Nat := 0
  /-- accesses of the window by cluster -/
  byCluster : Tab Nat := []
  /-- copies of its pieces in tile SRAM: piece and tile; pin units are not listed -/
  sram : List (Nat × Nat) := []
  /-- copies in die pools: die and way -/
  pools : Tab Nat := []
  /-- written copies not yet written back: piece and tile, or 320 + die for one in a die pool -/
  dirty : List (Nat × Nat) := []
  /-- the copy under way -/
  moving : Option Home := none
  /-- dirty copies that lie in the spill area, as in `dirty` -/
  spilled : List (Nat × Nat) := []
deriving DecidableEq, Repr

/-- A tensor: its object, image, extents, and the RECORD_SEQ from which its handle is no longer
seen when it is being deleted (R290 to R294). -/
structure Tensor where
  obj : TObj
  img : Mem := []
  exts : Tab Ext := []
  deletedAt : Option Nat := none
  /-- pin units: tile of each unit in order (R300) -/
  pins : List Nat := []
deriving DecidableEq, Repr

/-- A KV pool with its page contents, keyed by page × 65,536 + offset (R305). -/
structure Pool where
  obj : PoolObj
  img : Mem := []
  exts : Tab Ext := []
deriving DecidableEq, Repr

/-- A queue end: credits at a send end, written slots at a receive end (R190). -/
structure Queue where
  params : QueueParams
  credits : Nat
  slots : List SlotImage
  /-- QSENDs whose slot has not been acknowledged: ring, TSEQ, position -/
  unacked : List (Nat × Nat × Nat)
deriving DecidableEq, Repr

/-- A collective group on this member with the nodes formed over it (R196, R259). -/
structure XGroup where
  obj : GroupObj
  nodes : List (List Nat)
  /-- neighbour lists reported to rank 0, by member -/
  reports : Tab (List Nat)
deriving DecidableEq, Repr

/-- A plan: its parameters, reports at the lead, its result, whether MAP_STALE was reported. -/
structure Plan where
  params : PlanParams
  reports : Tab (Tab Nat)
  /-- at the lead, identities whose report has come with parameters that differ -/
  differs : List Nat
  result : Option PlanResult
  stale : Bool
  /-- the reach classes of the modules now, as they last told them (R268) -/
  now : Tab (Tab Nat)
deriving DecidableEq, Repr

/-- The tier of a stash entry (R181). -/
inductive StashTier where
  | hbm | ballast | dropped
deriving DecidableEq, Repr

/-- A stash entry (R178 to R185): handle, charge, tier, whether recomputable, the forward scope that
made it (ring, TSEQ, position) with its ticket and descriptors, the write counts of its inputs,
whether a physical spill is still due, whether it has been recomputed, what the scope first wrote (image and T). -/
structure StashEntry where
  handle : Nat
  charge : Nat
  tier : StashTier
  recomputable : Bool
  ring : Nat
  tseq : Nat
  pos : Nat
  scope : List Desc
  inputs : List (Nat × Nat)
  moveDue : Bool
  rebuilt : Bool
  first : Mem := []
  firstT : Int := 0
deriving DecidableEq, Repr

/-- An open scope (R172): its ticket and position, counts for its record, backward write state. -/
structure Scope where
  ring : Nat
  tseq : Nat
  pos : Nat
  len : Nat
  backward : Bool
  layer : Nat
  recomputable : Bool
  recomputeFb : Bool
  stash : List Nat
  gradTarget : Nat
  gradMask : Nat
  discarded : Nat
  recomputed : Nat
  redone : Nat
  inputs : List (Nat × Nat)
deriving DecidableEq, Repr

/-- A matrix descriptor, decoded (Table 4.9). -/
structure MatDesc where
  shape : Nat
  transA : Bool
  transB : Bool
  cls : Nat
  epiNext : Bool
  zskipDis : Bool
  aFmt : Fmt
  bFmt : Fmt
  accIn : Bool
  accOut : Bool
  link : Nat
  bcastB : Bool
  conv : Word32
  a : Nat
  b : Nat
  c : Nat
  acc : Nat
  m : Nat
  n : Nat
  batch : Nat
  k : Nat
  kChunk : Nat
  prev : Nat
  nextPeer : Nat
  tag : Nat
deriving DecidableEq, Repr

/-- The running sum of one output tile: the next chunk to combine, the words by output index. -/
structure RunSum where
  nextChunk : Nat
  words : Option (List Chain)
deriving DecidableEq, Repr

/-- A matrix descriptor in progress with its epilogue (R100, R121, R132, R146). Output tiles are
keyed by their number in grid order, chunk states by tile × chunks + chunk. -/
structure MatOp where
  ring : Nat
  tseq : Nat
  pos : Nat
  d : MatDesc
  /-- tiles whose tasks have not been started, as placed: (task, tile of the module) -/
  placed : List (TaskId × Nat)
  parked : Tab (List Chain) := []
  sums : Tab RunSum := []
  /-- tiles whose final state is decided -/
  finals : Tab (List Chain) := []
  /-- received CHAIN words by linear output index that wait to be combined, and how many have come -/
  received : Tab Chain := []
  got : Nat := 0
  skipped : Nat := 0
  eMax : Option Int := none
  risesMax : Nat := 0
  bound : Bool := false
  rangeRaised : Bool := false
  eLimit : Bool := false
  wideInvalid : Bool := false
  /-- its drain or its epilogue finds T in a maximum pass: the final states are parked first (R161) -/
  maxPass : Bool := false
  /-- the tile whose engine last closed a chunk of each output tile: its vector engine drains that tile (R117, R129) -/
  ves : Tab Nat := []
  /-- the outputs of C have been handed to the epilogue or written -/
  drained : Bool := false
deriving DecidableEq, Repr

/-- The kinds of collectives (Table 7.1). -/
inductive CollKind where
  | xreduce | xgather | permute
deriving DecidableEq, Repr

/-- Phases of a collective on a member (R209, R214). -/
inductive CollPhase where
  | scale | data | verify | done
deriving DecidableEq, Repr

/-- A partial sum of one chunk on this member: the ranks it covers, the words, the arrival ports of the
operands of the last addition, or its own when it was not added to yet (R207, R429). -/
structure PartSum where
  covers : List Nat
  words : List MarkedWord
  ports : List Nat
  added : Bool
deriving DecidableEq, Repr

/-- A collective in progress (R209 to R219). -/
structure Coll where
  ring : Nat
  tseq : Nat
  pos : Nat
  kind : CollKind
  head : CollHead
  members : List Nat
  nodes : List (List Nat)
  digest : Digest
  newMembers : List Nat
  newEpoch : Nat
  src : Nat
  dst : Nat
  ef : Nat
  qstate : Nat
  conv : Word32
  phase : CollPhase := .scale
  /-- the values this member sums in the present round (XREDUCE) -/
  work : List Val := []
  /-- ranks whose figures are in `figures` -/
  covered : List Nat := []
  figures : List Figure := []
  /-- partial sums of the first and second stage, by destination rank × 2^40 + chunk -/
  near : Tab PartSum := []
  far : Tab PartSum := []
  /-- verified sums by chunk -/
  sums : Tab (List Int) := []
  /-- shards run in the present run of phase 2, and those of them that this member found to fail -/
  shards : List Nat := []
  bad : List Nat := []
  verifyCovered : List Nat := []
  failed : List Nat := []
  redoRuns : Nat := 0
  /-- ranks whose copy data has come: write counts and handles of their shards -/
  got : Tab (Nat × Nat) := []
  /-- copied elements by index in the whole tensor, nibbles by block of 32 -/
  copied : Tab Nat := []
  copiedNibs : Tab Nat := []
  /-- orthonormalised P of a low-rank reduction (R215): codes and nibbles by row -/
  factor : List (List Nat) × List (List Nat) := ([], [])
  deficient : Bool := false
  specialNar : Bool := false
  specialInf : Bool := false
  specialChunks : Nat := 0
  sMax : Option Int := none
deriving DecidableEq, Repr

/-- A commit of the job (R330 to R337). (Log entry 99: DEDUCED.) -/
structure Commit where
  id : Nat
  ring : Nat
  tseq : Nat
  header : JobHeader
  dirty : List ExtentId
  /-- frozen contents of the extents of D -/
  image : List (ExtentId × Mem)
  transferring : Bool
  sent : List ExtentId
  acked : List ExtentId
  headerAcked : Bool
  /-- the SEALED record of the seal request, once it is sent -/
  requested : Option JRec
  cow : List ExtentId
  freezeSeq : Nat
deriving DecidableEq, Repr

/-- What a job waits for before its replay goes on: the image of a commit, to come from the twin; or, over a warm reset, the
step of R403 that says where it goes on. -/
inductive Due where
  | image (commit : Nat)
  | reset
deriving DecidableEq, Repr

/-- A replay in progress (R342, R343): the records still to apply, rings whose acceptance is held. -/
structure Replay where
  commit : Option Nat
  records : List JRec
  /-- consumed positions by ring, once read from host memory (R343) -/
  hostRead : Option (Tab Nat)
deriving DecidableEq, Repr

/-- States of an accumulation group (Table 4.6); PARKED passes at once to FREE. -/
inductive GState where
  | free | opened | closed | draining
deriving DecidableEq, Repr

/-- An accumulation group (R112, R113). Wide words and narrow
accumulators by lane, zero where not listed; `marks` holds the window flags of R78. -/
structure Group where
  state : GState := .free
  owner : Option TaskId := none
  e : Option Int := none
  wides : Tab Wide := []
  narrows : Tab Int := []
  marks : Tab Wide := []
  /-- rounds done, and the windows of the present round done; `inRound` while a round is running -/
  round : Nat := 0
  /-- terms of one output taken so far, skipped ones among them (R84, R112) -/
  terms : Nat := 0
  window : Nat := 0
  inRound : Bool := false
  rises : Nat := 0
  rangeRaised : Bool := false
  eLimit : Bool := false
  skipped : Nat := 0
  bound : Bool := false
  /-- order in which groups closed on the engine -/
  closedAt : Nat := 0
deriving DecidableEq, Repr

/-- A saved OPEN or CLOSED group in the spill area, with the tile and engine it came from (R118). -/
structure SavedAt where
  tile : Nat
  eng : Nat
  group : Group
deriving DecidableEq, Repr

/-- A message that waits in the chain area: its sender, its arrival port, 36 for none (R212, R259). -/
structure HeldMsg where
  src : Nat
  port : Nat
  msg : Msg
deriving DecidableEq, Repr

/-- A job context. -/
structure Ctx where
  owner : Nat
  params : ContextParams
  gatherHbm : Nat := 0
  priority : Nat := 0
  state : CState := .idle
  resident : Bool := false
  blockTime : Nat := 0
  runs : List Run := []
  nextHandle : Nat := 1
  tensors : Tab Tensor := []
  pools : Tab Pool := []
  queues : Tab Queue := []
  groups : Tab XGroup := []
  /-- identifiers of queue ends and groups that were destroyed and not made again (R356) -/
  goneQueues : List Nat := []
  goneGroups : List Nat := []
  plans : Tab Plan := []
  latestPlan : Option Nat := none
  epoch : Nat := 0
  /-- a PERMUTE to epoch + 1 stands earlier in the job's stream -/
  pendingEpoch : Bool := false
  stash : List StashEntry := []
  scope : Option Scope := none
  gathered : Tab Gathered := []
  ops : List MatOp := []
  colls : List Coll := []
  chains : List ChainMsg := []
  /-- receiving links that ended without work while their sender's message was still to come: source, tag and shape,
  no words (R126, R130) -/
  chainOwed : List ChainMsg := []
  /-- messages for a plan, group or collective not yet reached (R212, R218, R256, R259) -/
  waitingMsgs : List HeldMsg := []
  /-- the greatest COMMIT_ID that the job has used (R329) -/
  lastCommitId : Option Nat := none
  commits : List Commit := []
  kept : List Kept := []
  dirty : List ExtentId := []
  unreplayable : Option Nat := none
  replay : Option Replay := none
  saved : List SavedAt := []
  lastPin : Option Nat := none
  faultCause : Nat := 0
  /-- a restore or rollback whose image has not arrived, or a warm reset that R403 has not yet followed -/
  rollbackDue : Option Due := none
  /-- an extent of the sealed image is damaged on the twin (R349) -/
  damaged : Bool := false
  /-- the latest freeze, sealed or not, and whether a persistent extent was written since (R403) -/
  lastFreeze : Option Kept := none
  wrote : Bool := false
deriving DecidableEq, Repr

/-- A ticket being journaled (Table 11.9, JOURNALING). -/
structure Journaling where
  ticket : Ticket
  descs : List Desc
  firstSeq : Nat
  lastSeq : Nat
  /-- its records stand in the own journal; else it waits for room, or for a replay to end -/
  written : Bool
deriving DecidableEq, Repr

/-- A ring (R360 to R366). -/
structure Ring where
  params : RingParams
  accepted : Nat := 0
  complete : Nat := 0
  /-- completed TSEQs above `complete` -/
  above : List Nat := []
  /-- highest TAIL_SEQ written -/
  tail : Nat := 0
  /-- TAIL_SEQs at or below A_g still to be fetched once -/
  again : List Nat := []
  stopped : Bool := false
  journaling : Option Journaling := none
  rejectSeq : Nat := 0
  rejectStatus : Nat := 0
  rejectDesc : Nat := 0
  rejectCount : Nat := 0
  dupSeq : Nat := 0
  dupCount : Nat := 0
deriving DecidableEq, Repr

/-- A serving slot (R378): its context, RESTART, and its object; the page tables that earlier tickets see: the
RECORD_SEQ of the KV_MAP that ended each (R306). -/
structure Slot where
  ctx : Nat
  restart : Bool
  obj : SlotObj
  old : List (Nat × Tab Word32) := []
deriving DecidableEq, Repr

/-! ### Tiles, clusters, dies -/

/-- A round in the operand stage of an engine (R107): its number, the demand formed of its m_A and m_B, whether its
blocks test as zero so that it is skippable. -/
structure Staged where
  round : Nat
  demand : Option Int
  zero : Bool
deriving DecidableEq, Repr

/-- A matrix engine: its eight groups, the running one, its operand stage of two rounds, clock gating, the time of
its last start. -/
structure Engine where
  groups : Tab Group := []
  current : Option Nat := none
  stage : List Staged := []
  gated : Bool := false
  /-- waits for a start slot (R439) -/
  starting : Bool := false
  ovf : Nat := 0
  narLost : Nat := 0
deriving DecidableEq, Repr

/-- A tile: engines 0 ME-F, 1 ME-B0, 2 ME-B1; the VE's two drain stages with the group they hold,
the ready list, the arbiter pointers, the VE's counters (R16, R67, R148, R166, R376). -/
structure Tile where
  engines : Tab Engine := []
  /-- drain stages: (engine, group, read done, the drained words with their task) -/
  stages : List (Nat × Nat × Bool × TaskId × List Chain) := []
  ready : List TaskId := []
  arrived : List TaskId := []
  dispatchPtr : Nat := 0
  drainPtr : Nat := 0
  sramPtr : Nat := 0
  closeCtr : Nat := 0
  ovf : Nat := 0
  narLost : Nat := 0
deriving DecidableEq, Repr

/-- States of a die (Table 15.2, XD_DIE_STATE). -/
inductive DieState where
  | off | ramping | waking | nap | run
deriving DecidableEq, Repr

/-- A compute die: its state, whether RUN is wanted once awake, since when it has been idle. -/
structure Die where
  state : DieState := .off
  wantRun : Bool := false
  queued : Bool := false
  idleSince : Nat := 0
deriving DecidableEq, Repr

/-- A cluster: RUN, waking, or SLEEP, and since when it has been idle. -/
inductive ClState where
  | run | waking | sleep
deriving DecidableEq, Repr

structure Cluster where
  state : ClState := .sleep
  idleSince : Nat := 0
deriving DecidableEq, Repr

/-! ### Ports and fabric time -/

/-- STATE of XD_PORT_STATUS (Table 8.14). -/
inductive PState where
  | down | training | inService | refused
deriving DecidableEq, Repr

/-- A packet kept in the retry window with the number of the group that holds its last flit, its
partition, and since when its message has waited. -/
structure SentPacket where
  group : Nat
  part : Option Nat
  packet : Packet
  readyAt : Nat
deriving DecidableEq, Repr

/-- A packet being sent on a port, with the flits sent of it (R227). -/
structure TxPacket where
  part : Option Nat
  packet : Packet
  readyAt : Nat
  sent : Nat
deriving DecidableEq, Repr

/-- A packet being received on a port: VC, LEN, the group that holds its HEAD, the bytes of the flits that
have come (R227). -/
structure RxPacket where
  vc : Nat
  len : Nat
  group : Nat
  flits : Nat
  bytes : List Byte
deriving DecidableEq, Repr

/-- A CONTROL flit waiting to be sent (Table 8.5). -/
inductive Ctl where
  | credit (counts : List Nat)
  | ack (seq : Nat)
  | nak (seq : Nat)
  | replay (group : Nat)
  | timeSync (f : SyncFlit)
  | timeReply (t2 t3 : Int)
  | train (f : TrainFlit)
  | down
deriving DecidableEq, Repr

/-- One flit slot of a group that is sent (R226, R227). -/
inductive TxSlot where
  | idle
  | control (c : Ctl)
  /-- a packet's HEAD, with the acknowledgement in its word 3: ACK_SEQ and NAK (Table 8.3) -/
  | head (p : Packet) (ack : Option (Nat × Bool))
  /-- the k-th BODY flit of a packet -/
  | body (p : Packet) (k : Nat)
deriving DecidableEq, Repr

/-- A port (R223, R231 to R250, Tables 8.13, 8.14). -/
structure Port where
  state : PState := .down
  step : Nat := 0
  light : Bool := false
  reach : Option Nat := none
  peerSwitch : Bool := false
  calibrated : Bool := false
  degraded : Bool := false
  cause : Nat := 0
  peer : Option TrainFlit := none
  rtt : Option Nat := none
  remoteRtt : Nat := 0
  samples : List Int := []
  /-- the class of the latest windows that differ from `reach`, and how many in succession -/
  newReach : Nat := 3
  newCount : Nat := 0
  /-- receiver: next group expected, groups since the last ACK, whether a bad group's REPLAY is awaited,
  the groups discarded since the bad one, those of them still to come again, whether the last good group
  was one of these (R233) -/
  rxGroup : Nat := 0
  sinceAck : Nat := 0
  rxPending : Bool := false
  rxDiscard : Nat := 0
  rxReplayLeft : Nat := 0
  rxReplayed : Bool := false
  /-- the packet being received, and the one that was under way where the group of its HEAD begins -/
  rxOpen : Option RxPacket := none
  rxBefore : Option RxPacket := none
  /-- transmitter: next group, first group not acknowledged, packets not acknowledged, the last 512 groups
  sent, the group last put on the lanes, the packet under way (R227, R233) -/
  txGroup : Nat := 0
  txAcked : Nat := 0
  window : List SentPacket := []
  kept : List (Nat × List TxSlot) := []
  wire : List TxSlot := []
  txOpen : Option TxPacket := none
  /-- the REPLAY group that is due, and the kept group that is resent next -/
  replayDue : Option Nat := none
  replayNext : Option Nat := none
  lastNak : Option Nat := none
  nakRun : Nat := 0
  /-- n_v per VC at the transmitter; at the receiver n_v, and of it what is free but not yet returned (R235) -/
  inFlight : Tab Nat := []
  rxHeld : Tab Nat := []
  freed : Tab Nat := []
  /-- times the ready packet of a partition's VC has been passed over, by partition × 8 + VC (R236) -/
  passed : Tab Nat := []
  /-- tokens in 64ths, and the flit slot they were last brought up to date in (R237) -/
  tokens : Tab Nat := []
  tokenSlot : Nat := 0
  partPtr : Nat := 0
  ctl : List Ctl := []
  /-- counts of the running window, and of the last complete one (Table 8.13) -/
  symErr : Nat := 0
  badGroups : Nat := 0
  naks : Nat := 0
  replays : Nat := 0
  misrouted : Nat := 0
  duplicates : Nat := 0
  lastSymErr : Nat := 0
  lastBad : Nat := 0
  lastNaks : Nat := 0
  lastReplays : Nat := 0
  lastMisrouted : Nat := 0
  lastDuplicates : Nat := 0
  /-- times of failed trainings, newest first; DOWN until PORT_RESET -/
  failures : List Nat := []
  needReset : Bool := false
  /-- time exchange: whether a SYNC or a REPLY is due, last own SYNC and its reply, last SYNC received and
  own reply -/
  syncDue : Bool := false
  replyDue : Bool := false
  syncT1 : Option Int := none
  replyT4 : Option Int := none
  rxT1 : Option Int := none
  rxT2 : Option Int := none
  rxT3 : Option Int := none
  /-- root announced on this port, hops, IN_SYNC, when heard -/
  heardRoot : Option (Nat × Nat × Bool) := none
  heardAt : Nat := 0
  laserOk : Bool := true
deriving DecidableEq, Repr

/-- A laser: present and factory bias in 0.1 mA, whether lit, whether ageing was logged (R248, R251). -/
structure Laser where
  bias : Nat := 0
  factory : Nat := 0
  lit : Bool := false
  aged : Bool := false
deriving DecidableEq, Repr

/-- What the winch notes in its log of the links (R247, R248). -/
inductive LinkNote where
  | reach (port cls : Nat)
  | degraded (port : Nat)
  | laserAgeing (laser : Nat)
deriving DecidableEq, Repr

/-- A cartridge slot (R252, R466, R467). -/
structure Cart where
  present : Bool := false
  serial : Nat := 0
  released : Bool := false
  releasing : Bool := false
  locked : Bool := false
deriving DecidableEq, Repr

/-- Fabric time (R245, R246). -/
structure FabTime where
  now : Nat := 0
  inSync : Bool := false
  /-- since when this module has been the root with its identity set -/
  rootSince : Option Nat := none
  stepped : Bool := false
  goodSamples : Nat := 0
  /-- correction still to be made by rate, in ns -/
  slew : Int := 0
  upstream : Option Nat := none
  root : Nat := 0
  hops : Nat := 0
  isRoot : Bool := false
deriving DecidableEq, Repr

/-- A message waiting to be sent to a module on a VC, for one partition or none, with its number, how often the
numbering had wrapped by then, and the bytes sent of it; `tag` is made when its first packet starts (R313). -/
structure OutMsg where
  dest : Nat
  vc : Nat
  seq : Nat
  part : Option Nat
  msgType : Nat
  len : Nat
  tether : Bool
  msg : Msg
  sentBytes : Nat
  readyAt : Nat
  wraps : Nat
  tag : List Byte
deriving DecidableEq, Repr

/-- A message that has arrived in order and waits for the layer above (R242); `authOk`: it is not protected, or its tag
verifies (R313). -/
structure Arrived where
  src : Nat
  vc : Nat
  port : Nat
  msg : Msg
  authOk : Bool
  /-- receive slots it still holds, as (port, flits) (R289) -/
  slots : List (Nat × Nat)
deriving DecidableEq, Repr

/-- Reassembly of one message (R242): source, VC, number, length, pieces held. -/
structure Partial where
  src : Nat
  vc : Nat
  seq : Nat
  len : Nat
  got : List (Nat × Nat)
  port : Nat
  msg : Msg
  tag : List Byte
  slots : List (Nat × Nat)
deriving DecidableEq, Repr

/-- The network: numbering, queues to send, reassembly, delivered messages, routes (R240, R242). -/
structure Net where
  /-- next MSG_SEQ by DEST × 8 + VC, and next delivered number by SRC × 8 + VC; how often MSG_SEQ has wrapped -/
  txSeq : Tab Nat := []
  txWraps : Tab Nat := []
  rxSeq : Tab Nat := []
  out : List OutMsg := []
  partials : List Partial := []
  inbox : List Arrived := []
  /-- packets to send again on another port (R243) -/
  resend : List SentPacket := []
  /-- direct table: identity to fabric-port mask; block table by DEST[17:6] -/
  direct : Tab (BitVec 32) := []
  blocks : Tab (BitVec 32) := []
  /-- incarnation last reported by each peer -/
  incarnations : Tab Nat := []
  /-- messages for jobs that are not yet created here, with their context (log entry 147: DEDUCED) -/
  early : List (Nat × HeldMsg) := []
  /-- the log of reach classes, degraded ports and ageing lasers, with the time, oldest first (R247, R248) -/
  notes : List (Nat × LinkNote) := []
deriving DecidableEq, Repr

/-! ### Twin and journals -/

/-- STATE of XD_TWIN_STATUS (Table 11.3). -/
inductive TState where
  | unpaired | pairing | paired | twinLost | solo | restoring
deriving DecidableEq, Repr

/-- Progress of R312: certificates and keys exchanged, secrets, signatures; the session key with the one before it, when
it was agreed, and the wraps of MSG_SEQ by VC then (R313). -/
structure Auth where
  peerCerts : Option (List Byte) := none
  peerKey : Option (List Byte) := none
  cipher : Option (List Byte) := none
  /-- the draws of this module's encapsulation key and of its secret for the peer -/
  keyDraw : Option Nat := none
  encDraw : Option Nat := none
  verified : Bool := false
  sessionKey : Option (List Byte) := none
  oldKey : Option (List Byte) := none
  keyedAt : Nat := 0
  keyWraps : List Nat := []
deriving DecidableEq, Repr

/-- A sealed image of a partner's job held here: header, extents by slot (R333, R334). (Log entry 94: DEDUCED.) -/
structure SealedImage where
  ctx : Nat
  commit : Nat
  header : JobHeader
  /-- slot map: extent and slot -/
  map : List (ExtentId × Nat)
  lost : Bool
deriving DecidableEq, Repr

/-- A transfer of the partner not yet sealed. -/
structure Incoming where
  ctx : Nat
  commit : Nat
  header : Option JobHeader
  map : List (ExtentId × Nat)
deriving DecidableEq, Repr

/-- A restore in progress on this (fresh) module (Table 11.13): its step, whether this end and the survivor have found
rows 3 to 5 of Table 11.1 to hold, and the tables of step 2 once they have come. -/
structure Restoring where
  survivor : Nat
  step : Nat
  ownOk : Bool
  peerOk : Bool
  tables : Option RestoreTables
deriving DecidableEq, Repr

/-- A restore that this module serves as survivor: the request, the last step done, whether rows 3 to 5 held here. -/
structure Serving where
  req : RestoreReq
  step : Nat
  checked : Bool
deriving DecidableEq, Repr

/-- The twin's state (R310 to R318, R338 to R340). -/
structure Twin where
  state : TState := .unpaired
  exposed : Bool := false
  holdsPartner : Bool := false
  twinId : Option Nat := none
  refuse : Nat := 0
  refusePeer : Nat := 0
  auth : Auth := {}
  peerInfo : Option PairInfo := none
  /-- identity whose journal and mirror this module holds -/
  partnerOf : Option Nat := none
  restoring : Option Restoring := none
  /-- a restore request whose answer is withheld (R340) -/
  withheld : Option RestoreReq := none
  /-- a restore this module serves as survivor -/
  serving : Option Serving := none
  incarnation : Nat := 0
  /-- time since which no tether port has been in service -/
  tetherDownAt : Option Nat := none
  /-- times that a new session key was asked for (R313) -/
  rekeys : Nat := 0
deriving DecidableEq, Repr

/-- The two journals and the mirror area (R319 to R324, R333, R334). -/
structure Journals where
  own : List JRec := []
  nextSeq : Nat := 0
  /-- records up to this number (exclusive) have been acknowledged by the twin -/
  acked : Nat := 0
  /-- the twin has told that its partner journal lacks room (R324) -/
  twinFull : Bool := false
  partner : List JRec := []
  partnerLost : List Nat := []
  /-- the partner's configuration tables; the first record of it that was turned away for want of room -/
  partnerTables : Option ModTables := none
  refusedAt : Option Nat := none
  /-- images on their way back to the partner's jobs: context and commit (R340, R348) -/
  returning : List (Nat × Nat) := []
  slots : Tab Mem := []
  images : List SealedImage := []
  incoming : List Incoming := []
deriving DecidableEq, Repr

/-! ### Errors, power, telemetry -/

/-- Coalesced occurrences of one class, unit and context in the window (R429). -/
structure Coalesced where
  cls : Nat
  source : Nat
  unit : Nat
  ctx : Nat
  part : Nat
  count : Nat
  start : Nat
  address : Nat
  syndrome : Nat
  tseq : Nat
  ring : Nat
  detail : Nat
  detail2 : Nat
  action : Nat
deriving DecidableEq, Repr

/-- The error log and its registers (R429 to R431). -/
structure ErrLog where
  halted : Bool := false
  wrapped : Bool := false
  ueCount : Nat := 0
  seq : Nat := 0
  select : Word32 := 0
  /-- newest records by number -/
  records : Tab (List Byte) := []
  window : List Coalesced := []
  /-- corrected errors per (SOURCE × 65,536 + UNIT) in the 1 s window, and units already recorded -/
  ceWindow : Tab Nat := []
  ceStart : Nat := 0
deriving DecidableEq, Repr

/-- Logbook registers with the read buffer (R435). -/
structure LogRegs where
  busy : Bool := false
  addr : Nat := 0
  buffer : Logbook := {}
deriving DecidableEq, Repr

/-- Power, clock and governor (R438, R445 to R454). `budget` is in units of 10 µJ: 1,200 J =
120,000,000. -/
structure Power where
  k : Nat := 0
  kNext : Nat := 0
  budget : Nat := 120000000
  exhaustions : Nat := 0
  /-- empty rule: acting, and the samples since B reached 0 with their sum -/
  emptyActing : Bool := false
  emptySum : Nat := 0
  emptyCount : Nat := 0
  /-- last ten samples, newest first -/
  samples : List Nat := []
  vin : Nat := 0
  dieTemps : List Int := []
  stackTemps : List Int := []
  /-- the millisecond under way: sum and count of samples, whether its conditions held -/
  msSum : Nat := 0
  msCount : Nat := 0
  msOk : Bool := true
  /-- the 100 µs interval under way held a warm stack throughout -/
  warmHeld : Bool := true
  warmCount : Nat := 0
  dieHot : Bool := false
  stackHot : Bool := false
  peakAgo : Nat := 10
  thermalK : Bool := false
  /-- the millisecond of the last event, by cause -/
  told : Tab Nat := []
  /-- a downward rule acted in the present sample -/
  acted : Bool := false
  policy : Word32 := 0x000A0A0A
  /-- policies written, with their times, newest first -/
  policies : List (Nat × Word32) := []
  keepAwake : Word32 := 0
  lastStart : List Nat := []
deriving DecidableEq, Repr

/-- Telemetry (R451 to R453). -/
structure Telem where
  baseLo : Word32 := 0
  baseHi : Word32 := 0
  logDepth : Nat := 0
  vector : Nat := 0
  enable : Bool := false
  period : Nat := 10
  head : Nat := 0
  tail : Nat := 0
  lost : Nat := 0
  seq : Nat := 0
  /-- the window under way; `none` until the first window begins -/
  start : Option Nat := none
  energy : Nat := 0
  pPeak : Nat := 0
  kMin : Nat := 0
  kMax : Nat := 0
  steppedFlag : Bool := false
  lostFlag : Bool := false
  steppedNs : Nat := 0
  exhaustions : Nat := 0
  tjMax : List Int := []
  hbmMax : List Int := []
  vinMin : Nat := 0
  vinMax : Nat := 0
deriving DecidableEq, Repr

/-- The arbiters of the module that are not kept with a tile or port (Table 12.16). -/
structure Arbiters where
  mailbox : Nat := 0
  ringFetch : Nat := 0
  adder : Nat := 0
deriving DecidableEq, Repr

end Sys2Proof.Machine
end

