-- ==== Sys2Proof/Machine/State.lean ====
section
/-! DEFINITION. The state of the module, its faults and refusals, and the state after reset. -/

namespace Sys2Proof.Machine

/-- Why a step stops. (Log entry 89: DESIGN CHOICE.) -/
inductive Fault where
  /-- raised by every command whose operand numbers a unit the module does not have (a function
  above 62, a port above 35, a tile above 319, an engine above 2, a die above 9, a cluster above 79,
  a cartridge above 3, a laser above 47): no such event exists (R15, R16, R22). Safe. -/
  | noSuchUnit
deriving DecidableEq, Repr

/-- Why a command has no meaning here. -/
inductive Refusal where
  /-- raised by an arm of `exec` whose command has no meaning yet. Safe. -/
  | notModelled (mnemonic : String)
deriving DecidableEq, Repr

/-- The module: every piece of state the spec gives it, and the queue of waiting commands. -/
structure State where
  /-- commands waiting, first in first out (the model's own) -/
  pending : List Instr := []
  /-- order code FXD-2001-A-1536 rather than -768 (R1) -/
  order1536 : Bool := false
  fuses : Fuses := {}
  flash : Flash := {}
  boot : Boot := {}
  /-- PCIe link up, and the number of virtual functions enabled (R384, R391) -/
  linkUp : Bool := false
  numVfs : Nat := 0
  funs : Tab Func := []
  /-- what the module has sent to the host, oldest first -/
  hostOut : List HostItem := []
  parts : Tab Part := []
  ctxs : Tab Ctx := []
  rings : Tab Ring := []
  clients : Tab Counts := []
  slots : Tab Slot := []
  /-- the region table by entry (R409) -/
  regions : Tab Word64 := []
  lend : Bool := false
  tiles : Tab Tile := []
  dies : Tab Die := []
  clusters : Tab Cluster := []
  ports : Tab Port := []
  lasers : Tab Laser := []
  carts : Tab Cart := []
  time : FabTime := {}
  net : Net := {}
  twin : Twin := {}
  jr : Journals := {}
  errs : ErrLog := {}
  logbook : Logbook := {}
  logRegs : LogRegs := {}
  power : Power := {}
  telem : Telem := {}
  arb : Arbiters := {}
  /-- the model's own counter of free values drawn -/
  freeCtr : Nat := 0
deriving DecidableEq, Repr

/-- The module right after a cold reset: 54 V just present, the boot ROM about to start (R401,
R402); flash and fuses empty, order code -768 (log entry 4: DESIGN CHOICE). -/
def State.reset : State := {}

end Sys2Proof.Machine
end

