-- ==== Sys2Proof/Machine/Ops.lean ====
section
/-! DEFINITION. Shared operations: functions of the host, events, the journal, messages, contexts. -/

namespace Sys2Proof.Machine

/-- The outcome type of every meaning. -/
abbrev Out := Host.Outcome State Fault Refusal

/-- Run `f` when the unit exists. -/
def withUnit (ok : Bool) (s : State) : Out := if ok then .next s else .fault .noSuchUnit

/-! ### Entries of the tables -/

def State.fn (s : State) (i : Nat) : Func := Tab.getD s.funs i {}
def State.setFn (s : State) (i : Nat) (f : Func) : State := { s with funs := Tab.set s.funs i f }
def State.modFn (s : State) (i : Nat) (g : Func → Func) : State := s.setFn i (g (s.fn i))
def State.ctx? (s : State) (i : Nat) : Option Ctx := Tab.get s.ctxs i
def State.setCtx (s : State) (i : Nat) (x : Ctx) : State := { s with ctxs := Tab.set s.ctxs i x }
def State.modCtx (s : State) (i : Nat) (g : Ctx → Ctx) : State := { s with ctxs := Tab.modify s.ctxs i g }
def State.setRing (s : State) (i : Nat) (r : Ring) : State := { s with rings := Tab.set s.rings i r }
def State.modRing (s : State) (i : Nat) (g : Ring → Ring) : State := { s with rings := Tab.modify s.rings i g }
def State.setPart (s : State) (i : Nat) (p : Part) : State := { s with parts := Tab.set s.parts i p }
def State.modPart (s : State) (i : Nat) (g : Part → Part) : State := { s with parts := Tab.modify s.parts i g }
def State.tile (s : State) (i : Nat) : Tile := Tab.getD s.tiles i {}
def State.setTile (s : State) (i : Nat) (t : Tile) : State := { s with tiles := Tab.set s.tiles i t }
def State.die (s : State) (i : Nat) : Die := Tab.getD s.dies i {}
def State.setDie (s : State) (i : Nat) (d : Die) : State := { s with dies := Tab.set s.dies i d }
def State.cluster (s : State) (i : Nat) : Cluster := Tab.getD s.clusters i {}
def State.setCluster (s : State) (i : Nat) (c : Cluster) : State := { s with clusters := Tab.set s.clusters i c }
def State.port (s : State) (i : Nat) : Port := Tab.getD s.ports i {}
def State.setPort (s : State) (i : Nat) (p : Port) : State := { s with ports := Tab.set s.ports i p }
def State.modPort (s : State) (i : Nat) (g : Port → Port) : State := s.setPort i (g (s.port i))
def State.cart (s : State) (i : Nat) : Cart := Tab.getD s.carts i {}
def State.laser (s : State) (i : Nat) : Laser := Tab.getD s.lasers i {}

/-! ### Numbers of the module -/

/-- The stage is READY and the module is not HALTED: the firmware serves commands (R401, R426). -/
def State.live (s : State) : Bool := s.boot.powered && s.boot.stage = .ready && !s.errs.halted

/-- This module's identity, when set (R238). -/
def State.ident (s : State) : Option Nat := s.flash.ident.map (·.1)

/-- SYSTEM_SIZE; 0 while no identity is set (R238). -/
def State.sysSize (s : State) : Nat := (s.flash.ident.map (·.2)).getD 0

/-- Is the identity one of the system's (R238)? -/
def State.inSystem (s : State) (i : Nat) : Bool := i < s.sysSize

/-- Tether ports in service (R253). -/
def State.tetherUp (s : State) : Nat :=
  ([32, 33, 34, 35].filter (fun p => (s.port p).state = .inService)).length

/-- Bytes of a number, little-endian, as a list of the given length (R9). -/
def le (n : Nat) (v : Nat) : List Byte := leBytes n v

/-! ### What goes to the host -/

/-- Send items to the host. (Log entry 90: DESIGN CHOICE.) -/
def State.emit (s : State) (is : List HostItem) : State := { s with hostOut := s.hostOut ++ is }

/-- A write by the winch for a function: discarded while the function is unavailable (R392). -/
def State.fnWrite (s : State) (fn addr : Nat) (bytes : List Byte) : State :=
  if (s.fn fn).avail then s.emit [.write fn addr bytes] else s

/-- A vector of a function: not raised while it is unavailable (R392). -/
def State.fnVector (s : State) (fn v : Nat) : State :=
  if (s.fn fn).avail then s.emit [.vector fn v] else s

/-- Bytes a hold log keeps for an item. -/
def holdBytes : HostItem → Nat
  | .write _ _ b => b.length
  | _ => 0

/-- A hold log is full at 64 MiB (R393). -/
def holdFull (l : List HostItem) : Bool := 67108864 ≤ (l.map holdBytes).sum

/-- A write of a ticket's result, completion or control word: to the host, or to the function's
hold log until it has resynchronised (R392, R394); it bears the function that owns the ring's context (R389). -/
def State.jobWrite (s : State) (fn addr : Nat) (bytes : List Byte) : State :=
  let f := s.fn fn
  if f.avail && !f.awaitResync then s.emit [.write fn addr bytes]
  else
    let h := f.hold ++ [.write fn addr bytes]
    s.setFn fn { f with hold := h
                        holdFullAt := if holdFull h then some (f.holdFullAt.getD s.time.now) else none }

/-- A ring's vector: raised only while the function works (R392, R394). -/
def State.jobVector (s : State) (fn v : Nat) : State :=
  if (s.fn fn).avail && !(s.fn fn).awaitResync then s.emit [.vector fn v] else s

/-! ### The end of a command (R353) -/

/-- The host address of the block at HEAD. -/
def Mbox.blockAddr (m : Mbox) : Nat := m.baseLo.toNat + 2 ^ 32 * m.baseHi.toNat + 256 * m.head

/-- The host address of the block of the command that completes: the one at HEAD, or that of the command that has waited; none
where what is written to it is discarded (R351, R392). -/
def Mbox.endAddr (m : Mbox) : Option Nat := if m.waiting.isSome then m.block else some m.blockAddr

/-- HEAD advances past the block of the command that completes, unless it has been set to 0 since; the mailbox stops at a
block that cannot be read (R351, R353, R390). -/
def Mbox.advance (m : Mbox) : Mbox :=
  let n := if m.waiting.isSome && m.restarted then m.head else (m.head + 1) % 2 ^ m.logDepth
  { m with head := n, waiting := none, block := none, restarted := false, stopped := m.stopped || (m.enable && m.badBlock = some n) }

/-- The mailbox arbiter's pointer moves past a function whose block is taken (R376). -/
def State.granted (s : State) (fn : Nat) : State := { s with arb := { s.arb with mailbox := (fn + 1) % 63 } }

/-- A command completes: RESULT, CAUSE and STATUS are written, HEAD advances, VECTOR is raised (R353). -/
def State.finishCmd (s : State) (h : CmdHead) (status cause : Nat) (res : List Byte) : State :=
  let m := (s.fn h.fn).mbox
  let s1 := match m.endAddr with
    | some a => ((s.fnWrite h.fn (a + 16) (res ++ List.replicate (16 - res.length) 0)).fnWrite h.fn (a + 10) (le 2 cause)).fnWrite
        h.fn (a + 8) (le 2 status)
    | none => s
  let s2 := s1.modFn h.fn (fun g => { g with mbox := g.mbox.advance })
  let s3 := if m.waiting.isSome then s2 else s2.granted h.fn
  if h.irq && m.endAddr.isSome then s3.fnVector h.fn m.vector else s3

/-! ### Events (R382) -/

/-- The 32 bytes of an event record (Table 12.19). -/
def eventBytes (seq ty ctx detail time detail2 : Nat) : List Byte :=
  le 8 seq ++ le 2 ty ++ le 2 ctx ++ le 4 detail ++ le 8 time ++ le 8 detail2

/-- Write an event to a function's queue, or count it as lost (R382, R392). (Log entry 115: DEDUCED.) -/
def State.event (s : State) (fn ty ctx detail detail2 : Nat) : State :=
  let f := s.fn fn
  let q := f.evq
  let depth := 2 ^ q.logDepth
  if !f.avail || !q.enable || (q.tail + 1) % depth = q.head % depth then
    s.setFn fn { f with evq := { q with seq := q.seq + 1, lost := satAdd 32 q.lost 1 } }
  else
    let base := q.baseLo.toNat + 2 ^ 32 * q.baseHi.toNat
    (s.setFn fn { f with evq := { q with seq := q.seq + 1, tail := (q.tail + 1) % depth } }).emit
      [.write fn (base + 32 * q.tail) (eventBytes (q.seq + 1) ty ctx detail s.time.now detail2),
       .vector fn q.vector]

/-! ### Messages (R229, R242) -/

/-- MSG_TYPE of a message (Table 8.4). -/
def Msg.typeCode : Msg → Nat
  | .journal _ | .journalAck _ | .journalFull | .journalRoom | .tables _ | .restoreTables _ => 0x01
  | .sealRequest _ _ _ | .sealAck _ _ => 0x02
  | .winch _ | .auth _ | .restoreRequest _ => 0x08
  | .xs _ => 0x10
  | .xd _ => 0x11
  | .xv _ => 0x12
  | .gatherData _ => 0x13
  | .permuteData _ => 0x14
  | .chain _ => 0x18
  | .mirror _ | .mirrorAck _ _ _ _ => 0x20
  | .readRequest _ => 0x21
  | .readData _ => 0x22
  | .queueSlot _ _ _ => 0x30
  | .slotWritten _ _ => 0x31
  | .queueCredit _ _ => 0x32

/-- Does a message type travel on the VC (Table 8.4)? -/
def typeOnVc (ty vc : Nat) : Bool :=
  if ty = 0x01 ∨ ty = 0x02 then vc = 0
  else if ty = 0x08 then vc = 1
  else if (0x10 ≤ ty ∧ ty ≤ 0x14) ∨ ty = 0x18 then vc = 2
  else if 0x20 ≤ ty ∧ ty ≤ 0x22 then vc = 3
  else if 0x30 ≤ ty ∧ ty ≤ 0x32 then 4 ≤ vc && vc ≤ 7
  else false

/-- Does a message go over the tether (R311)? Journal, commit and mirror traffic, authentication and
what the twins tell each other. -/
def Msg.onTether : Msg → Bool
  | .journal _ | .journalAck _ | .journalFull | .journalRoom | .tables _ | .restoreTables _ | .sealRequest _ _ _ | .sealAck _ _ => true
  | .mirror _ | .mirrorAck _ _ _ _ | .auth _ | .restoreRequest _ => true
  | .winch (.pairInfo _) | .winch .unpaired | .winch (.mirrorFault _ _ _ _) => true
  | .winch (.recordRequest _ _) | .winch (.recordAnswer _ _) | .winch (.restoreAnswer _) | .winch (.restoreChecked _) => true
  | .winch (.imageRequest _) | .winch (.recoveryImage _) => true
  | _ => false

/-- Is a message protected by the session key (R313)? Those of R312 are not, nor what modules say before a session can
stand: pairing facts, the restore request and its answer, a recovery image and the request for it (log entry 152: DEDUCED). -/
def Msg.isProtected : Msg → Bool
  | .auth _ | .restoreRequest _ | .winch (.pairInfo _) | .winch (.restoreAnswer _) | .winch (.restoreChecked _)
  | .winch (.imageRequest _) | .winch (.recoveryImage _) => false
  | m => m.onTether

/-- Bytes of a message: 256 for each journal record (R320), else as the implementation lays it out; a protected one ends in
its 16-byte tag (R313). -/
def Msg.bytes (m : Msg) : Nat :=
  (match m with
   | .journal rs => 256 * rs.length
   | _ => max 1 (Config.msgBytes m)) + (if m.isProtected then 16 else 0)

/-- Queue a message to a module on a VC, numbered per (DEST, VC) (R242). A message to this module
itself is delivered at once (R188). -/
def State.sendOn (s : State) (dest vc : Nat) (part : Option Nat) (m : Msg) : State :=
  if s.ident = some dest then
    { s with net := { s.net with inbox := s.net.inbox ++ [⟨dest, vc, 36, m, true, []⟩] } }
  else
    let key := dest * 8 + vc
    let seq := Tab.getD s.net.txSeq key 0
    let wraps := Tab.getD s.net.txWraps key 0
    { s with net := { s.net with
        txSeq := Tab.set s.net.txSeq key ((seq + 1) % 2 ^ 32)
        txWraps := if seq + 1 = 2 ^ 32 then Tab.set s.net.txWraps key (wraps + 1) else s.net.txWraps
        out := s.net.out ++ [⟨dest, vc, seq, part, m.typeCode, m.bytes, m.onTether, m, 0, s.time.now, wraps, []⟩] } }

/-- Queue a message on the VC its type fixes (bulk messages take their VC with `sendOn`). -/
def State.send (s : State) (dest : Nat) (part : Option Nat) (m : Msg) : State :=
  let ty := m.typeCode
  let vc := if ty ≤ 0x02 then 0 else if ty = 0x08 then 1 else if ty ≤ 0x18 then 2 else 3
  s.sendOn dest vc part m

/-- Send to every identity of a list. -/
def State.sendAll (s : State) (dests : List Nat) (part : Option Nat) (m : Msg) : State :=
  dests.foldl (fun a d => a.send d part m) s

/-- The first delivered message of a sender on a VC, and the inbox without it. -/
def takeFrom (src vc : Nat) : List Arrived → Option (Arrived × List Arrived)
  | [] => none
  | a :: l =>
    if a.src = src ∧ a.vc = vc then some (a, l)
    else (takeFrom src vc l).map (fun r => (r.1, a :: r.2))

/-- The state with a new inbox. -/
def State.setInbox (s : State) (l : List Arrived) : State := { s with net := { s.net with inbox := l } }

/-- Receive slots of a VC are free, to be returned by CREDIT; never more than the port holds (R235). -/
def Port.release (p : Port) (vc n : Nat) : Port :=
  { p with freed := Tab.set p.freed vc (min (Tab.getD p.rxHeld vc 0) (Tab.getD p.freed vc 0 + n)) }

/-- A delivered message leaves the buffers of the ports that still hold it, and their slots are free (R289). -/
def State.takeMsg (s : State) (vc : Nat) (slots : List (Nat × Nat)) (rest : List Arrived) : State :=
  slots.foldl (fun a e => a.modPort e.1 (fun p => p.release vc e.2)) (s.setInbox rest)

/-- A message for a job waits with it, or until the job is created here. (Log entry 147: DEDUCED.) -/
def State.holdFor (s : State) (ctx : Nat) (m : HeldMsg) : State :=
  match s.ctx? ctx with
  | some x => s.setCtx ctx { x with waitingMsgs := x.waitingMsgs ++ [m] }
  | none => { s with net := { s.net with early := s.net.early ++ [(ctx, m)] } }

/-- A job is created: the messages that came before it wait with it. -/
def State.takeEarly (s : State) (ctx : Nat) : State :=
  { s.modCtx ctx (fun x => { x with waitingMsgs := x.waitingMsgs ++ (s.net.early.filter (fun e => e.1 = ctx)).map (·.2) }) with
    net := { s.net with early := s.net.early.filter (fun e => e.1 != ctx) } }

/-! ### The journal (R319 to R324) -/

/-- Records of the own journal (Table 11.6). -/
def State.journalCap (s : State) : Nat := if s.order1536 then 67108864 else 33554432

/-- Slots of the mirror area (Table 11.12). -/
def State.mirrorSlots (s : State) : Nat := if s.order1536 then 516096 else 258048

/-- The job's latest sealed COMMIT_ID, or 0 (Table 11.7). -/
def Ctx.sealedId (x : Ctx) : Nat := (x.kept.map (·.id)).foldl max 0

/-- The records of an entry from its bodies, numbered from `seq` (R320). -/
def entryOf (seq count ring ctx tseq commit : Nat) : Nat → List JBody → List JRec
  | _, [] => []
  | i, b :: bs => ⟨seq + i, i, count, ring, ctx, tseq, commit, b⟩ :: entryOf seq count ring ctx tseq commit (i + 1) bs

/-- Does acceptance and completion need the twin (Table 11.2)? -/
def State.needsTwin (s : State) : Bool :=
  !(s.twin.state = .unpaired || s.twin.state = .solo)

/-- Write an entry to the own journal and send it at once to a PAIRED twin (R321, R324). -/
def State.journal (s : State) (ring ctx tseq : Nat) (bodies : List JBody) : State :=
  let commit := ((s.ctx? ctx).map Ctx.sealedId).getD 0
  let recs := entryOf s.jr.nextSeq bodies.length ring ctx tseq commit 0 bodies
  let s1 := { s with jr := { s.jr with own := s.jr.own ++ recs, nextSeq := s.jr.nextSeq + bodies.length } }
  match s.twin.state, s.twin.twinId with
  | .paired, some t => s1.send t none (.journal recs)
  | _, _ => s1

/-- Journal a Gheit command that a restore must rebuild (R321). -/
def State.journalOp (s : State) (ctx : Nat) (op : ConfigOp) : State := s.journal 0xFFFF ctx 0 [.config op]

/-- Have all records below `seq` reached every journal that acceptance needs (R324, Table 11.2)? -/
def State.durable (s : State) (seq : Nat) : Bool :=
  match s.twin.state with
  | .unpaired | .solo => true
  | .paired => seq ≤ s.jr.acked
  | _ => false

/-- Room for an entry in the own journal (R319, R324). -/
def State.journalRoom (s : State) (n : Nat) : Bool := s.jr.own.length + n ≤ s.journalCap

/-- An entry that nothing can wait for is left out of a full journal. (Log entry 153: DESIGN CHOICE.) -/
def State.journalIf (s : State) (ring ctx tseq : Nat) (bodies : List JBody) : State :=
  if s.journalRoom bodies.length then s.journal ring ctx tseq bodies else s

/-! ### Contexts -/

/-- The ring number that is the context's key: the lowest bound to it (R370). (Log entry 120: DEDUCED.) -/
def State.key (s : State) (ctx : Nat) : Option Nat :=
  (s.rings.find? (fun e => e.2.params.ctx = ctx)).map (·.1)

/-- The rings of a context. -/
def State.ringsOf (s : State) (ctx : Nat) : List Nat :=
  (s.rings.filter (fun e => e.2.params.ctx = ctx)).map (·.1)

/-- The owner of a context (R358). -/
def State.ownerOf (s : State) (ctx : Nat) : Nat := ((s.ctx? ctx).map (·.owner)).getD 0

/-- The partition a context runs in. -/
def State.partOf (s : State) (ctx : Nat) : Nat := ((s.ctx? ctx).map (·.params.partition)).getD 0

/-- Contexts of a partition. -/
def State.ctxsOf (s : State) (part : Nat) : Tab Ctx := s.ctxs.filter (fun e => e.2.params.partition = part)

/-- Bytes of a chain from a context to its tensors. -/
def Ctx.tensor? (x : Ctx) (h : Nat) : Option Tensor := Tab.get x.tensors h

/-- Incomplete accepted tickets of a context (R369). -/
def Ctx.busy (x : Ctx) : Bool := !x.runs.isEmpty

/-- The run at the head of the work that still has a descriptor to dispatch; a COMMIT not yet frozen
holds later tickets back (R330, R336). -/
def nextRun : List Run → Option Run
  | [] => none
  | r :: l =>
    if r.ticket.kind = 3 then (if r.frozen || r.status.isSome then nextRun l else some r)
    else if r.status.isNone && r.next < r.descs.length then some r
    else nextRun l

/-- The descriptor of the context that is next to be dispatched, with its run (R365). (Log entry 97: DEDUCED.) -/
def Ctx.nextDesc (x : Ctx) : Option (Run × Desc) :=
  match nextRun x.runs with
  | some r => if r.ticket.kind = 3 then none else (r.descs[r.next]?).map (fun d => (r, d))
  | none => none

/-- Replace the run of a ring and TSEQ. -/
def setRun (l : List Run) (r : Run) : List Run :=
  l.map (fun q => if q.ring = r.ring ∧ q.tseq = r.tseq then r else q)

/-- The run of a ring and TSEQ. -/
def findRun (l : List Run) (ring tseq : Nat) : Option Run :=
  l.find? (fun q => q.ring = ring && q.tseq = tseq)

/-- Change a run of a context. -/
def State.modRun (s : State) (ctx ring tseq : Nat) (g : Run → Run) : State :=
  s.modCtx ctx (fun x => { x with runs := x.runs.map (fun q => if q.ring = ring ∧ q.tseq = tseq then g q else q) })

/-- The state of one descriptor of a run. -/
def Run.setState (r : Run) (pos : Nat) (d : DState) : Run := { r with states := r.states.set pos d }

end Sys2Proof.Machine
end

