-- ==== Sys2Proof/Machine/Wide.lean ====
section
/-! DEFINITION. Products, antilog tables, the group exponent, wide words, CHAIN words
(R68 to R81, R86, R104, R105, R123, R124). -/

namespace Sys2Proof.Machine

/-- The product modes of R68. -/
inductive Mode where
  | m8 | m16 | pop
deriving DecidableEq, Repr

/-- The mode of a pairing, none outside Table 3.2 (R69). -/
def modeOf (a b : Fmt) : Option Mode :=
  let narrow (f : Fmt) : Bool := f == .l8 || f == .lg8
  if a == .b1 && b == .b1 then some .pop
  else if a == .l16 && (b == .l16 || narrow b || b.isWeight) then some .m16
  else if b == .l16 && (narrow a || a.isWeight) then some .m16
  else if narrow a && narrow b then some .m8
  else if (a.isWeight && narrow b) || (b.isWeight && narrow a) then some .m8
  else none

/-- One term of an operand: special, zero, or a position in the mode's units, scales included
(Table 3.1). -/
inductive Opnd where
  | zero | nar
  | inf (neg : Bool)
  | fin (neg : Bool) (pos : Int)
deriving DecidableEq, Repr

/-- Units per octave of a mode (R68). -/
def Mode.units : Mode → Nat
  | .m8 => 8 | .m16 => 512 | .pop => 1

/-- A W4P1 term as an operand. -/
def w4Opnd (u : Nat) (tb : Int) (nib : Nat) : Opnd :=
  if nib % 8 = 0 then .zero else .fin (bitOf nib 3) ((u : Int) * ((nib % 8 : Nat) - 4 + tb))

/-- The terms of an element, in the order they enter (R38, R68, R103); `b = 15` reads as ZERO
(R42). -/
def opnds (m : Mode) (f : Fmt) (t : Int) (b code : Nat) : List Opnd :=
  let u := m.units
  let tb := t + (b : Int)
  match f with
  | .w8p2 => if b = 15 then [.zero, .zero] else [w4Opnd u tb (code / 16 % 16), w4Opnd u tb (code % 16)]
  | .w4p1 => if b = 15 then [.zero] else [w4Opnd u tb (code % 16)]
  | .b1 => [.fin (code % 2 = 1) t]
  | f =>
    let e := code % 2 ^ (f.width - 1)
    let neg := bitOf code (f.width - 1)
    if b = 15 then [.zero]
    else if e = 0 then [if neg then .nar else .zero]
    else if e = 2 ^ (f.width - 1) - 1 then [.inf neg]
    else [.fin neg (((e : Int) - (f.bias : Int)) * ((u / 2 ^ f.unitBits : Nat) : Int) + (u : Int) * tb)]

/-- The product of two terms (R68, Table 3.3). ZERO times INF is NaR also where the ZERO is of a block whose scale code is 15
(R70; log entry 44: DEDUCED). -/
def prod (a b : Opnd) : Opnd :=
  match a, b with
  | .nar, _ => .nar
  | _, .nar => .nar
  | .zero, .inf _ => .nar
  | .inf _, .zero => .nar
  | .zero, _ => .zero
  | _, .zero => .zero
  | .inf m, .inf n => .inf (m != n)
  | .inf m, .fin n _ => .inf (m != n)
  | .fin m _, .inf n => .inf (m != n)
  | .fin m p, .fin n q => .fin (m != n) (p + q)

/-- The products of two elements' terms: a W8P2 element gives one for each of its terms (R69), so that one with a ZERO term
times INF gives NaR (log entry 128: DESIGN CHOICE). -/
def prods (as bs : List Opnd) : List Opnd := as.flatMap (fun a => bs.map (prod a))

/-- The integer part of a finite term, for the demand (R73). -/
def intPart (m : Mode) (o : Opnd) : Option Int :=
  match o with
  | .fin _ p => some (p / (m.units : Int))
  | _ => none

/-- The larger of two optional integers. -/
def optMax (a b : Option Int) : Option Int :=
  match a, b with
  | none, b => b
  | a, none => a
  | some x, some y => some (max x y)

/-- E_r = m_A + m_B + 4, none when A or B has no finite non-zero term (R73). -/
def demandOf (m : Mode) (as bs : List Opnd) : Option Int :=
  match as.foldl (fun acc o => optMax acc (intPart m o)) none,
      bs.foldl (fun acc o => optMax acc (intPart m o)) none with
  | some a, some b => some (a + b + 4)
  | _, _ => none

/-- The antilog table of Table 3.4. -/
def antilogA : List Nat := [2048, 2233, 2435, 2656, 2896, 3158, 3444, 3756]

/-- H[h] of R72. -/
def antilogH (h : Nat) : Nat := (Exact.pow false h 5).rneScaled 23

/-- L[l] of R72. -/
def antilogL (l : Nat) : Nat := (Exact.pow false l 9).rneScaled 23

/-- x / 2^s rounded to nearest-even; s ≤ 0 shifts up exactly. -/
def rneDiv (x s : Int) : Int :=
  if s ≤ 0 then x * (2 ^ (-s).toNat : Nat)
  else
    let d : Int := (2 ^ s.toNat : Nat)
    let q := x / d
    let r := x % d
    if 2 * r < d then q else if 2 * r > d then q + 1 else if q % 2 = 0 then q else q + 1

/-- What a finite product of the 8-bit mode adds to N, in units of 2^(E - 17) (R71, R74). -/
def narrowTerm (e : Int) (neg : Bool) (p : Int) : Int :=
  let c := p / 8 + 6 - e
  let v := rneDiv (antilogA.getD (p % 8).toNat 0 : Nat) (-c)
  if neg then -v else v

/-- What a finite product of the L16 mode adds to W, in units of 2^(E - 33) (R72, R76). -/
def l16Term (e : Int) (neg : Bool) (p : Int) : Int :=
  let f := (p % 512).toNat
  let m : Int := rneDiv ((antilogH (f / 16) * antilogL (f % 16) : Nat) : Int) 23
  let v := rneDiv m (-(p / 512 - e + 10))
  if neg then -v else v

/-- The largest finite W (R75). -/
def wLimit : Int := 2 ^ 47 - 2

/-- Two special states, or a special and a finite word, combined by Table 3.7; none when both are
finite. -/
def wideSpecial (a b : Wide) : Option Wide :=
  match a, b with
  | .fin _, .fin _ => none
  | .nar, _ => some .nar
  | _, .nar => some .nar
  | .inf m, .inf n => some (if m = n then .inf m else .nar)
  | .inf m, .fin _ => some (.inf m)
  | .fin _, .inf n => some (.inf n)

/-- Is a word finite? -/
def Wide.isFin : Wide → Bool
  | .fin _ => true
  | _ => false

/-- A finite word shifted down by a rise (R75). -/
def Wide.rise (d : Int) : Wide → Wide
  | .fin w => .fin (rneDiv w d)
  | w => w

/-- The state of a group's words through one cycle of additions: E, the words by lane, whether the
range rule raised E, whether a lane met E = 511 (R75). -/
structure WideSet where
  e : Int
  w : Tab Wide
  raised : Bool
  limited : Bool
deriving DecidableEq, Repr

/-- The word of a lane; a lane not listed holds 0. -/
def laneW (w : Tab Wide) (l : Nat) : Wide := Tab.getD w l (.fin 0)

/-- The exact sum of a lane's finite word and its addend, none for a special lane. -/
def laneSum (w : Tab Wide) (a : Nat × Int) : Option (Nat × Int) :=
  match laneW w a.1 with
  | .fin x => some (a.1, x + a.2)
  | _ => none

/-- Does a finite word lie in range? -/
def inWRange (x : Int) : Bool := -wLimit ≤ x && x ≤ wLimit

/-- One cycle of additions into the words of a group (R75). -/
def wideAdd (s : WideSet) (adds : List (Nat × Int)) : WideSet :=
  let sums := adds.filterMap (laneSum s.w)
  if sums.all (fun a => inWRange a.2) then
    { s with w := sums.foldl (fun w a => Tab.set w a.1 (.fin a.2)) s.w }
  else if s.e < 511 then
    let shifted := Tab.mapVals s.w (fun _ w => w.rise 1)
    { s with
      e := s.e + 1
      w := sums.foldl (fun w a => Tab.set w a.1 (.fin (rneDiv a.2 1))) shifted
      raised := true }
  else
    { s with
      w := sums.foldl (fun w a => Tab.set w a.1 (if inWRange a.2 then .fin a.2 else .inf (a.2 < 0))) s.w
      limited := true }

/-- One level of the partial tree: lane l takes the word of lane l + stride (R80, R105). -/
def wideFold (s : WideSet) (pairs : List (Nat × Nat)) : WideSet :=
  let specials := pairs.filterMap (fun p =>
    (wideSpecial (laneW s.w p.1) (laneW s.w p.2)).map (fun w => (p.1, w)))
  let adds := pairs.filterMap (fun p =>
    match laneW s.w p.1, laneW s.w p.2 with
    | .fin _, .fin y => some (p.1, y)
    | _, _ => none)
  let s := wideAdd s adds
  { s with w := specials.foldl (fun w a => Tab.set w a.1 a.2) s.w }

/-- The lane pairs of one level: partials q and q + d for q a multiple of 2d below s. -/
def foldPairs (outs s d : Nat) : List (Nat × Nat) :=
  (List.range (s / (2 * d))).flatMap (fun i =>
    (List.range outs).map (fun o => (2 * d * i * outs + o, (2 * d * i + d) * outs + o)))

/-- The partial tree of R105 over the first partials; `outs` outputs, k-split s a power of two. (Log entry 45: DEDUCED.) -/
def partialTree (outs s : Nat) : Nat → Nat → WideSet → WideSet
  | 0, _, w => w
  | fuel + 1, d, w => if d < s then partialTree outs s fuel (2 * d) (wideFold w (foldPairs outs s d)) else w

/-! ### States that cross a boundary -/

/-- The state with no exponent and no value (R81, R130). (Log entry 43: DEDUCED.) -/
def Chain.empty : Chain := ⟨.fin 0, none⟩

/-- Combine two states (R81), with whether the range rule acted and whether E met its limit. -/
def Chain.combine (a b : Chain) : Chain × Bool × Bool :=
  let sp := wideSpecial a.w b.w
  match a.e, b.e with
  | none, none => (⟨sp.getD (.fin 0), none⟩, false, false)
  | some e, none => (⟨sp.getD a.w, some e⟩, false, false)
  | none, some e => (⟨sp.getD b.w, some e⟩, false, false)
  | some ea, some eb =>
    let e := max ea eb
    match sp with
    | some w => (⟨w, some e⟩, false, false)
    | none =>
      match a.w.rise (e - ea), b.w.rise (e - eb) with
      | .fin x, .fin y =>
        let z := x + y
        if inWRange z then (⟨.fin z, some e⟩, false, false)
        else if e < 511 then (⟨.fin (rneDiv z 1), some (e + 1)⟩, true, false)
        else (⟨.inf (z < 0), some e⟩, false, true)
      | _, _ => (⟨.nar, some e⟩, false, false)

/-- The pattern of a wide word (Table 3.5). -/
def wideBits : Wide → Nat
  | .nar => 0x800000000000
  | .inf n => if n then 0x800000000001 else 0x7FFFFFFFFFFF
  | .fin w => twosOf w 48

/-- The wide word of a 48-bit pattern (Table 3.5). -/
def wideOfBits (w : Nat) : Wide :=
  if w = 0x800000000000 then .nar
  else if w = 0x800000000001 then .inf true
  else if w = 0x7FFFFFFFFFFF then .inf false
  else .fin (signedOf w 48)

/-- The CHAIN word of a state (Table 4.8); E reads 0 when it was never set. -/
def chainBits (c : Chain) : Nat :=
  wideBits c.w + (match c.e with
    | some e => twosOf e 10 * 2 ^ 48 + 2 ^ 58
    | none => 0)

/-- The state a CHAIN word holds; none when the word is invalid (R124). -/
def chainOfBits (w : Nat) : Option Chain :=
  let v := wideOfBits (fieldOf w 47 0)
  if fieldOf w 63 59 != 0 then none
  else if bitOf w 58 then some ⟨v, some (signedOf (fieldOf w 57 48) 10)⟩
  else match v with
    | .fin 0 => some ⟨.fin 0, none⟩
    | .fin _ => none
    | v => some ⟨v, none⟩

/-- The state a word gives an output, and whether it was invalid (R124). -/
def chainLoad (w : Nat) : Chain × Bool :=
  match chainOfBits w with
  | some c => (c, false)
  | none => (⟨.nar, none⟩, true)

/-- The drained value of a state (R79); it depends on operands alone (R82). -/
def Chain.drain (c : Chain) : Val :=
  match c.w, c.e with
  | .nar, _ => .nar
  | .inf n, _ => .inf n
  | .fin _, none => .zero false
  | .fin w, some e =>
    let m := w.natAbs
    if m < 2 ^ 46 then Val.ofInt w (e - 33)
    else
      let d : Int := (Nat.log2 m : Int) - 45
      Val.ofInt (rneDiv w d) (d + e - 33)

end Sys2Proof.Machine
end

