-- ==== Sys2Proof/Machine/Descr.lean ====
section
/-! DEFINITION. Descriptors: their fields, their checks at fetch, the handles they read and write. -/

namespace Sys2Proof.Machine

def Desc.word (d : Desc) (i : Nat) : Nat :=
  ([d.w0, d.w1, d.w2, d.w3, d.w4, d.w5, d.w6, d.w7].map BitVec.toNat).getD i 0

/-- Bits [hi:lo] of word i of a descriptor. -/
def Desc.f (d : Desc) (i hi lo : Nat) : Nat := fieldOf (d.word i) hi lo

def Desc.opcode (d : Desc) : Nat := d.f 0 7 0
def Desc.func (d : Desc) : Nat := d.f 0 15 8

/-- The matrix descriptor's fields (Table 4.9); none when a format code is reserved. -/
def Desc.mat (d : Desc) : Option MatDesc :=
  match fmtOfCode (d.f 0 19 16), fmtOfCode (d.f 0 23 20) with
  | some fa, some fb => some
    { shape := d.f 0 10 8, transA := d.f 0 11 11 = 1, transB := d.f 0 12 12 = 1, cls := d.f 0 13 13
      epiNext := d.f 0 14 14 = 1, zskipDis := d.f 0 15 15 = 1, aFmt := fa, bFmt := fb
      accIn := d.f 0 24 24 = 1, accOut := d.f 0 25 25 = 1, link := d.f 0 27 26, bcastB := d.f 0 28 28 = 1
      conv := BitVec.ofNat 32 (d.f 0 63 32), a := d.f 1 31 0, b := d.f 1 63 32, c := d.f 2 31 0
      acc := d.f 2 63 32, m := d.f 3 23 0, n := d.f 3 47 24, batch := d.f 3 63 48, k := d.f 4 31 0
      kChunk := d.f 4 63 32, prev := d.f 5 17 0, nextPeer := d.f 5 35 18, tag := d.f 5 51 36 }
  | _, _ => none

def MatDesc.recvs (m : MatDesc) : Bool := 2 ≤ m.link
def MatDesc.sends (m : MatDesc) : Bool := m.link = 1 || m.link = 2
def MatDesc.drains (m : MatDesc) : Bool := !m.accOut && !m.sends
def Desc.convW (d : Desc) : Conv := Conv.ofNat (d.f 0 63 32)

/-- The formats a drain may write (R129). -/
def drainDst (c : Conv) : Bool := match c.dst with | some f => !f.isInt | none => false

/-- The checks of Table 4.10 that a matrix descriptor and its follower decide (R131, R364); a handle of 0 where a tensor is
needed is one (R127; log entry 163: DEDUCED). -/
def matFieldsOk (d : Desc) (follower : Option Desc) : Bool :=
  match d.mat with
  | none => false
  | some m =>
    (modeOf m.aFmt m.bFmt).isSome && m.kChunk % 32 = 0
    && m.a != 0 && m.b != 0 && (m.epiNext || m.c != 0 || m.accOut || m.sends)
    && !((m.accOut || m.sends) && (m.c != 0 || m.epiNext)) && !(m.accOut && m.sends)
    && (!m.epiNext || (match follower with | some e => e.opcode = 0x31 | none => false))
    && (m.epiNext || m.c = 0 || (d.convW.ok && d.convW.drainOk && drainDst d.convW)) && !d.convW.reserved
    && ((m.accIn || m.accOut) == (m.acc != 0))
    && (m.recvs || m.prev = 0) && (m.sends || m.nextPeer = 0)
    && d.f 0 31 29 = 0 && d.f 5 63 52 = 0 && d.word 6 = 0 && d.word 7 = 0

/-- Which of SRC_A, SRC_B, SRC_C a vector function takes (Table 5.3). -/
def vecSources (op func : Nat) (d : Desc) : Bool × Bool × Bool :=
  if op = 0x30 then
    if func = 0 then (true, (d.convW.src.map Fmt.isInt).getD false && d.convW.intMode, false)
    else if func = 5 then (true, true, true)
    else if (1 ≤ func ∧ func ≤ 4) ∨ (6 ≤ func ∧ func ≤ 8) then (true, true, false)
    else (true, false, false)
  else if op = 0x31 then (2 ≤ d.f 0 19 18, d.f 0 21 20 != 0, false)
  else (true, false, false)

/-- FUNC lies in Table 5.3. -/
def vecFuncOk (op func : Nat) : Bool :=
  if op = 0x30 then func ≤ 0x0F else if op = 0x31 then func = 0 else if op = 0x32 then func ≤ 6 else func = 0

/-- The checks of Table 5.15 that a vector descriptor's own fields, or its neighbour, decide; a mask is no source of R139 (log
entry 169: DEDUCED). -/
def vecFieldsOk (d : Desc) (before : Option Desc) : Bool :=
  let op := d.opcode
  let fn := d.func
  let (a, b, c) := vecSources op fn d
  let dst2 := op = 0x32 && fn = 6
  let conv := d.convW
  vecFuncOk op fn
  && (op != 0x31 || (match before with | some p => p.opcode = 0x20 && bitOf (p.word 0) 14 | none => false))
  && (d.f 1 31 0 != 0) == a && (d.f 1 63 32 != 0) == b && (d.f 4 63 32 != 0) == c
  && d.f 2 31 0 != 0 && (d.f 2 63 32 != 0) == dst2
  && (if op = 0x30 && fn = 0 then conv.ok
      else if op = 0x31 then conv.drainOk && drainDst conv
      else conv.ok && conv.src == some .l8)
  && (!(op = 0x32 && fn = 4) || conv.dst = some .fp32)
  && (d.f 0 16 16 == 1) == (d.f 3 31 0 != 0) && (d.f 0 16 16 = 0 || 0x32 ≤ op)
  && d.f 0 21 20 != 3 && (d.f 0 19 18 < 2 || op = 0x31)
  && (d.f 0 19 18 = 0 || op = 0x31 || op = 0x33)
  && (d.f 0 21 20 = 0 || op = 0x31)
  && (d.f 0 23 22 = 0 || op = 0x31 || (op = 0x30 && fn = 0x0E))
  && (op != 0x32 || (d.f 2 31 0 != d.f 1 31 0 && d.f 2 63 32 != d.f 1 31 0))
  && (op != 0x31 || (d.f 2 31 0 != d.f 1 31 0 && d.f 2 31 0 != d.f 1 63 32) )
  && d.f 0 31 24 = 0 && d.f 4 31 16 = 0 && d.word 5 = 0 && d.word 6 = 0 && d.word 7 = 0

/-- The checks of Table 6.5 that the ticket's descriptors decide for a LAYER at position `i`. -/
def layerFieldsOk (ds : List Desc) (i : Nat) (d : Desc) : Bool :=
  let len := d.f 0 39 32
  let scope := (ds.drop (i + 1)).take len
  let back := d.f 0 8 8 = 1
  len != 0 && i + len < ds.length && scope.all (fun e => e.opcode != 0x40)
  && (match ds[i + 1]? with | some e => e.opcode != 0x31 | none => true)
  && (match ds[i + len]? with | some e => !(e.opcode == 0x20 && bitOf (e.word 0) 14) | none => true)
  && (!back || (d.f 0 9 9 = 0 && d.f 0 10 10 = 0))
  && (back || (d.f 2 31 0 = 0 && d.f 2 63 32 = 0))
  && (d.f 2 31 0 == 0) == (d.f 2 63 32 == 0)
  && (back || d.f 1 31 0 = 0 || d.f 1 31 0 != d.f 1 63 32)
  && d.f 0 15 11 = 0 && d.f 0 63 40 = 0
  && [3, 4, 5, 6, 7].all (fun j => d.word j = 0)

/-- The checks of Table 7.11 that a collective descriptor's own fields decide; a handle of 0 where a tensor is needed is one
(log entry 163: DEDUCED). -/
def collFieldsOk (d : Desc) : Bool :=
  let op := d.opcode
  let red := op = 0x50
  let low := d.f 0 10 10 = 1
  let perm := op = 0x52
  let sc := d.f 3 15 0
  let dstOk := match d.convW.dst with
    | some f => f == .l8 || f == .lg8 || f == .l16 || f == .l32 || f == .fp32 || f == .bf16
    | none => false
  d.f 2 63 32 != 0 && (!red || d.f 1 31 0 != 0) && (!(op = 0x51 || d.f 0 8 8 = 1) || d.f 1 63 32 != 0)
  && (if red then d.convW.drainOk && dstOk else d.f 0 63 32 = 0)
  && (if red then sc % 2 ^ 15 != 0 && sc % 2 ^ 15 != 2 ^ 15 - 1 else sc = 0)
  && (red || (d.f 0 8 8 = 0 && d.f 0 9 9 = 0 && !low))
  && d.f 0 13 11 ≤ 4 && (if low then d.f 3 63 32 != 0 && d.f 4 31 0 != 0 else d.f 3 63 32 = 0 && d.f 4 31 0 = 0)
  && (if perm then d.f 5 15 0 = (d.f 0 31 16 + 1) % 2 ^ 16 && d.f 5 63 32 != 0
      else d.word 5 = 0 && d.f 6 47 0 = 0)
  && d.f 0 15 14 = 0 && d.f 2 31 16 = 0 && d.f 3 31 16 = 0 && d.f 4 63 32 = 0 && d.f 6 63 48 = 0
  && d.word 7 = 0

/-- The checks of a queue descriptor's reserved fields (R189). -/
def queueFieldsOk (d : Desc) : Bool :=
  d.f 0 15 8 = 0 && d.f 0 63 32 = 0 && d.f 1 63 32 = 0 && [2, 3, 4, 5, 6, 7].all (fun j => d.word j = 0)

/-- The slots and lengths a SLOT_SET sets (Table 12.18). -/
def slotEntries (d : Desc) : List (Nat × Nat) :=
  (List.range (d.f 0 10 8)).map (fun i => (d.f (i + 1) 12 0, d.f (i + 1) 47 16))

/-- The fields of a SLOT_SET (R379). -/
def slotSetFieldsOk (d : Desc) : Bool :=
  let n := d.f 0 10 8
  n != 0 && d.f 0 63 11 = 0
  && (List.range 7).all (fun i => if i < n then d.f (i + 1) 15 13 = 0 && d.f (i + 1) 63 48 = 0 else d.word (i + 1) = 0)

/-- Step 4 of R364 for the descriptor at position `i` of a ticket; reserved fields are zero (R10). -/
def descFieldsOk (ds : List Desc) (i : Nat) (d : Desc) : Bool :=
  let op := d.opcode
  if op = 0x20 then matFieldsOk d ds[i + 1]?
  else if 0x30 ≤ op ∧ op ≤ 0x33 then vecFieldsOk d (if i = 0 then none else ds[i - 1]?)
  else if op = 0x40 then layerFieldsOk ds i d
  else if op = 0x48 ∨ op = 0x49 then queueFieldsOk d
  else if 0x50 ≤ op ∧ op ≤ 0x52 then collFieldsOk d
  else if op = 0x60 then slotSetFieldsOk d
  else false

/-- The first descriptor that fails its field checks. -/
def firstBad (ds : List Desc) : Option Nat :=
  (List.range ds.length).find? (fun i => match ds[i]? with | some d => !descFieldsOk ds i d | none => true)

/-- The descriptor rules of R380; a batch runs exactly as its descriptors give it (R27, R381). -/
def batchOk (ds : List Desc) : Bool :=
  let head := ds.takeWhile (fun d => d.opcode = 0x60)
  let slots : List Nat := (head.flatMap slotEntries).map (fun e => e.1)
  head != [] && (ds.drop head.length).all (fun d => d.opcode != 0x60)
  && slots.length ≤ 256 && slots != [] && decide slots.Nodup

/-! ### Geometry (R100 to R104, R120) -/

/-- Mt, Nt and k-split of a SHAPE (Table 4.1). -/
def shapeOf : Nat → Nat × Nat × Nat
  | 0 => (64, 64, 1) | 1 => (32, 128, 1) | 2 => (128, 32, 1) | 3 => (16, 256, 1) | 4 => (256, 16, 1)
  | 5 => (32, 32, 4) | 6 => (16, 16, 16) | _ => (8, 8, 64)

def MatDesc.mt (d : MatDesc) : Nat := (shapeOf d.shape).1
def MatDesc.nt (d : MatDesc) : Nat := (shapeOf d.shape).2.1
def MatDesc.split (d : MatDesc) : Nat := (shapeOf d.shape).2.2
def MatDesc.gridI (d : MatDesc) : Nat := ceilDiv d.m d.mt
def MatDesc.gridJ (d : MatDesc) : Nat := ceilDiv d.n d.nt

/-- Output tiles of the descriptor; 0 when M, N or BATCH is zero (R130). -/
def MatDesc.tileCount (d : MatDesc) : Nat := d.batch * d.gridI * d.gridJ

/-- The number of an output tile in grid order. -/
def MatDesc.tileNo (d : MatDesc) (b ti tj : Nat) : Nat := (b * d.gridI + ti) * d.gridJ + tj

/-- Batch member, tile row and tile column of a tile's number. -/
def MatDesc.tileAt (d : MatDesc) (n : Nat) : Nat × Nat × Nat :=
  (n / (d.gridI * d.gridJ), n / d.gridJ % d.gridI, n % d.gridJ)

/-- Chunks of K, and the positions [c0, c1) of one (R120). -/
def MatDesc.chunkCount (d : MatDesc) : Nat := if d.kChunk = 0 ∨ d.k ≤ d.kChunk then 1 else ceilDiv d.k d.kChunk
def MatDesc.chunkRange (d : MatDesc) (c : Nat) : Nat × Nat :=
  if d.chunkCount = 1 then (0, d.k) else (c * d.kChunk, min ((c + 1) * d.kChunk) d.k)

/-- Rounds of a task on a chunk (R104). -/
def MatDesc.rounds (d : MatDesc) (c : Nat) : Nat :=
  let (c0, c1) := d.chunkRange c
  ceilDiv (ceilDiv (c1 - c0) 32) d.split

def MatDesc.mode (d : MatDesc) : Mode := (modeOf d.aFmt d.bFmt).getD .m8

/-- Terms of one k position: two for a W8P2 element (R84, R103). -/
def MatDesc.termsPer (d : MatDesc) : Nat := if d.aFmt = .w8p2 ∨ d.bFmt = .w8p2 then 2 else 1

/-- Rows and columns of an output tile that lie in C. (Log entry 46: DEDUCED.) -/
def MatDesc.rowsIn (d : MatDesc) (ti : Nat) : Nat := min d.mt (d.m - ti * d.mt)
def MatDesc.colsIn (d : MatDesc) (tj : Nat) : Nat := min d.nt (d.n - tj * d.nt)

/-! ### What a matrix operation has still to do -/

/-- Have all output tiles their final states? (Log entry 47: DEDUCED.) -/
def MatOp.complete (o : MatOp) : Bool := o.finals.length = o.d.tileCount

/-- The task of a tile and chunk. -/
def MatOp.task (o : MatOp) (ctx tile chunk : Nat) : TaskId :=
  let (b, ti, tj) := o.d.tileAt tile
  ⟨ctx, o.ring, o.tseq, o.pos, b, ti, tj, chunk⟩

/-- The next chunk that a tile's running sum takes. -/
def MatOp.nextChunk (o : MatOp) (tile : Nat) : Nat := ((Tab.get o.sums tile).map (·.nextChunk)).getD 0

/-- A linear output index for each place of a tile, none beyond C. -/
def MatDesc.tileIdx (d : MatDesc) (k : TaskId) : List (Option Nat) :=
  (List.range (d.mt * d.nt)).map (fun p =>
    let i := k.ti * d.mt + p / d.nt
    let j := k.tj * d.nt + p % d.nt
    if i < d.m ∧ j < d.n then some ((k.b * d.m + i) * d.n + j) else none)

/-- The received states of a tile, once all are there. -/
def MatOp.recvTile (o : MatOp) (k : TaskId) : Option (List Chain) :=
  let ps := (o.d.tileIdx k).map (fun p => match p with | some e => Tab.get o.received e | none => some .empty)
  if ps.all Option.isSome then some (ps.map (fun c => c.getD .empty)) else none

/-- Has a receiving link of an operation yet to deliver all that the operation still needs: every chunk of every tile is
summed, and words of every tile that is not final are to come (R126, Table 12.12; log entry 164: DEDUCED)? -/
def MatOp.awaitsWords (o : MatOp) : Bool :=
  o.d.recvs && !o.complete && (List.range o.d.tileCount).all (fun n =>
    Tab.has o.finals n || (o.nextChunk n = o.d.chunkCount && (o.recvTile (o.task 0 n 0)).isNone))

/-- Does an operation occupy engines, or is work of it ready for them? -/
def MatOp.runs (o : MatOp) : Bool := !o.drained && !o.awaitsWords

/-- Non-zero handles of a list. -/
def handles (l : List Nat) : List Nat := l.filter (· != 0)

/-- The tensors a descriptor reads. -/
def Desc.reads (d : Desc) : List Nat :=
  let op := d.opcode
  if op = 0x20 then
    handles ([d.f 1 31 0, d.f 1 63 32] ++ (if d.f 0 24 24 = 1 then [d.f 2 63 32] else []))
  else if 0x30 ≤ op ∧ op ≤ 0x33 then handles [d.f 1 31 0, d.f 1 63 32, d.f 4 63 32, d.f 3 31 0]
  else if op = 0x48 then handles [d.f 1 31 0]
  else if 0x50 ≤ op ∧ op ≤ 0x52 then handles [d.f 1 31 0, d.f 3 63 32, d.f 4 31 0]
  else []

/-- The tensors a descriptor writes; a matrix descriptor with an epilogue does not write C. -/
def Desc.writes (d : Desc) : List Nat :=
  let op := d.opcode
  if op = 0x20 then
    handles ((if d.f 0 14 14 = 1 then [] else [d.f 2 31 0]) ++ (if d.f 0 25 25 = 1 then [d.f 2 63 32] else []))
  else if 0x30 ≤ op ∧ op ≤ 0x33 then handles [d.f 2 31 0, d.f 2 63 32, d.f 3 63 32]
  else if op = 0x49 then handles [d.f 1 31 0]
  else if 0x50 ≤ op ∧ op ≤ 0x52 then handles [d.f 1 63 32, d.f 3 63 32, d.f 4 31 0]
  else []

/-- Does a descriptor use a tensor? -/
def Desc.uses (d : Desc) (h : Nat) : Bool := d.reads.contains h || d.writes.contains h

end Sys2Proof.Machine
end

