-- ==== Sys2Proof/Machine/Geometry.lean ====
section
/-! DEFINITION. The geometry of tensor images and extents (R43, R44, R137, R279, R292). -/

namespace Sys2Proof.Machine

/-! ### Geometry -/

def prodOf (l : List Nat) : Nat := l.foldl (· * ·) 1

/-- Rows over the innermost dimension (R137). -/
def rowsOf (dims : List Nat) : Nat := prodOf dims.dropLast
def rowLen (dims : List Nat) : Nat := dims.getLastD 1
def elemCount (dims : List Nat) : Nat := prodOf dims

/-- Elements a row takes in the element array (R43). -/
def storedRow (f : Fmt) (dims : List Nat) : Nat := if f.hasBlocks then alignUp (rowLen dims) 32 else rowLen dims
def blocksPerRow (dims : List Nat) : Nat := ceilDiv (rowLen dims) 32

/-- Bytes of the element array, the start and size of the scale plane, the byte image (R44, R279). -/
def arrayBytes (f : Fmt) (dims : List Nat) : Nat := ceilDiv (rowsOf dims * storedRow f dims * f.width) 8
def planeStart (f : Fmt) (dims : List Nat) : Nat := alignUp (arrayBytes f dims) 64
def planeBytes (f : Fmt) (dims : List Nat) : Nat :=
  if f.hasBlocks then ceilDiv (rowsOf dims * blocksPerRow dims) 2 else 0

def TObj.bytes (o : TObj) : Nat :=
  match o.kind with
  | .wide => 8 * elemCount o.dims
  | .kvView => 0
  | .ordinary => if o.fmt.hasBlocks then planeStart o.fmt o.dims + planeBytes o.fmt o.dims else arrayBytes o.fmt o.dims

/-- What an unlisted byte of a tensor's image reads as: zero, and 0xFF in the scale plane (R292). -/
def TObj.dflt (o : TObj) (a : Nat) : Byte :=
  if o.kind = .ordinary ∧ o.fmt.hasBlocks ∧ planeStart o.fmt o.dims ≤ a ∧ a < o.bytes then 0xFF else 0

/-- Extents of 2 MiB that an image takes, and units of 2 MiB (R279). -/
def TObj.extents (o : TObj) : Nat := ceilDiv o.bytes 2097152

/-- The charge of a tensor: its size to a multiple of 64 KiB (R178, R270). -/
def TObj.charge (o : TObj) : Nat := alignUp o.bytes 65536

/-- Bytes in units of 2 MiB. -/
def unitBytes : Nat := 2097152

/-- Bytes of extent i of an image. -/
def TObj.extentBytes (o : TObj) (i : Nat) : Nat := min unitBytes (o.bytes - i * unitBytes)

/-- The die of a tile, its cluster, the die of a cluster (R16). -/
def tileDie (t : Nat) : Nat := t / 32
def tileCluster (t : Nat) : Nat := t / 4
def clusterDie (c : Nat) : Nat := c / 8

/-- The piece of 64 KiB of an image that element e of row r, or the nibble of block j of row r, lies in. -/
def TObj.elemPiece (o : TObj) (r e : Nat) : Nat := (r * storedRow o.fmt o.dims + e) * o.fmt.width / 8 / 65536
def TObj.nibPiece (o : TObj) (r j : Nat) : Nat := (planeStart o.fmt o.dims + (r * blocksPerRow o.dims + j) / 2) / 65536

/-- The tiles of a partition in ascending number (R16). -/
def Part.tiles (p : Part) : List Nat := p.dies.flatMap (fun d => (List.range 32).map (fun i => 32 * d + i))

end Sys2Proof.Machine
end

