-- ==== Sys2Proof/Machine/Wake.lean ====
section
/-! DEFINITION. Asking for dies and clusters, and whether they are up (R24, R440, R442, R443). -/

namespace Sys2Proof.Machine

/-- Rails come up one die at a time, in ascending order: when none ramps, the lowest queued die does
(R443). -/
def State.rampNext (s : State) : State :=
  if (List.range 10).any (fun d => (s.die d).state = .ramping) then s
  else
    match (List.range 10).find? (fun d => (s.die d).queued) with
    | some d => s.setDie d { s.die d with queued := false, state := .ramping }
    | none => s

/-- A die is asked for: `run` when it is to reach RUN, else NAP for its stacks. -/
def State.wakeDie (s : State) (d : Nat) (run : Bool) : State :=
  let e := s.die d
  match e.state with
  | .off => (s.setDie d { e with queued := true, wantRun := e.wantRun || run }).rampNext
  | .nap => if run then s.setDie d { e with state := .waking, wantRun := true } else s.setDie d { e with idleSince := s.time.now }
  | .run => s
  | _ => s.setDie d { e with wantRun := e.wantRun || run }

/-- A cluster is asked for: it wakes, its die first. -/
def State.wakeCluster (s : State) (c : Nat) : State :=
  let e := s.cluster c
  let s1 := s.wakeDie (clusterDie c) true
  match e.state with
  | .sleep => s1.setCluster c { e with state := .waking }
  | _ => s1

/-- Every die and cluster of a list of dies wakes (R442). -/
def State.wakeDies (s : State) (ds : List Nat) : State :=
  ds.foldl (fun a d => (List.range 8).foldl (fun b i => b.wakeCluster (8 * d + i)) a) s

/-- Is a tile's cluster in RUN on a die in RUN? -/
def State.tileRuns (s : State) (tile : Nat) : Bool :=
  (s.cluster (tileCluster tile)).state = .run && (s.die (tileDie tile)).state = .run

/-- Are the stacks of a die reachable: is it in NAP or RUN (R440)? While it wakes, the model takes them as not yet reachable,
which costs time only (log entry 134: DEDUCED). -/
def State.stacksUp (s : State) (d : Nat) : Bool := (s.die d).state = .run || (s.die d).state = .nap

/-- What work needs of the module's units: tiles that run, dies whose stacks are reachable. -/
structure Needs where
  tiles : List Nat
  dies : List Nat
deriving DecidableEq, Repr

/-- Are they up? -/
def State.up (s : State) (n : Needs) : Bool := n.tiles.all s.tileRuns && n.dies.all s.stacksUp

/-- They are asked for: a die in NAP whose stacks are asked for is idle from now on only (R441, R442). -/
def State.wake (s : State) (n : Needs) : State :=
  let s1 := n.dies.foldl (fun a d => a.wakeDie d false) s
  (n.tiles.filter (fun t => !s.tileRuns t)).foldl (fun a t => a.wakeCluster (tileCluster t)) s1

end Sys2Proof.Machine
end

