-- ==== Sys2Proof/Machine/Extents.lean ====
section
/-! DEFINITION. Extents and their pieces of 64 KiB: homes, copies in tile SRAM and die pools, pin units, writes to
them, what a context takes away and brings back at a switch (R279, R283, R288, R295, R296, R300, R301). -/

namespace Sys2Proof.Machine

/-! ### Pieces -/

/-- A 64 KiB piece of an image, the grain of access counts, pin units and pages: of a tensor by its number in the image, or
a page of a pool. -/
structure PieceId where
  pool : Bool
  handle : Nat
  piece : Nat
deriving DecidableEq, Repr

/-- The extent that a piece lies in. -/
def PieceId.ext (p : PieceId) : ExtentId := ⟨p.pool, p.handle, p.piece / 32⟩

/-- Bytes of an image: a tensor's, or a pool's pages. -/
def Ctx.imageBytes (x : Ctx) (pool : Bool) (h : Nat) : Nat :=
  if pool then ((Tab.get x.pools h).map (fun p => p.obj.pages * 65536)).getD 0
  else ((x.tensor? h).map (fun t => t.obj.bytes)).getD 0

/-- Bytes of an extent; bytes of a piece of it, the last of an image perhaps shorter. -/
def Ctx.extBytes (x : Ctx) (e : ExtentId) : Nat := min unitBytes (x.imageBytes e.pool e.handle - e.index * unitBytes)
def Ctx.pieceBytes (x : Ctx) (e : ExtentId) (p : Nat) : Nat :=
  min 65536 (x.imageBytes e.pool e.handle - (e.index * unitBytes + p * 65536))

/-- Pieces of an extent of n bytes. -/
def piecesIn (n : Nat) : Nat := ceilDiv n 65536

/-! ### Entries -/

/-- The extents of a context: tensors by handle, then pools, each by number. -/
def Ctx.exts (x : Ctx) : List (ExtentId × Ext) :=
  x.tensors.flatMap (fun t => t.2.exts.map (fun e => (⟨false, t.1, e.1⟩, e.2)))
  ++ x.pools.flatMap (fun p => p.2.exts.map (fun e => (⟨true, p.1, e.1⟩, e.2)))

/-- The extent of a number. -/
def Ctx.ext? (x : Ctx) (e : ExtentId) : Option Ext :=
  if e.pool then (Tab.get x.pools e.handle).bind (fun p => Tab.get p.exts e.index)
  else (x.tensor? e.handle).bind (fun t => Tab.get t.exts e.index)

/-- Change an extent of a context. -/
def Ctx.modExt (x : Ctx) (e : ExtentId) (f : Ext → Ext) : Ctx :=
  if e.pool then { x with pools := Tab.modify x.pools e.handle (fun p => { p with exts := Tab.modify p.exts e.index f }) }
  else { x with tensors := Tab.modify x.tensors e.handle (fun t => { t with exts := Tab.modify t.exts e.index f }) }
def State.modExt (s : State) (ctx : Nat) (e : ExtentId) (f : Ext → Ext) : State := s.modCtx ctx (fun x => x.modExt e f)

/-- Every extent of a context changed. -/
def Ctx.mapExts (f : Ext → Ext) (x : Ctx) : Ctx :=
  { x with
    tensors := Tab.mapVals x.tensors (fun _ t => { t with exts := Tab.mapVals t.exts (fun _ e => f e) })
    pools := Tab.mapVals x.pools (fun _ p => { p with exts := Tab.mapVals p.exts (fun _ e => f e) }) }

/-- Pieces numbered over an image, changed extent by extent. -/
def Ctx.modPieces (x : Ctx) (ps : List PieceId) (f : PieceId → Ext → Ext) : Ctx := ps.foldl (fun y p => y.modExt p.ext (f p)) x

/-- The tile that holds a piece as a pin unit (R300). -/
def Ctx.pinTile (x : Ctx) (p : PieceId) : Option Nat := if p.pool then none else (x.tensor? p.handle).bind (fun t => t.pins[p.piece]?)

/-- Is a home in HBM? -/
def Home.isHbm : Home → Bool
  | .hbm _ => true
  | .ballast _ => false

/-- The die whose stack is an extent's home. -/
def Home.die : Home → Option Nat
  | .hbm st => some (st / 2)
  | .ballast _ => none

/-- Where an extent lies once its move is done. -/
def Ext.target (e : Ext) : Home := e.moving.getD e.home

/-! ### KV views (R307) -/

/-- Element bytes and scale bytes of a row, rows of a page. -/
def kvRowBytes (f : Fmt) (w : Nat) : Nat := w * f.width / 8
def kvScaleBytes (w : Nat) : Nat := w / 64
def kvRowsPerPage (f : Fmt) (w : Nat) : Nat :=
  ((List.range 65537).reverse.find? (fun n => alignUp (n * kvRowBytes f w) 64 + n * kvScaleBytes w ≤ 65536)).getD 0

/-- The page that holds row r of a view; none when the entry is not VALID, lies beyond the table, or
its PAGE beyond the pool (R308). -/
def kvPage (pool : Pool) (slot : SlotObj) (v : KvView) (f : Fmt) (r : Nat) : Option Nat :=
  let e := v.firstEntry + r / kvRowsPerPage f v.width
  if 32768 ≤ e then none
  else
    let w := (Tab.getD slot.table e 0).toNat
    if bitOf w 31 && fieldOf w 23 0 < pool.obj.pages then some (fieldOf w 23 0) else none

/-- A slot's object as a ticket sees it: with the page table of its acceptance (R306). -/
def Slot.seenAt (l : Slot) (accAt : Nat) : SlotObj :=
  match l.old.find? (fun e => accAt ≤ e.1) with
  | some e => { l.obj with table := e.2 }
  | none => l.obj

/-- The module as a run sees it: with the page tables of its acceptance (R306). -/
def State.seenBy (s : State) (r : Run) : State := { s with slots := Tab.mapVals s.slots (fun _ l => { l with obj := l.seenAt r.accAt }) }

/-- The module as the run of a ticket sees it. -/
def State.seenFor (s : State) (x : Ctx) (ring tseq : Nat) : State :=
  match findRun x.runs ring tseq with
  | some r => s.seenBy r
  | none => s

/-- The rows of a view now: the length of its slot (R307). -/
def State.viewRows (s : State) (o : TObj) : Nat := ((Tab.get s.slots o.kv.slot).map (fun l => l.obj.length)).getD 0

/-- The page of a row of a view, if it has one. -/
def State.viewPage (s : State) (x : Ctx) (o : TObj) (r : Nat) : Option Nat :=
  match Tab.get x.pools o.kv.pool, Tab.get s.slots o.kv.slot with
  | some pool, some slot => kvPage pool slot.obj o.kv o.fmt r
  | _, _ => none

/-- The pieces that the image of a tensor, or the pages of a view, lie in. -/
def State.piecesOf (s : State) (x : Ctx) (h : Nat) : List PieceId :=
  match x.tensor? h with
  | none => []
  | some t =>
    if t.obj.kind = .kvView then
      (((List.range (s.viewRows t.obj)).filterMap (s.viewPage x t.obj)).eraseDups).map (fun p => ⟨true, t.obj.kv.pool, p⟩)
    else (List.range (piecesIn t.obj.bytes)).map (fun p => ⟨false, h, p⟩)

/-- The pieces that given elements of a tensor, by linear index, lie in, their nibbles among them. -/
def State.elemPieces (s : State) (x : Ctx) (h : Nat) (es : List Nat) : List PieceId :=
  match x.tensor? h with
  | none => []
  | some t =>
    let o := t.obj
    match o.kind with
    | .wide => ((es.map (fun e => 8 * e / 65536)).eraseDups).map (fun p => ⟨false, h, p⟩)
    | .kvView => ((es.filterMap (fun e => s.viewPage x o (e / o.kv.width))).eraseDups).map (fun p => ⟨true, o.kv.pool, p⟩)
    | .ordinary =>
      let n := rowLen o.dims
      ((es.flatMap (fun e => o.elemPiece (e / n) (e % n) ::
        (if o.fmt.hasBlocks then [o.nibPiece (e / n) (e % n / 32)] else []))).eraseDups).map (fun p => ⟨false, h, p⟩)

/-- The dies whose stacks are homes of pieces, each once. -/
def Ctx.homeDies (x : Ctx) (ps : List PieceId) : List Nat :=
  (((ps.map PieceId.ext).eraseDups).filterMap (fun i => (x.ext? i).bind (fun e => e.home.die))).eraseDups

/-! ### Writes to copies (R296) -/

/-- A piece of an extent is written: the move under way is abandoned; the write goes to the pin unit, else to its first copy
in SRAM, else to its first copy in a die pool, which is dirty until it is written back, else to the home; the other
copies of it are dropped. (Log entry 71: DEDUCED.) -/
def Ext.wrote (pin : Option Nat) (p : Nat) (e : Ext) : Ext :=
  let mine := e.sram.filter (fun q => q.1 = p)
  let others := e.sram.filter (fun q => q.1 != p)
  let rest := e.dirty.filter (fun q => q.1 != p)
  let noPool := rest.filter (fun q => q.2 < 320)
  match pin, mine, e.pools with
  | some t, _, _ => { e with moving := none, sram := others, pools := [], dirty := (p, t) :: noPool }
  | none, q :: _, _ => { e with moving := none, sram := q :: others, pools := [], dirty := q :: noPool }
  | none, [], d :: _ => { e with moving := none, pools := [d], dirty := (p, 320 + d.1) :: rest.filter (fun q => q.2 < 320 || q.2 = 320 + d.1) }
  | none, [], [] => { e with moving := none, dirty := rest }

/-- The extents of an image of n extents. -/
def extentsOf (pool : Bool) (h n : Nat) : List ExtentId := (List.range n).map (fun i => ⟨pool, h, i⟩)

/-- The commit mark of a written extent (R330). -/
def addExts (l new : List ExtentId) : List ExtentId := new.foldl (fun a e => if a.contains e then a else a ++ [e]) l

/-- Is an image persistent: a tensor's, or a pool's pages? -/
def Ctx.keeps (x : Ctx) (pool : Bool) (h : Nat) : Bool :=
  if pool then ((Tab.get x.pools h).map (fun p => p.obj.persistent)).getD false
  else ((x.tensor? h).map (fun t => t.obj.persistent)).getD false

/-- Pieces of an image are written: their copies follow the write, and the extents they lie in are marked as written since the
last freeze when the image is persistent (R296, R330). -/
def Ctx.wrotePieces (x : Ctx) (ps : List PieceId) : Ctx :=
  let y := x.modPieces ps (fun p e => e.wrote (x.pinTile p) (p.piece % 32))
  let kept := (ps.filter (fun p => x.keeps p.pool p.handle)).map PieceId.ext
  { y with wrote := y.wrote || !kept.isEmpty, dirty := addExts y.dirty kept }

/-! ### Capacity of tile SRAM (R295, R299, R300) -/

/-- Pieces that a tile's SRAM holds beside its 256 KiB of operand windows: 7.75 MiB. -/
def sramPieces : Nat := 124

/-- Pin units and copies in the SRAM of a tile, of the contexts that are resident. -/
def State.sramUsed (s : State) (tile : Nat) : Nat :=
  (s.ctxs.map (fun c => if c.2.resident then
      (c.2.tensors.map (fun t => (t.2.pins.filter (· = tile)).length)).sum
      + (c.2.exts.map (fun e => (e.2.sram.filter (fun q => q.2 = tile)).length)).sum
    else 0)).sum

/-- The copy of lowest count in the SRAM of a tile: context, extent, piece; ties go to the first in order of context, handle
and extent (log entry 69: DEDUCED). -/
def State.coldCopy (s : State) (tile : Nat) : Option (Nat × ExtentId × Nat) :=
  ((s.ctxs.flatMap (fun c => c.2.exts.flatMap (fun e =>
      (e.2.sram.filter (fun q => q.2 = tile)).map (fun q => (e.2.count, c.1, e.1, q.1))))).foldl
    (fun (best : Option (Nat × Nat × ExtentId × Nat)) a => match best with
      | none => some a
      | some b => if a.1 < b.1 then some a else some b) none).map (·.2)

/-- A copy of a piece is dropped from a tile; a dirty one is written back first. -/
def Ext.dropPiece (p tile : Nat) (e : Ext) : Ext :=
  { e with sram := e.sram.filter (fun q => q != (p, tile)), dirty := e.dirty.filter (fun q => q != (p, tile)) }

/-- A piece is copied into the SRAM of a tile that needs it: copies of lowest count make room, pin units never; with no room
it only passes through the operand windows (R295, R299, R300). -/
def State.copyTo (s : State) (ctx tile : Nat) (p : PieceId) : State :=
  match s.ctx? ctx with
  | none => s
  | some x =>
    let add (a : State) : State := a.modExt ctx p.ext (fun e => { e with sram := e.sram ++ [(p.piece % 32, tile)] })
    if x.pinTile p = some tile || ((x.ext? p.ext).map (fun e => e.sram.contains (p.piece % 32, tile))).getD true then s
    else if s.sramUsed tile < sramPieces then add s
    else
      match s.coldCopy tile with
      | some (c, e, q) => add (s.modExt c e (Ext.dropPiece q tile))
      | none => s

/-! ### Die pools (R283, R295) -/

/-- Ways of a die that hold copies of its partition's extents: 14 of 16; the other two are the module's. -/
def poolWays : Nat := 14

/-- The lowest free way of a die. -/
def State.freeWay (s : State) (die : Nat) : Option Nat :=
  lowestFree poolWays (s.ctxs.flatMap (fun c => c.2.exts.filterMap (fun e => Tab.get e.2.pools die)))

/-- A die-pool copy is dropped; its dirty pieces are written back first. -/
def Ext.dropPool (die : Nat) (e : Ext) : Ext :=
  { e with pools := Tab.erase e.pools die, dirty := e.dirty.filter (fun q => q.2 != 320 + die) }

/-- Copies of an extent dropped without write-back (R377). -/
def Ext.dropCopies (e : Ext) : Ext := { e with sram := [], pools := [], dirty := [], spilled := [] }

/-! ### Context switches (R301, R375) -/

/-- The die of the holder of a dirty copy. -/
def holderDie (h : Nat) : Nat := if h < 320 then tileDie h else h - 320

/-- Bytes of the dirty copies of a context, and those on a die; of its copies in the spill area. -/
def Ctx.dirtyOn (x : Ctx) (on : Nat → Bool) : Nat :=
  (x.exts.map (fun e => ((e.2.dirty.filter (fun q => on (holderDie q.2))).map (fun q => x.pieceBytes e.1 q.1)).sum)).sum
def Ctx.dirtyBytes (x : Ctx) : Nat := x.dirtyOn (fun _ => true)
def Ctx.spilledOn (x : Ctx) (on : Nat → Bool) : Nat :=
  (x.exts.map (fun e => ((e.2.spilled.filter (fun q => on (holderDie q.2))).map (fun q => x.pieceBytes e.1 q.1)).sum)).sum
def Ctx.spilledBytes (x : Ctx) : Nat := x.spilledOn (fun _ => true)

/-- Bytes of a saved group (R118). -/
def savedBytes : Nat := 24576

/-- L_in,d of a context that returns: its pin units on a die, its spilled copies from it, its saved OPEN groups (R301). -/
def Ctx.lIn (x : Ctx) (die : Nat) : Nat :=
  (x.tensors.map (fun t => (((List.range t.2.pins.length).filter (fun i => (t.2.pins[i]?).map tileDie = some die)).map
      (fun i => min 65536 (t.2.obj.bytes - i * 65536))).sum)).sum
  + x.spilledOn (· = die) + ((x.saved.filter (fun v => v.group.state = .opened && tileDie v.tile = die)).length * savedBytes)

/-- An extent of a context that leaves its seat: clean copies dropped, pin units among them, the dirty ones spilled, or written
to their home when the spill area has no room (R301, R373). -/
def Ext.swapOut (room : Bool) (e : Ext) : Ext :=
  { e with sram := [], pools := [], dirty := [], spilled := if room then e.spilled ++ e.dirty else e.spilled }

/-- The spilled copies of an extent are read back to where they were, a die-pool copy while its die has a free way; what finds
no place stays in the spill area until it is merged (R283, R301). -/
def State.readBack (s : State) (ctx : Nat) (id : ExtentId) (e : Ext) : State :=
  e.spilled.foldl (fun a q =>
    let back (f : Ext → Ext) : State := a.modExt ctx id (fun k =>
      f { k with dirty := k.dirty ++ [q], spilled := k.spilled.filter (· != q) })
    if q.2 < 320 then
      if ((a.ctx? ctx).bind (fun x => x.pinTile ⟨id.pool, id.handle, id.index * 32 + q.1⟩)) = some q.2 then back (fun k => k)
      else if a.sramUsed q.2 < sramPieces then back (fun k => { k with sram := k.sram ++ [q] }) else a
    else
      let die := q.2 - 320
      if (((a.ctx? ctx).bind (fun x => x.ext? id)).bind (fun k => Tab.get k.pools die)).isSome then back (fun k => k)
      else match a.freeWay die with
        | some w => back (fun k => { k with pools := Tab.set k.pools die w })
        | none => a) s

/-- A context takes its seat: its spilled copies are read back (R301). -/
def State.swapIn (s : State) (ctx : Nat) : State :=
  match s.ctx? ctx with
  | none => s
  | some x => x.exts.foldl (fun a e => a.readBack ctx e.1 e.2) (s.modCtx ctx (fun y => { y with resident := true }))

end Sys2Proof.Machine
end

