-- ==== Sys2Proof/Machine/Sched.lean ====
section
/-! DEFINITION. Tickets in progress, scheduling within a partition, job faults (R326, R365 to R377). -/

namespace Sys2Proof.Machine

/-! ### Result records and completion of tickets -/

/-- A 16-byte record of only a DESC_STATUS. -/
def statusRecord (st : Nat) : List Byte := le 2 st ++ le 14 0

/-- Write a descriptor's result record at its place, unless the host has consumed the ticket (R343,
R363). -/
def State.putRecord (s : State) (ctx : Nat) (r : Run) (pos : Nat) (rec : List Byte) : State :=
  match r.mode with
  | .silent => s
  | _ => s.jobWrite (s.ownerOf ctx) (r.ticket.resultAddr + 16 * pos) rec

/-- The completion entry of a run (Table 12.10). -/
def Run.entry (r : Run) : List Byte :=
  le 8 r.tseq ++ le 2 (r.status.getD 0) ++ le 2 r.fault ++ le 2 r.index ++ le 2 0
    ++ le 8 r.ticket.userTag.toNat ++ le 8 r.ticket.commitId

/-- Is all of a ticket's work over: every descriptor ended, and a COMMIT's status decided? -/
def Run.over (r : Run) : Bool :=
  r.states.all (· = .ended) && (r.ticket.kind != 3 || r.status.isSome)

/-- A ticket whose work is over is DONE: its COMPLETE record is journaled, once there is room (R319, R326), unless it stands
in the journal from the first run (R343). -/
def State.settle (s : State) (ctx ring tseq : Nat) : State :=
  match (s.ctx? ctx).bind (fun x => findRun x.runs ring tseq) with
  | some r =>
    if r.over && r.doneSeq.isNone then
      let new := r.mode = .normal || r.mode = .replayed
      if new && !s.journalRoom 1 then s
      else
        let s1 := if new then s.journal ring ctx tseq [.complete r.entry] else s
        s1.modRun ctx ring tseq (fun q => { q with doneSeq := some s1.jr.nextSeq })
    else s
  | none => s

/-- A descriptor is dispatched: it is running, and the ticket's next position rises. -/
def State.startDesc (s : State) (ctx : Nat) (r : Run) : State :=
  s.modRun ctx r.ring r.tseq (fun q => { q.setState r.next .running with next := r.next + 1 })

/-- A descriptor ends with its record. -/
def State.endDesc (s : State) (ctx ring tseq pos : Nat) (rec : List Byte) : State :=
  match (s.ctx? ctx).bind (fun x => findRun x.runs ring tseq) with
  | some r =>
    ((s.putRecord ctx r pos rec).modRun ctx ring tseq (fun q => q.setState pos .ended)).settle ctx ring tseq
  | none => s

/-- Records NOT_RUN for the positions of a list. -/
def State.notRun (s : State) (ctx : Nat) (r : Run) : List Nat → State
  | [] => s
  | p :: ps => State.notRun ((s.putRecord ctx r p (statusRecord 2)).modRun ctx r.ring r.tseq (fun q => q.setState p .ended)) ctx r ps

/-- The next descriptor of a run fails a check at its dispatch (R365): MALFORMED, the later ones
NOT_RUN, the ticket DESC_REJECTED. -/
def State.rejectDesc (s : State) (ctx : Nat) (r : Run) : State :=
  let p := r.next
  let s1 := (s.putRecord ctx r p (statusRecord 1)).modRun ctx r.ring r.tseq
    (fun q => { q.setState p .ended with status := some 1, index := p, next := r.descs.length })
  ((s1.notRun ctx r ((List.range r.descs.length).filter (fun i => p < i && r.states[i]? = some .waiting))).settle
    ctx r.ring r.tseq)

/-- A run ends with a status before or without its work: waiting descriptors take NOT_RUN, running
ones ABANDONED, the one that raised a fault FAULT (R377). -/
def State.stopRun (s : State) (ctx : Nat) (r : Run) (status fault : Nat) (bad : Option Nat) : State :=
  let s1 := (List.range r.descs.length).foldl (fun a i =>
    match r.states[i]? with
    | some .ended => a
    | some .running => a.putRecord ctx r i (statusRecord (if bad = some i then 3 else 4))
    | _ => a.putRecord ctx r i (statusRecord (if bad = some i then 3 else 2))) s
  (s1.modRun ctx r.ring r.tseq (fun q => { q with
    states := q.states.map (fun _ => .ended), next := q.descs.length, status := some (q.status.getD status),
    fault := fault, index := bad.getD 0xFFFF })).settle ctx r.ring r.tseq

/-! ### What a descriptor waits for -/

/-- Is a tensor mapped through BAR2 (R303)? -/
def State.hostHeld (s : State) (ctx h : Nat) : Bool :=
  s.funs.any (fun f => f.2.maps.any (fun m => m.2.ctx = ctx && m.2.handle = h))

/-- Do two lists share an element? -/
def meet (a b : List Nat) : Bool := a.any (fun x => b.contains x)

/-- The KV pools of the tensors of a list: views of one pool are ordered by it (R308). -/
def Ctx.withPools (x : Ctx) (hs : List Nat) : List Nat :=
  hs.flatMap (fun h =>
    match x.tensor? h with
    | some t => if t.obj.kind = .kvView then [h, 2 ^ 32 + t.obj.kv.pool] else [h]
    | none => [h])

/-- Tensors a matrix descriptor in progress reads and writes. -/
def MatOp.reads (o : MatOp) : List Nat := handles ([o.d.a, o.d.b] ++ (if o.d.accIn then [o.d.acc] else []))
def MatOp.writes (o : MatOp) : List Nat := handles ((if o.d.epiNext then [] else [o.d.c]) ++ (if o.d.accOut then [o.d.acc] else []))

/-- Tensors a collective in progress reads and writes; a low-rank reduction writes its error and its Q state (R213). -/
def Coll.uses (c : Coll) : List Nat := handles [c.src, c.dst, c.ef, c.qstate]
def Coll.writes (c : Coll) : List Nat := handles [c.dst, c.ef, c.qstate]

/-- Tensors of QSENDs that are not yet acknowledged. -/
def Ctx.sending (x : Ctx) : List Nat :=
  x.queues.flatMap (fun q => q.2.unacked.filterMap (fun u =>
    (findRun x.runs u.1 u.2.1).bind (fun r => (r.descs[u.2.2]?).map (fun d => d.f 1 31 0))))

/-- Must a descriptor wait for earlier work that uses its tensors, or for the host (R213, R303, R308)? An epilogue does not
wait for the matrix descriptor it belongs to. -/
def State.conflicts (s : State) (ctx : Nat) (x : Ctx) (r : Run) (d : Desc) : Bool :=
  let rd := x.withPools d.reads
  let wr := x.withPools d.writes
  let own (o : MatOp) : Bool := d.opcode = 0x31 && o.ring = r.ring && o.tseq = r.tseq && o.pos + 1 = r.next
  x.ops.any (fun o => !own o && (meet wr (x.withPools (o.reads ++ o.writes)) || meet rd (x.withPools o.writes)))
  || x.colls.any (fun c => meet wr (x.withPools c.uses) || meet rd (x.withPools c.writes))
  || meet wr (x.withPools x.sending)
  || (d.reads ++ d.writes).any (fun h => s.hostHeld ctx h)

/-- Has a scope's last descriptor been dispatched, or the ticket been left? -/
def Scope.passed (sc : Scope) (r : Run) : Bool :=
  r.ring != sc.ring || r.tseq != sc.tseq || sc.pos + sc.len < r.next

/-- Does a tensor have to be recomputed before it is read (R184)? -/
def Ctx.dropped (x : Ctx) (h : Nat) : Bool :=
  x.stash.any (fun e => e.handle = h && e.tier = .dropped && !e.rebuilt)

/-- Does a tensor have to be gathered again before it is read (R273)? -/
def Ctx.released (x : Ctx) (h : Nat) : Bool :=
  match Tab.get x.gathered h with
  | some g => !g.held
  | none => false

/-- What a collective of an epoch waits for (R212, R218). -/
def Ctx.collWaits (x : Ctx) (d : Desc) : Bool :=
  let e := d.f 0 31 16
  let perms := x.colls.filter (fun c => c.kind = .permute)
  16 ≤ x.colls.length
  || (match Tab.get x.groups (d.f 2 15 0) with | some g => g.nodes.isEmpty | none => false)
  || (if d.opcode = 0x52 && e = x.epoch then x.colls.any (fun c => c.kind != .permute || c.newEpoch != (x.epoch + 1) % 2 ^ 16)
      else e != x.epoch && perms != [])

/-- Does a write to extents have to wait for a copy-on-write copy of one that is frozen (R332)? -/
def Ctx.frozenWait (x : Ctx) (es : List ExtentId) : Bool :=
  x.commits.any (fun c => c.dirty.any (fun e => !c.sent.contains e && !c.cow.contains e && es.contains e))

/-- The extents that a descriptor writes. -/
def State.writesExts (s : State) (x : Ctx) (d : Desc) : List ExtentId := (d.writes.flatMap (s.piecesOf x)).map PieceId.ext

/-- Must the next descriptor of a context wait for something that no engine of the job brings about (R190, R212, R213, R273, R303,
R393)? -/
def State.stalls (s : State) (ctx : Nat) (x : Ctx) (r : Run) (d : Desc) : Bool :=
  let op := d.opcode
  (s.fn x.owner).holdFullAt.isSome
  || (match x.scope with | some sc => sc.passed r | none => false)
  || (op = 0x31 && !(x.ops.any (fun o => o.ring = r.ring && o.tseq = r.tseq && o.pos + 1 = r.next && o.drained)))
  || s.conflicts ctx x r d
  || d.reads.any x.released
  || (op = 0x60 && !x.ops.isEmpty)
  || (op = 0x48 && (match Tab.get x.queues (d.f 0 31 16) with | some q => q.params.send && q.credits = 0 | none => false))
  || (op = 0x49 && (match Tab.get x.queues (d.f 0 31 16) with | some q => !q.params.send && q.slots.isEmpty | none => false))
  || (0x50 ≤ op && op ≤ 0x52 && x.collWaits d)
  || x.frozenWait ((s.seenBy r).writesExts x d)

/-- Must it wait, be it only for the recomputation of an entry that it reads (R184)? -/
def State.waits (s : State) (ctx : Nat) (x : Ctx) (r : Run) (d : Desc) : Bool := s.stalls ctx x r d || d.reads.any x.dropped

/-- The context state that Table 12.12 gives; a recomputation is work on the engines. -/
def State.cstate (s : State) (ctx : Nat) (x : Ctx) : CState :=
  if x.state = .faulted then .faulted
  else if x.runs.isEmpty then .idle
  else if (s.key ctx).isNone then .blocked
  else
    match x.nextDesc with
    | some (r, d) => if s.stalls ctx x r d then (if x.ops.any MatOp.runs then .runnable else .blocked) else .runnable
    | none => if x.ops.any MatOp.runs then .runnable else .blocked

/-! ### Slices (R370 to R375) -/

/-- The contexts of a partition with a bound ring, in ascending order of key. -/
def State.byKey (s : State) (part : Nat) : List Nat :=
  ((s.rings.map (fun e => e.2.params.ctx)).eraseDups).filter (fun c => s.partOf c = part && (s.ctx? c).isSome)

/-- Is a context resident and RUNNABLE, swapped out and RUNNABLE? -/
def State.canRun (s : State) (resident : Bool) (c : Nat) : Bool :=
  match s.ctx? c with
  | some x => x.resident == resident && x.state = .runnable
  | none => false

/-- Seats of a partition that no context holds. -/
def State.seatFree (s : State) (part : Nat) : Bool :=
  match Tab.get s.parts part with
  | some p => ((s.ctxsOf part).filter (fun e => e.2.resident)).length < p.params.seats
  | none => false

/-- The list rotated to begin after an element. -/
def rotateAfter (l : List Nat) (a : Nat) : List Nat :=
  let pre := l.takeWhile (· != a)
  l.drop (pre.length + 1) ++ pre ++ (if l.contains a then [a] else [])

/-- Free space of a partition's spill area: less the groups saved by resident contexts and the spilled copies
not yet merged (R375). -/
def State.spillFree (s : State) (part : Nat) : Nat :=
  let size := ((Tab.get s.parts part).map (fun p => p.params.spillHbm * unitBytes)).getD 0
  let xs := (s.ctxsOf part).map (·.2)
  size - ((xs.filter (·.resident)).map (fun x => x.saved.length * savedBytes)).sum - (xs.map Ctx.spilledBytes).sum

/-- A context leaves its seat: its copies go, and its ready tasks wait for their operands again (R301).
(Log entry 68: DEDUCED.) -/
def State.swapOut (s : State) (part v : Nat) : State :=
  match s.ctx? v with
  | none => s
  | some x =>
    let room := x.dirtyBytes ≤ s.spillFree part
    let mine (k : TaskId) : Bool := k.ctx = v
    let back := s.tiles.flatMap (fun t => (t.2.ready.filter mine).map (fun k => (k, t.1)))
    let s1 := { s with tiles := Tab.mapVals s.tiles (fun _ t => { t with ready := t.ready.filter (fun k => !mine k) }) }
    s1.setCtx v { x.mapExts (Ext.swapOut room) with
      resident := false
      ops := x.ops.map (fun o => { o with
        placed := o.placed ++ back.filter (fun (e : TaskId × Nat) => e.1.ring = o.ring && e.1.tseq = o.tseq && e.1.pos = o.pos) }) }

/-- Begin a switch to a context with a slice of the given length (R372). -/
def State.beginSwitch (s : State) (part ctx len : Nat) (out : Option Nat) : State :=
  let s1 := match out with
    | some v => s.swapOut part v
    | none => s
  s1.modPart part (fun p => { p with slice := none, yield := none, switch := some ⟨some ctx, len, out⟩ })

/-- Among contexts, the one with the least measure; ties go to the first. -/
def leastBy (f : Nat → Nat) : List Nat → Option Nat
  | [] => none
  | a :: l =>
    match leastBy f l with
    | none => some a
    | some b => if f b < f a then some b else some a

/-- Resident contexts of a partition, in ascending key, those without a ring after them. -/
def State.residents (s : State) (part : Nat) : List Nat :=
  let ks := s.byKey part
  let all := (s.ctxsOf part).map (·.1)
  (ks ++ all.filter (fun c => !ks.contains c)).filter (fun c => ((s.ctx? c).map (·.resident)).getD false)

def State.isState (s : State) (c : Nat) (st : CState) : Bool := ((s.ctx? c).map (fun x => decide (x.state = st))).getD false

/-- R373: the context to swap out, if any, and the swapped-out RUNNABLE context to bring in. -/
def State.swapChoice (s : State) (part : Nat) : Option (Option Nat × Nat) :=
  match (s.byKey part).find? (s.canRun false) with
  | none => none
  | some c =>
    let res := s.residents part
    if s.seatFree part then some (none, c)
    else
      match res.find? (fun v => s.isState v .idle) with
      | some v => some (some v, c)
      | none =>
        if res.all (fun v => s.isState v .blocked || s.isState v .idle) then
          match leastBy (fun v => ((s.ctx? v).map (·.blockTime)).getD 0) (res.filter (fun v => s.isState v .blocked)) with
          | some v => some (some v, c)
          | none => none
        else none

/-- The priority of a context. -/
def State.prio (s : State) (c : Nat) : Nat := ((s.ctx? c).map (·.priority)).getD 0

/-- The resident context that a pre-emption swaps out: of lowest priority, IDLE first, then the BLOCKED one of
oldest block time, then the one of highest key (R374). (Log entry 66: DEDUCED.) -/
def State.victim (s : State) (part : Nat) : Option Nat :=
  let res := (s.residents part).reverse
  match leastBy s.prio res with
  | none => none
  | some low =>
    let eq := res.filter (fun v => s.prio v = s.prio low)
    match eq.find? (fun v => s.isState v .idle) with
    | some v => some v
    | none =>
      match leastBy (fun v => ((s.ctx? v).map (·.blockTime)).getD 0) (eq.filter (fun v => s.isState v .blocked)) with
      | some v => some v
      | none => eq.head?

/-- What a pre-emption by a context swaps out, if anything. -/
def State.preemptOut (s : State) (part c : Nat) : Option Nat :=
  if ((s.ctx? c).map (·.resident)).getD false || s.seatFree part then none else s.victim part

/-- A slice of a partition ends: a refused pre-emption is tried once more, else a pre-empted holder resumes, else R373, else the next RUNNABLE
resident context by R370, else the holder begins a new slice at once. -/
def State.passSlice (s : State) (part : Nat) : State :=
  match Tab.get s.parts part with
  | none => s
  | some p =>
    let holder := p.slice.map (·.ctx)
    let again := p.retry.filter (fun c => (s.canRun true c || s.canRun false c) && holder.all (fun h => s.prio h < s.prio c))
    let back := p.preempted.find? (fun e => s.canRun true e.1)
    match again, back with
    | some c, _ => (s.beginSwitch part c (p.quantum * 1000) (s.preemptOut part c)).modPart part (fun q => { q with retry := none })
    | none, some (c, left) =>
      (s.beginSwitch part c left none).modPart part (fun q => { q with preempted := (q.preempted.dropWhile (fun e => e.1 != c)).drop 1 })
    | none, none =>
      match s.swapChoice part with
      | some (out, c) => s.beginSwitch part c (p.quantum * 1000) out
      | none =>
        let order := match holder with | some h => rotateAfter (s.byKey part) h | none => s.byKey part
        match order.find? (s.canRun true) with
        | some c =>
          if holder = some c then
            s.modPart part (fun q => { q with yield := none, slice := some ⟨c, s.time.now, p.quantum * 1000⟩ })
          else s.beginSwitch part c (p.quantum * 1000) none
        | none => s.modPart part (fun q => { q with yield := none, slice := none })

/-- A context arrives (R374): into an idle partition it gets the slice; over a holder of lower priority, or one
that a switch brings in, it asks for a yield point. (Log entry 67: DEDUCED.) -/
def State.arrive (s : State) (ctx : Nat) : State :=
  let part := s.partOf ctx
  match Tab.get s.parts part with
  | none => s
  | some p =>
    match (match p.switch with | some w => w.incoming | none => p.slice.map (·.ctx)) with
    | none => if p.switch.isNone then s.passSlice part else s
    | some holder =>
      if s.prio holder < s.prio ctx then
        match p.yield with
        | some (.preempt c) =>
          if s.prio c < s.prio ctx then s.modPart part (fun q => { q with yield := some (.preempt ctx) }) else s
        | _ => s.modPart part (fun q => { q with yield := some (.preempt ctx) })
      else s

/-! ### Waiting TENSOR_MAPs (R303) -/

/-- Is a tensor read or written by a running descriptor (R303)? -/
def Ctx.inUse (x : Ctx) (handle : Nat) : Bool :=
  let v := x.withPools [handle]
  x.ops.any (fun o => meet v (x.withPools (o.reads ++ o.writes))) || x.colls.any (fun c => meet v (x.withPools c.uses))
  || meet v (x.withPools x.sending)

/-- The mapping made for the owner's aperture. -/
def State.makeMapping (s : State) (fn ctx handle offset size : Nat) : State :=
  s.modFn fn (fun f => { f with maps := Tab.set f.maps offset ⟨ctx, handle, size, []⟩ })

/-- Waiting TENSOR_MAPs of a context complete when the descriptors that used their tensors have completed (R303); one whose
function has become unavailable meanwhile leaves no mapping (R392; log entry 161: DEDUCED), and one whose tensor has been deleted
meanwhile ends with NO_OBJECT (R477; log entry 162: DEDUCED). -/
def State.retryMaps (s : State) (ctx : Nat) : State :=
  s.funs.foldl (fun a f =>
    match (a.fn f.1).mbox.waiting, a.ctx? ctx with
    | some (h, .map c handle off), some x =>
      if c = ctx && h.fn = f.1 && !x.inUse handle then
        match (x.tensor? handle).filter (·.deletedAt.isNone) with
        | some t => (if (a.fn h.fn).avail then a.makeMapping h.fn c handle off t.obj.bytes else a).finishCmd h 0 0 []
        | none => a.finishCmd h 1 0x12 []
      else a
    | _, _ => a) s

/-- Bring a context's state up to date after an event: a TENSOR_MAP that waited for a descriptor completes, BLOCKED takes the present time, a context that
enters RUNNABLE arrives, a holder that leaves RUNNABLE ends its slice (R369, R370, R374). -/
def State.refresh (s0 : State) (ctx : Nat) : State :=
  let s := s0.retryMaps ctx
  match s.ctx? ctx with
  | none => s
  | some x =>
    let st := s.cstate ctx x
    if st = x.state then s
    else
      let s1 := s.setCtx ctx { x with
        state := st
        blockTime := if st = .blocked then (match (s.fn x.owner).holdFullAt with | some t => t | none => s.time.now) else x.blockTime }
      let part := x.params.partition
      if st = .runnable then s1.arrive ctx
      else if ((Tab.get s1.parts part).bind (fun p => p.slice.map (·.ctx))) = some ctx then s1.passSlice part
      else s1

/-- Does a context hold its partition's slice (R369)? -/
def State.holdsSlice (s : State) (ctx : Nat) : Bool :=
  match Tab.get s.parts (s.partOf ctx) with
  | some p => (p.slice.map (·.ctx)) = some ctx
  | none => false

/-! ### Job faults (R377) -/

/-- Every group, drain stage and ready task of a context is freed (R119). -/
def Tile.dropCtx (t : Tile) (ctx : Nat) : Tile :=
  let mine (g : Group) : Bool := (g.owner.map (fun o => o.ctx == ctx)).getD false
  { t with
    engines := Tab.mapVals t.engines (fun _ e =>
      { e with
        groups := e.groups.filter (fun g => !mine g.2)
        current := match e.current with
          | some i => if (match Tab.get e.groups i with | some g => mine g | none => false) then none else some i
          | none => none
        stage := match e.current with
          | some i => if (match Tab.get e.groups i with | some g => mine g | none => false) then [] else e.stage
          | none => e.stage })
    stages := t.stages.filter (fun st => st.2.2.2.1.ctx != ctx)
    ready := t.ready.filter (fun k => k.ctx != ctx)
    arrived := t.arrived.filter (fun k => k.ctx != ctx) }

/-- The context with its work in progress stopped: operations, collectives, scope, saved groups,
copies and seat gone (steps 1 to 4 of R377). What other modules ask of its objects stays. -/
def Ctx.stopped (x : Ctx) : Ctx :=
  { x.mapExts Ext.dropCopies with
    ops := [], colls := [], scope := none, saved := [], resident := false, chains := [], chainOwed := []
    waitingMsgs := x.waitingMsgs.filter (fun m => m.msg.typeCode < 0x10 || m.msg.typeCode = 0x21), replay := none }

/-- Steps 1 to 5 of R377: the context is torn down, the FAULT journaled, JOB_FAULT reported. -/
def State.teardown (s : State) (ctx cause tseq : Nat) : State :=
  match s.ctx? ctx with
  | none => s
  | some x =>
    let s1 := { s with tiles := Tab.mapVals s.tiles (fun _ t => t.dropCtx ctx) }
    let s2 := s1.setCtx ctx { x.stopped with state := .faulted, faultCause := cause }
    let s3 := (s2.journalIf 0xFFFF ctx tseq [.fault cause (if cause = 1 then (x.scope.map (·.layer)).getD 0 else 0)]).event x.owner 0x01 ctx cause tseq
    if s.holdsSlice ctx then s3.passSlice x.params.partition
    else s3.modPart x.params.partition (fun p => { p with
      preempted := p.preempted.filter (fun e => e.1 != ctx)
      yield := if p.yield = some (.preempt ctx) then none else p.yield
      retry := if p.retry = some ctx then none else p.retry })

/-- Step 6 of R377: the ticket whose descriptor raised the fault completes FAULTED, the others
CONTEXT_FAULTED. -/
def State.faultTickets (s : State) (ctx cause : Nat) (by_ : Option (Nat × Nat × Nat)) : State :=
  ((((s.ctx? ctx).map (·.runs)).getD []).foldl (fun a r =>
    if r.doneSeq.isSome || r.over then a
    else
      match by_ with
      | some (ring, tseq, pos) =>
        if r.ring = ring ∧ r.tseq = tseq then a.stopRun ctx r 2 cause (some pos) else a.stopRun ctx r 3 0 none
      | none => a.stopRun ctx r 3 0 none) s)

/-- A job fault (R377). `by_` names the descriptor that raised it. -/
def State.jobFault (s : State) (ctx cause : Nat) (by_ : Option (Nat × Nat × Nat)) : State :=
  match s.ctx? ctx with
  | none => s
  | some x =>
    if x.state = .faulted then s
    else ((s.teardown ctx cause ((by_.map (fun b => b.2.1)).getD 0)).faultTickets ctx cause by_)

/-- A job fault raised by the next descriptor of a run at its dispatch. -/
def State.faultAt (s : State) (ctx : Nat) (r : Run) (cause : Nat) : State :=
  s.jobFault ctx cause (some (r.ring, r.tseq, r.next))

/-- The lowest tile of the partition of a context. -/
def State.lowTile (s : State) (ctx : Nat) : Option Nat :=
  ((Tab.get s.parts (s.partOf ctx)).map Part.tiles).bind List.head?

/-- What a descriptor needs to be up when it is dispatched: vector work a vector engine, the model's lowest tile of the partition
(log entry 35: DEDUCED), and, as queues and collectives do, the stacks that its tensors lie in (R24, R442). A matrix descriptor's tasks
wake the tiles they are placed on. -/
def State.needs (s : State) (ctx : Nat) (x : Ctx) (r : Run) (d : Desc) : Needs :=
  let op := d.opcode
  let vec := 0x30 ≤ op && op ≤ 0x33
  let far := op = 0x48 || op = 0x49 || (0x50 ≤ op && op ≤ 0x52)
  ⟨if vec then (s.lowTile ctx).toList else [],
   if vec || far then x.homeDies ((d.reads ++ d.writes).flatMap ((s.seenBy r).piecesOf x)) else []⟩

/-- The units that the next descriptor of a context needs are asked for, if it waits for nothing else (R24, R442). -/
def State.wakeNext (s : State) (ctx : Nat) : State :=
  match s.ctx? ctx with
  | none => s
  | some x =>
    match x.nextDesc with
    | none => s
    | some (r, d) => if s.live && x.state != .faulted && x.rollbackDue.isNone && !s.waits ctx x r d then s.wake (s.needs ctx x r d) else s

/-- The context's next descriptor, when it may be dispatched now: its opcode is the one asked for, it
waits for nothing, the context holds the slice where it needs engines, and the units it needs are up (R24, R365, R369). -/
def State.dispatchable (s : State) (ctx opcode : Nat) (func : Option Nat) (slice : Bool) : Option (Ctx × Run × Desc) :=
  match s.ctx? ctx with
  | none => none
  | some x =>
    match x.nextDesc with
    | none => none
    | some (r, d) =>
      if s.live && x.state != .faulted && d.opcode = opcode && (match func with | some f => d.func = f | none => true)
          && !s.waits ctx x r d && (!slice || s.holdsSlice ctx) && x.rollbackDue.isNone && s.up (s.needs ctx x r d)
      then some (x, r, d) else none

end Sys2Proof.Machine
end

