-- ==== Sys2Proof/Machine/Tensors.lean ====
section
/-! DEFINITION. Tensor objects and their byte images: geometry, element codes, scale planes, KV views,
extents, write counts (R41 to R44, R290 to R293, R305 to R308). -/

namespace Sys2Proof.Machine

/-! ### Bytes of an image -/

/-- The byte at an offset; `d` gives what an offset not listed reads as. -/
def Mem.get (d : Nat → Byte) (m : Mem) (a : Nat) : Byte := Tab.getD m a (d a)

/-- Write one byte, keeping the canonical form: no entry equals what its offset reads as unlisted. -/
def Mem.put (d : Nat → Byte) (m : Mem) (a : Nat) (b : Byte) : Mem :=
  if b = d a then Tab.erase m a else Tab.set m a b

/-- Write bytes from an offset on. -/
def Mem.putAll (d : Nat → Byte) : Mem → Nat → List Byte → Mem
  | m, _, [] => m
  | m, a, b :: bs => Mem.putAll d (Mem.put d m a b) (a + 1) bs

/-- Read n bytes from an offset on. -/
def Mem.read (d : Nat → Byte) (m : Mem) (a n : Nat) : List Byte := (List.range n).map (fun i => Mem.get d m (a + i))

/-- The canonical form: offsets strictly rising, no entry equal to its unlisted value. -/
def Mem.wf (d : Nat → Byte) (m : Mem) : Bool := Tab.wf m && m.all (fun e => e.2 != d e.1)

/-! ### Element codes in a list of bytes -/

/-- The code of the e-th element of width w in bytes, low bits first (R9, R60). -/
def codeAt (get : Nat → Byte) (w e : Nat) : Nat :=
  if w < 8 then fieldOf (get (e * w / 8)).toNat (e * w % 8 + w - 1) (e * w % 8)
  else ofLeBytes ((List.range (w / 8)).map (fun i => get (e * (w / 8) + i)))

/-- The nibble of block j of a plane at `base` (R44). -/
def nibbleAt (get : Nat → Byte) (base j : Nat) : Nat :=
  let b := (get (base + j / 2)).toNat
  if j % 2 = 0 then b % 16 else b / 16

/-- Set the e-th element of width w. -/
def putCode (d : Nat → Byte) (m : Mem) (base w e code : Nat) : Mem :=
  if w < 8 then
    let a := base + e * w / 8
    let sh := e * w % 8
    let old := (Mem.get d m a).toNat
    Mem.put d m a (BitVec.ofNat 8 (old - fieldOf old (sh + w - 1) sh * 2 ^ sh + code % 2 ^ w * 2 ^ sh))
  else Mem.putAll d m (base + e * (w / 8)) (leBytes (w / 8) code)

/-- Set the nibble of block j. -/
def putNibble (d : Nat → Byte) (m : Mem) (base j n : Nat) : Mem :=
  let a := base + j / 2
  let old := (Mem.get d m a).toNat
  Mem.put d m a (BitVec.ofNat 8 (if j % 2 = 0 then old / 16 * 16 + n % 16 else n % 16 * 16 + old % 16))

/-! ### Whole tensors -/

/-- What a new page reads as (log entry 10: DESIGN CHOICE). -/
def pageDflt (_ : Nat) : Byte := 0


/-- A tensor's contents: format, T, shape, codes and nibbles by row. -/
structure TData where
  fmt : Fmt
  t : Int
  dims : List Nat
  codes : List (List Nat)
  nibs : List (List Nat)
deriving DecidableEq, Repr

/-- The values of a row of codes under T and its nibbles (R41, R42). -/
def rowVals (f : Fmt) (t : Int) (codes nibs : List Nat) : List Val :=
  (codes.zip (List.range codes.length)).map (fun c =>
    if f.hasBlocks then
      let b := nibs.getD (c.2 / 32) 15
      if b = 15 then .zero false else decodeElem f c.1 (t + (b : Int))
    else decodeElem f c.1 t)

def TData.vals (d : TData) : List (List Val) :=
  (d.codes.zip d.nibs).map (fun r => rowVals d.fmt d.t r.1 r.2)

/-- The logical shape of a tensor now: a KV view takes its slot's length (R307). -/
def State.dimsOf (s : State) (o : TObj) : List Nat :=
  match o.kind with
  | .kvView => [((Tab.get s.slots o.kv.slot).map (fun l => l.obj.length)).getD 0, o.kv.width]
  | _ => o.dims

/-- Read an ordinary image. -/
def readImage (o : TObj) (m : Mem) : TData :=
  let get := Mem.get o.dflt m
  let n := rowLen o.dims
  let base := planeStart o.fmt o.dims
  let rows := List.range (rowsOf o.dims)
  { fmt := o.fmt, t := o.t, dims := o.dims
    codes := rows.map (fun r => (List.range n).map (fun i => codeAt get o.fmt.width (r * storedRow o.fmt o.dims + i)))
    nibs := rows.map (fun r => if o.fmt.hasBlocks then
      (List.range (blocksPerRow o.dims)).map (fun j => nibbleAt get base (r * blocksPerRow o.dims + j)) else []) }

/-- Read row r of a KV view from a page. -/
def readKvRow (o : TObj) (pool : Pool) (page r : Nat) : List Nat × List Nat :=
  let n := kvRowsPerPage o.fmt o.kv.width
  let k := r % n
  let get := fun a => Mem.get pageDflt pool.img (page * 65536 + a)
  ((List.range o.kv.width).map (fun i => codeAt (fun a => get (k * kvRowBytes o.fmt o.kv.width + a)) o.fmt.width i),
   if o.fmt.hasBlocks then
     (List.range (o.kv.width / 32)).map (fun j =>
       nibbleAt get (alignUp (n * kvRowBytes o.fmt o.kv.width) 64 + k * kvScaleBytes o.kv.width) j)
   else [])

/-- A tensor's contents, or none when a KV page faults (R308, R380). -/
def State.readTensor (s : State) (x : Ctx) (h : Nat) : Option TData :=
  match x.tensor? h with
  | none => none
  | some t =>
    match t.obj.kind with
    | .kvView =>
      match Tab.get x.pools t.obj.kv.pool, Tab.get s.slots t.obj.kv.slot with
      | some pool, some slot =>
        let l := slot.obj.length
        let pages := (List.range l).map (kvPage pool slot.obj t.obj.kv t.obj.fmt)
        if t.obj.kv.maxRows < l || pages.any Option.isNone then none
        else
          let rows := (List.range l).map (fun r => readKvRow t.obj pool ((pages.getD r none).getD 0) r)
          some ⟨t.obj.fmt, t.obj.t, [l, t.obj.kv.width], rows.map (·.1), rows.map (·.2)⟩
      | _, _ => none
    | _ => some (readImage t.obj t.img)

/-- Write rows of codes into the element array of an image; an element with no code keeps what it held. -/
def writeCodes (o : TObj) (m : Mem) (codes : List (List (Option Nat))) : Mem :=
  (codes.zip (List.range codes.length)).foldl (fun m row =>
    (row.1.zip (List.range row.1.length)).foldl (fun m e =>
      match e.1 with
      | some c => putCode o.dflt m 0 o.fmt.width (row.2 * storedRow o.fmt o.dims + e.2) c
      | none => m) m) m

/-- The nibbles of the scale plane of an image, by row. -/
def writeNibs (o : TObj) (m : Mem) (nibs : List (List (Option Nat))) : Mem :=
  (nibs.zip (List.range nibs.length)).foldl (fun m row =>
    (row.1.zip (List.range row.1.length)).foldl (fun m e =>
      match e.1 with
      | some b => putNibble o.dflt m (planeStart o.fmt o.dims) (row.2 * blocksPerRow o.dims + e.2) b
      | none => m) m) m

/-- The pads of a row's last block, as codes beside those of the row: ZERO when the block is written (R43). -/
def padRow (n : Nat) (row : List (Option Nat)) : List (Option Nat) :=
  if ((row.drop (n / 32 * 32)).any Option.isSome) then row ++ List.replicate (alignUp n 32 - n) (some 0) else row

/-- Write rows of codes and nibbles into an image; an element with no code keeps what it held. The pads of a block
that is written are stored as ZERO (R43). -/
def writeImage (o : TObj) (m : Mem) (codes : List (List (Option Nat))) (nibs : List (List (Option Nat))) : Mem :=
  if o.fmt.hasBlocks then writeNibs o (writeCodes o m (codes.map (padRow (rowLen o.dims)))) nibs
  else writeCodes o m codes

/-- Write row r of a KV view into a page. -/
def writeKvRow (o : TObj) (m : Mem) (page r : Nat) (codes nibs : List (Option Nat)) : Mem :=
  let n := kvRowsPerPage o.fmt o.kv.width
  let k := r % n
  let at0 := page * 65536
  let m1 := (codes.zip (List.range codes.length)).foldl (fun m e =>
    match e.1 with
    | some c => putCode pageDflt m (at0 + k * kvRowBytes o.fmt o.kv.width) o.fmt.width e.2 c
    | none => m) m
  if o.fmt.hasBlocks then
    (nibs.zip (List.range nibs.length)).foldl (fun m e =>
      match e.1 with
      | some b => putNibble pageDflt m (at0 + alignUp (n * kvRowBytes o.fmt o.kv.width) 64 + k * kvScaleBytes o.kv.width) e.2 b
      | none => m) m1
  else m1

/-- Every element to be written. -/
def allOf (rows : List (List Nat)) : List (List (Option Nat)) := rows.map (fun r => r.map some)

/-- The pieces of an image that rows of codes and nibbles are written to. -/
def TObj.writtenPieces (o : TObj) (codes nibs : List (List (Option Nat))) : List Nat :=
  let at_ (f : Nat → Nat → Nat) (rows : List (List (Option Nat))) : List Nat :=
    (rows.zip (List.range rows.length)).flatMap (fun r =>
      ((r.1.zip (List.range r.1.length)).filter (fun e => e.1.isSome)).map (fun e => f r.2 e.2))
  ((at_ o.elemPiece codes) ++ (if o.fmt.hasBlocks then at_ o.nibPiece nibs else [])).eraseDups

/-- Write rows into a tensor of a context: an ordinary or wide image, or the pages of a view, with T
for a format that has one. The write count does not move. None when a page faults. -/
def State.writeTensor (s : State) (x : Ctx) (h : Nat) (t : Int) (codes nibs : List (List (Option Nat))) : Option Ctx :=
  match x.tensor? h with
  | none => none
  | some te =>
    match te.obj.kind with
    | .kvView =>
      match Tab.get x.pools te.obj.kv.pool, Tab.get s.slots te.obj.kv.slot with
      | some pool, some slot =>
        let l := slot.obj.length
        let pages := (List.range l).map (kvPage pool slot.obj te.obj.kv te.obj.fmt)
        if te.obj.kv.maxRows < l || pages.any Option.isNone then none
        else
          let page (r : Nat) : Nat := (pages.getD r none).getD 0
          let img := (List.range l).foldl (fun m r => writeKvRow te.obj m (page r) r (codes.getD r []) (nibs.getD r [])) pool.img
          let rows := (List.range l).filter (fun r => (codes.getD r []).any Option.isSome || (nibs.getD r []).any Option.isSome)
          some ({ x with
            pools := Tab.set x.pools te.obj.kv.pool { pool with img := img }
            tensors := Tab.set x.tensors h { te with obj := { te.obj with t := if te.obj.fmt.hasT then t else te.obj.t } } }.wrotePieces
              (((rows.map page).eraseDups).map (fun p => ⟨true, te.obj.kv.pool, p⟩)))
      | _, _ => none
    | _ =>
      let o2 := { te.obj with t := if te.obj.fmt.hasT then t else te.obj.t }
      let te2 := { te with obj := o2, img := writeImage te.obj te.img codes nibs }
      some ({ x with tensors := Tab.set x.tensors h te2 }.wrotePieces ((o2.writtenPieces codes nibs).map (fun p => ⟨false, h, p⟩)))

/-- Every piece of a tensor's image has been written. -/
def Ctx.wroteAll (x : Ctx) (h : Nat) : Ctx :=
  x.wrotePieces ((List.range (piecesIn (((x.tensor? h).map (fun t => t.obj.bytes)).getD 0))).map (fun p => ⟨false, h, p⟩))

/-- A tensor's write count rises by one (R293). -/
def Ctx.countWrite (x : Ctx) (h : Nat) : Ctx :=
  { x with tensors := Tab.modify x.tensors h (fun t => { t with obj := { t.obj with writes := (t.obj.writes + 1) % 2 ^ 64 } }) }

/-- The write count of a tensor. -/
def Ctx.writesOf (x : Ctx) (h : Nat) : Nat := ((x.tensor? h).map (fun t => t.obj.writes)).getD 0

/-- The CHAIN word at element e of a wide tensor, as bits. -/
def wideAt (t : Tensor) (e : Nat) : Nat := ofLeBytes (Mem.read t.obj.dflt t.img (8 * e) 8)

/-- Store a CHAIN word. -/
def putWide (t : Tensor) (e w : Nat) : Tensor := { t with img := Mem.putAll t.obj.dflt t.img (8 * e) (leBytes 8 w) }

/-! ### Sizes and quotas (R288, R290, R305) -/

/-- HBM of a partition for job quotas, in units: 63.75 GiB for each stack less spill and
copy-on-write areas (R286, R287). -/
def Part.quotaUnits (p : Part) : Nat := 32640 * (2 * p.dies.length) - p.params.spillHbm - p.params.cowHbm

/-- Ballast of the partition parts of n channels, in units (Table 10.2). -/
def State.ballastUnits (s : State) (n : Nat) : Nat := n * (if s.order1536 then 20480 else 10240)

/-- Bytes of queue slots a context holds as a receiver (R188). -/
def Ctx.queueBytes (x : Ctx) : Nat :=
  (x.queues.map (fun q => if q.2.params.send then 0 else q.2.params.depth * q.2.params.entryBytes)).sum

/-- The placement share in bytes, for a GATHER_HBM of so many units (R288). -/
def Ctx.shareWith (x : Ctx) (gather : Nat) : Nat :=
  (x.params.hbmQuota - x.params.stashHbm - x.params.chainArea - gather) * unitBytes - x.queueBytes
def Ctx.placementShare (x : Ctx) : Nat := x.shareWith x.gatherHbm

/-- Is a tensor a stash entry of the ledger that its region holds (R178, R179)? A recomputed one is placed as an ordinary tensor
(R184). -/
def Ctx.stashed (x : Ctx) (h : Nat) : Bool := x.stash.any (fun e => e.handle = h && !(e.tier = .dropped && e.rebuilt))

/-- Is an extent one that the placement share and BALLAST_QUOTA are for? Stash entries have regions of their own. -/
def Ctx.ordinary (x : Ctx) (e : ExtentId) : Bool := e.pool || !x.stashed e.handle

/-- Bytes of the extents that a condition names. -/
def Ctx.bytesOf (x : Ctx) (p : ExtentId → Ext → Bool) : Nat :=
  ((x.exts.filter (fun e => p e.1 e.2)).map (fun e => x.extBytes e.1)).sum

/-- Bytes of extents whose home is in HBM, in ballast, and of pools. -/
def Ctx.hbmHeld (x : Ctx) : Nat := x.bytesOf (fun i e => x.ordinary i && e.home.isHbm)
def Ctx.ballastHeld (x : Ctx) : Nat := x.bytesOf (fun i e => x.ordinary i && !e.home.isHbm)
def Ctx.poolBytes (x : Ctx) : Nat := x.bytesOf (fun i _ => i.pool)

/-- Is there room for an image (R290)? Where the extents lie does not matter (R297). -/
def Ctx.quotaOk (x : Ctx) (bytes : Nat) : Bool :=
  x.hbmHeld + x.ballastHeld + bytes ≤ x.placementShare + x.params.ballastQuota * unitBytes

/-- Is there room for a pool, which never lies in ballast (R305)? Extents of tensors that are in its way move out by the next
window (R295); which of them lie in HBM now does not matter (R297; log entry 133: DEDUCED). -/
def Ctx.poolOk (x : Ctx) (bytes : Nat) : Bool := x.poolBytes + bytes ≤ x.placementShare && x.quotaOk bytes

/-- Mirror slots that the persistent images of all jobs take (R335). -/
def State.persistentSlots (s : State) : Nat :=
  (s.ctxs.map (fun c =>
    ((c.2.tensors.map (fun t => if t.2.obj.persistent then t.2.obj.extents else 0)).sum
      + (c.2.pools.map (fun p => if p.2.obj.persistent then ceilDiv (p.2.obj.pages * 65536) unitBytes else 0)).sum))).sum

/-- Bytes of the extents whose home is a stack, over all contexts. -/
def State.stackLoad (s : State) (st : Nat) : Nat := (s.ctxs.map (fun c => c.2.bytesOf (fun _ e => e.home = .hbm st))).sum

/-- The stack of a list that has the most free space, the lower one on a tie (R295). -/
def State.freeStack (s : State) (stks : List Nat) : Nat := (leastBy s.stackLoad stks).getD 0

/-- The stacks of a partition. -/
def Part.stacks (p : Part) : List Nat := p.dies.flatMap (fun d => [2 * d, 2 * d + 1])

/-- Homes for the extents of a new image by Table 10.7: in HBM while the placement share has room, on the stack with the most
free space; else in ballast on the partition's channels in turn. A pool's are all in HBM (R305). -/
def State.newExts (s : State) (x : Ctx) (bytes : Nat) (pool : Bool) : Tab Ext :=
  match Tab.get s.parts x.params.partition with
  | none => []
  | some p =>
    let sizes := (List.range (ceilDiv bytes unitBytes)).map (fun i => (i, min unitBytes (bytes - i * unitBytes)))
    ((sizes).foldl (fun (acc : List (Nat × Nat) × Nat × Tab Ext) i =>
      if pool || i.2 ≤ acc.2.1 then
        match leastBy (fun st => ((acc.1.find? (fun e => e.1 = st)).map (·.2)).getD 0) p.stacks with
        | some st => (acc.1.map (fun e => if e.1 = st then (st, e.2 + i.2) else e), acc.2.1 - i.2, acc.2.2 ++ [(i.1, { home := .hbm st })])
        | none => acc
      else (acc.1, acc.2.1, acc.2.2 ++ [(i.1, { home := .ballast (p.channels.getD (i.1 % max 1 p.channels.length) 0) })]))
      (p.stacks.map (fun st => (st, s.stackLoad st)), x.placementShare - x.hbmHeld, [])).2.2

/-- A tensor whose image has no extents, because it was dropped or released, is placed as a new one (R184, R272, R295). -/
def State.house (s : State) (x : Ctx) (h : Nat) : Ctx :=
  match x.tensor? h with
  | some t => if t.exts.isEmpty && t.obj.bytes != 0 then { x with tensors := Tab.set x.tensors h { t with exts := s.newExts x t.obj.bytes false } } else x
  | none => x

/-- Pin units of an image (R300). -/
def pinUnits (bytes : Nat) : Nat := ceilDiv bytes 65536

end Sys2Proof.Machine
end

