-- ==== Sys2Proof/Machine/Errs.lean ====
section
/-! DEFINITION. Error records, coalescing, logbook counters, the stop of all work (R421, R426,
R429 to R434). -/

namespace Sys2Proof.Machine

/-- Add to a saturating logbook counter of the given width. -/
def bump (bits : Nat) (t : Tab Nat) (i n : Nat) : Tab Nat := Tab.set t i (satAdd bits (Tab.getD t i 0) n)

/-- EVENTS[i] of the logbook rises (Table 14.11). -/
def State.countEvent (s : State) (i : Nat) : State :=
  { s with logbook := { s.logbook with events := bump 64 s.logbook.events i 1 } }

/-- Logbook counter of a unit's corrected (`ue = false`) or uncorrectable words (R433). -/
def Logbook.countUnit (l : Logbook) (ue : Bool) (source unit : Nat) : Logbook :=
  if source = 0x01 ∨ source = 0x02 then
    if ue then { l with tileUe := bump 32 l.tileUe unit 1 } else { l with tileCe := bump 32 l.tileCe unit 1 }
  else if source = 0x03 then
    if ue then { l with poolUe := bump 32 l.poolUe unit 1 } else { l with poolCe := bump 32 l.poolCe unit 1 }
  else if source = 0x04 then
    if ue then { l with stackUe := bump 32 l.stackUe unit 1 } else { l with stackCe := bump 32 l.stackCe unit 1 }
  else if source = 0x05 then
    if ue then { l with dimmUe := bump 32 l.dimmUe unit 1 } else { l with dimmCe := bump 32 l.dimmCe unit 1 }
  else if source = 0x06 then { l with parity := bump 32 l.parity unit 1 }
  else if source = 0x07 then { l with events := bump 64 l.events (if ue then 15 else 14) 1 }
  else l

/-- What an error record holds (Table 14.4). -/
structure ErrRec where
  time : Nat
  cls : Nat
  source : Nat
  unit : Nat
  ctx : Nat := 0xFFFF
  part : Nat := 0xFF
  action : Nat
  address : Nat := 0
  count : Nat := 1
  syndrome : Nat := 0
  tseq : Nat := 0
  ring : Nat := 0xFFFF
  detail : Nat := 0
  detail2 : Nat := 0
deriving DecidableEq, Repr

/-- The 64 bytes of a record (Table 14.4). -/
def ErrRec.bytes (r : ErrRec) (seq : Nat) : List Byte :=
  let b := le 8 seq ++ le 8 r.time ++ le 1 r.cls ++ le 1 r.source ++ le 2 r.unit ++ le 2 r.ctx ++ le 1 r.part
    ++ le 1 r.action ++ le 8 (r.address % 2 ^ 48) ++ le 4 r.count ++ le 4 r.syndrome ++ le 8 r.tseq ++ le 2 r.ring
    ++ le 2 r.detail ++ le 8 r.detail2
  b ++ le 4 (crc32c b)

/-- Classes counted in UE_COUNT (Table 14.6). -/
def countedUe (cls : Nat) : Bool := (2 ≤ cls && cls ≤ 5) || cls = 7

/-- Write an error record: the log, its counters, the logbook and the ERROR event (R429 to R433). -/
def State.putError (s : State) (r : ErrRec) : State :=
  let n := s.errs.seq + 1
  let bytes := r.bytes n
  let s1 := { s with
    errs := { s.errs with
      seq := n
      records := Tab.set (s.errs.records.filter (fun e => n < e.1 + 16384)) n bytes
      wrapped := s.errs.wrapped || 16384 < n
      ueCount := if countedUe r.cls then satAdd 16 s.errs.ueCount 1 else s.errs.ueCount }
    logbook :=
      let l := if 2 ≤ r.cls ∧ r.cls ≤ 5 then s.logbook.countUnit true r.source r.unit else s.logbook
      if countedUe r.cls then { l with lastFailures := (l.lastFailures ++ [bytes]).drop ((l.lastFailures.length + 1) - 64) } else l }
  s1.event 0 0x06 r.ctx (r.cls + r.source * 2 ^ 8 + r.unit * 2 ^ 16) n

/-- An occurrence of a class whose records coalesce over a 1 ms window (R429). -/
def State.coalesce (s : State) (c : Coalesced) : State :=
  let same (w : Coalesced) : Bool := w.cls = c.cls && w.unit = c.unit && w.ctx = c.ctx && w.start = c.start
  let more (w : Coalesced) : Coalesced :=
    { w with count := w.count + 1, action := if c.action = 4 then 4 else w.action }
  let win := if s.errs.window.any same then s.errs.window.map (fun w => if same w then more w else w)
    else s.errs.window ++ [c]
  { s with errs := { s.errs with window := win } }

/-- The start of the present 1 ms window of fabric time. -/
def State.msStart (s : State) : Nat := s.time.now / 1000000 * 1000000

/-- A packet is discarded as MISROUTED (R239, R429). -/
def State.misrouted (s : State) (port : Nat) : State :=
  ((s.modPort port (fun p => { p with misrouted := satAdd 32 p.misrouted 1 })).coalesce
    ⟨0x09, 0x0A, port, 0xFFFF, 0xFF, 1, s.msStart, 0, 0, 0, 0xFFFF, 0, 0, 8⟩)

/-- A message for an object that was destroyed is discarded; it counts as MISROUTED at the port it came in on (R356; log
entry 149: DEDUCED). -/
def State.misroutedMsg (s : State) (port : Nat) : State := if port < 36 then s.misrouted port else s

/-- The logbook's working copy is committed into the older bank (R432). -/
def State.commitLogbook (s : State) : State :=
  let l := { s.logbook with generation := s.logbook.generation + 1 }
  let older0 := match s.flash.bank0, s.flash.bank1 with
    | none, _ => true
    | some _, none => false
    | some a, some b => a.generation ≤ b.generation
  { s with
    logbook := l
    flash := if older0 then { s.flash with bank0 := some l } else { s.flash with bank1 := some l } }

/-- All work stops: engines, drain stages, ready tasks, slices and switches (R426, R450). -/
def State.stopAll (s : State) : State :=
  { s with
    tiles := []
    parts := Tab.mapVals s.parts (fun _ p => { p with slice := none, yield := none, switch := none, preempted := [], retry := none })
    ctxs := Tab.mapVals s.ctxs (fun _ x => { x with ops := [], colls := [], scope := none }) }

end Sys2Proof.Machine
end

