-- ==== Sys2Proof/Machine/Gheit.lean ====
section
/-! DEFINITION. How the winch runs a command block: taking it, the order of checks, completion (R351
to R355, R392, R477, R478). -/

namespace Sys2Proof.Machine

/-- How a command ends: OK with the values it returns laid out from byte 16, REFUSED with a cause and
RESULT word 0, MALFORMED, NOT_PERMITTED, or it waits. -/
inductive CmdEnd where
  | ok (result : List Byte) (t : State)
  | refused (cause : Nat) (word0 : Nat)
  /-- refused, with a state that the failed attempt left -/
  | refusedIn (cause : Nat) (word0 : Nat) (t : State)
  | malformed
  | notPermitted
  | waits (w : WaitCmd) (t : State)
  /-- the block stays pending -/
  | stays

/-- Lay values out by R478: each aligned to its own width, bytes skipped zero. -/
def packValues : List Byte → List (Nat × Nat) → List Byte
  | acc, [] => acc
  | acc, (w, v) :: l => packValues (acc ++ List.replicate (alignUp acc.length w - acc.length) 0 ++ leBytes w v) l

/-- Values returned, as (width, value) in the order listed. -/
def result (l : List (Nat × Nat)) : List Byte := packValues [] l

/-- Blocks are pending in a function's mailbox and none of them executes (R353). -/
def State.mboxPending (s : State) (fn : Nat) : Bool :=
  let f := s.fn fn
  f.avail && f.mbox.enable && !f.mbox.stopped && f.mbox.waiting.isNone && f.mbox.head != f.mbox.tail

/-- Round-robin: the first requester from the pointer on (R376). -/
def roundRobin (n p : Nat) (req : Nat → Bool) : Option Nat :=
  ((List.range n).map (fun i => (p + i) % n)).find? req

/-- The function whose block the winch takes next (R353, R376). -/
def State.mboxWinner (s : State) : Option Nat := roundRobin 63 s.arb.mailbox s.mboxPending

/-- May the winch execute a command of the function now? -/
def State.canTake (s : State) (fn : Nat) : Bool := s.live && s.mboxWinner = some fn

/-- Has an entry made the own journal longer than its area (R319)? -/
def State.overfull (s t : State) : Bool := s.journalCap < t.jr.own.length && s.jr.own.length < t.jr.own.length

/-- What an executed command leaves. One whose entry finds no room in the journal stays pending, since it completes only once
it is journaled (R319, R321; log entry 153: DESIGN CHOICE). -/
def State.endCmd (s : State) (h : CmdHead) : CmdEnd → State
  | .ok res t => if s.overfull t then s else t.finishCmd h 0 0 res
  | .stays => s
  | .refused c w => s.finishCmd h 1 c (leBytes 8 w)
  | .refusedIn c w t => t.finishCmd h 1 c (leBytes 8 w)
  | .malformed => s.finishCmd h 2 0 []
  | .notPermitted => s.finishCmd h 3 0 []
  | .waits w t => (t.modFn h.fn (fun g => { g with mbox := { g.mbox with
      waiting := some (h, w), block := some g.mbox.blockAddr, restarted := false } })).granted h.fn

/-- Run a command block: nothing happens unless the winch can take it; a reserved byte or a parameter
out of range is MALFORMED; a command of the physical function alone is NOT_PERMITTED to others
(R353 to R355; the order of the two is log entry 11: DEDUCED). -/
def runCmd (h : CmdHead) (bad pf : Bool) (body : State → CmdEnd) (s : State) : State :=
  if !s.canTake h.fn then s
  else if h.reserved || bad then s.endCmd h .malformed
  else if pf && h.fn != 0 then s.endCmd h .notPermitted
  else s.endCmd h (body s)

/-- A command outcome as a step. (Log entry 88: DESIGN CHOICE.) -/
def gheit (h : CmdHead) (bad pf : Bool) (body : State → CmdEnd) (s : State) : Out :=
  withUnit (h.fn ≤ 62) (runCmd h bad pf body s)

/-- Owner commands on a context: NO_OBJECT when it does not exist, NOT_PERMITTED to a function that is
neither its owner nor the physical function (R355, R477). -/
def forOwner (h : CmdHead) (ctx : Nat) (k : Ctx → CmdEnd) (s : State) : CmdEnd :=
  match s.ctx? ctx with
  | none => .refused 0x12 0
  | some x => if h.fn = x.owner ∨ h.fn = 0 then k x else .notPermitted

/-- Refuse with the cause of the first condition that holds. -/
def refuseIf : List (Bool × Nat) → CmdEnd → CmdEnd
  | [], k => k
  | (c, cause) :: l, k => if c then .refused cause 0 else refuseIf l k

/-- Is a number a vector of a function (R388)? -/
def vectorOk (fn v : Nat) : Bool := if fn = 0 then v < 64 else v < 32

/-- Does a number fit in n bits? -/
def fits (n v : Nat) : Bool := v < 2 ^ n

end Sys2Proof.Machine
end

