-- ==== Sys2Proof/Machine/Mapping.lean ====
section
/-! DEFINITION. The mapper: route masks, reach classes, node formation, plans (R240, R247, R254 to
R265, R268). -/

namespace Sys2Proof.Machine

/-- A list of numbers in ascending order. -/
def insertNat (a : Nat) : List Nat → List Nat
  | [] => [a]
  | b :: l => if a ≤ b then a :: b :: l else b :: insertNat a l

def sortNat : List Nat → List Nat
  | [] => []
  | a :: l => insertNat a (sortNat l)

/-- Insert by a measure, after its equals; sort by it, stable. -/
def insertBy {α : Type} (f : α → Nat) (a : α) : List α → List α
  | [] => [a]
  | b :: l => if f a ≤ f b then a :: b :: l else b :: insertBy f a l

def sortBy {α : Type} (f : α → Nat) : List α → List α
  | [] => []
  | a :: l => insertBy f a (sortBy f l)

/-! ### Reach -/

/-- The mask of fabric ports towards an identity: the direct table first, then the block table
(R240). (Log entry 121: DEDUCED.) -/
def State.routeMask (s : State) (dest : Nat) : BitVec 32 :=
  match Tab.get s.net.direct dest with
  | some m => m
  | none => Tab.getD s.net.blocks (dest / 64) 0

/-- The in-service ports of the mask. -/
def State.routePorts (s : State) (dest : Nat) : List Nat :=
  (List.range 32).filter (fun p => (s.routeMask dest).getLsbD p && (s.port p).state = .inService)

/-- The smallest reach class of the in-service ports towards an identity; 3 when there is none
(R262, Table 8.14). -/
def State.reachTo (s : State) (dest : Nat) : Nat :=
  (s.routePorts dest).foldl (fun a p => min a ((s.port p).reach.getD 3)) 3

/-- The reach classes of this module to those of a list that it reaches (log entry 17: DEDUCED). -/
def State.classesTo (s : State) (ms : List Nat) : Tab Nat :=
  ms.foldl (fun t m => if s.ident != some m && s.reachTo m < 3 then Tab.set t m (s.reachTo m) else t) []

/-- The modules of a list that this module reaches over class 0 (R256, R257). -/
def State.neighbours (s : State) (ms : List Nat) : List Nat :=
  ms.filter (fun m => s.ident != some m && s.reachTo m = 0)

/-! ### Nodes (R258) -/

/-- Add to a node every candidate that is a class-0 neighbour of all its members, up to 16. -/
def growNode (adj : Nat → Nat → Bool) : List Nat → List Nat → List Nat
  | node, [] => node
  | node, x :: xs =>
    if node.length < 16 && node.all (adj x) then growNode adj (node ++ [x]) xs else growNode adj node xs

/-- Nodes over a set in ascending order; the fuel is its size. -/
def formNodes (adj : Nat → Nat → Bool) : Nat → List Nat → List (List Nat)
  | 0, _ => []
  | _, [] => []
  | n + 1, m :: rest =>
    let node := growNode adj [m] rest
    node :: formNodes adj n (rest.filter (fun x => !node.contains x))

/-- The nodes of a set of modules (R258). -/
def nodesOver (adj : Nat → Nat → Bool) (ms : List Nat) : List (List Nat) := formNodes adj ms.length (sortNat ms)

/-- The node that holds a module. -/
def nodeOf (nodes : List (List Nat)) (m : Nat) : List Nat := (nodes.find? (fun n => n.contains m)).getD [m]

/-! ### Plans (R260 to R265) -/

/-- The tie order of a cut kind (Table 9.2). -/
def tieOrder (k : Nat) : Nat := [5, 4, 1, 6, 3, 2].getD k 7

/-- The cuts by WEIGHT, largest first, ties by the tie order (R260). -/
def orderCuts (cs : List Cut) : List Cut := sortBy (fun c => (2 ^ 32 - c.weight) * 8 + tieOrder c.kind) cs

/-- The cuts with their strides. -/
def strides : Nat → List Cut → List (Cut × Nat)
  | _, [] => []
  | s, c :: cs => (c, s) :: strides (s * c.degree) cs

/-- The positions of the group of a cut that holds position x (R261). -/
def groupAt (c : Cut) (stride x : Nat) : List Nat :=
  let ci := x / stride % c.degree
  (List.range c.degree).map (fun k => x + k * stride - ci * stride)

/-- The class of a pair from the reported classes (R262). -/
def pairClass (nodes : List (List Nat)) (classes : Tab (Tab Nat)) (a b : Nat) : Nat :=
  if a = b || (nodeOf nodes a).contains b then 0 else Tab.getD (Tab.getD classes a []) b 3

/-- The largest class of any pair of a group. -/
def groupClass (nodes : List (List Nat)) (classes : Tab (Tab Nat)) (ms : List Nat) : Nat :=
  ms.foldl (fun w a => ms.foldl (fun v b => max v (pairClass nodes classes a b)) w) 0

/-- Class-0 neighbours by the reports (R257). -/
def adjacent (classes : Tab (Tab Nat)) (a b : Nat) : Bool :=
  Tab.get (Tab.getD classes a []) b = some 0 && Tab.get (Tab.getD classes b []) a = some 0

/-- The class of the group of a cut that holds a position of an order. -/
def classAt (nodes : List (List Nat)) (classes : Tab (Tab Nat)) (order : List Nat) (c : Cut) (stride x : Nat) : Nat :=
  groupClass nodes classes ((groupAt c stride x).map (fun i => order.getD i 0))

/-- WORST_CLASS of a cut (R262). -/
def worstClass (nodes : List (List Nat)) (classes : Tab (Tab Nat)) (order : List Nat) (c : Cut) (stride : Nat) : Nat :=
  (List.range order.length).foldl (fun w x => max w (classAt nodes classes order c stride x)) 0

/-- Fill the open positions from the modules left over, in order. -/
def fillFrom : List (Option Nat) → List Nat → List Nat
  | [], _ => []
  | some m :: ps, left => m :: fillFrom ps left
  | none :: ps, m :: left => m :: fillFrom ps left
  | none :: ps, [] => 0 :: fillFrom ps []

/-- The order of R263: positions of L that hold the same module in the prior plan, with every group of
one class under both, are kept; the rest are filled from the modules left over in L's order. -/
def keepPrior (nodes : List (List Nat)) (classes : Tab (Tab Nat)) (cuts : List (Cut × Nat)) (order : List Nat)
    (prior : PlanResult) (priorCuts : List (Cut × Nat)) : List Nat :=
  let priorNodes := nodesOver (adjacent prior.classes) prior.order
  let same (x : Nat) : Bool := cuts.all (fun c =>
    match priorCuts.find? (fun d => d.1.kind = c.1.kind) with
    | some d => classAt nodes classes order c.1 c.2 x = classAt priorNodes prior.classes prior.order d.1 d.2 x
    | none => false)
  let kept := (List.range order.length).map (fun x =>
    if order[x]? = prior.order[x]? && same x then order[x]? else none)
  fillFrom kept (order.filter (fun m => !kept.contains (some m)))

/-- The plan the lead computes (R258 to R263). (Log entry 106: DEDUCED.) -/
def computePlan (p : PlanParams) (classes : Tab (Tab Nat)) (prior : Option (PlanResult × List Cut)) : PlanResult :=
  let nodes := nodesOver (adjacent classes) p.modules
  let ordered := sortBy (fun n : List Nat => (16 - n.length) * 2 ^ 18 + n.headD 0) nodes
  let base := ordered.flatten
  let cuts := strides 1 (orderCuts p.cuts)
  let order := match prior with
    | some (r, cs) => keepPrior nodes classes cuts base r (strides 1 (orderCuts cs))
    | none => base
  { id := p.id, order := order
    nodeIndex := order.map (fun m => ordered.findIdx (fun n => n.contains m))
    nodes := nodes.length
    cuts := cuts.map (fun c => (c.1.kind, worstClass nodes classes order c.1 c.2, c.2))
    moved := match prior with
      | some (r, _) => ((List.range order.length).filter (fun x => order[x]? != r.order[x]?)).length
      | none => 0
    classes := classes }

/-- The result buffer (Table 9.5). -/
def PlanResult.bytes (r : PlanResult) : List Byte :=
  le 2 r.id ++ le 1 r.cuts.length ++ le 1 (min 0xFF r.nodes) ++ le 4 r.order.length ++ le 4 r.moved ++ le 4 0
  ++ (List.range 6).flatMap (fun i => match r.cuts[i]? with
      | some (k, w, st) => le 1 k ++ le 1 w ++ le 2 0 ++ le 4 st
      | none => le 8 0)
  ++ (List.range r.order.length).flatMap (fun x => le 4 (r.order.getD x 0 + min 0x3FFF (r.nodeIndex.getD x 0) * 2 ^ 18))

/-- What the digest of a plan covers: all parameters but the place of the result (R256). -/
def PlanParams.covered (p : PlanParams) : PlanParams := { p with resultAddr := 0 }

/-- The lead of a plan: the module of smallest identity (R256). -/
def PlanParams.lead (p : PlanParams) : Nat := p.modules.foldl min (p.modules.headD 0)

/-- The command that waits for a plan, with its head. -/
def State.planWaiter (s : State) (ctx id : Nat) : Option CmdHead :=
  s.funs.findSome? (fun f => match f.2.mbox.waiting with
    | some (h, .plan c i) => if c = ctx && i = id then some h else none
    | _ => none)

/-- A plan as it is entered. -/
def newPlan (p : PlanParams) : Plan := { params := p, reports := [], differs := [], result := none, stale := false, now := [] }

/-- The present reach classes of this module are told to the modules of a job's latest plan, when they are not those it has
told (R268). -/
def State.tellClasses (s : State) (ctx : Nat) : State :=
  match s.ctx? ctx, s.ident with
  | some x, some me =>
    match x.latestPlan.bind (fun i => (Tab.get x.plans i).map (fun p => (i, p))) with
    | some (i, p) =>
      let cl := s.classesTo p.params.modules
      if p.result.isNone || Tab.getD p.now me [] = cl then s
      else s.sendAll p.params.modules none (.winch (.planClasses ctx i cl))
    | none => s
  | _, _ => s

/-- MAP_STALE, once per plan, when the present reach classes alter WORST_CLASS of a cut of a job's latest plan (R268). -/
def State.staleCtx (s : State) (ctx : Nat) : State :=
  match s.ctx? ctx with
  | some x =>
    match x.latestPlan.bind (fun i => (Tab.get x.plans i).map (fun p => (i, p))) with
    | some (i, p) =>
      match p.result with
      | some r =>
        let nodes := nodesOver (adjacent p.now) p.params.modules
        let now := (strides 1 (orderCuts p.params.cuts)).map (fun c => worstClass nodes p.now r.order c.1 c.2)
        if p.stale || now = r.cuts.map (fun c => c.2.1) then s
        else (s.setCtx ctx { x with plans := Tab.set x.plans i { p with stale := true } }).event x.owner 0x03 ctx i 0
      | none => s
    | none => s
  | none => s

/-- The classes of a module of a plan have changed; before the plan has come they wait for it (R268). -/
def State.planClasses (s : State) (src ctx id : Nat) (cl : Tab Nat) : State :=
  match (s.ctx? ctx).bind (fun x => Tab.get x.plans id) with
  | none => s
  | some p =>
    if p.result.isNone then s.holdFor ctx ⟨src, 36, .winch (.planClasses ctx id cl)⟩
    else (s.modCtx ctx (fun x => { x with plans := Tab.set x.plans id { p with now := Tab.set p.now src cl } })).staleCtx ctx

/-- The messages of a job that a condition picks are taken out of its waiting ones, and met one after another. -/
def State.retakeMsgs (s : State) (ctx : Nat) (mine : Msg → Bool) (f : State → HeldMsg → State) : State :=
  match s.ctx? ctx with
  | none => s
  | some x => (x.waitingMsgs.filter (fun m => mine m.msg)).foldl f
      (s.setCtx ctx { x with waitingMsgs := x.waitingMsgs.filter (fun m => !mine m.msg) })

/-- A module receives the plan: the result is written, kept and journaled, and the command completes
(R256, R265, R321). -/
def State.planDone (s : State) (ctx : Nat) (r : PlanResult) : State :=
  match s.planWaiter ctx r.id, (s.ctx? ctx).bind (fun x => Tab.get x.plans r.id) with
  | some h, some p =>
    let s1 := s.modCtx ctx (fun x => { x with
      plans := Tab.set x.plans r.id { p with result := some r, now := r.classes }
      latestPlan := some r.id })
    let s2 := ((s1.journalIf 0xFFFF ctx 0 [.config (.mapPlan ctx p.params r)]).fnWrite h.fn p.params.resultAddr r.bytes).finishCmd h 0 0 []
    (s2.retakeMsgs ctx (fun m => match m with | .winch (.planClasses _ i _) => i = r.id | _ => false) (fun a m =>
      match m.msg with
      | .winch (.planClasses c i cl) => a.planClasses m.src c i cl
      | _ => a)).tellClasses ctx
  | _, _ => s

/-- CAUSE of a refused plan (R256). -/
def planCause (mismatch : Bool) : Nat := if mismatch then 0x09 else 0x0A

/-- A module refuses a plan: it is forgotten, the command completes REFUSED; a module whose command is still to come refuses
that (R256). -/
def State.planRefused (s : State) (src ctx id : Nat) (mismatch : Bool) : State :=
  match s.planWaiter ctx id with
  | some h => (s.modCtx ctx (fun x => { x with plans := Tab.erase x.plans id })).finishCmd h 1 (planCause mismatch) (leBytes 8 0)
  | none => s.holdFor ctx ⟨src, 36, .winch (.planRefused ctx id mismatch)⟩

/-- Is a message a refusal of a plan? -/
def Msg.refuses (id : Nat) : Msg → Option Bool
  | .winch (.planRefused _ i mismatch) => if i = id then some mismatch else none
  | _ => none

/-- A refusal of a plan that has come before this module's command. -/
def Ctx.refusedPlan (x : Ctx) (id : Nat) : Option Bool := x.waitingMsgs.findSome? (fun m => m.msg.refuses id)

/-- The lead decides once a digest differs or every module has reported (R256). A refusal goes to every module that the lead
names or that has reported. -/
def State.planDecide (s : State) (ctx id : Nat) : State :=
  match (s.ctx? ctx), (s.ctx? ctx).bind (fun x => Tab.get x.plans id) with
  | some x, some p =>
    if p.result.isSome then s
    else if !p.differs.isEmpty then
      s.sendAll ((p.params.modules ++ Tab.keys p.reports).eraseDups) none (.winch (.planRefused ctx id true))
    else if p.params.modules.all (fun m => Tab.has p.reports m) then
      let prior := (Tab.get x.plans p.params.prior).bind (fun q => q.result.map (fun r => (r, q.params.cuts)))
      s.sendAll p.params.modules none (.winch (.planResult ctx (computePlan p.params p.reports prior)))
    else s
  | _, _ => s

/-- A report reaches the lead: kept with the plan, or until the lead's own command; a later report of a module takes the place
of its earlier one (R256). -/
def State.planReport (s : State) (src ctx : Nat) (p : PlanParams) (classes : Tab Nat) : State :=
  match (s.ctx? ctx).bind (fun x => (Tab.get x.plans p.id).map (fun q => (x, q))) with
  | none => s.holdFor ctx ⟨src, 36, .winch (.planReport ctx p classes)⟩
  | some (x, q) =>
    let others := q.differs.filter (· != src)
    let q2 := { q with
      reports := Tab.set q.reports src classes
      differs := if p.covered = q.params.covered then others else others ++ [src] }
    (s.setCtx ctx { x with plans := Tab.set x.plans p.id q2 }).planDecide ctx p.id

/-- Reports that came before the lead's own command are taken up. -/
def State.planReplay (s : State) (ctx id : Nat) : State :=
  s.retakeMsgs ctx (fun m => match m with | .winch (.planReport _ p _) => p.id = id | _ => false) (fun a m =>
    match m.msg with
    | .winch (.planReport c p cl) => a.planReport m.src c p cl
    | _ => a)

/-! ### Nodes of groups (R259) -/

/-- Rank 0 forms the nodes of a group once every member has reported, and sends them to every member. -/
def State.groupDecide (s : State) (ctx group : Nat) : State :=
  match (s.ctx? ctx).bind (fun x => Tab.get x.groups group) with
  | some g =>
    if g.obj.members.all (fun m => Tab.has g.reports m) then
      let adj (a b : Nat) : Bool := (Tab.getD g.reports a []).contains b && (Tab.getD g.reports b []).contains a
      s.sendAll g.obj.members none (.winch (.groupNodes ctx group (nodesOver adj g.obj.members)))
    else s
  | none => s

/-- A member's neighbour list reaches rank 0 (R259, R268). -/
def State.groupReport (s : State) (src ctx group : Nat) (ns : List Nat) : State :=
  match (s.ctx? ctx).bind (fun x => (Tab.get x.groups group).map (fun g => (x, g))) with
  | none => s.holdFor ctx ⟨src, 36, .winch (.groupNeighbours ctx group ns)⟩
  | some (x, g) => (s.setCtx ctx { x with groups := Tab.set x.groups group { g with reports := Tab.set g.reports src ns } }).groupDecide ctx group

/-- The nodes of a group as rank 0 sends them. -/
def State.groupNodes (s : State) (src ctx group : Nat) (nodes : List (List Nat)) : State :=
  match (s.ctx? ctx).bind (fun x => (Tab.get x.groups group).map (fun g => (x, g))) with
  | some (x, g) => (s.setCtx ctx { x with groups := Tab.set x.groups group { g with nodes := nodes } }).refresh ctx
  | none => s.holdFor ctx ⟨src, 36, .winch (.groupNodes ctx group nodes)⟩

/-- This module reports its class-0 neighbours to a group's rank 0. -/
def State.reportGroup (s : State) (ctx group : Nat) (members : List Nat) : State :=
  s.send (members.headD 0) none (.winch (.groupNeighbours ctx group (s.neighbours members)))

/-- Rank 0 asks for a neighbour list; it is sent once the group exists here (R259). -/
def State.groupAsked (s : State) (src ctx group : Nat) : State :=
  match (s.ctx? ctx).bind (fun x => Tab.get x.groups group) with
  | some g => s.reportGroup ctx group g.obj.members
  | none => s.holdFor ctx ⟨src, 36, .winch (.groupAsk ctx group)⟩

/-- A group that a restore or a replay has made again gets its nodes: this module reports, and as rank 0 asks the others for
their lists (R259). (Log entry 148: DEDUCED.) -/
def State.reformGroup (s : State) (ctx group : Nat) (members : List Nat) : State :=
  let s1 := s.reportGroup ctx group members
  if s.ident = some (members.headD 0) then s1.sendAll (members.drop 1) none (.winch (.groupAsk ctx group)) else s1

/-- Messages for a group that came before its creation are taken up. -/
def State.groupReplay (s : State) (ctx group : Nat) : State :=
  s.retakeMsgs ctx (fun m => match m with
      | .winch (.groupNeighbours _ g _) => g = group
      | .winch (.groupNodes _ g _) => g = group
      | .winch (.groupAsk _ g) => g = group
      | _ => false) (fun a m =>
    match m.msg with
    | .winch (.groupNeighbours c g ns) => a.groupReport m.src c g ns
    | .winch (.groupNodes c g ns) => a.groupNodes m.src c g ns
    | .winch (.groupAsk c g) => a.groupAsked m.src c g
    | _ => a)

/-- A port's reach class has changed: groups report anew and the modules of plans are told (R259, R268). -/
def State.reachChanged (s : State) : State :=
  s.ctxs.foldl (fun a e =>
    (e.2.groups.foldl (fun b g => b.reportGroup e.1 g.1 g.2.obj.members) a).tellClasses e.1) s

end Sys2Proof.Machine
end

