-- ==== Sys2Proof/Machine/Telemetry.lean ====
section
/-! DEFINITION. Telemetry windows and records, the module state code (R444, R451 to R453). -/

namespace Sys2Proof.Machine

/-- Two bits of XD_DIE_STATE for a die (Table 15.9); a die that waits for its rail is waking. -/
def Die.code (d : Die) : Nat :=
  if d.queued then 3
  else match d.state with
    | .off => 0
    | .nap => 1
    | .run => 2
    | .ramping => 3
    | .waking => 3

/-- XD_DIE_STATE. -/
def State.dieStateReg (s : State) : Nat := ((List.range 10).map (fun d => (s.die d).code * 4 ^ d)).sum

/-- The module state code (Table 15.5). -/
def State.stateCode (s : State) : Nat :=
  let runs := ((List.range 10).filter (fun d => (s.die d).state = .run)).length
  if s.errs.halted then 7
  else if 0 < s.power.k && s.power.thermalK then 6
  else if 0 < s.power.k then 5
  else if s.boot.stage != .ready then 0
  else if runs = 10 then 4
  else if 0 < runs then 3
  else if (List.range 10).any (fun d => (s.die d).state = .nap) then 2
  else 1

/-- B in units of 0.1 J. -/
def Power.tenths (p : Power) : Nat := p.budget / 10000

/-- A temperature as an unsigned byte: below 0 °C reads as 0 (Table 15.9). -/
def tempByte (t : Int) : Nat := min 255 t.toNat

/-- The window length W in ns (R452). -/
def Telem.span (t : Telem) : Nat := t.period * 100000

/-- The engine counters of a tile (R67, Table 15.12). -/
def Tile.counts (t : Tile) : List Byte :=
  (List.range 3).flatMap (fun e => le 4 (Tab.getD t.engines e {}).ovf) ++ le 4 t.ovf
  ++ (List.range 3).flatMap (fun e => le 4 (Tab.getD t.engines e {}).narLost) ++ le 4 t.narLost

/-- The 12,288-byte record of the window that ends at a time (Table 15.12). -/
def State.telemRecord (s : State) (start stop : Nat) : List Byte :=
  let t := s.telem
  let r := le 8 (t.seq + 1) ++ le 8 start ++ le 8 stop ++ le 8 (t.energy / 100) ++ le 2 t.pPeak ++ le 2 s.power.tenths
    ++ le 1 t.kMin ++ le 1 t.kMax ++ le 1 ((if t.steppedFlag then 1 else 0) + (if t.lostFlag then 2 else 0)) ++ le 1 0
    ++ le 4 (t.steppedNs / 1000) ++ le 4 t.exhaustions
    ++ (List.range 12).flatMap (fun d => le 1 (tempByte (t.tjMax.getD d 0)))
    ++ (List.range 20).flatMap (fun d => le 1 (tempByte (t.hbmMax.getD d 0)))
    ++ le 2 t.vinMin ++ le 2 t.vinMax ++ le 4 s.dieStateReg
  r ++ List.replicate (2048 - r.length) 0 ++ (List.range 320).flatMap (fun i => (s.tile i).counts)

/-- A fresh window from a time. -/
def Telem.fresh (t : Telem) (start : Nat) (lost : Bool) (k : Nat) : Telem :=
  { t with
    start := some start, energy := 0, pPeak := 0, kMin := k, kMax := k, steppedFlag := false, lostFlag := lost
    steppedNs := 0, exhaustions := 0, tjMax := [], hbmMax := [], vinMin := 0, vinMax := 0 }

/-- A window closes at a time and the next begins at `next`: the record is written, or lost when the ring
is full or disabled (R453). -/
def State.closeWindow (s : State) (stop next : Nat) : State :=
  match s.telem.start with
  | none => s
  | some start =>
    let t := s.telem
    let depth := 2 ^ t.logDepth
    if !t.enable || (t.tail + 1) % depth = t.head % depth || !(s.fn 0).avail then
      { s with telem := { t.fresh next true s.power.k with seq := t.seq + 1, lost := satAdd 32 t.lost 1 } }
    else
      let base := t.baseLo.toNat + 2 ^ 32 * t.baseHi.toNat
      { s with telem := { t.fresh next false s.power.k with seq := t.seq + 1, tail := (t.tail + 1) % depth } }.emit
        [.write 0 (base + 12288 * t.tail) (s.telemRecord start stop), .vector 0 t.vector]

/-- The end of the window that holds its start (R452). -/
def State.windowEnd (s : State) (start : Nat) : Nat := (start / s.telem.span + 1) * s.telem.span

/-- TELEMETRY_WINDOW_END (R452, R453). -/
def execTelemetryWindowEnd (s : State) : Out :=
  .next (match s.telem.start with
    | some start =>
      let e := s.windowEnd start
      if s.live && e ≤ s.time.now && 0 < s.telem.span then s.closeWindow e e else s
    | none => s)

/-- A time stamp moved with the count, so that the time since it stays what it was. -/
def shiftStamp (old new t : Nat) : Nat := t + new - old

/-- Time stamps that a duration is measured from are moved by a step of the count (R246; log entry 141: DEDUCED). -/
def State.shiftStamps (s : State) (old new : Nat) : State :=
  let f := shiftStamp old new
  { s with
    ports := Tab.mapVals s.ports (fun _ p => { p with
      heardAt := f p.heardAt, failures := p.failures.map f, tokenSlot := shiftStamp (old * 100 / 256) (new * 100 / 256) p.tokenSlot })
    time := { s.time with rootSince := s.time.rootSince.map f }
    dies := Tab.mapVals s.dies (fun _ d => { d with idleSince := f d.idleSince })
    clusters := Tab.mapVals s.clusters (fun _ c => { c with idleSince := f c.idleSince })
    twin := { s.twin with tetherDownAt := s.twin.tetherDownAt.map f }
    power := { s.power with lastStart := s.power.lastStart.map f }
    funs := Tab.mapVals s.funs (fun _ g => { g with holdFullAt := g.holdFullAt.map f })
    parts := Tab.mapVals s.parts (fun _ p => { p with slice := p.slice.map (fun sl => { sl with start := f sl.start }) })
    ctxs := Tab.mapVals s.ctxs (fun _ x => { x with blockTime := f x.blockTime })
    net := { s.net with
      out := s.net.out.map (fun m => { m with readyAt := f m.readyAt })
      resend := s.net.resend.map (fun k => { k with readyAt := f k.readyAt }) } }

/-- Fabric time is stepped: the window closes at the step with TIME_STEPPED and windows go on from the
new time (R452). -/
def State.stepTime (s : State) (now : Nat) : State :=
  let s1 := { s with telem := { s.telem with steppedFlag := true } }
  let s2 := if s.telem.start.isSome then s1.closeWindow s.time.now now else s1
  { s2.shiftStamps s.time.now now with time := { (s2.shiftStamps s.time.now now).time with now := now } }

end Sys2Proof.Machine
end

