-- ==== Sys2Proof/Machine/Link.lean ====
section
/-! DEFINITION. Ports: states, leaving service, the election of the time root, lasers and cartridges
(R231, R232, R243, R246, R250 to R253). -/

namespace Sys2Proof.Machine

/-- STATE of XD_PORT_STATUS (Table 8.14). -/
def PState.code : PState → Nat
  | .down => 0
  | .training => 1
  | .inService => 2
  | .refused => 3

/-- The nine ports of a cartridge (Table 8.15). -/
def cartPorts (c : Nat) : List Nat := (List.range 8).map (fun i => 8 * c + i) ++ [32 + c]

/-- The cartridge of a port. -/
def portCart (p : Nat) : Nat := if p < 32 then p / 8 else p - 32

/-- The three ports of laser l (Table 8.15). -/
def laserPorts (l : Nat) : List Nat :=
  let c := l / 12
  let g := l % 12 / 4
  if g = 2 then [8 * c + 6, 8 * c + 7, 32 + c] else [8 * c + 3 * g, 8 * c + 3 * g + 1, 8 * c + 3 * g + 2]

/-- A port enters a state: PORT_STATE is reported on a change (Table 12.20), DOWN and retrainings are
counted (Table 14.11). -/
def State.setPState (s : State) (i : Nat) (st : PState) (step : Nat) : State :=
  let p := s.port i
  let s1 := s.setPort i { p with state := st, step := step }
  if p.state = st then s1
  else
    let l := s1.logbook
    let l2 := if st = .down then { l with portDowns := bump 32 l.portDowns i 1 }
      else if st = .training ∧ p.state = .inService then { l with portRetrains := bump 32 l.portRetrains i 1 } else l
    { s1 with logbook := l2 }.event 0 0x05 0xFFFF (i + st.code * 2 ^ 8) 0

/-! ### The time root (R246) -/

/-- Announcements heard on in-service fabric ports within the last 10 ms: (port, root, hops, IN_SYNC). -/
def State.heard (s : State) : List (Nat × Nat × Nat × Bool) :=
  (List.range 32).filterMap (fun i =>
    let p := s.port i
    match p.heardRoot with
    | some (r, h, y) => if p.state = .inService && s.time.now < p.heardAt + 10000000 then some (i, r, h, y) else none
    | none => none)

/-- Elect the root anew: the smallest identity heard or this module's own; then hops and upstream port,
on the fewest hops, ties to the lower reach class, then the lower index (R245, R246). The second of R246's
IN_SYNC rule counts while the identity is set. -/
def State.elect (s : State) : State :=
  let t := s.time
  let asRoot (own : Nat) : State := { s with time := { t with
    root := own, hops := 0, upstream := none, isRoot := true
    rootSince := if s.ident.isNone then none else if t.isRoot then some (t.rootSince.getD t.now) else some t.now } }
  match s.ident, s.heard with
  | none, _ => asRoot 0
  | some me, [] => asRoot me
  | some me, hs =>
    let best := hs.foldl (fun a h => min a h.2.1) me
    if best = me then asRoot me
    else
      let of_ := hs.filter (fun h => h.2.1 = best)
      let up := leastBy (fun i => ((of_.find? (fun h => h.1 = i)).map (fun h => h.2.2.1)).getD 0 * 4 + (s.port i).reach.getD 3)
        (of_.map (fun h => h.1))
      { s with time := { t with
          root := best, isRoot := false, rootSince := none, upstream := up
          hops := 1 + of_.foldl (fun a h => min a h.2.2.1) (((of_.head?).map (fun h => h.2.2.1)).getD 0)
          goodSamples := if t.upstream = up then t.goodSamples else 0 } }

/-! ### Leaving service (R243, R253) -/

/-- The port's link state as at the start of service (steps 5 and 6 of Table 8.6a). -/
def Port.fresh (p : Port) : Port :=
  { p with
    rxGroup := 0, sinceAck := 0, rxPending := false, rxDiscard := 0, rxReplayLeft := 0, rxReplayed := false
    rxOpen := none, rxBefore := none, rxHeld := [], freed := []
    txGroup := 0, txAcked := 0, window := [], kept := [], txOpen := none, replayDue := none, replayNext := none
    lastNak := none, nakRun := 0, inFlight := [], passed := [], ctl := [], syncDue := false, replyDue := false
    rxT1 := none, rxT2 := none, rxT3 := none, syncT1 := none, replyT4 := none, newReach := 3, newCount := 0 }

/-- The flit slot of 2.56 ns under way, counted from fabric time 0 (Table 8.1). -/
def State.flitSlot (s : State) : Nat := s.time.now * 100 / 256

/-- Tokens a partition holds on a port, in 64ths, brought up to date: w/64 of a token per flit slot, at most
1,024 (R237). -/
def State.tokensOf (s : State) (p : Port) (part : Nat) : Nat :=
  min 65536 (Tab.getD p.tokens part 0 + (s.flitSlot - p.tokenSlot) * ((Tab.get s.parts part).map (·.share)).getD 0)

/-- Bring the tokens of a fabric port up to date. -/
def State.countTokens (s : State) (i : Nat) : State :=
  if 32 ≤ i then s
  else s.modPort i (fun p => { p with
    tokens := (List.range 10).foldl (fun t q => Tab.set t q (s.tokensOf p q)) []
    tokenSlot := s.flitSlot })

/-- The packets a port has sent or begun to send that are not acknowledged (R243). -/
def Port.unacked (p : Port) : List SentPacket :=
  p.window ++ (match p.txOpen with | some o => [⟨p.txGroup, o.part, o.packet, o.readyAt⟩] | none => [])

/-- The winch notes something in its log of the links (R247, R248). (Log entry 140: DESIGN CHOICE.) -/
def State.noteLink (s : State) (n : LinkNote) : State :=
  { s with net := { s.net with notes := s.net.notes ++ [(s.time.now, n)] } }

/-- A port leaves service for a state: its unacknowledged packets are re-sent on other ports, a tether
port counts a fail-over, the root is elected anew (R243, R246, R253). -/
def State.leaveService (s : State) (i : Nat) (st : PState) (step : Nat) : State :=
  let p := s.port i
  if p.state = .inService then
    let s1 := (s.countTokens i).modPort i (fun q => { q.fresh with
      reach := none, rtt := none, degraded := false, heardRoot := none, calibrated := false })
    let s2 := { s1 with net := { s1.net with resend := s1.net.resend ++ p.unacked } }
    let s3 := if 32 ≤ i then
        { s2 with logbook := { s2.logbook with failovers := bump 32 s2.logbook.failovers (i - 32) 1 } }
      else s2
    let s4 := s3.setPState i st step
    let s5 := if 32 ≤ i && s4.tetherUp = 0 then { s4 with twin := { s4.twin with tetherDownAt := some s4.time.now } } else s4
    s5.elect.reachChanged
  else s.setPState i st step

/-- May a port train: its lasers work, its cartridge is locked and not released, no PORT_RESET is due
(R248, R250, R252)? In recovery the tether ports alone do (R404). -/
def State.mayTrain (s : State) (i : Nat) : Bool :=
  let c := s.cart (portCart i)
  let rom := s.boot.powered && s.boot.stage = .recovery && 32 ≤ i && s.ident.isSome && s.flash.twinId.isSome
  (s.live || rom) && (s.port i).laserOk && c.present && c.locked && !c.released && !c.releasing && !(s.port i).needReset

/-- The port begins training: at step 2 when there is light, else at step 1 (Table 8.6a). -/
def State.beginTraining (s : State) (i : Nat) : State :=
  if s.mayTrain i then
    (s.modPort i (fun p => { p with cause := 0, samples := [], peer := none })).setPState i .training (if (s.port i).light then 2 else 1)
  else s

/-- A port in service leaves it and trains again. -/
def State.retrain (s : State) (i : Nat) : State :=
  let s1 := (s.leaveService i .training 1).modPort i (fun p => { p with cause := 0, samples := [], peer := none })
  if (s1.port i).light then s1.modPort i (fun p => { p with step := 2 }) else s1

/-- All four tether ports that are in service retrain (R314). -/
def State.retrainTethers (s : State) : State :=
  [32, 33, 34, 35].foldl (fun a i => if (a.port i).state = .inService then a.retrain i else a) s

/-- Send DOWN on a port and take it out of service. -/
def State.sendDown (s : State) (i : Nat) : State :=
  if (s.port i).state = .inService then (s.leaveService i .down 0).modPort i (fun p => { p with ctl := [.down] })
  else s.setPState i .down 0

/-- Send DOWN on every port that is not already down, and leave service (R230, R253, R426). -/
def State.downAll (s : State) : State :=
  (List.range 36).foldl (fun a i =>
    if (a.port i).state = .down then a else (a.sendDown i).modPort i (fun p => { p with ctl := [.down] })) s

/-- A UE_MODULE error: record, logbook, DOWN on every port, HALTED (R426). -/
def State.haltModule (s : State) (r : ErrRec) : State :=
  let s1 := ((s.putError { r with cls := 0x05, action := 5 }).countEvent 2).commitLogbook
  let s2 := s1.downAll.stopAll
  { s2 with errs := { s2.errs with halted := true } }

/-! ### Cartridges -/

/-- Once all nine ports are out of service, the released cartridge's lasers go off and its indicator is
lit (R252). -/
def State.finishRelease (s : State) (c : Nat) : State :=
  if (s.cart c).releasing && (cartPorts c).all (fun i => (s.port i).state != .inService) then
    { s with
      carts := Tab.set s.carts c { s.cart c with releasing := false, released := true, locked := false }
      lasers := (List.range 12).foldl (fun ls i => Tab.set ls (12 * c + i) { Tab.getD ls (12 * c + i) {} with lit := false }) s.lasers }
  else s

/-- A releasing cartridge's port goes out of service once its retry window is acknowledged (R252). -/
def State.releaseStep (s : State) (i : Nat) : State :=
  let c := portCart i
  if (s.cart c).releasing then
    (if (s.port i).unacked.isEmpty then s.sendDown i else s).finishRelease c
  else s

end Sys2Proof.Machine
end

