-- ==== Sys2Proof/Machine/Power.lean ====
section
/-! DEFINITION. Power states, the governor, temperature limits, the logbook's samples (R432 to R436, R438
to R455, R459). -/

namespace Sys2Proof.Machine

/-! ### Waking (R440, R443) -/

/-- DIE_RAIL_UP (R443): the die's rail is up; it locks its PLL and calibrates, and the next die's rail
ramps. -/
def execDieRailUp (die : Nat) (s : State) : Out :=
  withUnit (die < 10)
    (if (s.die die).state = .ramping then (s.setDie die { s.die die with state := .waking }).rampNext else s)

/-- DIE_WAKE_DONE (R440, R443): the die is in RUN, or in NAP when only its stacks were asked for. -/
def execDieWakeDone (die : Nat) (s : State) : Out :=
  withUnit (die < 10)
    (let e := s.die die
     if e.state = .waking then
       s.setDie die { e with state := if e.wantRun then .run else .nap, wantRun := false, idleSince := s.time.now }
     else s)

/-- CLUSTER_WAKE_DONE (R440): a waking cluster of a die in RUN is in RUN. -/
def execClusterWakeDone (cluster : Nat) (s : State) : Out :=
  withUnit (cluster < 80)
    (if (s.cluster cluster).state = .waking && (s.die (clusterDie cluster)).state = .run then
       s.setCluster cluster { state := .run, idleSince := s.time.now }
     else s)

/-! ### Going down (R441) -/

/-- The policy of an idle time that began at a time: a new one applies from the next idle time (Table
15.11). (Log entry 86: DEDUCED.) -/
def Power.policyAt (p : Power) (t : Nat) : Nat :=
  match p.policies.find? (fun (e : Nat × Word32) => decide (e.1 ≤ t)) with | some e => e.2.toNat | none => 0x000A0A0A


/-- The partition of a die is marked KEEP_AWAKE. -/
def State.keptAwake (s : State) (d : Nat) : Bool :=
  s.parts.any (fun p => p.2.dies.contains d && s.power.keepAwake.getLsbD p.1)

/-- Is a tile busy: groups, drain stages, ready or arriving tasks, saved groups, dirty copies, pinned
extents of a resident context (Table 15.3)? -/
def State.tileBusy (s : State) (t : Nat) : Bool :=
  let e := s.tile t
  e.engines.any (fun g => g.2.groups.any (fun k => k.2.state != .free)) || !e.stages.isEmpty || !e.ready.isEmpty || !e.arrived.isEmpty
  || s.ctxs.any (fun c =>
    c.2.ops.any (fun o => o.placed.any (fun q => q.2 = t))
    || (c.2.resident && (c.2.saved.any (fun g => g.tile = t) || c.2.tensors.any (fun x => x.2.pins.contains t)))
    || c.2.exts.any (fun q => q.2.dirty.any (fun k => k.2 = t)))

/-- Does a condition of Table 15.3 fail for a cluster? -/
def State.clusterBusy (s : State) (cluster : Nat) : Bool :=
  s.keptAwake (clusterDie cluster) || (List.range 4).any (fun i => s.tileBusy (4 * cluster + i))

/-- Does a die's pool hold a dirty copy? -/
def State.poolDirty (s : State) (die : Nat) : Bool := s.ctxs.any (fun c => c.2.exts.any (fun q => q.2.dirty.any (fun k => k.2 = 320 + die)))

/-- Does one fail for a die, in RUN or in NAP? -/
def State.dieBusy (s : State) (die : Nat) : Bool :=
  s.keptAwake die
  || ((s.die die).state = .run && (!(List.range 8).all (fun i => (s.cluster (8 * die + i)).state = .sleep) || s.poolDirty die))

/-- The idle time of every unit that breaks a condition of Table 15.3 begins again (R441). -/
def State.restartIdle (s : State) : State :=
  { s with
    clusters := Tab.mapVals s.clusters (fun c e => if e.state = .run && s.clusterBusy c then { e with idleSince := s.time.now } else e)
    dies := Tab.mapVals s.dies (fun d e => if s.dieBusy d then { e with idleSince := s.time.now } else e) }

/-- Drop the clean copies that a condition on extents names. -/
def State.dropCopies (s : State) (f : Ext → Ext) : State := { s with ctxs := Tab.mapVals s.ctxs (fun _ x => x.mapExts f) }

/-- CLUSTER_SLEEP (R439 to R441): tile SRAM, accumulator files and operand stages are lost, clean copies
dropped, after the idle time of CLUSTER_IDLE. -/
def execClusterSleep (cluster : Nat) (s : State) : Out :=
  withUnit (cluster < 80)
    (let e := s.cluster cluster
     let idle := fieldOf (s.power.policyAt e.idleSince) 7 0
     let tiles := (List.range 4).map (fun i => 4 * cluster + i)
     if e.state = .run && 0 < idle && e.idleSince + 100000 * idle ≤ s.time.now && !s.clusterBusy cluster then
       let s1 := s.setCluster cluster { e with state := .sleep }
       let s2 := s1.dropCopies (fun q => { q with sram := q.sram.filter (fun t => !tiles.contains t.2) })
       let s3 := { s2 with tiles := Tab.mapVals s2.tiles (fun i t => if tiles.contains i then
           { t with engines := Tab.mapVals t.engines (fun _ g => { g with groups := [], current := none, stage := [], gated := true, starting := false }) } else t) }
       s3.setDie (clusterDie cluster) { s3.die (clusterDie cluster) with idleSince := s3.time.now }
     else s)

/-- DIE_NAP (R440, R441): every cluster asleep, no dirty copy in the die pool; its clean copies are dropped. What would be staged in
ways 14 and 15 is staged elsewhere. -/
def execDieNap (die : Nat) (s : State) : Out :=
  withUnit (die < 10)
    (let e := s.die die
     let idle := fieldOf (s.power.policyAt e.idleSince) 15 8
     if e.state = .run && 0 < idle && e.idleSince + 1000000 * idle ≤ s.time.now && !s.dieBusy die then
       ((s.setDie die { e with state := .nap, idleSince := s.time.now }).dropCopies
         (fun q => { q with pools := Tab.erase q.pools die }))
     else s)

/-- DIE_OFF (R440, R441): the die has been in NAP for DIE_OFF_IDLE with no request for its stacks. -/
def execDieOff (die : Nat) (s : State) : Out :=
  withUnit (die < 10)
    (let e := s.die die
     let idle := fieldOf (s.power.policyAt e.idleSince) 23 16
     if e.state = .nap && !s.keptAwake die && 0 < idle && e.idleSince + 100000000 * idle ≤ s.time.now then
       s.setDie die { e with state := .off, idleSince := s.time.now }
     else s)

/-! ### Engine gating (R439) -/

def Tile.engine (t : Tile) (e : Nat) : Engine := Tab.getD t.engines e {}
def Tile.setEngine (t : Tile) (e : Nat) (g : Engine) : Tile := { t with engines := Tab.set t.engines e g }

/-- ENGINE_GATE: an engine without lane work for 4,096 cycles is GATED. -/
def execEngineGate (tile eng : Nat) (s : State) : Out :=
  withUnit (tile < 320 && eng < 3)
    (let t := s.tile tile
     let g := t.engine eng
     if g.current.isNone && !g.starting then s.setTile tile (t.setEngine eng { g with gated := true }) else s)

/-- Starts in the last microsecond (R439). -/
def State.recentStarts (s : State) : List Nat := s.power.lastStart.filter (fun t => s.time.now < t + 1000)

/-- Does an engine stand first among those waiting for a start slot: ascending tile, then engine? -/
def State.firstStarter (s : State) (tile eng : Nat) : Bool :=
  s.tiles.all (fun t => t.2.engines.all (fun e => !e.2.starting || (tile < t.1 || (tile = t.1 && eng ≤ e.1))))

/-- ENGINE_START: a GATED engine that took a task starts when a start slot is free: no more than 16 starts
in any microsecond. -/
def execEngineStart (tile eng : Nat) (s : State) : Out :=
  withUnit (tile < 320 && eng < 3)
    (let t := s.tile tile
     let g := t.engine eng
     if g.starting && s.recentStarts.length < 16 && s.firstStarter tile eng then
       { s.setTile tile (t.setEngine eng { g with gated := false, starting := false }) with
         power := { s.power with lastStart := s.recentStarts ++ [s.time.now] } }
     else s)

/-! ### The governor (R445 to R449, R454) -/

/-- A POWER event, at most one per cause per millisecond (R454). -/
def State.powerEvent (s : State) (cause : Nat) : State :=
  let ms := s.time.now / 1000000
  if Tab.get s.power.told cause = some ms then s
  else
    { s with power := { s.power with told := Tab.set s.power.told cause ms } }.event 0 0x07 0xFFFF
      (cause + s.power.kNext * 2 ^ 8) s.power.tenths

def maxTemp (l : List Int) : Int := l.foldl max (-300)

/-- The budget after a sample of P watts, in units of 10 µJ (R445). -/
def nextBudget (b p : Nat) : Nat := min 120000000 (b + 2600 - p)

/-- Record a sample's figures for the registers, the millisecond and the telemetry window. -/
def State.measure (s : State) (r : Sensors) : State :=
  let p := s.power
  let t := s.telem
  let inWin := match t.start with | some st => decide (st + 10000 ≤ s.time.now) | none => false
  let dieOk := maxTemp r.dieTemps < 102 && maxTemp r.stackTemps < 93
  let zipMax (old new : List Int) : List Int := if old.isEmpty then new else (old.zip new).map (fun e => max e.1 e.2)
  { s with
    power := { p with
      budget := nextBudget p.budget r.watts
      samples := (r.watts :: p.samples).take 10
      vin := r.vin, dieTemps := r.dieTemps, stackTemps := r.stackTemps
      msSum := p.msSum + r.watts, msCount := p.msCount + 1
      msOk := p.msOk && dieOk && 30000000 ≤ nextBudget p.budget r.watts
      warmHeld := p.warmHeld && decide (93 ≤ maxTemp r.stackTemps)
      warmCount := p.warmCount + 1
      emptySum := p.emptySum + r.watts, emptyCount := p.emptyCount + 1
      peakAgo := min 10 (p.peakAgo + 1)
      acted := false }
    telem := if inWin then { t with
        energy := t.energy + r.watts, pPeak := max t.pPeak r.watts, kMin := if t.vinMax = 0 then p.k else min t.kMin p.k, kMax := if t.vinMax = 0 then p.k else max t.kMax p.k
        steppedNs := t.steppedNs + (if 0 < p.k then 10000 else 0)
        tjMax := zipMax t.tjMax r.dieTemps, hbmMax := zipMax t.hbmMax r.stackTemps
        vinMin := if t.vinMax = 0 then r.vin else min t.vinMin r.vin, vinMax := max t.vinMax r.vin } else t }

/-- A downward rule acts with a floor: one step a sample at most (R446, R455). -/
def State.stepDown (s : State) (floor : Nat) (thermal : Bool) : State :=
  let p := s.power
  if p.acted || floor ≤ p.kNext then s
  else { s with power := { p with kNext := p.kNext + 1, acted := true, thermalK := p.thermalK || thermal } }

/-- B falls to 0 from above: counted, and the budget-empty rule acts at once; its 100 µs intervals count from the moment it
began to act (R445, R446). -/
def State.exhaust (s : State) (before : Nat) : State :=
  let p := s.power
  let s1 := if p.emptyActing && 30000000 ≤ p.budget then { s with power := { p with emptyActing := false } } else s
  if 0 < before && p.budget = 0 then
    let q := s1.power
    let s2 := ({ s1 with
      power := { q with
        exhaustions := satAdd 16 p.exhaustions 1, emptyActing := true
        emptySum := if q.emptyActing then q.emptySum else 0, emptyCount := if q.emptyActing then q.emptyCount else 0 }
      telem := { s1.telem with exhaustions := s1.telem.exhaustions + 1 } }.countEvent 3)
    (if q.emptyActing then s2 else s2.stepDown 16 false).powerEvent 1
  else s1

/-- Entering and leaving the temperature conditions (R448, R449, R454). (Log entry 105: DEDUCED.) -/
def State.thermal (s : State) : State :=
  let die := maxTemp s.power.dieTemps
  let stack := maxTemp s.power.stackTemps
  let s1 := if 105 ≤ die && !s.power.dieHot then
      ({ s with power := { s.power with dieHot := true } }.countEvent 5).powerEvent 3
    else if die < 102 && s.power.dieHot then { s with power := { s.power with dieHot := false } }.powerEvent 4
    else s
  if 93 ≤ stack && !s1.power.stackHot then { s1 with power := { s1.power with stackHot := true } }.powerEvent 5
  else if stack < 93 && s1.power.stackHot then { s1 with power := { s1.power with stackHot := false } }.powerEvent 6
  else s1

/-- POWER_SAMPLE (R445, R446, R448, R449, R454): the budget, then the rules of Table 15.6 that a sample
decides. -/
def execPowerSample (r : Sensors) (s : State) : Out :=
  .next (if !s.boot.powered then s
    else
      let before := s.power.budget
      let s1 := (s.measure r).exhaust before
      let s2 := if 105 ≤ maxTemp r.dieTemps || 95 ≤ maxTemp r.stackTemps then s1.stepDown 24 true else s1
      let s3 := if 3300 < r.watts then
          let t := s2.stepDown 16 false
          { t with power := { t.power with peakAgo := 0 } }
        else s2
      s3.thermal)

/-- GOVERNOR_INTERVAL (R446): at the end of a 100 µs interval, the budget-empty rule by its mean, and the
stack-warm rule when a stack was warm throughout. -/
def execGovernorInterval (s : State) : Out :=
  .next (if !s.boot.powered then s
    else
      let p := s.power
      let s1 := if p.emptyActing && 10 ≤ p.emptyCount then
          let t := if 2600 * p.emptyCount < p.emptySum then s.stepDown 16 false else s
          { t with power := { t.power with emptySum := 0, emptyCount := 0 } }
        else s
      if 10 ≤ p.warmCount then
        let t := if p.warmHeld then s1.stepDown 24 true else s1
        { t with power := { t.power with warmHeld := true, warmCount := 0 } }
      else s1)

/-- STEP_UP_CHECK (R446): at a 1 ms boundary, with the millisecond's conditions held and no downward rule
acting, k falls by one. -/
def execStepUpCheck (s : State) : Out :=
  .next (if !s.boot.powered then s
    else
      let p := s.power
      let ok := 0 < p.kNext && !p.acted && 0 < p.msCount && p.msSum ≤ 2600 * p.msCount && p.msOk
      let k := if ok then p.kNext - 1 else p.kNext
      let s1 := { s with power := { p with kNext := k, msSum := 0, msCount := 0, msOk := true, thermalK := p.thermalK && k != 0 } }
      if ok && k = 0 then s1.powerEvent 2 else s1)

/-- CLOCK_STEP_APPLY (R438): the decided step takes effect at a cycle boundary. -/
def execClockStepApply (s : State) : Out :=
  .next (if s.boot.powered then { s with power := { s.power with k := s.power.kNext } } else s)

/-- THERMAL_SHUTDOWN (R450): any die at 115 °C or any stack at 100 °C. Work stops, the logbook is
committed, DOWN goes out on every port, every block but the pilot light loses power, HALTED is set. -/
def execThermalShutdown (r : Sensors) (s : State) : Out :=
  .next (if s.boot.powered && !s.errs.halted && (115 ≤ maxTemp r.dieTemps || 100 ≤ maxTemp r.stackTemps) then
      let s1 := ((s.stopAll.countEvent 6).commitLogbook).downAll
      { s1 with
        errs := { s1.errs with halted := true }
        parts := [], ctxs := [], rings := [], slots := [], jr := {}, tiles := [], dies := [], clusters := [] }
    else s)

/-! ### The logbook's samples (R432, R434, R444) -/

/-- The bin of TJ_HIST for a temperature (Table 14.12). -/
def tjBin (t : Int) : Nat := if t < 20 then 0 else min 31 (1 + ((t - 20) / 3).toNat)

/-- The bin of VIN_HIST for a voltage in units of 10 mV. -/
def vinBin (v : Nat) : Nat := if v < 4650 then 0 else min 31 ((v - 4600) / 50)

/-- The bin of BIAS_HIST. -/
def biasBin (bias factory : Nat) : Nat :=
  if bias * 100 < factory * 95 then 0 else if factory = 0 then 15 else min 15 ((bias * 100 / factory - 90) / 5)

/-- LOGBOOK_SECOND_SAMPLE (R434, R444). -/
def execLogbookSecondSample (s : State) : Out :=
  .next (if !s.boot.powered then s
    else
      let l := s.logbook
      let l1 := { l with
        liveSeconds := satAdd 64 l.liveSeconds 1
        stateSeconds := bump 64 l.stateSeconds s.stateCode 1
        tjHist := ((s.power.dieTemps.zip (List.range 12))).foldl (fun t e => bump 32 t (32 * e.2 + tjBin e.1) 1) l.tjHist
        vinHist := bump 32 l.vinHist (vinBin s.power.vin) 1 }
      let s1 := { s with logbook := l1 }
      if 0 < s.power.k then s1.countEvent 4 else s1)

/-- LOGBOOK_HOURLY_SAMPLE (R434): BIAS_HIST and the peak of each lit laser. -/
def execLogbookHourlySample (s : State) : Out :=
  .next (if !s.boot.powered then s
    else
      { s with logbook := (List.range 48).foldl (fun (l : Logbook) i =>
          let z := s.laser i
          if z.lit && 0 < z.factory then { l with
            biasHist := bump 32 l.biasHist (16 * i + biasBin z.bias z.factory) 1
            peakPermille := Tab.set l.peakPermille i (max (Tab.getD l.peakPermille i 0) (min 65535 (z.bias * 1000 / z.factory))) }
          else l) s.logbook })

/-- LOGBOOK_COMMIT (R432): every 15 minutes the working copy goes into the older bank. -/
def execLogbookCommit (s : State) : Out := .next (if s.boot.powered then s.commitLogbook else s)

end Sys2Proof.Machine
end

