-- ==== Sys2Proof/Machine/Clock.lean ====
section
/-! DEFINITION. The tick of fabric time. -/

namespace Sys2Proof.Machine

/-- The 64-bit count of 1 ns advances (R14, R245). A correction still to be made by rate moves it one ns more or less at most
once in 10,000 ticks, which is 100 ppm; whether an offered step is used is left open (log entry 8: UNVERIFIED). -/
def FabTime.tick (t : FabTime) : FabTime :=
  if t.slew != 0 && t.now % 10000 = 0 && Config.slews t.now then
    let (d, left) : Nat × Int := if 0 < t.slew then (2, t.slew - 1) else (0, t.slew + 1)
    { t with now := (t.now + d) % 2 ^ 64, slew := left }
  else { t with now := (t.now + 1) % 2 ^ 64 }

/-- One tick of fabric time: the count advances, and with it the start of every idle time whose conditions do not hold
(R441). The count stands while 54 V is not present. -/
def State.tick (s : State) : State := if s.boot.powered then { s with time := s.time.tick }.restartIdle else s

end Sys2Proof.Machine
end

