-- ==== Sys2Proof/Machine/Shake.lean ====
section
/-! DEFINITION. SHAKE256, the digest of images, keys, the region table and session keys (R312, R396, R398, R413,
R415; log entry 5: PRESUMED). -/

namespace Sys2Proof.Machine

/-- Rotate a 64-bit lane left. -/
def rotl64 (a r : Nat) : Nat := (a <<< r ||| a >>> (64 - r)) % 2 ^ 64

/-- The rotations of the lanes, by x + 5 y. -/
def rhoBy : List Nat := [0, 1, 62, 28, 27, 36, 44, 6, 55, 20, 3, 10, 43, 25, 39, 41, 45, 15, 21, 8, 18, 2, 61, 56, 14]

/-- The constants of the 24 rounds. -/
def roundKeys : List Nat :=
  [0x1, 0x8082, 0x800000000000808A, 0x8000000080008000, 0x808B, 0x80000001, 0x8000000080008081, 0x8000000000008009,
   0x8A, 0x88, 0x80008009, 0x8000000A, 0x8000808B, 0x800000000000008B, 0x8000000000008089, 0x8000000000008003,
   0x8000000000008002, 0x8000000000000080, 0x800A, 0x800000008000000A, 0x8000000080008081, 0x8000000000008080,
   0x80000001, 0x8000000080008008]

/-- Lane (x, y) of a state of 25 lanes. -/
def lane (a : List Nat) (x y : Nat) : Nat := a.getD (x % 5 + 5 * (y % 5)) 0

/-- Every place (x, y), in the order of the lanes. -/
def mapLanes (f : Nat → Nat → Nat) : List Nat := (List.range 25).map (fun i => f (i % 5) (i / 5))

/-- One round of the permutation. -/
def keccakRound (a : List Nat) (key : Nat) : List Nat :=
  let c := (List.range 5).map (fun x => (List.range 5).foldl (fun v y => v ^^^ lane a x y) 0)
  let t := mapLanes (fun x y => lane a x y ^^^ c.getD ((x + 4) % 5) 0 ^^^ rotl64 (c.getD ((x + 1) % 5) 0) 1)
  let b := mapLanes (fun x y =>
    -- the lane that comes to (x, y) stood at (x + 3 y, x)
    rotl64 (lane t (x + 3 * y) x) (rhoBy.getD ((x + 3 * y) % 5 + 5 * x) 0))
  let d := mapLanes (fun x y => lane b x y ^^^ ((2 ^ 64 - 1 - lane b (x + 1) y) &&& lane b (x + 2) y))
  match d with
  | l :: rest => (l ^^^ key) :: rest
  | [] => []

/-- The permutation of 24 rounds. -/
def keccak (a : List Nat) : List Nat := roundKeys.foldl keccakRound a

/-- The message as blocks of 136 bytes, padded. -/
def shakeBlocks : Nat → List Byte → List (List Byte)
  | 0, _ => []
  | n + 1, m =>
    if m.length < 136 then
      [if m.length = 135 then m ++ [0x9F] else m ++ 0x1F :: List.replicate (134 - m.length) 0 ++ [0x80]]
    else m.take 136 :: shakeBlocks n (m.drop 136)

/-- Take a block into the state. -/
def shakeAbsorb (a : List Nat) (block : List Byte) : List Nat :=
  keccak (mapLanes (fun x y => lane a x y ^^^ ofLeBytes ((block.drop (8 * (x + 5 * y))).take 8)))

/-- The output of one squeeze, 136 bytes. -/
def shakeOut (a : List Nat) : List Byte := (a.take 17).flatMap (leBytes 8)

/-- The first 256 or 512 bits of SHAKE256, as bytes: up to 1,088 bits come of one squeeze. -/
def shake256 (m : List Byte) (bits : Nat) : List Byte :=
  (shakeOut ((shakeBlocks (m.length / 136 + 1) m).foldl shakeAbsorb (List.replicate 25 0))).take (bits / 8)

end Sys2Proof.Machine
end

