-- ==== Sys2Proof/Machine/Security.lean ====
section
/-! DEFINITION. Firmware images, certificates, quotes (R6, R397, R398, R409, R412 to R415). -/

namespace Sys2Proof.Machine

/-- The bytes of a digest of 256 bits as a number. -/
def digest256 (bs : List Byte) : Nat := ofLeBytes (shake256 bs 256)

/-- Bytes [a, a + n) of a list. -/
def slice (bs : List Byte) (a n : Nat) : List Byte := (bs.drop a).take n

/-- Are bytes [a, a + n) all zero? -/
def zeroAt (bs : List Byte) (a n : Nat) : Bool := (slice bs a n).all (· = 0)

/-- The BALLAST code of the order code (Table 0.2). -/
def State.ballastCode (s : State) : Nat := if s.order1536 then 1 else 0

/-- XD_DEVICE_ID (Table 0.2). -/
def State.deviceId (s : State) : Nat := 0x2001 * 2 ^ 16 + 0x0A * 2 ^ 8 + s.ballastCode

/-! ### Images (R397, R398) -/

/-- Checks 1 to 5 of Table 13.9 on a header of 4,096 bytes: the FAIL_CAUSE of the first that fails, 0
for none. -/
def State.headerFail (s : State) (h : List Byte) : Nat :=
  let svn := fieldAt h 0x0C 4
  let key := slice h 0x60 1793
  let len := fieldAt h 0x14 4
  let sig := fieldAt h 0x780 2
  if fieldAt h 0 4 != 0x44584631 || fieldAt h 4 2 != 1 || !zeroAt h 9 3 || !zeroAt h 0x1C 4 || !zeroAt h 0x761 31
      || !zeroAt h 0xD38 712 || fieldAt h 0x18 4 / 4 != 0 || len < 4097 || 50331648 < len then 1
  else if fieldAt h 6 2 != 0x2001 || fieldAt h 8 1 != 0x0A then 2
  else if digest256 key != s.fuses.keyDigest1 && (s.fuses.key0Revoked || digest256 key != s.fuses.keyDigest0) then 3
  else if sig = 0 || 1462 < sig || !zeroAt h (0x782 + sig) (1462 - sig)
      || !Config.falconVerify key (slice h 0 0x780) (slice h 0x782 sig) then 4
  else if svn < s.fuses.minSvn || 64 < svn then 5
  else 0

/-- Check 6: the body's digest. -/
def bodyOk (img : List Byte) : Bool :=
  shake256 (slice img 0x1000 (fieldAt img 0x14 4 - 0x1000)) 512 = slice img 0x20 64

/-- All six checks on an image (R398). -/
def State.imageFail (s : State) (img : List Byte) : Nat :=
  let f := s.headerFail (slice img 0 4096)
  if f != 0 then f
  else if img.length < fieldAt img 0x14 4 || !bodyOk img then 6
  else 0

/-- The image area of flash, as long as its header says. -/
def State.flashHeader (s : State) : List Byte := Mem.read pageDflt s.flash.image 0 4096
def State.flashImage (s : State) : List Byte := Mem.read pageDflt s.flash.image 0 (min 50331648 (fieldAt s.flashHeader 0x14 4))

/-- The image area written from bytes; what lies beyond keeps its contents (R395). -/
def State.writeImageArea (s : State) (img : List Byte) : State :=
  { s with flash := { s.flash with image := Mem.putAll pageDflt s.flash.image 0 img } }

/-- What runs once an image has been verified (R399, R400, R415). -/
def State.runningOf (s : State) (img : List Byte) : Running :=
  { release := fieldAt img 0x10 4, svn := fieldAt img 0x0C 4, digest := slice img 0x20 64
    bySecondKey := digest256 (slice img 0x60 1793) = s.fuses.keyDigest1
    commitSvn := bitOf (fieldAt img 0x18 4) 0, revokeKey0 := bitOf (fieldAt img 0x18 4) 1, image := img }

/-! ### Certificates (R413, R414) -/

/-- The 3,584 bytes of a certificate (Table 13.17). -/
def CertKey.bytes (c : CertKey) (kind serial part revision ballast : Nat) (issuer : List Byte) : List Byte :=
  le 4 0x43584631 ++ le 2 1 ++ le 2 kind ++ le 8 serial ++ le 2 part ++ le 1 revision ++ le 1 ballast ++ le 4 0
  ++ shake256 (padTo 1793 issuer) 256 ++ padTo 1793 c.key ++ le 7 0 ++ le 2 c.sig.length ++ padTo 1462 c.sig ++ le 264 0

/-- The chain in the device key block: the device certificate bears DEVICE_SERIAL and the fields of XD_DEVICE_ID (R413, Table 0.2). -/
def State.certChain (s : State) : List Byte :=
  let f := s.flash
  f.rootCert.bytes 1 f.rootCert.serial 0 0 0 f.rootCert.key ++ f.makerCert.bytes 2 f.makerCert.serial 0 0 0 f.rootCert.key
  ++ f.deviceCert.bytes 3 s.fuses.serial 0x2001 0x0A s.ballastCode f.makerCert.key

/-- The k-th certificate of a chain. -/
def certAt (chain : List Byte) (k : Nat) : List Byte := slice chain (3584 * k) 3584

/-- One certificate holds under an issuer key and KIND (log entry 174: DEDUCED). -/
def certOk (c issuer : List Byte) (kind : Nat) : Bool :=
  let sig := fieldAt c 0x740 2
  fieldAt c 0 4 = 0x43584631 && fieldAt c 4 2 = 1 && fieldAt c 6 2 = kind
  && zeroAt c 0x14 4 && zeroAt c 0x739 7 && zeroAt c 0xCF8 264
  && slice c 0x18 32 = shake256 issuer 256
  && 1 ≤ sig && sig ≤ 1462 && Config.falconVerify issuer (slice c 0 0x740) (slice c 0x742 sig)

def subjectKey (c : List Byte) : List Byte := slice c 0x38 1793

/-- A chain is valid (R414). -/
def State.chainOk (s : State) (chain : List Byte) : Bool :=
  let root := certAt chain 0
  let man := certAt chain 1
  let dev := certAt chain 2
  chain.length = 10752
  && digest256 (subjectKey root) = s.fuses.rootDigest
  && certOk root (subjectKey root) 1 && certOk man (subjectKey root) 2 && certOk dev (subjectKey man) 3
  && fieldAt dev 0x10 2 = 0x2001 && fieldAt dev 0x12 1 = 0x0A && fieldAt dev 0x13 1 = s.ballastCode

/-! ### The region table and quotes (R409, R411, R415) -/

/-- The 32 KiB region table as REGION_QUERY returns it. -/
def State.regionBytes (s : State) : List Byte :=
  (List.range 4096).flatMap (fun i => le 8 (Tab.getD s.regions i 0).toNat)

/-- The code of a twin state (Table 11.3). -/
def TState.code : TState → Nat
  | .unpaired => 0
  | .pairing => 1
  | .paired => 2
  | .twinLost => 3
  | .solo => 4
  | .restoring => 5

/-- XD_MODULE_ID (Table 8.7). -/
def State.moduleIdReg (s : State) : Nat := match s.ident with | some i => i + 2 ^ 31 | none => 0

/-- The signed part of a quote, bytes [0, 0x100) (Table 13.18). -/
def State.quoteHead (s : State) (nonce : List Byte) (scope ctx : Nat) : List Byte :=
  let x := if scope = 1 then s.ctx? ctx else none
  let r := s.boot.running
  le 4 0x51584631 ++ le 2 1 ++ le 2 scope ++ (nonce.take 32 ++ List.replicate (32 - nonce.length) 0)
  ++ le 8 s.fuses.serial ++ le 4 s.deviceId ++ le 4 s.moduleIdReg ++ le 8 s.time.now
  ++ ((r.map (·.digest)).getD []).take 64 ++ List.replicate (64 - ((r.map (·.digest)).getD []).length) 0
  ++ le 4 ((r.map (·.release)).getD 0) ++ le 1 ((r.map (·.svn)).getD 0) ++ le 1 s.fuses.minSvn ++ le 1 s.boot.source
  ++ le 1 s.twin.state.code ++ le 4 (s.twin.twinId.getD 0)
  ++ le 2 (if scope = 1 then ctx else 0xFFFF) ++ le 1 ((x.map (·.params.partition)).getD 0xFF) ++ le 1 0
  ++ le 2 ((x.map (·.params.client)).getD 0) ++ le 6 0 ++ le 8 ((x.map Ctx.sealedId).getD 0)
  ++ shake256 s.regionBytes 256 ++ le 64 0

/-- A signature by the device key, drawn anew (R412). -/
def State.sign (s : State) (bs : List Byte) : List Byte × State :=
  (Config.falconSign s.flash.wrappedKey s.fuses.wrapKey bs s.freeCtr, { s with freeCtr := s.freeCtr + 1 })

/-- The 2,048-byte quote (R415). -/
def State.quote (s : State) (nonce : List Byte) (scope ctx : Nat) : List Byte × State :=
  let head := s.quoteHead nonce scope ctx
  let (sig, t) := s.sign head
  (head ++ le 2 sig.length ++ sig ++ List.replicate (1462 - sig.length) 0 ++ le 328 0, t)

end Sys2Proof.Machine
end

