-- ==== Sys2Proof/Machine/SysCmds.lean ====
section
/-! DEFINITION. Firmware update, module reset, resynchronisation, certificates, quotes, the region table
(R390 to R394, R402, R407, R411, R413, R415). -/

namespace Sys2Proof.Machine

/-- FW_UPDATE (R407): the copy is verified; a failure leaves flash untouched and sets FAIL_CAUSE; else the
image area is written and UPDATE_PENDING set. (Log entry 84: DEDUCED.) -/
def execFwUpdate (h : CmdHead) (addr len : Nat) (image : Option (List Byte)) (s : State) : Out :=
  gheit h (67108864 < len || !fits 64 addr) true (fun s =>
    match image with
    | none => .refused 0x10 0
    | some bytes =>
      let img := bytes.take len
      let f := s.imageFail img
      if f != 0 then .refusedIn 0x11 f { s with boot := { s.boot with fail := f } }
      else
        let s1 := s.writeImageArea (img.take (fieldAt img 0x14 4))
        .ok [] (({ s1 with boot := { s1.boot with updatePending := true } }.countEvent 13).commitLogbook)) s

/-- MODULE_RESET (R402, R432): OK at once; the logbook is committed, and the warm reset follows. -/
def execModuleReset (h : CmdHead) (s : State) : Out :=
  gheit h false true (fun s => .ok [] { s.commitLogbook with boot := { s.boot with resetDue := true } }) s

/-- The bytes of a ring's control block that the module writes (Table 12.9). -/
def Ring.ctrl (r : Ring) : List Byte :=
  le 8 r.accepted ++ le 8 r.complete ++ le 8 r.rejectSeq ++ le 2 r.rejectStatus ++ le 2 r.rejectDesc ++ le 4 r.rejectCount
  ++ le 8 r.dupSeq ++ le 4 r.dupCount ++ le 20 0

/-- Write bytes [a, a + n) of a ring's control block. -/
def State.writeCtrl (s : State) (g a n : Nat) : State :=
  match Tab.get s.rings g with
  | some r => s.jobWrite (s.ownerOf r.params.ctx) (r.params.ctrlAddr + a) (slice r.ctrl a n)
  | none => s

/-- The rings of a function. -/
def State.fnRings (s : State) (fn : Nat) : List Nat :=
  (s.rings.filter (fun e => (s.ctx? e.2.params.ctx).isSome && s.ownerOf e.2.params.ctx = fn)).map (·.1)

/-- The drain of a hold log: the held writes in order, then each ring's A_g and C_g, then each bound
vector once (R394). -/
def State.drainHold (s : State) (fn : Nat) : State :=
  let f := s.fn fn
  let s1 := (s.setFn fn { f with hold := [], holdFullAt := none, awaitResync := false }).emit f.hold
  let gs := s1.fnRings fn
  let s2 := gs.foldl (fun a g => a.writeCtrl g 0 16) s1
  ((gs.filterMap (fun g => (Tab.get s2.rings g).map (·.params.vector))).eraseDups).foldl (fun a v => a.fnVector fn v) s2

/-- FUNCTION_RESYNC (R394): with an empty hold log it completes OK, and only lets fetching go on (log
entry 25: DEDUCED). -/
def execFunctionResync (h : CmdHead) (discard : Nat) (s : State) : Out :=
  gheit h (1 < discard) false (fun s =>
    let f := s.fn h.fn
    let done (t : State) : State := t.ctxs.foldl (fun a c => if c.2.owner = h.fn then a.refresh c.1 else a) t
    if f.hold.isEmpty then .ok [] (done (s.setFn h.fn { f with awaitResync := false, holdFullAt := none }))
    else if discard = 0 then .ok (leBytes 8 f.hold.length) (done (s.drainHold h.fn))
    else .ok (leBytes 8 0) (done (s.setFn h.fn { f with hold := [], holdFullAt := none, awaitResync := false }))) s

/-- CERT_READ (R413): the chain of 10,752 bytes. -/
def execCertRead (h : CmdHead) (addr : Nat) (s : State) : Out :=
  gheit h (!fits 64 addr) false (fun s =>
    .ok [] (s.fnWrite h.fn addr s.certChain)) s

/-- ATTEST_QUOTE (R415): any function for the module, the owner for a context. -/
def execAttestQuote (h : CmdHead) (nonce : List Byte) (scope ctx addr : Nat) (s : State) : Out :=
  gheit h (1 < scope || addr % 64 != 0 || !fits 64 addr) false (fun s =>
    let go : CmdEnd :=
      let (bytes, t) := s.quote nonce scope ctx
      .ok [] (t.fnWrite h.fn addr bytes)
    if scope = 1 then forOwner h ctx (fun _ => go) s else go) s

/-- REGION_QUERY (R411). -/
def execRegionQuery (h : CmdHead) (addr : Nat) (s : State) : Out :=
  gheit h (!fits 64 addr) true (fun s => .ok [] (s.fnWrite h.fn addr s.regionBytes)) s

end Sys2Proof.Machine
end

