-- ==== Sys2Proof/Machine/Records.lean ====
section
/-! DEFINITION. Tickets, descriptors and journal records as bytes; the configuration tables that a twin keeps of its
partner (R9, R10, R320, R321, R328, R363). -/

namespace Sys2Proof.Machine

/-! ### Tickets and descriptors (R363) -/

/-- The ticket that 128 bytes spell (Table 12.8). -/
def ticketOf (b : List Byte) : Ticket :=
  let flags := fieldAt b 9 1
  { tseq := fieldAt b 0 8, kind := fieldAt b 8 1, irqDone := bitOf flags 0, irqAccept := bitOf flags 1
    descCount := fieldAt b 10 2, descAddr := fieldAt b 16 8, resultAddr := fieldAt b 24 8, commitId := fieldAt b 32 8
    userTag := BitVec.ofNat 64 (fieldAt b 40 8)
    reserved := flags / 4 != 0 || fieldAt b 12 4 != 0 || fieldAt b 48 80 != 0 }

/-- The 128 bytes of a ticket, its reserved ones zero. -/
def Ticket.bytes (t : Ticket) : List Byte :=
  le 8 t.tseq ++ le 1 t.kind ++ le 1 ((if t.irqDone then 1 else 0) + (if t.irqAccept then 2 else 0)) ++ le 2 t.descCount ++ le 4 0
  ++ le 8 t.descAddr ++ le 8 t.resultAddr ++ le 8 t.commitId ++ le 8 t.userTag.toNat ++ le 80 0

/-- The descriptor that 64 bytes spell. -/
def descOf (b : List Byte) : Desc :=
  let w (i : Nat) : Word64 := BitVec.ofNat 64 (fieldAt b (8 * i) 8)
  ⟨w 0, w 1, w 2, w 3, w 4, w 5, w 6, w 7⟩

/-- The 64 bytes of a descriptor. -/
def Desc.bytes (d : Desc) : List Byte := [d.w0, d.w1, d.w2, d.w3, d.w4, d.w5, d.w6, d.w7].flatMap (fun w => le 8 w.toNat)

/-- The descriptors that bytes spell, 64 each. -/
def descsOf (b : List Byte) : List Desc := (List.range (b.length / 64)).map (fun i => descOf (b.drop (64 * i)))

/-! ### Records (Tables 11.7, 11.8) -/

/-- TYPE of a record (Table 11.8). -/
def JBody.typeCode : JBody → Nat
  | .accept _ => 0x01
  | .desc _ => 0x02
  | .complete _ => 0x03
  | .config _ => 0x04
  | .hostWrite _ _ _ => 0x05
  | .freeze _ => 0x06
  | .sealed _ => 0x07
  | .release _ => 0x08
  | .rollback _ => 0x09
  | .prompt _ _ => 0x0A
  | .fault _ _ => 0x0B

/-- BODY of a record (Table 11.8; log entry 93: DEDUCED). -/
def JBody.bytes : JBody → List Byte
  | .accept t => t.bytes
  | .desc ds => ds.flatMap Desc.bytes
  | .complete e => e
  | .config op => Config.configBody op
  | .hostWrite h off bs => le 4 h ++ le 4 bs.length ++ le 8 off ++ bs
  | .freeze c | .sealed c | .release c | .rollback c => le 8 c
  | .prompt slot bs => le 4 slot ++ le 4 bs.length ++ bs
  | .fault cause layer => le 2 cause ++ le 2 0 ++ le 4 layer

/-- The 256 bytes of a record with their CRC (Table 11.7). -/
def JRec.bytes (r : JRec) : List Byte :=
  let b := le 8 r.seq ++ le 1 r.body.typeCode ++ le 1 0 ++ le 2 r.part ++ le 2 r.count ++ le 2 r.ring ++ le 2 r.ctx ++ le 2 0
    ++ le 8 r.tseq ++ le 8 r.commit ++ padTo 216 r.body.bytes
  b ++ le 4 (crc32c b)

/-- Records of a ticket's entry: ACCEPT, then three descriptors to a record (Table 11.8). -/
def descBodies : Nat → List Desc → List JBody
  | 0, _ => []
  | fuel + 1, ds => if ds.isEmpty then [] else .desc (ds.take 3) :: descBodies fuel (ds.drop 3)

def ticketBodies (t : Ticket) (ds : List Desc) : List JBody := .accept t :: descBodies (ds.length + 1) ds

/-- A record put in its place. -/
def putRec (l : List JRec) (r : JRec) : List JRec :=
  l.filter (fun q => q.seq < r.seq) ++ [r] ++ l.filter (fun q => r.seq < q.seq)

/-- The payload of a message as it goes over the tether: journal records byte by byte (R320), else as the implementation
lays it out. -/
def Msg.payload : Msg → List Byte
  | .journal rs => rs.flatMap JRec.bytes
  | m => Config.msgPayload m

/-! ### Completed tickets (R321) -/

/-- C_g after a completion: the highest number at or below which all have completed. -/
def closeGaps : Nat → Nat → List Nat → Nat × List Nat
  | 0, c, above => (c, above)
  | fuel + 1, c, above => if above.contains (c + 1) then closeGaps fuel (c + 1) (above.filter (· != c + 1)) else (c, above)

/-- C_g and the completed numbers past it, once a ticket has completed. -/
def countDone (complete : Nat) (above : List Nat) (tseq : Nat) : Nat × List Nat :=
  if tseq ≤ complete || above.contains tseq then (complete, above)
  else closeGaps (above.length + 1) complete (above ++ [tseq])

/-- A completed TSEQ enters the ring's count. -/
def Ring.completed (r : Ring) (tseq : Nat) : Ring :=
  let (c, above) := countDone r.complete r.above tseq
  { r with complete := c, above := above }

/-- A ticket of the given status counts for its client (R359). -/
def Counts.finish (c : Counts) (status : Nat) : Counts :=
  if status = 2 ∨ status = 3 then { c with faulted := c.faulted + 1 } else { c with completed := c.completed + 1 }

/-! ### The configuration tables (Table 11.6, R340; log entry 151: DEDUCED) -/

/-- The client of a ring's context. -/
def ModTables.client (t : ModTables) (ring : Nat) : Nat :=
  ((Tab.get t.rings ring).bind (fun r => Tab.get t.ctxs r.params.ctx)).elim 0 (fun c => c.2.1.client)

/-- Change a client's counts. -/
def ModTables.countClient (t : ModTables) (client : Nat) (f : Counts → Counts) : ModTables :=
  { t with clients := Tab.set t.clients client (f (Tab.getD t.clients client {})) }

/-- Numbers below n that no partition's list holds, lowest first (R286). -/
def ModTables.free (t : ModTables) (n : Nat) (f : PartitionParams × List Nat × List Nat × Nat × Nat → List Nat) : List Nat :=
  (List.range n).filter (fun d => t.parts.all (fun p => !(f p.2).contains d))

/-- A CONFIG record of a partition, context, ring binding or reservation is applied; the others are the jobs' own. -/
def ModTables.config (t : ModTables) : ConfigOp → ModTables
  | .partitionCreate p => match lowestFree 10 (Tab.keys t.parts) with
    | some n =>
      let dies := (t.free 10 (fun e => e.2.1)).take p.dies
      let channels := (t.free 12 (fun e => e.2.2.1)).take p.channels
      { t with parts := Tab.set t.parts n (p, dies, channels, p.quantum, 0) }
    | none => t
  | .partitionDestroy n => { t with parts := Tab.erase t.parts n }
  | .partitionQuantum n q => { t with parts := Tab.modify t.parts n (fun e => (e.1, e.2.1, e.2.2.1, q, e.2.2.2.2)) }
  | .contextCreate fn p => match lowestFree 1024 (Tab.keys t.ctxs) with
    | some n => { t with ctxs := Tab.set t.ctxs n (fn, p, p.priority) }
    | none => t
  | .contextDestroy n => { t with ctxs := Tab.erase t.ctxs n }
  | .contextPriority n p => { t with ctxs := Tab.modify t.ctxs n (fun e => (e.1, e.2.1, p)) }
  | .ringCreate p => match lowestFree 16384 (Tab.keys t.rings) with
    | some g => { t with rings := Tab.set t.rings g { params := p } }
    | none => t
  | .ringDestroy g => { t with rings := Tab.erase t.rings g }
  | .fabricReserve n share lend => { t with lend := lend, parts := Tab.modify t.parts n (fun e => (e.1, e.2.1, e.2.2.1, e.2.2.2.1, share)) }
  | .tensorCreate _ _ | .tensorDelete _ _ | .kvPoolCreate _ _ _ | .kvMap _ _ _ _ | .kvPoolDestroy _ _ | .slotAssign _ _ | .slotRelease _ _
  | .queueCreate _ _ | .queueDestroy _ _ | .xgroupCreate _ _ _ | .xgroupDestroy _ _ | .gatherBudget _ _ | .mapPlan _ _ _ | .mapPlanDrop _ _ => t

/-- A record that the tables do not hold yet: configuration, A_g, C_g, client counts. -/
def ModTables.take (t : ModTables) (r : JRec) : ModTables :=
  if r.seq < t.next then t
  else
    let u : ModTables := { t with next := r.seq + 1 }
    match r.body with
    | .config op => u.config op
    | .accept k => { u with rings := Tab.modify u.rings r.ring (fun g => { g with accepted := max g.accepted k.tseq }) }.countClient
        (u.client r.ring) (fun c => { c with accepted := c.accepted + 1 })
    | .complete e => { u with rings := Tab.modify u.rings r.ring (fun g =>
          { g with complete := (countDone g.complete g.above r.tseq).1, above := (countDone g.complete g.above r.tseq).2 }) }.countClient
        (u.client r.ring) (fun c => c.finish (fieldAt e 8 2))
    | _ => u

/-- The tables of this module as its own journal gives them: a ticket whose records are written counts as accepted, one
whose COMPLETE is written as completed. -/
def State.modTables (s : State) : ModTables :=
  let base : ModTables :=
    { parts := Tab.mapVals s.parts (fun _ p => (p.params, p.dies, p.channels, p.quantum, p.share)), lend := s.lend
      ctxs := Tab.mapVals s.ctxs (fun _ x => (x.owner, x.params, x.priority))
      rings := Tab.mapVals s.rings (fun _ r => { params := r.params, accepted := r.accepted, complete := r.complete, above := r.above })
      clients := s.clients, next := s.jr.nextSeq }
  let t1 := s.rings.foldl (fun (t : ModTables) g => match g.2.journaling with
    | some j => if j.written then
        { t with rings := Tab.modify t.rings g.1 (fun r => { r with accepted := max r.accepted j.ticket.tseq }) }.countClient
          (t.client g.1) (fun c => { c with accepted := c.accepted + 1 })
      else t
    | none => t) base
  s.ctxs.foldl (fun t x => x.2.runs.foldl (fun (t : ModTables) q =>
    if q.doneSeq.isSome then
      let u := { t with rings := Tab.modify t.rings q.ring (fun g =>
        { g with complete := (countDone g.complete g.above q.tseq).1, above := (countDone g.complete g.above q.tseq).2 }) }
      if q.mode = .normal then u.countClient x.2.params.client (fun c => c.finish (q.status.getD 0)) else u
    else t) t) t1

end Sys2Proof.Machine
end

