-- ==== Sys2Proof/Machine/Auth.lean ====
section
/-! DEFINITION. Mutual authentication of twins (R312, R313). -/

namespace Sys2Proof.Machine

/-- Change the twin's state. -/
def State.modTwin (s : State) (g : Twin → Twin) : State := { s with twin := g s.twin }

/-- The module that authentication is with: the survivor of a restore, the module served, or TWIN_ID. -/
def State.authPeer (s : State) : Option Nat :=
  match s.twin.restoring, s.twin.serving with
  | some r, _ => some r.survivor
  | none, some r => some r.req.ident
  | none, none => s.twin.twinId

/-- The keys of an authentication, with no exchange under way. -/
def Auth.keys (a : Auth) : Auth := { sessionKey := a.sessionKey, oldKey := a.oldKey, keyedAt := a.keyedAt, keyWraps := a.keyWraps }

/-- The session ends (R314). What was protected under its key before and is still on its way verifies by it (log entry 152:
DEDUCED). -/
def Auth.ended (a : Auth) : Auth := { oldKey := a.sessionKey.orElse (fun _ => a.oldKey) }

/-- Step 1 of R312: the certificates and a fresh encapsulation key are sent; traffic goes on under a
session key that stands (R313). -/
def State.beginAuth (s : State) : State :=
  match s.authPeer with
  | some p =>
    let n := s.freeCtr
    ({ s with
      freeCtr := n + 1
      twin := { s.twin with auth := { s.twin.auth.keys with keyDraw := some n } } }.send p none
        (.auth (.hello s.twin.auth.sessionKey.isNone s.certChain (Config.kemKey n))))
  | none => s

/-- The transcript of steps 1 and 2: certificates and keys, then ciphertexts, those of the smaller
identity first (log entry 24: DEDUCED). -/
def State.transcript (s : State) (p : Nat) : List Byte :=
  let a := s.twin.auth
  let own := s.certChain ++ Config.kemKey (a.keyDraw.getD 0)
  let peer := a.peerCerts.getD [] ++ a.peerKey.getD []
  let ownC := Config.kemCipher (a.peerKey.getD []) (a.encDraw.getD 0)
  let peerC := a.cipher.getD []
  if s.ident.getD 0 < p then own ++ peer ++ ownC ++ peerC else peer ++ own ++ peerC ++ ownC

/-- Step 5: the session key from the two shared secrets and the transcript. -/
def State.sessionKey (s : State) (p : Nat) : List Byte :=
  let a := s.twin.auth
  let own := Config.kemShared (a.peerKey.getD []) (a.encDraw.getD 0)
  let peer := Config.kemShared (a.cipher.getD []) (a.keyDraw.getD 0)
  shake256 ((if s.ident.getD 0 < p then own ++ peer else peer ++ own) ++ s.transcript p) 256

/-- Step 1 received: the peer holds no session key any more, so this end's is no session either (R314); the certificates
and key are kept, this module's own step 1 follows if the exchange is a new one, then step 2. -/
def State.authHello (s : State) (p : Nat) (fresh : Bool) (certs key : List Byte) : State :=
  let s0 := if fresh then s.modTwin (fun t => { t with auth := { t.auth with
      sessionKey := none, oldKey := t.auth.sessionKey.orElse (fun _ => t.auth.oldKey) } }) else s
  let s1 := if s0.twin.auth.keyDraw.isSome && s0.twin.auth.peerCerts.isNone then s0 else s0.beginAuth
  let n := s1.freeCtr
  { s1 with
    freeCtr := n + 1
    twin := { s1.twin with auth := { s1.twin.auth with peerCerts := some certs, peerKey := some key, encDraw := some n } } }.send p none
      (.auth (.cipher (Config.kemCipher key n)))

/-- Step 2 received: step 3, the transcript is signed. -/
def State.authCipher (s : State) (p : Nat) (c : List Byte) : State :=
  let s1 := s.modTwin (fun t => { t with auth := { t.auth with cipher := some c } })
  let (sig, s2) := s1.sign (s1.transcript p)
  s2.send p none (.auth (.signed sig))

/-- The new session key stands, the one before it with it, until the next (R313). -/
def State.newSession (s : State) (p : Nat) : State :=
  s.modTwin (fun t => { t with auth := {
    verified := true, sessionKey := some (s.sessionKey p), oldKey := t.auth.sessionKey.orElse (fun _ => t.auth.oldKey)
    keyedAt := s.time.now, keyWraps := (List.range 8).map (fun v => Tab.getD s.net.txWraps (p * 8 + v) 0) } })

/-- The keys that a tether message may be protected under: the session key, the one before it, and the one of the exchange
under way, which the peer may already use (R313; log entry 152: DEDUCED). -/
def State.tetherKeys (s : State) : List (List Byte) :=
  let a := s.twin.auth
  a.sessionKey.toList ++ a.oldKey.toList
  ++ (match s.authPeer with
      | some p => if a.cipher.isSome && a.peerKey.isSome && a.keyDraw.isSome && a.encDraw.isSome then [s.sessionKey p] else []
      | none => [])

/-- The 96-bit nonce of a message: VC in [95:88], direction in [87], MSG_SEQ in [31:0] (R313). -/
def nonceOf (vc : Nat) (fromSmaller : Bool) (seq : Nat) : BitVec 96 :=
  BitVec.ofNat 96 (vc * 2 ^ 88 + (if fromSmaller then 0 else 2 ^ 87) + seq % 2 ^ 32)

/-- May a protected message with a number start now: a session key stands that is less than an hour old, and MSG_SEQ of its
VC has not wrapped since the key was agreed (R313)? -/
def State.sealsNow (s : State) (vc wraps : Nat) : Bool :=
  s.twin.auth.sessionKey.isSome && s.time.now < s.twin.auth.keyedAt + 3600000000000 && wraps ≤ s.twin.auth.keyWraps.getD vc 0

/-- Step 4: do the peer's chain and signature hold? -/
def State.authVerified (s : State) (p : Nat) (sig : List Byte) : Bool :=
  let certs := s.twin.auth.peerCerts.getD []
  s.twin.auth.cipher.isSome && s.twin.auth.encDraw.isSome && s.chainOk certs
  && Config.falconVerify (subjectKey (certAt certs 2)) (s.transcript p) sig

end Sys2Proof.Machine
end

