-- ==== Sys2Proof/Machine/Ports.lean ====
section
/-! DEFINITION. Link commands and events: training, retry, credits, packets, fabric time, health, lasers,
cartridges, identities and reservations (R224 to R253). -/

namespace Sys2Proof.Machine

/-! ### Commands (R237, R238, R248, R252) -/

/-- MODULE_ID_SET (R238). -/
def execModuleIdSet (h : CmdHead) (ident size : Nat) (s : State) : Out :=
  gheit h (size = 0 || 262144 < size || size ≤ ident) true (fun s =>
    let changes := s.ident != some ident
    refuseIf [(changes && (!s.parts.isEmpty || s.twin.state != .unpaired), 0x06)]
      (let s1 := { s with flash := { s.flash with ident := some (ident, size) } }
       .ok [] (if changes then
         ((List.range 36).foldl (fun a i =>
            let st := (a.port i).state
            if st = .inService ∨ st = .training ∨ st = .refused then a.retrain i else a) s1).elect
        else s1))) s

/-- FABRIC_RESERVE (R237): tokens gained until now are at the old share. -/
def execFabricReserve (h : CmdHead) (part share lend : Nat) (s : State) : Out :=
  gheit h (64 < share || 1 < lend) true (fun s =>
    if !Tab.has s.parts part then .refused 0x12 0
    else
      let others := ((s.parts.filter (fun p => p.1 != part)).map (fun p => p.2.share)).sum
      let s1 := (List.range 32).foldl (fun a i => a.countTokens i) s
      refuseIf [(64 < others + share, 0x01)]
        (.ok [] ({ (s1.modPart part (fun p => { p with share := share })) with lend := lend = 1 }.journalOp 0xFFFF
          (.fabricReserve part share (lend = 1))))) s

/-- PORT_RESET (R248): a DOWN port trains again. -/
def execPortReset (h : CmdHead) (port : Nat) (s : State) : Out :=
  gheit h (35 < port) true (fun s =>
    if (s.port port).state = .down then
      .ok [] ((s.modPort port (fun p => { p with needReset := false, failures := [] })).beginTraining port)
    else .ok [] s) s

/-- CARTRIDGE_RELEASE (R252): the nine ports start no packet; those whose retry window is acknowledged
leave service at once. -/
def execCartridgeRelease (h : CmdHead) (cart : Nat) (s : State) : Out :=
  gheit h (3 < cart) true (fun s =>
    let s1 := { s with carts := Tab.set s.carts cart { s.cart cart with releasing := true } }
    .ok [] (((cartPorts cart).foldl (fun a i => if (a.port i).unacked.isEmpty then a.sendDown i else a) s1).finishRelease cart)) s

/-! ### Training (R231, R232) -/

/-- LIGHT_DETECTED: light on all four receive lanes starts training, or ends its step 1. -/
def execLightDetected (port : Nat) (s : State) : Out :=
  withUnit (port < 36)
    (let s1 := s.modPort port (fun p => { p with light := true })
     match (s.port port).state, (s.port port).step with
     | .down, _ => s1.beginTraining port
     | .training, 1 => s1.modPort port (fun p => { p with step := 2 })
     | _, _ => s1)

/-- LIGHT_LOST (R243, R252, R253): a port in service leaves it; one in training is back at step 1. A
pulled cartridge's ports lose their light one by one. (Log entry 104: DEDUCED.) -/
def execLightLost (port : Nat) (s : State) : Out :=
  withUnit (port < 36)
    (let s1 := s.modPort port (fun p => { p with light := false })
     match (s.port port).state with
     | .inService => (s1.leaveService port .down 0).finishRelease (portCart port)
     | .training => s1.modPort port (fun p => { p with step := 1 })
     | _ => s1)

/-- EQUALISER_LOCKED: step 2 ends. -/
def execEqualiserLocked (port : Nat) (s : State) : Out :=
  withUnit (port < 36)
    (if (s.port port).state = .training ∧ (s.port port).step = 2 then s.modPort port (fun p => { p with step := 3 }) else s)

/-- The TRAIN flit this module sends on a port (Table 8.5). -/
def State.trainFlit (s : State) (i : Nat) : TrainFlit :=
  { ident := s.ident, revision := 0x0A, port := i, switch := false
    txDelay := Config.txDelay i, rxDelay := Config.rxDelay i, remoteRtt := 0, incarnation := s.twin.incarnation }

/-- CODEWORD_BOUNDARIES_FOUND: step 3 ends and the port sends TRAIN. -/
def execCodewordBoundariesFound (port : Nat) (s : State) : Out :=
  withUnit (port < 36)
    (if (s.port port).state = .training ∧ (s.port port).step = 3 then
       s.modPort port (fun p => { p with step := 4, ctl := p.ctl ++ [.train (s.trainFlit port)] }) else s)

/-- TRAINING_STEP_TIMEOUT: a step exceeds its limit; the port returns to step 1. -/
def execTrainingStepTimeout (port : Nat) (s : State) : Out :=
  withUnit (port < 36)
    (if (s.port port).state = .training then s.modPort port (fun p => { p with step := 1, samples := [], peer := none, ctl := [] }) else s)

/-- TRAINING_TIMEOUT (R231, R248): the port is DOWN; three failures within 10 s hold it there until
PORT_RESET. -/
def execTrainingTimeout (port : Nat) (s : State) : Out :=
  withUnit (port < 36)
    (if (s.port port).state = .training then
       let fs := (s.time.now :: (s.port port).failures).filter (fun t => s.time.now < t + 10000000000)
       (s.modPort port (fun p => { p with failures := fs, needReset := 3 ≤ fs.length, ctl := [] })).setPState port .down 0
     else s)

/-- PORT_RETRY (R231, R232): a DOWN or REFUSED port tries to train again. -/
def execPortRetry (port : Nat) (s : State) : Out :=
  withUnit (port < 36)
    (if (s.port port).state = .down ∨ (s.port port).state = .refused then s.beginTraining port else s)

/-- The refusal cause of a TRAIN flit, in the order of R232, then the tether's (R311). (Log entry 103: DEDUCED.) -/
def State.refusal (s : State) (i : Nat) (f : TrainFlit) : Option Nat :=
  if !f.switch && f.revision != 0x0A then some 1
  else if s.ident.isSome && f.ident = s.ident then some 2
  else if !f.switch && decide (32 ≤ f.port) != decide (32 ≤ i) then some 3
  else if s.ident.isNone then some 5
  else if 32 ≤ i && s.twin.twinId.isSome && f.ident != s.twin.twinId then some 6
  else none

/-- Refuse a port with a cause (R232, R311). -/
def State.refusePort (s : State) (i cause : Nat) (f : TrainFlit) : State :=
  let s1 := (s.modPort i (fun p => { p with
    cause := cause, peer := some f, peerSwitch := f.switch, remoteRtt := f.remoteRtt, ctl := [] })).setPState i .refused 0
  if cause = 6 then { s1 with twin := { s1.twin with refuse := 1, refusePeer := f.ident.getD 0 } } else s1

/-- Numbering to a peer restarts at 0: messages still to go are numbered anew, reassembly is dropped
(R242). A session with it has ended, since the new incarnation holds no key, and no number may serve twice under one
(R313). -/
def State.restartPeer (s : State) (d inc : Nat) : State :=
  let keys (t : Tab Nat) : Tab Nat := t.filter (fun e => e.1 / 8 != d)
  let net0 := { s.net with
    txSeq := keys s.net.txSeq, rxSeq := keys s.net.rxSeq
    partials := s.net.partials.filter (fun p => p.src != d)
    resend := s.net.resend.filter (fun p => p.packet.dest != d)
    incarnations := Tab.set s.net.incarnations d inc }
  let gone := (s.net.partials.filter (fun p => p.src = d)).flatMap (fun p => p.slots.map (fun e => (p.vc, e)))
  let s0 := if s.authPeer = some d then s.modTwin (fun t => { t with auth := t.auth.ended }) else s
  let s1 := gone.foldl (fun a e => a.modPort e.2.1 (fun p => p.release e.1 e.2.2)) s0
  { s1 with net := s.net.out.foldl (fun (n : Net) (m : OutMsg) =>
      if m.dest = d then
        let k := d * 8 + m.vc
        let q := Tab.getD n.txSeq k 0
        { n with txSeq := Tab.set n.txSeq k (q + 1), out := n.out ++ [{ m with seq := q, sentBytes := 0 }] }
      else { n with out := n.out ++ [m] }) { net0 with out := [] } }

/-- A new incarnation of a module peer (R242). -/
def State.seeIncarnation (s : State) (f : TrainFlit) : State :=
  match f.ident with
  | some d =>
    match Tab.get s.net.incarnations d with
    | some i => if i = f.incarnation then s else s.restartPeer d f.incarnation
    | none => { s with net := { s.net with incarnations := Tab.set s.net.incarnations d f.incarnation } }
  | none => s

/-- A TIME_SYNC falls due on a port (R230). -/
def State.sendSync (s : State) (i : Nat) : State := s.modPort i (fun p => { p with syncDue := true })

/-- TRAIN (R231, R232, R242): the refusal checks; then step 5, the time exchanges. -/
def execTrain (port : Nat) (f : TrainFlit) (s : State) : Out :=
  withUnit (port < 36)
    (if (s.port port).state = .training ∧ (s.port port).step = 4 then
       match s.refusal port f with
       | some c => s.refusePort port c f
       | none =>
         ((s.seeIncarnation f).modPort port (fun p => { p with
           step := 5, peer := some f, peerSwitch := f.switch, remoteRtt := f.remoteRtt, samples := [] })).sendSync port
     else s)

/-- The class of a path RTT (R247); none at 12.0 µs and above. -/
def reachOf (rtt : Nat) : Option Nat :=
  if rtt < 400 then some 0 else if rtt < 2000 then some 1 else if rtt < 12000 then some 2 else none

def insertInt (a : Int) : List Int → List Int
  | [] => [a]
  | b :: l => if a ≤ b then a :: b :: l else b :: insertInt a l

/-- The median of samples, the lower of the two in the middle (log entry 20: DEDUCED). -/
def medianOf (l : List Int) : Int :=
  (l.foldl (fun a b => insertInt b a) []).getD ((l.length - 1) / 2) 0

/-- In recovery, the ROM of a module that is to have a twin asks it for an image over the first tether port that is in service
(R404; when, log entry 173: DEDUCED). -/
def State.askTwin (s : State) : State :=
  match s.boot.stage, s.ident, s.flash.twinId with
  | .recovery, some me, some t => if 0 < s.tetherUp then s.send t none (.winch (.imageRequest me)) else s
  | _, _, _ => s

/-- A tether port is in service again: a pair whose session has ended authenticates (R314, R339); in recovery the twin is asked
for an image (R404). -/
def State.tetherEnters (s : State) : State :=
  if !s.live then s.askTwin
  else if (s.twin.state = .paired || s.twin.state = .twinLost || s.twin.state = .restoring) && s.twin.auth.sessionKey.isNone
      && s.twin.auth.keyDraw.isNone then s.beginAuth
  else s

/-- The port enters service: groups from 0, every credit count 0, its class set (step 6 of Table 8.6a;
R234, R235). -/
def State.enterService (s : State) (i rtt : Nat) : State :=
  let p := s.port i
  let path := rtt + (if p.peerSwitch then p.remoteRtt else 0)
  let s1 := s.setPort i { p.fresh with rtt := some rtt, reach := reachOf path, calibrated := true, tokenSlot := s.flitSlot }
  let s2 := s1.setPState i .inService 0
  (if 32 ≤ i then { s2 with twin := { s2.twin with tetherDownAt := none } }.tetherEnters else s2).reachChanged

/-! ### Time exchanges (R245, R246) -/

/-- A sample on the upstream port corrects fabric time, rtt / 2 and kappa each floored (log entry 101: DEDUCED): before IN_SYNC one step by −offset, then by rate;
four samples of at most 8 ns bring IN_SYNC (R245, R246). -/
def State.discipline (s : State) (i : Nat) (t1 t2 t3 t4 : Int) (peerSync : Bool) : State :=
  let p := s.port i
  let (txUp, rxUp) : Int × Int := match p.peer with | some f => (f.txDelay, f.rxDelay) | none => (0, 0)
  let rtt := (t4 - t1) - (t3 - t2)
  let kappa := ((txUp + Config.rxDelay i) - (Config.txDelay i + rxUp)) / 2
  let fwd := rtt / 2 + kappa
  let offset := t2 - t1 - fwd
  let t := s.time
  if !t.inSync && !t.stepped then
    { s with time := { t with stepped := true, goodSamples := 0, slew := 0 } }.stepTime (((t.now : Int) - offset) % 2 ^ 64).toNat
  else
    let good := if -8 ≤ offset ∧ offset ≤ 8 then t.goodSamples + 1 else 0
    { s with time := { t with slew := -offset, goodSamples := good, inSync := t.inSync || (4 ≤ good && peerSync) } }

/-- TIME_SYNC (R230, R245, R246): the announcement is taken, a completed sample of the peer's exchange is
used, and a TIME_REPLY is due. The flit stands in slot 0, so its arrival is the start of its group; the sample
of a group that came again is discarded. -/
def execTimeSync (port : Nat) (f : SyncFlit) (s : State) : Out :=
  withUnit (port < 36)
    (let p := s.port port
     if p.state = .inService ∨ (p.state = .training ∧ p.step = 5) then
       let sample := match f.t4, p.rxT1, p.rxT2, p.rxT3 with
         | some t4, some t1, some t2, some t3 => some (t1, t2, t3, t4)
         | _, _, _, _ => none
       let s1 := s.modPort port (fun q => { q with
         heardRoot := if port < 32 then some (f.rootId, f.hops, f.inSync) else none
         heardAt := s.time.now
         rxT1 := if p.rxReplayed then none else some f.t1, rxT2 := some (s.time.now : Int), rxT3 := none
         replyDue := true })
       let s2 := match sample with
         | some (t1, t2, t3, t4) =>
           if p.state = .inService then
             s1.modPort port (fun q => { q with samples := (((t4 - t1) - (t3 - t2)) :: q.samples).take 16 })
           else s1
         | none => s1
       let s3 := if p.state = .inService then s2.elect else s2
       match sample with
       | some (t1, t2, t3, t4) => if s3.time.upstream = some port && p.state = .inService then s3.discipline port t1 t2 t3 t4 f.inSync else s3
       | none => s3
     else s)

/-- TIME_REPLY (R231, R245, R247): in training, the 64th sample sets RTT and class and the port enters
service or is REFUSED with REACH; in service t4 is kept for the next TIME_SYNC, unless its group came again.
(Log entry 101: DEDUCED.) -/
def execTimeReply (port : Nat) (t2 t3 : Int) (s : State) : Out :=
  withUnit (port < 36)
    (let p := s.port port
     match p.syncT1 with
     | none => s
     | some t1 =>
       let t4 : Int := s.time.now
       let s1 := s.modPort port (fun q => { q with replyT4 := if p.rxReplayed then none else some t4, syncT1 := none })
       if p.state = .training ∧ p.step = 5 then
         let samples := ((t4 - t1) - (t3 - t2)) :: p.samples
         if samples.length < 64 then (s1.modPort port (fun q => { q with samples := samples })).sendSync port
         else
           let rtt := (medianOf samples).toNat
           if 12000 ≤ rtt then
             (s1.modPort port (fun q => { q with cause := 4, ctl := [], samples := [] })).setPState port .refused 0
           else (s1.modPort port (fun q => { q with samples := samples.take 16 })).enterService port rtt
       else s1)

/-- TIME_SYNC_TIMER (R246): each end of an in-service port sends TIME_SYNC. -/
def execTimeSyncTimer (port : Nat) (s : State) : Out :=
  withUnit (port < 36) (if (s.port port).state = .inService then s.sendSync port else s)

/-- ROOT_TIMEOUT (R246): announcements older than 10 ms drop out of the choice. -/
def execRootTimeout (s : State) : Out := .next (if s.live then s.elect else s)

/-- ROOT_IN_SYNC (R246): root without a break for 1 s with the identity set. -/
def execRootInSync (s : State) : Out :=
  .next (match s.time.rootSince with
    | some t => if s.live && t + 1000000000 ≤ s.time.now then { s with time := { s.time with inSync := true } } else s
    | none => s)

/-! ### Groups, flits and headers (R225 to R228) -/

/-- The 2,056 bits of flit slot i: bits [514i, 514i + 514) of lane 0, then of lanes 1 to 3, the first bit lowest
(R225; log entry 142: DEDUCED). -/
def slotBits (lanes : List (BitVec 5140)) (i : Nat) : Nat :=
  ((List.range 4).map (fun l => (((lanes.getD l 0).toNat >>> (514 * i)) % 2 ^ 514) <<< (514 * l))).sum

/-- A flit slot: its tag byte and flit bytes 0 to 255 (R225, Table 8.2). -/
structure Flit where
  kind : Nat
  vc : Nat
  last : Bool
  reserved : Nat
  bytes : List Byte
deriving DecidableEq, Repr

/-- The flit of a slot's bits (Table 8.2). -/
def flitOf (v : Nat) : Flit := ⟨fieldOf v 7 6, fieldOf v 5 3, bitOf v 2, fieldOf v 1 0, leBytes 256 (v >>> 8)⟩

/-- The ten flit slots of a group whose four codewords are all corrected. -/
def FecGroup.flits (g : FecGroup) : Option (List Flit) :=
  match g.lanes with
  | [some a, some b, some c, some d] => some ((List.range 10).map (fun i => flitOf (slotBits [a, b, c, d] i)))
  | _ => none

/-- Is it a REPLAY group: slot 0 a CONTROL flit of CTRL_TYPE 0x03, slots 1 to 9 IDLE (R233, Table 8.5)? -/
def FecGroup.isReplay (g : FecGroup) : Bool :=
  match g.flits with
  | some (f :: fs) => f.kind = 3 && f.bytes.head? = some 0x03 && f.reserved = 0 && fs.all (fun e => e.kind = 0 && e.reserved = 0)
  | _ => false

/-- The header of a HEAD flit (Table 8.3). -/
structure Header where
  dest : Nat
  src : Nat
  len : Nat
  msgType : Nat
  seq : Nat
  offset : Nat
  msgLen : Nat
  crc : Nat
  ackSeq : Nat
  ackValid : Bool
  nak : Bool
deriving DecidableEq, Repr

/-- The header that a HEAD flit's bytes spell. -/
def headerOf (b : List Byte) : Header :=
  let w (i : Nat) : Nat := ofLeBytes ((b.drop (8 * i)).take 8)
  { dest := fieldOf (w 0) 17 0, src := fieldOf (w 0) 35 18, len := fieldOf (w 0) 41 36 + 1, msgType := fieldOf (w 0) 49 42
    seq := fieldOf (w 1) 31 0, offset := fieldOf (w 1) 63 32
    msgLen := fieldOf (w 2) 31 0, crc := fieldOf (w 2) 63 32
    ackSeq := fieldOf (w 3) 11 0, ackValid := bitOf (w 3) 12, nak := bitOf (w 3) 13 }

/-- The 32 bytes of a header, its reserved bits zero. -/
def Header.bytes (h : Header) : List Byte :=
  leBytes 8 (h.dest % 2 ^ 18 + h.src % 2 ^ 18 * 2 ^ 18 + (h.len - 1) % 64 * 2 ^ 36 + h.msgType % 256 * 2 ^ 42)
  ++ leBytes 4 h.seq ++ leBytes 4 h.offset ++ leBytes 4 h.msgLen ++ leBytes 4 h.crc
  ++ leBytes 8 (h.ackSeq % 4096 + (if h.ackValid then 4096 else 0) + (if h.nak then 8192 else 0))

/-- The CRC of a packet's bytes, its own field taken as zero (R228). -/
def packetCrc (b : List Byte) : Nat := crc32c (b.take 20 ++ List.replicate 4 0 ++ b.drop 24)

/-- The header of a packet of which payload bytes are given, with the acknowledgement it carries (R228). -/
def Packet.header (p : Packet) (ack : Option (Nat × Bool)) (payload : List Byte) : Header :=
  let h : Header := ⟨p.dest, p.src, p.len, p.msgType, p.seq, p.offset, p.msgLen, 0,
    (ack.map (·.1)).getD 0, ack.isSome, (ack.map (·.2)).getD false⟩
  { h with crc := crc32c (h.bytes ++ payload) }

/-- The tag byte of a slot (Table 8.2). -/
def TxSlot.tag : TxSlot → Nat
  | .idle => 0
  | .control _ => 3 * 64
  | .head p _ => 1 * 64 + p.vc * 8 + (if p.len = 1 then 4 else 0)
  | .body p k => 2 * 64 + p.vc * 8 + (if k + 1 = p.len then 4 else 0)

/-- CTRL_TYPE (Table 8.5). -/
def Ctl.code : Ctl → Nat
  | .credit _ => 0x01
  | .ack _ | .nak _ => 0x02
  | .replay _ => 0x03
  | .timeSync _ => 0x04
  | .timeReply _ _ => 0x05
  | .train _ => 0x06
  | .down => 0x07

/-! ### The order of flits at the receiver (R226, R227) -/

/-- What the flits of a group have made of a port's reception: the packet under way and whether its HEAD lies
in this group, the headers of the packets that are complete; `bad` is the group at fault. -/
structure RxScan where
  open_ : Option RxPacket
  fresh : Bool
  done : List Header
  bad : Option Nat
deriving DecidableEq, Repr

/-- A packet under way takes its next flit; the last one must bear LAST, and the CRC must check, else the group
of its HEAD is bad (R227, R233). -/
def RxScan.put (a : RxScan) (g : Nat) (q : RxPacket) (f : Flit) : RxScan :=
  if f.last != (q.flits = q.len) then { a with bad := some g }
  else if !f.last then { a with open_ := some q }
  else if packetCrc q.bytes = (headerOf q.bytes).crc then { a with open_ := none, done := a.done ++ [headerOf q.bytes] }
  else { a with bad := some q.group }

/-- One flit slot of group g: no reserved tag bit, a HEAD only between packets, a BODY only on the VC of the packet
under way, no IDLE within one (R226, R227). -/
def RxScan.flit (g : Nat) (a : RxScan) (f : Flit) : RxScan :=
  if a.bad.isSome then a
  else if f.reserved != 0 then { a with bad := some g }
  else match f.kind, a.open_ with
    | 3, _ => a
    | 0, none => a
    | 1, none => { a with fresh := true }.put g ⟨f.vc, (headerOf f.bytes).len, g, 1, f.bytes⟩ f
    | 2, some q => if q.vc = f.vc then a.put g { q with flits := q.flits + 1, bytes := q.bytes ++ f.bytes } f else { a with bad := some g }
    | _, _ => { a with bad := some g }

/-- The flits of a group, taken by a port; a codeword that cannot be corrected makes the group bad. -/
def Port.scan (p : Port) (g : FecGroup) : RxScan :=
  match g.flits with
  | some fs => fs.foldl (RxScan.flit p.rxGroup) ⟨p.rxOpen, false, [], none⟩
  | none => ⟨p.rxOpen, false, [], some p.rxGroup⟩

/-! ### Retry and credits (R233, R235) -/

/-- Groups from a to b, modulo 4,096. -/
def groupDist (a b : Nat) : Nat := (b + 4096 - a) % 4096

/-- Groups below g are acknowledged. -/
def Port.acked (p : Port) (g : Nat) : Port :=
  if groupDist p.txAcked g ≤ groupDist p.txAcked p.txGroup then
    { p with txAcked := g, window := p.window.filter (fun k => groupDist p.txAcked g ≤ groupDist p.txAcked k.group) }
  else p

/-- An acknowledgement frees the groups up to it; a NAK makes a REPLAY group due, and the eighth in succession for
one group retrains the port (RETRY_LIMIT) (R233, R252). -/
def State.onAck (s : State) (port seq : Nat) (nak : Bool) : State :=
  if nak then
    let s1 := s.modPort port (fun p =>
      { (p.acked (seq % 4096)) with lastNak := some seq, nakRun := if p.lastNak = some seq then p.nakRun + 1 else 1 })
    if 8 ≤ (s1.port port).nakRun then s1.retrain port
    else s1.modPort port (fun p => { p with replayDue := some (seq % 4096), replayNext := none, replays := satAdd 32 p.replays 1 })
  else (s.modPort port (fun p => { p.acked ((seq + 1) % 4096) with lastNak := none, nakRun := 0 })).releaseStep port

/-- A bad group b is NAKed; it and every later one is discarded until its REPLAY. When b is an earlier group, that of
a packet's HEAD, the groups since are to come again too. -/
def Port.bad (p : Port) (b : Nat) : Port :=
  { p with
    badGroups := satAdd 32 p.badGroups 1, rxPending := true, rxDiscard := groupDist b p.rxGroup + 1
    rxOpen := if b = p.rxGroup then p.rxOpen else p.rxBefore
    rxGroup := b, naks := satAdd 32 p.naks 1, ctl := p.ctl ++ [.nak b] }

/-- A good group is counted. -/
def Port.good (p : Port) (r : RxScan) : Port :=
  { p with
    rxGroup := (p.rxGroup + 1) % 4096, sinceAck := p.sinceAck + 1
    rxReplayed := decide (0 < p.rxReplayLeft), rxReplayLeft := p.rxReplayLeft - 1
    rxOpen := r.open_, rxBefore := if r.fresh then p.rxOpen else p.rxBefore }

/-- FEC_GROUP_RECEIVE (R225 to R228, R233): a good group is counted, and the acknowledgements in the HEADs of packets
that it completes are taken; a bad one is discarded with all after it and NAKed; a REPLAY group has no number. What its
CONTROL flits and packets then do is the work of their own commands (log entry 144: DEDUCED). -/
def execFecGroupReceive (port : Nat) (g : FecGroup) (s : State) : Out :=
  withUnit (port < 36)
    (if (s.port port).state = .inService then
       let s1 := s.modPort port (fun p => { p with symErr := satAdd 32 p.symErr g.symErrors })
       let p := s1.port port
       if g.isReplay then s1
       else if p.rxPending then
         s1.setPort port { p with
           rxDiscard := p.rxDiscard + 1
           badGroups := if g.flits.isNone then satAdd 32 p.badGroups 1 else p.badGroups }
       else
         let r := p.scan g
         match r.bad with
         | some b => s1.setPort port (p.bad b)
         | none => (r.done.filter (·.ackValid)).foldl (fun a h =>
             if (a.port port).state = .inService then a.onAck port h.ackSeq h.nak else a) (s1.setPort port (p.good r))
     else s)

/-- NAK_RESEND_TIMEOUT (R233). -/
def execNakResendTimeout (port : Nat) (s : State) : Out :=
  withUnit (port < 36)
    (if (s.port port).state = .inService && (s.port port).rxPending then
       s.modPort port (fun p => { p with naks := satAdd 32 p.naks 1, ctl := p.ctl ++ [.nak p.rxGroup] })
     else s)

/-- ACK_INTERVAL (R233): ACK of the last good group. -/
def execAckInterval (port : Nat) (s : State) : Out :=
  withUnit (port < 36)
    (if (s.port port).state = .inService && 16 ≤ (s.port port).sinceAck then
       s.modPort port (fun p => { p with sinceAck := 0, ctl := p.ctl ++ [.ack ((p.rxGroup + 4095) % 4096)] })
     else s)

/-- ACK (R233, R252): a CONTROL flit brings an acknowledgement or a NAK. -/
def execAck (port seq : Nat) (nak : Bool) (s : State) : Out :=
  withUnit (port < 36) (if (s.port port).state = .inService then s.onAck port seq nak else s)

/-- REPLAY (R233): the group that is awaited, REPLAY of the bad group in slot 0 and IDLE in slots 1 to 9; the group
after it is the bad group again. -/
def execReplay (port : Nat) (got : ReplayGroup) (s : State) : Out :=
  withUnit (port < 36)
    (if (s.port port).state = .inService && (s.port port).rxPending && (s.port port).rxGroup = got.seq && got.group.isReplay then
       s.modPort port (fun p => { p with
         symErr := satAdd 32 p.symErr got.group.symErrors, rxPending := false, rxReplayLeft := p.rxDiscard, rxDiscard := 0 })
     else s)

/-- CREDIT (R235): a return reduces n_v by its count. -/
def execCredit (port : Nat) (counts : List Nat) (s : State) : Out :=
  withUnit (port < 36)
    (if (s.port port).state = .inService then
       s.modPort port (fun p => { p with inFlight := (List.range 8).foldl (fun t v => Tab.set t v (Tab.getD t v 0 - counts.getD v 0)) p.inFlight })
     else s)

/-- DOWN (R230): the peer takes the port out of service. -/
def execDown (port : Nat) (s : State) : Out :=
  withUnit (port < 36)
    (match (s.port port).state with
     | .inService => (s.leaveService port .down 0).finishRelease (portCart port)
     | .down => s
     | _ => s.setPState port .down 0)

/-! ### Packets (R227, R228, R236, R237, R239 to R243) -/

/-- Payload bytes of a packet of n flits (R228). -/
def flitPayload (n : Nat) : Nat := 224 + 256 * (n - 1)

/-- Flits that carry a payload, at most 64. -/
def flitsFor (bytes : Nat) : Nat := min 64 (1 + ceilDiv (bytes - 224) 256)

/-- The partial message of a source, VC and number. -/
def isPart (src vc seq : Nat) (q : Partial) : Bool := q.src = src && q.vc = vc && q.seq = seq

/-- Does a partial message hold all its bytes? -/
def Partial.whole (q : Partial) : Bool := q.len ≤ (q.got.map (·.2)).sum

/-- The head headers of a message's packets, DEST to MSG_LEN, in order: what is authenticated beside the message itself (R313;
log entry 152: DEDUCED). -/
def msgHeads (dest src ty seq len : Nat) (pieces : List (Nat × Nat)) : List Byte :=
  (sortBy (fun p => p.1) pieces).flatMap (fun p =>
    ((Header.mk dest src (flitsFor p.2) ty seq p.1 len 0 0 false false).bytes).take 20)

/-- Payload pieces of a message: (offset, bytes). -/
def msgPieces (len : Nat) : List (Nat × Nat) :=
  (List.range (ceilDiv len (flitPayload 64))).map (fun i => (flitPayload 64 * i, min (flitPayload 64) (len - flitPayload 64 * i)))

/-- Is a message that has come not protected, or does its tag verify (R313)? -/
def State.tagOk (s : State) (q : Partial) : Bool :=
  let me := s.ident.getD 0
  !q.msg.isProtected || s.tetherKeys.any (fun k =>
    Config.gcmTag k (nonceOf q.vc (q.src < me) q.seq) (msgHeads me q.src q.msg.typeCode q.seq q.len q.got) q.msg.payload = q.tag)

/-- The tag of a message that starts (R313). -/
def State.tagFor (s : State) (m : OutMsg) : List Byte :=
  let me := s.ident.getD 0
  match s.twin.auth.sessionKey with
  | some k => if m.msg.isProtected then
      Config.gcmTag k (nonceOf m.vc (me < m.dest) m.seq) (msgHeads m.dest me m.msgType m.seq m.len (msgPieces m.len)) m.msg.payload
    else []
  | none => []

/-- Deliver the messages of a (SRC, VC) that are whole and next in order, their tags judged (R242, R313); the fuel bounds
them. -/
def Net.deliver (n : Net) (ok : Partial → Bool) (src vc : Nat) : Nat → Net
  | 0 => n
  | fuel + 1 =>
    let k := src * 8 + vc
    let want := Tab.getD n.rxSeq k 0
    match n.partials.find? (isPart src vc want) with
    | some q =>
      if q.whole then
        Net.deliver (ok := ok) (src := src) (vc := vc) { n with
          rxSeq := Tab.set n.rxSeq k ((want + 1) % 2 ^ 32)
          partials := n.partials.filter (fun r => !isPart src vc want r)
          inbox := n.inbox ++ [⟨src, vc, q.port, q.msg, ok q, q.slots⟩] } fuel
      else n
    | none => n

/-- Has the receiver already a packet: its message is delivered, or the offset is held (R242)? -/
def Net.holds (n : Net) (p : Packet) : Bool :=
  let want := Tab.getD n.rxSeq (p.src * 8 + p.vc) 0
  (p.seq + 2 ^ 32 - want) % 2 ^ 32 ≥ 2 ^ 31
  || (match n.partials.find? (isPart p.src p.vc p.seq) with
      | some q => q.got.any (fun g => g.1 = p.offset)
      | none => false)

/-- Does a message type wait in the buffer of its port until the chain area takes it: exchange messages and CHAIN
words (R289)? -/
def heldInPort (ty : Nat) : Bool := (0x10 ≤ ty && ty ≤ 0x12) || ty = 0x18

/-- Place a packet at its offset. -/
def Net.place (n : Net) (port : Nat) (p : Packet) : Net :=
  let piece := (p.offset, min (flitPayload p.len) (p.msgLen - p.offset))
  let slots := if heldInPort p.msgType then [(port, p.len)] else []
  if n.partials.any (isPart p.src p.vc p.seq) then
    { n with partials := n.partials.map (fun q => if isPart p.src p.vc p.seq q then
        { q with got := q.got ++ [piece], port := min q.port port, tag := p.tag, slots := q.slots ++ slots } else q) }
  else { n with partials := n.partials ++ [⟨p.src, p.vc, p.seq, p.msgLen, [piece], port, p.msg, p.tag, slots⟩] }

/-- PACKET_RECEIVE (R229, R234, R235, R239, R242, R289): the packet's flits take receive slots; a packet for another
module or of a wrong type or VC is MISROUTED, one already held a duplicate; others are placed, and whole messages
delivered in order. Its slots are free again, but for those of a message that the chain area may have to hold. -/
def execPacketReceive (port : Nat) (p : Packet) (s : State) : Out :=
  withUnit (port < 36)
    (if (s.port port).state = .inService && !(s.port port).rxPending then
       let s0 := s.modPort port (fun q => { q with rxHeld := Tab.set q.rxHeld p.vc (Tab.getD q.rxHeld p.vc 0 + p.len) })
       let s1 := s0.modPort port (fun q => q.release p.vc p.len)
       if s.ident != some p.dest || !typeOnVc p.msgType p.vc || p.msgType != p.msg.typeCode then s1.misrouted port
       else if s.net.holds p then s1.modPort port (fun q => { q with duplicates := satAdd 32 q.duplicates 1 })
       else
         let s2 := if heldInPort p.msgType then s0 else s1
         { s2 with net := (s2.net.place port p).deliver s2.tagOk p.src p.vc (s2.net.partials.length + 1) }
     else s)

/-- A packet ready to be sent: its partition, VC, flits, whether it is re-sent, since when it has waited, the
packet. -/
structure Ready where
  part : Option Nat
  vc : Nat
  len : Nat
  again : Bool
  readyAt : Nat
  packet : Packet
deriving DecidableEq, Repr

/-- The port a packet takes: of the in-service ports of its mask, or of the tether, the one with the
smallest n_v, ties to the lowest index (R240, R253). -/
def State.portFor (s : State) (dest vc : Nat) (tether : Bool) : Option Nat :=
  let ports := if tether then [32, 33, 34, 35].filter (fun i => (s.port i).state = .inService) else s.routePorts dest
  leastBy (fun i => Tab.getD (s.port i).inFlight vc 0) ports

/-- The next packet of a queued message (R227, R228). -/
def OutMsg.next (m : OutMsg) (src : Nat) : Ready :=
  let len := flitsFor (m.len - m.sentBytes)
  ⟨m.part, m.vc, len, false, m.readyAt, ⟨m.dest, src, len, m.msgType, m.vc, m.seq, m.sentBytes, m.len, m.msg, m.tag⟩⟩

/-- May a flit go on a VC: n_v below 256, or the pool in use below 6,144 (R235)? -/
def Port.credit (p : Port) (vc : Nat) : Bool :=
  Tab.getD p.inFlight vc 0 < 256 || ((List.range 8).map (fun v => Tab.getD p.inFlight v 0 - 256)).sum < 6144

/-- The packets that may start on a port now: re-sent ones first, then queued messages in order, those
routed to this port whose credit allows the first flit (R235, R236). A protected message starts only under a session key,
by which it is tagged (R313). -/
def State.readyOn (s : State) (i : Nat) : List Ready :=
  let me := s.ident.getD 0
  let all := s.net.resend.map (fun k => (⟨k.part, k.packet.vc, k.packet.len, true, k.readyAt, k.packet⟩ : Ready))
    ++ (s.net.out.filter (fun m => !m.msg.isProtected || m.sentBytes != 0 || s.sealsNow m.vc m.wraps)).map (fun m =>
      (if m.sentBytes = 0 then { m with tag := s.tagFor m } else m).next me)
  all.filter (fun r => s.portFor r.packet.dest r.vc r.packet.msg.onTether = some i && (s.port i).credit r.vc)

/-- How often a partition's VC has been passed over on a port. -/
def Port.passedOver (p : Port) (part vc : Nat) : Nat := Tab.getD p.passed (part * 8 + vc) 0

/-- The lowest VC among a partition's ready packets, a VC passed over 64 times before others (R236). -/
def pickVc (p : Port) (part : Nat) (rs : List Ready) : Option Ready :=
  let starved := rs.filter (fun r => 64 ≤ p.passedOver part r.vc)
  let from_ := if starved.isEmpty then rs else starved
  match leastBy id (from_.map (·.vc)) with
  | some v => from_.find? (fun r => r.vc = v)
  | none => none

/-- What the transmitter chooses: a packet, the partition that spends tokens for it, and the packets it was chosen
from by VC, with their partition. -/
structure Choice where
  ready : Ready
  spender : Option Nat
  part : Nat
  among : List Ready
deriving DecidableEq, Repr

/-- The packet the transmitter chooses (R236, R237). (Log entry 102: DEDUCED.) -/
def State.choosePacket (s : State) (i : Nat) : Option Choice :=
  let p := s.port i
  let rs := s.readyOn i
  match rs.find? (fun r => r.vc = 0), rs.find? (fun r => r.vc = 1) with
  | some r, _ => some ⟨r, none, 0, []⟩
  | none, some r => some ⟨r, none, 0, []⟩
  | none, none =>
    if 32 ≤ i then (pickVc p 0 rs).map (fun r => ⟨r, none, 0, rs⟩)
    else
      let elig (q : Nat) : List Ready := rs.filter (fun r => r.part.getD 0 = q && r.len * 64 ≤ s.tokensOf p q)
      match roundRobin 10 p.partPtr (fun q => !(elig q).isEmpty) with
      | some q => (pickVc p q (elig q)).map (fun r => ⟨r, some q, q, elig q⟩)
      | none =>
        if s.lend then
          (leastBy id (rs.map (·.readyAt))).bind (fun t => (rs.find? (fun r => r.readyAt = t)).map (fun r => ⟨r, none, 0, []⟩))
        else none

/-- Take a chosen packet out of what waits. -/
def Net.take (n : Net) (r : Ready) : Net :=
  if r.again then
    { n with resend := n.resend.filter (fun k => k.packet != r.packet) }
  else
    let mine (m : OutMsg) : Bool := m.dest = r.packet.dest && m.vc = r.vc && m.seq = r.packet.seq
    let sent := r.packet.offset + flitPayload r.len
    if r.packet.msgLen ≤ sent then { n with out := n.out.filter (fun m => !mine m) }
    else { n with out := n.out.map (fun m => if mine m then { m with sentBytes := sent, tag := r.packet.tag } else m) }

/-- The counts of a choice by VC: the VC that goes starts again, the others of the partition were passed over. -/
def Port.countPassed (p : Port) (c : Choice) : Tab Nat :=
  (List.range 8).foldl (fun t v =>
    if v = c.ready.vc then Tab.set t (c.part * 8 + v) 0
    else if c.among.any (fun r => r.vc = v) then Tab.set t (c.part * 8 + v) (p.passedOver c.part v + 1) else t) p.passed

/-- A flit of the packet under way is sent: n_v rises; after the last the packet waits for its acknowledgement
(R227, R233, R235). -/
def Port.putFlit (p : Port) (o : TxPacket) : Port :=
  let p1 := { p with inFlight := Tab.set p.inFlight o.packet.vc (Tab.getD p.inFlight o.packet.vc 0 + 1) }
  if o.sent + 1 < o.packet.len then { p1 with txOpen := some { o with sent := o.sent + 1 } }
  else { p1 with txOpen := none, window := p1.window ++ [⟨p1.txGroup, o.part, o.packet, o.readyAt⟩] }

/-- A chosen packet starts: its tokens are spent, the arbiter's pointer moves, its HEAD goes (R236, R237). -/
def State.startPacket (s : State) (i : Nat) (c : Choice) : State :=
  let r := c.ready
  ({ s with net := s.net.take r }.countTokens i).modPort i (fun q =>
    { q with
      passed := if c.among.isEmpty then q.passed else q.countPassed c
      tokens := (match c.spender with | some k => Tab.set q.tokens k (Tab.getD q.tokens k 0 - r.len * 64) | none => q.tokens)
      partPtr := (match c.spender with | some k => (k + 1) % 10 | none => q.partPtr) }.putFlit ⟨r.part, r.packet, r.readyAt, 0⟩)

/-- The acknowledgement that a HEAD carries: one that still waits as a CONTROL flit (R233, Table 8.3). -/
def Ctl.asAck : Ctl → Option (Nat × Bool)
  | .ack n => some (n, false)
  | .nak n => some (n, true)
  | _ => none

/-- The next pending CONTROL flit, CREDIT last, and the port without it (R230). -/
def Port.nextCtl (p : Port) : Option (Ctl × Port) :=
  match p.ctl with
  | c :: l => some (c, { p with ctl := l })
  | [] =>
    let counts := (List.range 8).map (fun v => min 65535 (Tab.getD p.freed v 0))
    if counts.all (· = 0) then none
    else
      let less (t : Tab Nat) : Tab Nat := (List.range 8).foldl (fun u v => Tab.set u v (Tab.getD u v 0 - counts.getD v 0)) t
      some (.credit counts, { p with freed := less p.freed, rxHeld := less p.rxHeld })

/-- The TIME flit due in slot 0, with the port after it: TIME_REPLY before TIME_SYNC; its times are those of the
start of the group (R230, R245). -/
def State.timeSlot (s : State) (p : Port) : Option (Ctl × Port) :=
  let now : Int := s.time.now
  if p.replyDue then some (.timeReply (p.rxT2.getD now) now, { p with replyDue := false, rxT3 := some now })
  else if p.syncDue then
    some (.timeSync ⟨now, p.replyT4, s.time.root, s.time.hops, s.time.inSync⟩,
      { p with syncDue := false, syncT1 := some now, replyT4 := none })
  else none

/-- A group being filled: the state, the slots so far, the CONTROL flits among them that count against two. -/
structure Filling where
  s : State
  slots : List TxSlot
  ctls : Nat

/-- Fill slot k of a group (R227, R230, R235, R236): TIME flits in slot 0; pending CONTROL flits, at most two; the packet
under way, ACK standing in where its credit is out (log entry 143: DESIGN CHOICE); else the packet that is chosen; else IDLE. -/
def Filling.slot (i : Nat) (a : Filling) (k : Nat) : Filling :=
  let p := a.s.port i
  match (if k = 0 then a.s.timeSlot p else none) with
  | some (c, q) => { a with s := a.s.setPort i q, slots := a.slots ++ [.control c] }
  | none =>
    match (if a.ctls < 2 then p.nextCtl else none) with
    | some (c, q) => { s := a.s.setPort i q, slots := a.slots ++ [.control c], ctls := a.ctls + 1 }
    | none =>
      match p.txOpen with
      | some o =>
        if p.credit o.packet.vc then { a with s := a.s.setPort i (p.putFlit o), slots := a.slots ++ [.body o.packet o.sent] }
        else { a with slots := a.slots ++ [.control (.ack ((p.rxGroup + 4095) % 4096))] }
      | none =>
        if p.state != .inService || (a.s.cart (portCart i)).releasing then { a with slots := a.slots ++ [.idle] }
        else
          match a.s.choosePacket i with
          | none => { a with slots := a.slots ++ [.idle] }
          | some c =>
            let ack := p.ctl.findSome? Ctl.asAck
            let s1 := a.s.modPort i (fun q => match ack with
              | some _ => { q with ctl := q.ctl.eraseP (fun x => x.asAck = ack) }
              | none => q)
            { a with s := s1.startPacket i c, slots := a.slots ++ [.head c.ready.packet ack] }

/-- A port sends its next group of ten slots. -/
def State.sendGroup (s : State) (i : Nat) : State :=
  let a := (List.range 10).foldl (Filling.slot i) ⟨s, [], 0⟩
  a.s.modPort i (fun p =>
    if p.state = .inService then
      { p with
        wire := a.slots
        kept := (p.kept ++ [(p.txGroup, a.slots)]).drop (p.kept.length + 1 - 512)
        txGroup := (p.txGroup + 1) % 4096 }
    else { p with wire := a.slots })

/-- The REPLAY group of group g, without a number (R233). -/
def replaySlots (g : Nat) : List TxSlot := .control (.replay g) :: List.replicate 9 .idle

/-- PACKET_TRANSMIT (R225 to R227, R230, R233, R235 to R237, R240): the port sends its next FEC group. A REPLAY group that
is due goes first, then the kept groups from there on as first sent; else a new group, unless it would be more than 511
ahead of the last one acknowledged. A port out of service sends what CONTROL and TIME flits it has, unnumbered.
(Log entry 102: DEDUCED.) -/
def execPacketTransmit (port : Nat) (s : State) : Out :=
  withUnit (port < 36)
    (let p := s.port port
     if p.state != .inService then (if p.ctl.isEmpty && !p.syncDue && !p.replyDue then s else s.sendGroup port)
     else
       match p.replayDue, p.replayNext with
       | some g, _ => s.setPort port { p with
           wire := replaySlots g, replayDue := none, replayNext := if g = p.txGroup then none else some g }
       | none, some g => s.setPort port { p with
           wire := ((p.kept.find? (fun k => k.1 = g)).map (·.2)).getD p.wire
           replayNext := if (g + 1) % 4096 = p.txGroup then none else some ((g + 1) % 4096) }
       | none, none => if 511 ≤ groupDist p.txAcked p.txGroup then s else s.sendGroup port)

/-! ### Health (R247 to R250, R434) -/

/-- The bin of SER_HIST for n symbol errors (Table 14.12). -/
def serBin (n : Nat) : Nat := if n = 0 then 0 else min 15 (Nat.log2 n + 1)

/-- The reach class after a window: a class changes after 16 successive windows of one new class (R247). -/
def Port.windowReach (p : Port) : Port × Option Nat :=
  if p.samples.isEmpty then (p, none)
  else
    let path := (medianOf p.samples).toNat + (if p.peerSwitch then p.remoteRtt else 0)
    let p1 := { p with rtt := some (medianOf p.samples).toNat }
    match reachOf path with
    | none => ({ p1 with newReach := 3, newCount := 0 }, none)
    | some c =>
      if p.reach = some c then ({ p1 with newReach := 3, newCount := 0 }, none)
      else
        let n := if p.newReach = c then p.newCount + 1 else 1
        if 16 ≤ n then ({ p1 with reach := some c, newReach := c, newCount := 0 }, some c)
        else ({ p1 with newReach := c, newCount := n }, none)

/-- PORT_WINDOW_END (R247, R248, R249, R268, R434): the registers take the window's counts, the logbook
its histogram and sums; more than 8,500 symbol errors degrade the port, more than 16 bad groups retrain
it. -/
def execPortWindowEnd (port : Nat) (s : State) : Out :=
  withUnit (port < 36)
    (let p := s.port port
     let l := s.logbook
     let l2 := { l with
       serHist := if p.state = .inService then bump 64 l.serHist (16 * port + serBin p.symErr) 1 else l.serHist
       portBad := bump 64 l.portBad port p.badGroups
       portMisrouted := bump 64 l.portMisrouted port p.misrouted
       portDuplicates := bump 64 l.portDuplicates port p.duplicates }
     let p1 := { p with
       lastSymErr := p.symErr, lastBad := p.badGroups, lastNaks := p.naks, lastReplays := p.replays
       lastMisrouted := p.misrouted, lastDuplicates := p.duplicates
       symErr := 0, badGroups := 0, naks := 0, replays := 0, misrouted := 0, duplicates := 0 }
     if !s.boot.powered then s
     else if p.state != .inService then { s.setPort port p1 with logbook := l2 }
     else
       let (p2, changed) := { p1 with degraded := p1.degraded || 8500 < p.symErr }.windowReach
       let s1 := { s.setPort port p2 with logbook := l2 }
       let s2 := (match changed with
         | some c => (s1.noteLink (.reach port c)).reachChanged
         | none => s1)
       let s2 := if p2.degraded && !p.degraded then s2.noteLink (.degraded port) else s2
       if 16 < p.badGroups then s2.retrain port else s2)

/-- LASER_BIAS_LIMIT (R248, R250): at 130 % of its factory bias the laser's ageing is logged; at 160 % its
group fails and its three ports leave service. -/
def execLaserBiasLimit (laser bias : Nat) (s : State) : Out :=
  withUnit (laser < 48)
    (let l := s.laser laser
     let old := decide (130 * l.factory ≤ 100 * bias)
     let s0 := if old && !l.aged then s.noteLink (.laserAgeing laser) else s
     let s1 := { s0 with lasers := Tab.set s.lasers laser { l with bias := bias, aged := l.aged || old } }
     if l.factory * 160 ≤ bias * 100 && 0 < l.factory then
       (laserPorts laser).foldl (fun a i =>
         let b := a.modPort i (fun p => { p with laserOk := false })
         if (b.port i).state = .down then b else b.leaveService i .down 0) s1
     else s1)

/-- CARTRIDGE_INSERT (R252, R467, Table 14.11): the serial and the factory biases are taken, the change is
counted. -/
def execCartridgeInsert (cart serial : Nat) (factory : List Nat) (s : State) : Out :=
  withUnit (cart < 4)
    { s with
      carts := Tab.set s.carts cart { present := true, serial := serial }
      lasers := (List.range 12).foldl (fun ls i => Tab.set ls (12 * cart + i) { factory := factory.getD i 0 }) s.lasers
      ports := (cartPorts cart).foldl (fun ps i => Tab.set ps i { Tab.getD ps i {} with laserOk := true }) s.ports
      logbook := { s.logbook with
        cartSerial := Tab.set s.logbook.cartSerial cart serial
        cartChanges := bump 32 s.logbook.cartChanges cart 1
        peakPermille := s.logbook.peakPermille.filter (fun e => e.1 / 12 != cart) } }

/-- LASER_LOCK (R252, R466): every laser is at its wavelength, and the nine ports begin to train. -/
def execLaserLock (cart : Nat) (s : State) : Out :=
  withUnit (cart < 4)
    (if (s.cart cart).present then
       let s1 := { s with
         carts := Tab.set s.carts cart { s.cart cart with locked := true, released := false, releasing := false }
         lasers := (List.range 12).foldl (fun ls i => Tab.set ls (12 * cart + i) { Tab.getD ls (12 * cart + i) {} with lit := true }) s.lasers }
       (cartPorts cart).foldl (fun a i => if (a.port i).state = .down then a.beginTraining i else a) s1
     else s)

/-- CARTRIDGE_RELEASE_TIMEOUT (R252): after 1 ms the ports still in service go out with DOWN. -/
def execCartridgeReleaseTimeout (cart : Nat) (s : State) : Out :=
  withUnit (cart < 4)
    (if (s.cart cart).releasing then
       ((cartPorts cart).foldl (fun a i => if (a.port i).state = .inService then a.sendDown i else a) s).finishRelease cart
     else s)

end Sys2Proof.Machine
end

