-- ==== Sys2Proof/Machine/Commits.lean ====
section
/-! DEFINITION. Commits, the mirror, and the journal between twins (R314, R324, R329 to R337, R349). -/

namespace Sys2Proof.Machine

/-! ### Messages from the twin -/

/-- A tether message whose tag fails (R314): it is discarded and counted, the session ends, the tether
ports retrain. -/
def State.tagFail (s : State) (port : Nat) : State :=
  let s1 := (s.countEvent 8).coalesce ⟨0x0A, 0x0A, port, 0xFFFF, 0xFF, 1, s.msStart, 0, 0, 0, 0xFFFF, 0, 0, 8⟩
  (s1.modTwin (fun t => { t with auth := t.auth.ended })).retrainTethers

/-- Act on the first delivered message of a sender on a VC, unless its tag fails (R314); where the row is not the one for it,
nothing happens. -/
def onMessage (src vc : Nat) (s : State) (f : State → Arrived → Option State) : State :=
  if !s.live then s
  else
    match takeFrom src vc s.net.inbox with
    | none => s
    | some (a, rest) =>
      match f (s.setInbox rest) a with
      | none => s
      | some t => if a.msg.isProtected && !a.authOk then (s.setInbox rest).tagFail a.port else t

/-- Is a module the PAIRED twin, or the survivor that restores this one? -/
def State.isTwin (s : State) (src : Nat) : Bool :=
  (s.twin.state = .paired || s.twin.state = .restoring) && s.twin.twinId = some src

/-! ### What a commit holds (R330, R331) -/

/-- The persistent extents of the objects of a header. -/
def JobHeader.extents (h : JobHeader) : List ExtentId :=
  h.tensors.flatMap (fun t => if t.2.persistent && t.2.kind != .kvView then extentsOf false t.1 t.2.extents else [])
  ++ h.pools.flatMap (fun p => if p.2.persistent then extentsOf true p.1 (ceilDiv (p.2.pages * 65536) unitBytes) else [])

/-- What level GROUP keeps of a gathered tensor (R275). -/
def Gathered.asGroup (g : Gathered) : Gathered :=
  { g with
    level := .group, charge := 0, node := [], held := false, first := none, holders := [], shard := none, awaiting := [], back := []
    backNibs := [], flatNibs := [] }

/-- Does a record belong to the entry of a ticket that is incomplete at the freeze (R325)? -/
def JobHeader.keepsRecord (h : JobHeader) (r : JRec) : Bool :=
  (match r.body with | .accept _ | .desc _ => true | _ => false) && h.waiting.any (fun w => w.ring = r.ring && w.tseq = r.tseq)

/-- The job header (R331), with the incomplete accepted tickets and what they alone still see (log entry 108: DEDUCED). -/
def State.header (s : State) (ctx : Nat) (x : Ctx) : JobHeader :=
  let slots := s.slots.filter (fun l => l.2.ctx = ctx)
  { params := x.params, gatherHbm := x.gatherHbm
    tensors := (x.tensors.filter (fun t => t.1 < 2 ^ 32)).map (fun t => (t.1, t.2.obj))
    nextHandle := x.nextHandle
    groups := Tab.mapVals x.groups (fun _ g => g.obj)
    epoch := x.epoch
    pendingEpoch := x.pendingEpoch
    queues := Tab.mapVals x.queues (fun _ q => q.params)
    pools := Tab.mapVals x.pools (fun _ p => p.obj)
    slots := Tab.mapVals slots (fun _ l => l.obj)
    gathered := Tab.mapVals x.gathered (fun _ g => g.asGroup)
    waiting := x.runs.map (fun r => ⟨r.ring, r.tseq, r.accAt, r.gatherHbm⟩)
    deleting := x.tensors.filterMap (fun t => t.2.deletedAt.map (fun n => (t.1, n)))
    tables := Tab.mapVals slots (fun _ l => l.old) }

/-- The bytes of an extent now, by offset within it. -/
def Ctx.extentBytes (x : Ctx) (e : ExtentId) : Mem :=
  let img := if e.pool then ((Tab.get x.pools e.handle).map (·.img)).getD []
    else ((x.tensor? e.handle).map (·.img)).getD []
  (img.filter (fun b => e.index * unitBytes ≤ b.1 && b.1 < (e.index + 1) * unitBytes)).map (fun b => (b.1 - e.index * unitBytes, b.2))

/-- The order of extents: handle, then number (R332). -/
def extentKey (e : ExtentId) : Nat := (if e.pool then 2 ^ 80 else 0) + e.handle * 2 ^ 32 + e.index

/-- The map of the latest kept commit. -/
def Ctx.latestMap (x : Ctx) : List (ExtentId × Nat) := ((x.kept.getLast?).map (·.map)).getD []

/-- Mirror slots of the twin that this module's commits take (R334). -/
def State.slotsUsed (s : State) : Nat :=
  (s.ctxs.map (fun c => ((c.2.kept.flatMap (·.map)).eraseDups).length
    + ((c.2.commits.filter (·.transferring)).map (fun k => k.dirty.length)).sum)).sum

/-- Some persistent tensor has no sealed copy on the current twin (Table 11.3). -/
def Ctx.unsealed (x : Ctx) : Bool :=
  x.damaged || x.tensors.any (fun t => t.2.obj.persistent
    && !((x.kept.getLast?).map (fun k => Tab.has k.header.tensors t.1)).getD false)

/-- EXPOSED of XD_TWIN_STATUS. (Log entry 171: DEDUCED.) -/
def State.exposed (s : State) : Bool :=
  s.twin.exposed || s.ctxs.any (fun c => c.2.unsealed || (s.twin.twinId.isNone && c.2.tensors.any (fun t => t.2.obj.persistent)))

/-! ### Freezing (R330, R331, R335 to R337) -/

/-- A run's status is decided, unless a job fault has decided it before (R377; log entry 165: DEDUCED). -/
def State.decideCommit (s : State) (ctx ring tseq status : Nat) : State :=
  (s.modRun ctx ring tseq (fun q => { q with status := some (q.status.getD status), frozen := true })).settle ctx ring tseq

/-- Every unsealed commit of a context ends without sealing, its extents dirty again (R330, R337). -/
def State.endCommits (s : State) (ctx status : Nat) : State :=
  match s.ctx? ctx with
  | none => s
  | some x =>
    let s1 := s.setCtx ctx { x with commits := [], dirty := x.commits.foldl (fun d c => addExts d c.dirty) x.dirty }
    x.commits.foldl (fun a c => a.decideCommit ctx c.ring c.tseq status) s1

/-- The first COMMIT not yet frozen, when every ticket before it is a frozen COMMIT (R330). -/
def commitNext : List Run → Option Run
  | [] => none
  | r :: l => if r.ticket.kind != 3 then none else if r.frozen || r.status.isSome then commitNext l else some r

/-- The FREEZE record of a commit: the one that stands in the journal, or a new one (R330, R342). -/
def State.freezeRecord (s : State) (ctx ring tseq id : Nat) : State × Nat :=
  match s.jr.own.find? (fun r => r.ctx = ctx && r.body = .freeze id) with
  | some r => (s, r.seq)
  | none => (s.journal ring ctx tseq [.freeze id], s.jr.nextSeq)

/-- Why a frozen commit completes at once: STASH_LIVE, COMMIT_SOLO, MIRROR_FULL (R331, R335, R337; their
order is log entry 22: DEDUCED). -/
def State.unsealable (s : State) (x : Ctx) (d : Nat) : Option Nat :=
  let latest := (s.ctxs.map (fun c => c.2.latestMap.length)).sum
  if !x.stash.isEmpty then some 0x10
  else if s.twin.state = .unpaired ∨ s.twin.state = .solo then some 0x12
  else if s.mirrorSlots < d + latest then some 0x11
  else none

/-- The freeze of a COMMIT. That of a commit still kept, in a replay, seals nothing new, and D is then what the latest sealed
commit has otherwise (R330, R342). -/
def State.freeze (s : State) (ctx : Nat) (x : Ctx) (r : Run) : State :=
  let id := r.ticket.commitId
  let (s0, seq) := s.freezeRecord ctx r.ring r.tseq id
  let s1 := s0.modCtx ctx (fun y => { y with
    wrote := false, lastFreeze := some { id := id, freezeSeq := seq, map := [], header := s0.header ctx x, rollbacks := 0 } })
  match x.kept.find? (fun k => k.id = id) with
  | some k => (s1.modCtx ctx (fun y => { y with dirty := (k.map.filter (fun e => !x.latestMap.contains e)).map (·.1) })).decideCommit
      ctx r.ring r.tseq 0
  | none =>
    let d := sortBy extentKey x.dirty
    match s1.unsealable x d.length with
    | some st => s1.decideCommit ctx r.ring r.tseq st
    | none =>
      let c : Commit := { id := id, ring := r.ring, tseq := r.tseq, header := s1.header ctx x, dirty := d
                          image := d.map (fun e => (e, x.extentBytes e)), transferring := false, sent := [], acked := []
                          headerAcked := false, requested := none, cow := [], freezeSeq := seq }
      (s1.modCtx ctx (fun y => { y with commits := y.commits ++ [c], dirty := [] })).modRun ctx r.ring r.tseq
        (fun q => { q with frozen := true })

/-- COMMIT_FREEZE (R330, R336): at most two commits of a job are unsealed; the FREEZE record needs room (R319). -/
def execCommitFreeze (ctx : Nat) (s : State) : Out :=
  .next (match s.ctx? ctx with
    | some x =>
      match commitNext x.runs with
      | some r =>
        if s.live && x.commits.length < 2 && x.rollbackDue.isNone && x.state != .faulted && s.journalRoom 1 then (s.freeze ctx x r).refresh ctx else s
      | none => s
    | none => s)

/-- COW_COPY (R332): the frozen contents are copied while the partition's copy-on-write area has room,
and the waiting write proceeds. The frozen contents are those kept with the commit. -/
def execCowCopy (ctx : Nat) (ext : ExtentId) (s : State) : Out :=
  .next (match s.ctx? ctx with
    | some x =>
      let part := x.params.partition
      let used := ((s.ctxsOf part).map (fun c => (c.2.commits.map (fun k => (k.cow.filter (fun e => !k.sent.contains e)).length)).sum)).sum
      let room := ((Tab.get s.parts part).map (fun p => p.params.cowHbm)).getD 0
      if s.live && used < room && x.commits.any (fun c => c.dirty.contains ext && !c.sent.contains ext && !c.cow.contains ext) then
        (s.setCtx ctx { x with commits := x.commits.map (fun c =>
          if c.dirty.contains ext && !c.sent.contains ext && !c.cow.contains ext then { c with cow := c.cow ++ [ext] } else c) }).refresh ctx
      else s
    | none => s)

/-- The extents that the next descriptor of a job waits to write (R332). -/
def State.neededExts (s : State) (x : Ctx) : List ExtentId :=
  match x.nextDesc with
  | some (r, d) => (s.seenBy r).writesExts x d
  | none => []

/-- The messages of a transfer that the twin has not acknowledged: the header, first the extents that a waiting write needs,
then the rest of D in order, the seal request (R314, R332, R333). -/
def State.sendCommit (s : State) (twin ctx : Nat) (c : Commit) : State :=
  let s1 := if c.headerAcked then s else s.send twin none (.mirror ⟨false, ctx, c.id, some c.header, none, []⟩)
  let need := ((s.ctx? ctx).map s.neededExts).getD []
  let first := c.image.filter (fun e => need.contains e.1)
  let rest := c.image.filter (fun e => !need.contains e.1)
  let s2 := (first ++ rest).foldl (fun a e => if c.acked.contains e.1 then a
    else a.send twin none (.mirror ⟨false, ctx, c.id, none, some e.1, e.2⟩)) s1
  match c.requested with
  | some r => s2.send twin none (.sealRequest ctx c.id r)
  | none => s2

/-- MIRROR_WAIT: a commit waits for mirror slots (R334). -/
def State.mirrorWaits (s : State) : Bool :=
  s.twin.state = .paired && s.ctxs.any (fun c => match c.2.commits with
    | k :: _ => !k.transferring && s.mirrorSlots < s.slotsUsed + k.dirty.length
    | [] => false)

/-- COMMIT_TRANSFER (R333, R334): with enough free slots the header and the extents of D are sent; else
the commit waits, which MIRROR_WAIT shows. -/
def execCommitTransfer (ctx : Nat) (s : State) : Out :=
  .next (match s.ctx? ctx, s.twin.twinId with
    | some x, some t =>
      match x.commits with
      | c :: rest =>
        if s.live && s.twin.state = .paired && !c.transferring then
          if s.slotsUsed + c.dirty.length ≤ s.mirrorSlots then
            let s1 := s.sendCommit t ctx c
            (s1.modCtx ctx (fun y => { y with commits := { c with transferring := true, sent := c.dirty, cow := [] } :: rest })).refresh ctx
          else s
        else s
      | [] => s
    | _, _ => s)

/-! ### The twin's side (Table 11.11) -/

/-- Slots that a map or a transfer names. -/
def Journals.named (j : Journals) : List Nat :=
  j.images.flatMap (fun i => i.map.map (·.2)) ++ j.incoming.flatMap (fun i => i.map.map (·.2))

/-- The transfer of a commit, entered when its first message comes. -/
def Journals.incomingOf (j : Journals) (ctx commit : Nat) : Incoming :=
  (j.incoming.find? (fun i => i.ctx = ctx && i.commit = commit)).getD ⟨ctx, commit, none, []⟩

def Journals.setIncoming (j : Journals) (i : Incoming) : Journals :=
  { j with incoming := j.incoming.filter (fun k => !(k.ctx = i.ctx && k.commit = i.commit)) ++ [i] }

/-- A mirror message written: the header kept, an extent into a free slot, or into the slot it already
has (R314, R333); none when no slot is free. -/
def State.mirrorWrite (s : State) (m : MirrorMsg) : Option State :=
  let i := s.jr.incomingOf m.ctx m.commit
  let i1 := match m.header with | some h => { i with header := some h } | none => i
  match m.extent with
  | none => some { s with jr := s.jr.setIncoming i1 }
  | some e =>
    match i1.map.find? (fun k => k.1 = e) with
    | some k => some { s with jr := { s.jr.setIncoming i1 with slots := Tab.set s.jr.slots k.2 m.bytes } }
    | none => (lowestFree s.mirrorSlots s.jr.named).map (fun n =>
        { s with jr := { s.jr.setIncoming { i1 with map := i1.map ++ [(e, n)] } with slots := Tab.set s.jr.slots n m.bytes } })

/-- Free the slots that no kept map and no transfer names. -/
def Journals.sweep (j : Journals) : Journals := { j with slots := j.slots.filter (fun s => j.named.contains s.1) }

/-- The seal on the twin: the new map is D's slots and the previous map's for every other extent still persistent (step 4),
and the SEALED record is written to the partner journal under the number that the module gives it (step 5; log entry 155:
DEDUCED). -/
def State.sealHere (s : State) (ctx commit : Nat) (sealed : JRec) : State :=
  match s.jr.incoming.find? (fun i => i.ctx = ctx && i.commit = commit) with
  | some i =>
    match i.header with
    | some h =>
      let prev := (((s.jr.images.filter (fun g => g.ctx = ctx)).getLast?).map (·.map)).getD []
      let kept := prev.filter (fun k => h.extents.contains k.1 && !i.map.any (fun d => d.1 = k.1))
      { s with jr := { s.jr with
          images := s.jr.images ++ [⟨ctx, commit, h, sortBy (fun k => extentKey k.1) (i.map ++ kept), false⟩]
          incoming := s.jr.incoming.filter (fun k => !(k.ctx = ctx && k.commit = commit))
          partner := putRec s.jr.partner sealed } }
    | none => s
  | none => s

/-- The records of a job that a release frees: those before the FREEZE of the commit, but for the entries of tickets that were
incomplete then (R325, R334; log entry 108: DEDUCED). -/
def freedBy (ctx freezeSeq : Nat) (h : Option JobHeader) (r : JRec) : Bool :=
  r.ctx = ctx && r.seq < freezeSeq && !(h.elim false (fun k => k.keepsRecord r))

/-- Release on the twin: images of the job older than the commit go, with their slots and the partner
records before its FREEZE (R334). -/
def State.releaseHere (s : State) (ctx commit : Nat) : State :=
  let frz := ((s.jr.partner.find? (fun r => r.ctx = ctx && r.body = .freeze commit)).map (·.seq)).getD 0
  let h := (s.jr.images.find? (fun i => i.ctx = ctx && i.commit = commit)).map (·.header)
  { s with jr := { s.jr with
      images := s.jr.images.filter (fun i => !(i.ctx = ctx && i.commit < commit))
      partner := s.jr.partner.filter (fun r => !freedBy ctx frz h r) }.sweep }

/-- A destroyed context of the partner: its images, transfers and records go (R358). -/
def State.forgetHere (s : State) (ctx : Nat) : State :=
  { s with jr := { s.jr with
      images := s.jr.images.filter (fun i => i.ctx != ctx)
      incoming := s.jr.incoming.filter (fun i => i.ctx != ctx)
      partner := s.jr.partner.filter (fun r => r.ctx != ctx) }.sweep }

/-- COMMIT_COORDINATION (R333): a seal request reaches the twin; one that comes again is acknowledged again. It waits while the
partner journal has no room for the SEALED record. -/
def execCommitCoordination (src : Nat) (s : State) : Out :=
  .next (onMessage src 0 s (fun s a =>
    match a.msg with
    | .sealRequest ctx commit sealed =>
      if !s.isTwin src then some s
      else if s.jr.images.any (fun i => i.ctx = ctx && i.commit = commit) then some (s.send src none (.sealAck ctx commit))
      else if s.journalCap ≤ s.jr.partner.length then none
      else
        let s1 := s.sealHere ctx commit sealed
        if s1.jr.images.any (fun i => i.ctx = ctx && i.commit = commit) then some (s1.send src none (.sealAck ctx commit)) else some s1
    | _ => none))

/-! ### Acknowledgements (Table 11.11) -/

/-- The SEALED record of a commit, under the next number, which is kept for it (log entry 155: DEDUCED). -/
def State.sealRecord (s : State) (ctx : Nat) (x : Ctx) (c : Commit) : JRec :=
  ⟨s.jr.nextSeq, 0, 1, c.ring, ctx, c.tseq, x.sealedId, .sealed c.id⟩

/-- The seal is asked for (step 3). -/
def State.requestSeal (s : State) (src ctx : Nat) (x : Ctx) (c : Commit) (rest : List Commit) : State :=
  let rc := s.sealRecord ctx x c
  ({ s with jr := { s.jr with nextSeq := s.jr.nextSeq + 1 } }.setCtx ctx { x with commits := { c with requested := some rc } :: rest }).send
    src none (.sealRequest ctx c.id rc)

/-- MIRROR_EXTENT_ACK (R333): when every extent and the header are acknowledged the seal is asked for; the end of an image
that went back to the partner is acknowledged too (R340, R348). -/
def execMirrorExtentAck (src : Nat) (s : State) : Out :=
  .next (onMessage src 3 s (fun s a =>
    match a.msg with
    | .mirrorAck true ctx commit _ =>
      some (if s.isTwin src then { s with jr := { s.jr with returning := s.jr.returning.filter (· != (ctx, commit)) } } else s)
    | .mirrorAck false ctx commit ext =>
      match s.ctx? ctx with
      | some x =>
        match x.commits with
        | c :: rest =>
          if c.id = commit && c.transferring && s.isTwin src then
            let c1 := match ext with
              | some e => { c with acked := if c.acked.contains e then c.acked else c.acked ++ [e] }
              | none => { c with headerAcked := true }
            let all := c1.headerAcked && c1.dirty.all (fun e => c1.acked.contains e)
            some (if all && c1.requested.isNone then s.requestSeal src ctx x c1 rest else s.setCtx ctx { x with commits := c1 :: rest })
          else some s
        | [] => some s
      | none => some s
    | _ => none))

/-- The seal on the module (step 6): SEALED is journaled, the commit is kept, and its ticket completes (R333, R346). -/
def State.seal (s : State) (ctx : Nat) (x : Ctx) (c : Commit) (rest : List Commit) : State :=
  let keep := x.latestMap.filter (fun k => c.header.extents.contains k.1 && !c.dirty.contains k.1)
  let k : Kept := { id := c.id, freezeSeq := c.freezeSeq, map := c.dirty.map (fun e => (e, c.id)) ++ keep
                    header := c.header, rollbacks := 0 }
  let s1 := match c.requested with
    | some r => { s with jr := { s.jr with own := putRec s.jr.own r } }
    | none => s
  (s1.setCtx ctx { x with commits := rest, kept := x.kept ++ [k], damaged := false }).decideCommit ctx c.ring c.tseq 0

/-- COMMIT_SEALED (R333): the seal acknowledgement arrives; it waits while the own journal has no room (R319). -/
def execCommitSealed (src : Nat) (s : State) : Out :=
  .next (onMessage src 0 s (fun s a =>
    match a.msg with
    | .sealAck ctx commit =>
      match s.ctx? ctx with
      | some x =>
        match x.commits with
        | c :: rest =>
          if c.id = commit && c.requested.isSome && s.isTwin src then
            (if s.journalRoom 1 then some ((s.seal ctx x c rest).refresh ctx) else none)
          else some s
        | [] => some s
      | none => some s
    | _ => none))

/-! ### Images on their way back (R340, R348) -/

/-- The bytes of a mirror slot. -/
def Journals.slot (j : Journals) (n : Nat) : Mem := Tab.getD j.slots n []

/-- A kept image goes back to the module whose job it is: its extents, and the header last. -/
def State.sendImage (s : State) (dest ctx commit : Nat) : State :=
  match s.jr.images.find? (fun i => i.ctx = ctx && i.commit = commit) with
  | some i =>
    (i.map.foldl (fun a e => a.send dest none (.mirror ⟨true, ctx, commit, none, some e.1, s.jr.slot e.2⟩)) s).send dest none
      (.mirror ⟨true, ctx, commit, some i.header, none, []⟩)
  | none => s

/-- It is sent, and held to be on its way until its end is acknowledged. -/
def State.returnImage (s : State) (dest ctx commit : Nat) : State :=
  { s with jr := { s.jr with returning := s.jr.returning.filter (fun (e : Nat × Nat) => e.1 != ctx) ++ [(ctx, commit)] } }.sendImage dest ctx commit

/-! ### Journal records (R321, R324) -/

/-- What a partner record frees here: RELEASE, and the end of a context. -/
def State.recordFrees (s : State) (r : JRec) : State :=
  match r.body with
  | .release k => s.releaseHere r.ctx k
  | .config (.contextDestroy n) => s.forgetHere n
  | _ => s

/-- What a partner record asks for: a rollback, for the image of its commit; what the job had in transfer is given up (R348). -/
def State.recordAsks (src : Nat) (s : State) (r : JRec) : State :=
  match r.body with
  | .rollback k => { s with jr := { s.jr with incoming := s.jr.incoming.filter (fun i => i.ctx != r.ctx) }.sweep }.returnImage src r.ctx k
  | _ => s

/-- Records of the partner (R314, R320, R324): those not held yet are written into the partner journal and acknowledged.
Without room they are turned away and the sender is told, and is told again when there is room; it then sends them anew, and
what comes before that is turned away too. (Log entry 153: DESIGN CHOICE.) -/
def State.takeRecords (s : State) (src : Nat) (recs : List JRec) : State :=
  let new := recs.filter (fun r => !s.jr.partner.any (fun q => q.seq = r.seq))
  let first := ((recs.head?).map (·.seq)).getD 0
  let s1 := new.foldl State.recordFrees s
  if s1.jr.refusedAt.all (fun n => first ≤ n) && s1.jr.partner.length + new.length ≤ s1.journalCap then
    let s2 := { s1 with jr := { s1.jr with
      partner := new.foldl putRec s1.jr.partner, refusedAt := none
      partnerTables := s1.jr.partnerTables.map (fun t => new.foldl ModTables.take t) } }
    (new.foldl (State.recordAsks src) s2).send src none (.journalAck (recs.foldl (fun n r => max n (r.seq + 1)) 0))
  else
    let s2 := if s1.jr.refusedAt.any (fun n => n < first) then s1
      else { s1 with jr := { s1.jr with refusedAt := some first } }.send src none .journalFull
    if s1.jr.partner.length < s.jr.partner.length then s2.send src none .journalRoom else s2

/-- The own records that the twin has not acknowledged are sent again. -/
def State.resendRecords (s : State) (t : Nat) : State :=
  let recs := s.jr.own.filter (fun r => s.jr.acked ≤ r.seq)
  if recs.isEmpty then s else s.send t none (.journal recs)

/-- JOURNAL_RECORDS (R314, R320, R324, R340): the twin takes records; what it answers counts on the module that sent them;
configuration tables come with a pairing, and with step 2 of a restore. -/
def execJournalRecords (src : Nat) (s : State) : Out :=
  .next (onMessage src 0 s (fun s a =>
    match a.msg with
    | .journal recs => some (if s.isTwin src then s.takeRecords src recs else s)
    | .journalAck upTo => some (if s.isTwin src then { s with jr := { s.jr with acked := max s.jr.acked upTo } } else s)
    | .journalFull => some (if s.isTwin src then { s with jr := { s.jr with twinFull := true } } else s)
    | .journalRoom => some (if s.isTwin src then { s with jr := { s.jr with twinFull := false } }.resendRecords src else s)
    | .tables t => some (if s.isTwin src then { s with jr := { s.jr with partnerTables := some t } } else s)
    | .restoreTables t => some (s.modTwin (fun w => { w with restoring := w.restoring.map (fun r =>
        if r.survivor = src && r.step = 2 then { r with tables := some t } else r) }))
    | _ => none))

/-- Everything sent to the twin and not acknowledged is sent again (R314, R339): records, transfers, seal requests, images on
their way back; and the configuration tables. -/
def State.resume (s : State) (t : Nat) : State :=
  let s1 := (s.resendRecords t).send t none (.tables s.modTables)
  let s2 := s1.ctxs.foldl (fun a c => (c.2.commits.filter (·.transferring)).foldl (fun b k => b.sendCommit t c.1 k) a) s1
  s2.jr.returning.foldl (fun a e => a.sendImage t e.1 e.2) s2

end Sys2Proof.Machine
end

