-- ==== Sys2Proof/Machine/ObjCmds.lean ====
section
/-! DEFINITION. Commands on queues, groups, the gather budget and plans (R188, R196, R254 to R256, R269,
R288, R356). -/

namespace Sys2Proof.Machine

/-! ### Queues -/

/-- A parameter of QUEUE_CREATE out of range (Table 6.8). -/
def queueBad (p : QueueParams) : Bool :=
  !(fits 16 p.id && fits 18 p.peer && 1 ≤ p.depth && p.depth ≤ 1024 && 65536 ≤ p.entryBytes
    && p.entryBytes ≤ 1073741824 && p.entryBytes % 65536 = 0 && p.bulkVc ≤ 3)

/-- A new queue end: empty slots, DEPTH credits at a send end (R188, R356). -/
def newQueue (p : QueueParams) : Queue :=
  { params := p, credits := if p.send then p.depth else 0, slots := [], unacked := [] }

/-- A queue end enters its job. -/
def Ctx.addQueue (x : Ctx) (p : QueueParams) : Ctx :=
  { x with queues := Tab.set x.queues p.id (newQueue p), goneQueues := x.goneQueues.filter (· != p.id) }

/-- A queue end is destroyed, and what was written to it (R356). -/
def Ctx.dropQueue (x : Ctx) (id : Nat) : Ctx :=
  { x with queues := Tab.erase x.queues id, goneQueues := insertNat id (x.goneQueues.filter (· != id)) }

/-- A group enters its job without nodes, its collective numbers from 0 (R196, R209). -/
def Ctx.addGroup (x : Ctx) (id : Nat) (ms : List Nat) : Ctx :=
  { x with groups := Tab.set x.groups id ⟨⟨ms, 0⟩, [], []⟩, goneGroups := x.goneGroups.filter (· != id) }

/-- A group is destroyed (R356). -/
def Ctx.dropGroup (x : Ctx) (id : Nat) : Ctx :=
  { x with groups := Tab.erase x.groups id, goneGroups := insertNat id (x.goneGroups.filter (· != id)) }

/-- Would a placement share for a GATHER_HBM of so many units and so many more bytes of queue slots still hold the job's HBM
extents (R288)? -/
def Ctx.shareCovers (x : Ctx) (gather more : Nat) : Bool :=
  x.hbmHeld + x.queueBytes + more + (x.params.stashHbm + x.params.chainArea + gather) * unitBytes ≤ x.params.hbmQuota * unitBytes

/-- QUEUE_CREATE (R188, R288): an identifier in use is IN_USE (log entry 18: DEDUCED). -/
def execQueueCreate (h : CmdHead) (ctx : Nat) (p : QueueParams) (s : State) : Out :=
  gheit h (queueBad p) false (fun s => forOwner h ctx (fun x =>
    refuseIf [(Tab.has x.queues p.id, 0x06),
        (!p.send && !x.shareCovers x.gatherHbm (p.depth * p.entryBytes), 0x02)]
      (.ok [] ((s.modCtx ctx (fun y => y.addQueue p)).journalOp ctx (.queueCreate ctx p)))) s) s

/-- Does an incomplete ticket of the context hold a descriptor of the given kind? -/
def Ctx.namedBy (x : Ctx) (f : Desc → Bool) : Bool := x.runs.any (fun r => r.descs.any f)

/-- QUEUE_DESTROY (R356). -/
def execQueueDestroy (h : CmdHead) (ctx queue : Nat) (s : State) : Out :=
  gheit h (!fits 16 queue) false (fun s => forOwner h ctx (fun x =>
    if !Tab.has x.queues queue then .refused 0x12 0
    else refuseIf [(x.namedBy (fun d => (d.opcode = 0x48 || d.opcode = 0x49) && d.f 0 31 16 = queue), 0x06)]
      (.ok [] ((s.modCtx ctx (fun y => y.dropQueue queue)).journalOp ctx (.queueDestroy ctx queue)))) s) s

/-! ### Groups -/

/-- Is a member list valid on this module (R196)? -/
def State.membersOk (s : State) (ms : List Nat) : Bool :=
  match s.ident with
  | some me => ms.contains me && decide ms.Nodup
  | none => false

/-- Does a job replay its journal? -/
def State.replaying (s : State) (ctx : Nat) : Bool := ((s.ctx? ctx).map (fun x => x.replay.isSome)).getD false

/-- The group made and its node formation begun, anew in a replay (R196, R209, R259). -/
def State.makeGroup (s : State) (ctx group : Nat) (ms : List Nat) : State :=
  let s1 := s.modCtx ctx (fun y => y.addGroup group ms)
  (if s.replaying ctx then s1.reformGroup ctx group ms else s1.reportGroup ctx group ms).groupReplay ctx group

/-- XGROUP_CREATE (R196, R390). -/
def execXgroupCreate (h : CmdHead) (ctx group count : Nat) (members : Option (List Nat)) (s : State) : Out :=
  gheit h (!fits 16 group || count = 0 || 262144 < count) false (fun s => forOwner h ctx (fun x =>
    match members with
    | none => .refused 0x10 0
    | some l =>
      let ms := l.take count
      if ms.any (fun m => !fits 18 m) then .malformed
      else refuseIf [(Tab.has x.groups group, 0x06), (!s.membersOk ms, 0x0B)]
        (.ok [] ((s.makeGroup ctx group ms).journalOp ctx (.xgroupCreate ctx group ms)))) s) s

/-- Does a descriptor name a group? -/
def Desc.namesGroup (d : Desc) (g : Nat) : Bool :=
  0x50 ≤ d.opcode && d.opcode ≤ 0x52 && (d.f 2 15 0 = g || (d.opcode = 0x52 && d.f 5 31 16 = g))

/-- XGROUP_DESTROY (R356). -/
def execXgroupDestroy (h : CmdHead) (ctx group : Nat) (s : State) : Out :=
  gheit h (!fits 16 group) false (fun s => forOwner h ctx (fun x =>
    if !Tab.has x.groups group then .refused 0x12 0
    else refuseIf [(x.namedBy (fun d => d.namesGroup group)
          || x.colls.any (fun c => c.head.group = group) || x.gathered.any (fun g => g.2.group = group), 0x06)]
      (.ok [] ((s.modCtx ctx (fun y => y.dropGroup group)).journalOp ctx (.xgroupDestroy ctx group)))) s) s

/-- GATHER_BUDGET (R269, R288): a value above the job's HBM share is out of range; one that makes the placement share smaller
than the HBM extents held is QUOTA. -/
def execGatherBudget (h : CmdHead) (ctx units : Nat) (s : State) : Out :=
  gheit h (!fits 32 units) false (fun s => forOwner h ctx (fun x =>
    if x.params.hbmQuota < units then .malformed
    else
      refuseIf [(!x.shareCovers units 0, 0x02)]
        (.ok [] ((s.setCtx ctx { x with gatherHbm := units }).journalOp ctx (.gatherBudget ctx units)))) s) s

/-! ### Plans -/

/-- A parameter of MAP_PLAN out of range (Table 9.1). -/
def planBad (p : PlanParams) : Bool :=
  !(fits 16 p.id && fits 16 p.prior && 1 ≤ p.modules.length && p.modules.length ≤ 262144
    && 1 ≤ p.cuts.length && p.cuts.length ≤ 6
    && p.cuts.all (fun c => c.kind ≤ 5 && 1 ≤ c.degree && c.degree ≤ 262144 && fits 32 c.weight)
    && p.resultAddr % 64 = 0 && fits 64 p.resultAddr)

/-- A case of R255. -/
def State.planInvalid (s : State) (x : Ctx) (p : PlanParams) : Bool :=
  (p.cuts.map (fun c => c.degree)).foldl (· * ·) 1 != p.modules.length
  || !decide (p.cuts.map (fun c => c.kind)).Nodup || !decide p.modules.Nodup
  || p.modules.any (fun m => !s.inSystem m)
  || (match s.ident with | some me => !p.modules.contains me | none => true)
  || (p.prior != 0xFFFF && !Tab.has x.plans p.prior)

/-- The plan entered and this module's report sent to the lead (R256). -/
def State.beginPlan (s : State) (ctx : Nat) (p : PlanParams) : State :=
  ((s.modCtx ctx (fun y => { y with plans := Tab.set y.plans p.id (newPlan p) })).send p.lead none
    (.winch (.planReport ctx p (s.classesTo p.modules)))).planReplay ctx p.id

/-- What MAP_PLAN does after its checks: a plan that has been refused before this module's command is refused here too, else
the command waits for the lead's answer (R256). -/
def State.planOrRefuse (s : State) (ctx : Nat) (x : Ctx) (p : PlanParams) : CmdEnd :=
  match x.refusedPlan p.id with
  | some mismatch => .refusedIn (planCause mismatch) 0
      (s.setCtx ctx { x with waitingMsgs := x.waitingMsgs.filter (fun m => (m.msg.refuses p.id).isNone) })
  | none => .waits (.plan ctx p.id) (s.beginPlan ctx p)

/-- MAP_PLAN (R254 to R256, R390): refused by R255, or by a refusal of the plan, else it waits for the lead's answer. -/
def execMapPlan (h : CmdHead) (ctx : Nat) (p : PlanParams) (readFails : Bool) (s : State) : Out :=
  gheit h (planBad p) false (fun s => forOwner h ctx (fun x =>
    refuseIf [(readFails, 0x10), (s.planInvalid x p, 0x08), (Tab.has x.plans p.id, 0x06)]
      (s.planOrRefuse ctx x p)) s) s

/-- MAP_PLAN_DROP (R356). -/
def execMapPlanDrop (h : CmdHead) (ctx plan : Nat) (s : State) : Out :=
  gheit h (!fits 16 plan) false (fun s => forOwner h ctx (fun x =>
    match Tab.get x.plans plan with
    | none => .refused 0x12 0
    | some q =>
      if q.result.isNone then .refused 0x12 0
      else refuseIf [(x.plans.any (fun q => q.2.params.prior = plan && q.2.result.isNone), 0x06)]
        (.ok [] ((s.modCtx ctx (fun y => { y with
            plans := Tab.erase y.plans plan
            latestPlan := if y.latestPlan = some plan then none else y.latestPlan })).journalOp ctx (.mapPlanDrop ctx plan)))) s) s

/-- MAP_PLAN_TIMEOUT (R256): 1 s after the lead's own command, a listed module has not reported; every
module that has reported refuses. -/
def execMapPlanTimeout (ctx plan : Nat) (s : State) : Out :=
  .next (match (s.ctx? ctx).bind (fun x => Tab.get x.plans plan) with
    | some p =>
      if s.live && s.ident = some p.params.lead && p.result.isNone && (s.planWaiter ctx plan).isSome
          && !p.params.modules.all (fun m => Tab.has p.reports m) then
        s.sendAll (Tab.keys p.reports) none (.winch (.planRefused ctx plan false))
      else s
    | none => s)

end Sys2Proof.Machine
end

