-- ==== Sys2Proof/Machine/PartCmds.lean ====
section
/-! DEFINITION. Commands on partitions, contexts, rings and client counts (R285, R286, R288, R357 to
R360, R411). -/

namespace Sys2Proof.Machine

/-! ### The region table (R409, R411) -/

/-- A valid region-table entry (Table 13.16). -/
def regionEntry (base limit part : Nat) (secure : Bool) : Word64 :=
  BitVec.ofNat 64 (base + limit * 2 ^ 27 + part * 2 ^ 54 + (if secure then 2 ^ 58 else 0) + 2 ^ 59)

/-- The non-secure regions of a partition, in 2 MiB units: HBM outside the module areas, die-pool ways
0 to 13, tile SRAM, ballast partition parts (Tables 10.9, 13.15). -/
def State.partRegions (s : State) (dies channels : List Nat) : List (Nat × Nat) :=
  dies.flatMap (fun d => [(2 * d * 0x8000, 2 * d * 0x8000 + 32640), ((2 * d + 1) * 0x8000, (2 * d + 1) * 0x8000 + 32640)])
  ++ dies.map (fun d => (0x200000 + d * 16, 0x200000 + d * 16 + 14))
  ++ dies.map (fun d => (0x208000 + d * 128, 0x208000 + (d + 1) * 128))
  ++ channels.map (fun c =>
    let b := 0x100000 + c * (if s.order1536 then 0x10000 else 0x8000)
    (b, b + s.ballastUnits 1))

/-- Add entries in the lowest unused places (log entry 12: DESIGN CHOICE). -/
def addRegions (t : Tab Word64) : List Word64 → Tab Word64
  | [] => t
  | e :: es =>
    match lowestFree 4096 (Tab.keys t) with
    | some i => addRegions (Tab.set t i e) es
    | none => t

/-- The table with a partition's entries gone. -/
def dropRegions (t : Tab Word64) (part : Nat) : Tab Word64 := t.filter (fun e => fieldOf e.2.toNat 57 54 != part)

/-! ### Partitions -/

/-- Dies and channels no partition holds, lowest first (R286). -/
def State.freeDies (s : State) : List Nat := (List.range 10).filter (fun d => s.parts.all (fun p => !p.2.dies.contains d))
def State.freeChannels (s : State) : List Nat := (List.range 12).filter (fun c => s.parts.all (fun p => !p.2.channels.contains c))

/-- A parameter of PARTITION_CREATE is out of range (Tables 10.3, 12.6). -/
def partitionBad (s : State) (p : PartitionParams) : Bool :=
  !(1 ≤ p.dies && p.dies ≤ 10 && 1 ≤ p.channels && p.channels ≤ 12
    && p.stashArea ≤ s.ballastUnits p.channels
    && 16 ≤ p.spillHbm && p.spillHbm ≤ 32640 * (2 * p.dies) && p.cowHbm ≤ 32640 * (2 * p.dies)
    && 1 ≤ p.seats && p.seats ≤ 32 && 100 ≤ p.quantum && p.quantum ≤ 100000 && !p.functions.getLsbD 63)

/-- The partition made: the lowest-numbered free dies and channels, share 0 (R286, R237). -/
def State.makePartition (s : State) (n : Nat) (p : PartitionParams) : State :=
  let dies := s.freeDies.take p.dies
  let chs := s.freeChannels.take p.channels
  let part : Part := { params := p, dies := dies, channels := chs, quantum := p.quantum }
  { s with
    parts := Tab.set s.parts n part
    regions := addRegions s.regions ((s.partRegions dies chs).map (fun r => regionEntry r.1 r.2 n false)) }

/-- PARTITION_CREATE (R285, R286, R357, R411). -/
def execPartitionCreate (h : CmdHead) (p : PartitionParams) (s : State) : Out :=
  gheit h (partitionBad s p) true (fun s =>
    match lowestFree 10 (Tab.keys s.parts) with
    | none => .refused 0x01 0
    | some n =>
      refuseIf [(s.freeDies.length < p.dies || s.freeChannels.length < p.channels, 0x01),
          (32640 * (2 * p.dies) < p.spillHbm + p.cowHbm, 0x01),
          (256 < (s.parts.map (fun q => q.2.params.seats)).sum + p.seats, 0x01),
          (p.spillHbm * 2 < p.seats * p.dies * 18, 0x07)]
        (.ok (result [(1, n)]) ((s.makePartition n p).journalOp 0xFFFF (.partitionCreate p)))) s

/-- A tile whose memories are cleared: the counters of its engines stand, which count since power-on (R67). -/
def Tile.cleared (t : Tile) : Tile :=
  { engines := Tab.mapVals t.engines (fun _ e => { ovf := e.ovf, narLost := e.narLost }), ovf := t.ovf, narLost := t.narLost }

/-- A die whose memories are cleared: one in OFF wakes to NAP for it, its rail in its turn; the idle time of another begins
again (R443, R455). -/
def State.clearDie (s : State) (d : Nat) : State :=
  if (s.die d).state = .off then s.wakeDie d false else s.setDie d { s.die d with idleSince := s.time.now }

/-- The partition gone, its regions zeroed and its region-table entries removed (R411). The contents
of its tensors went with its contexts; copies and idle timers of its dies go. (Log entry 95: DEDUCED.) -/
def State.dropPartition (s : State) (n : Nat) : State :=
  match Tab.get s.parts n with
  | none => s
  | some p =>
    p.dies.foldl State.clearDie { s with
      parts := Tab.erase s.parts n
      regions := dropRegions s.regions n
      power := { s.power with keepAwake := s.power.keepAwake &&& ~~~(BitVec.ofNat 32 (2 ^ n)) }
      tiles := Tab.mapVals s.tiles (fun i t => if p.tiles.contains i then t.cleared else t) }

/-- PARTITION_DESTROY (R357, R411). -/
def execPartitionDestroy (h : CmdHead) (part : Nat) (s : State) : Out :=
  gheit h false true (fun s =>
    if !Tab.has s.parts part then .refused 0x12 0
    else refuseIf [(!(s.ctxsOf part).isEmpty, 0x06)]
      (.ok [] ((s.dropPartition part).journalOp 0xFFFF (.partitionDestroy part)))) s

/-- PARTITION_QUANTUM (R357): the present slice keeps its length (R383). -/
def execPartitionQuantum (h : CmdHead) (part quantum : Nat) (s : State) : Out :=
  gheit h (quantum < 100 || 100000 < quantum) true (fun s =>
    if !Tab.has s.parts part then .refused 0x12 0
    else .ok [] ((s.modPart part (fun p => { p with quantum := quantum })).journalOp 0xFFFF (.partitionQuantum part quantum))) s

/-! ### Contexts -/

/-- A memory limit of Table 10.5 that a new context would exceed. -/
def State.quotaExceeded (s : State) (part : Part) (p : ContextParams) : Bool :=
  let xs := (s.ctxsOf p.partition).map (·.2.params)
  part.quotaUnits < (xs.map (·.hbmQuota)).sum + p.hbmQuota
  || p.hbmQuota < p.stashHbm || p.hbmQuota < p.chainArea
  || s.ballastUnits part.channels.length - part.params.stashArea < (xs.map (·.ballastQuota)).sum + p.ballastQuota
  || part.params.stashArea < (xs.map (·.stashBallast)).sum + p.stashBallast

/-- A new context: IDLE, swapped out, epoch 0, owned by the issuer (R358). -/
def newCtx (fn : Nat) (p : ContextParams) : Ctx := { owner := fn, params := p, priority := p.priority }

/-- CONTEXT_CREATE (R288, R358). A CHAIN_AREA below its least is out of range; what exceeds a limit is QUOTA (log entry 168:
DEDUCED). -/
def execContextCreate (h : CmdHead) (p : ContextParams) (s : State) : Out :=
  gheit h (4095 < p.client || 3 < p.priority || p.chainArea < 32) false (fun s =>
    match Tab.get s.parts p.partition with
    | none => .refused 0x12 0
    | some part =>
      if !part.params.functions.getLsbD h.fn then .notPermitted
      else
        match lowestFree 1024 (Tab.keys s.ctxs) with
        | none => .refused 0x01 0
        | some n =>
          refuseIf [(s.quotaExceeded part p, 0x02)]
            (.ok (result [(2, n)]) (((s.setCtx n (newCtx h.fn p)).takeEarly n).journalOp n (.contextCreate h.fn p)))) s

/-- A context with all its objects gone: mappings, slots, journal records, its seat and copies; its twin frees what it holds
of it when the record of the command comes (R358, R383). -/
def State.dropCtx (s : State) (ctx : Nat) : State :=
  { s with
    ctxs := Tab.erase s.ctxs ctx
    slots := s.slots.filter (fun l => l.2.ctx != ctx)
    funs := Tab.mapVals s.funs (fun _ f => { f with maps := f.maps.filter (fun m => m.2.ctx != ctx) })
    jr := { s.jr with own := s.jr.own.filter (fun r => r.ctx != ctx) } }

/-- The context that a waiting command names. -/
def WaitCmd.ctx? : WaitCmd → Option Nat
  | .map c _ _ | .plan c _ => some c
  | .restore _ => none

/-- A command that still waits in another mailbox for an object of a context that goes ends with NO_OBJECT (R477; log entry
162: DEDUCED). -/
def State.endWaiters (s : State) (ctx : Nat) : State :=
  s.funs.foldl (fun a f => match f.2.mbox.waiting with
    | some (h, w) => if w.ctx? = some ctx then a.finishCmd h 1 0x12 [] else a
    | none => a) s

/-- CONTEXT_DESTROY (R321, R358). Its record is a module record, which stays when those of the context go. -/
def execContextDestroy (h : CmdHead) (ctx : Nat) (s : State) : Out :=
  gheit h false false (forOwner h ctx (fun _ =>
    refuseIf [((s.key ctx).isSome, 0x06)] (.ok [] (((s.dropCtx ctx).endWaiters ctx).journalOp 0xFFFF (.contextDestroy ctx)))) ) s

/-- CONTEXT_PRIORITY (R358, R374). -/
def execContextPriority (h : CmdHead) (ctx prio : Nat) (s : State) : Out :=
  gheit h (3 < prio) false (fun s => forOwner h ctx (fun x =>
    let s1 := (s.modCtx ctx (fun y => { y with priority := prio })).journalOp ctx (.contextPriority ctx prio)
    .ok [] (if x.priority < prio && x.state = .runnable && !s.holdsSlice ctx then s1.arrive ctx else s1)) s) s

/-- The code of a context state, in the order of Table 12.12 (log entry 13: DEDUCED). -/
def CState.code : CState → Nat
  | .idle => 0
  | .runnable => 1
  | .blocked => 2
  | .faulted => 3

/-- CONTEXT_QUERY (R358): state, residency, priority, block time. -/
def execContextQuery (h : CmdHead) (ctx : Nat) (s : State) : Out :=
  gheit h false false (fun s => forOwner h ctx (fun x =>
    .ok (result [(1, x.state.code), (1, if x.resident then 1 else 0), (1, x.priority), (8, x.blockTime)]) s) s) s

/-! ### Rings -/

/-- Is the depth a power of two from 16 to 65,536? -/
def ringDepthOk (d : Nat) : Bool := (List.range 13).any (fun i => d = 2 ^ (i + 4))

/-- RING_CREATE (R360, R388). -/
def execRingCreate (h : CmdHead) (p : RingParams) (s : State) : Out :=
  gheit h (!ringDepthOk p.depth || p.ticketAddr % 128 != 0 || p.complAddr % 32 != 0 || p.ctrlAddr % 128 != 0
      || !fits 64 p.ticketAddr || !fits 64 p.complAddr || !fits 64 p.ctrlAddr) false (fun s =>
    forOwner h p.ctx (fun x =>
      if !vectorOk x.owner p.vector then .malformed
      else
        match lowestFree 16384 (Tab.keys s.rings) with
        | none => .refused 0x01 0
        | some g => .ok (result [(2, g)]) ((s.setRing g { params := p }).journalOp p.ctx (.ringCreate p))) s) s

/-- Has a ring a ticket being journaled or an accepted ticket that has not completed? -/
def State.ringBusy (s : State) (g : Nat) (r : Ring) : Bool :=
  r.journaling.isSome || (match s.ctx? r.params.ctx with | some x => x.runs.any (fun q => q.ring = g) | none => false)

/-- RING_DESTROY (R360). -/
def execRingDestroy (h : CmdHead) (ring : Nat) (s : State) : Out :=
  gheit h false false (fun s =>
    match Tab.get s.rings ring with
    | none => .refused 0x12 0
    | some r => forOwner h r.params.ctx (fun _ =>
        refuseIf [(s.ringBusy ring r, 0x06)]
          (.ok [] ({ s with rings := Tab.erase s.rings ring }.journalOp r.params.ctx (.ringDestroy ring)))) s) s

/-- CLIENT_COUNTS (R359): three 64-bit counts, laid out from byte 16 (log entry 14: DEDUCED). -/
def execClientCounts (h : CmdHead) (client : Nat) (s : State) : Out :=
  gheit h (4095 < client) true (fun s =>
    let c := Tab.getD s.clients client {}
    .ok (result [(8, c.accepted), (8, c.completed), (8, c.faulted)]) s) s

end Sys2Proof.Machine
end

