-- ==== Sys2Proof/Machine/TensorCmds.lean ====
section
/-! DEFINITION. Commands on tensors, KV pools and serving slots, and BAR2 accesses (R290 to R308, R321,
R322, R378). -/

namespace Sys2Proof.Machine

/-! ### TENSOR_CREATE and TENSOR_DELETE -/

/-- The object a TENSOR_CREATE describes. -/
def TensorParams.obj (p : TensorParams) : TObj :=
  { kind := if p.kind = 1 then .wide else if p.kind = 2 then .kvView else .ordinary
    fmt := (fmtOfCode p.format).getD .l8
    dims := if p.kind = 2 then [p.kv.maxRows, p.kv.width] else p.dims
    t := p.t, persistent := p.persistent, pin := p.pin, kv := p.kv, writes := 0 }

/-- A parameter out of range (Table 10.6, R307). -/
def tensorBad (p : TensorParams) : Bool :=
  let ord := !(1 ≤ p.dims.length && p.dims.length ≤ 6) || p.dims.any (fun d => d = 0 || 2 ^ 32 ≤ d)
    || 2 ^ 48 < elemCount p.dims || 2 ^ 40 < p.obj.bytes
  2 < p.kind
  || (p.kind != 1 && (fmtOfCode p.format).isNone)
  || p.t < -128 || 127 < p.t
  || (p.t != 0 && (p.kind = 1 || !p.obj.fmt.hasT))
  || (if p.kind = 2 then p.kv.width = 0 || p.kv.width % 64 != 0 else ord)

/-- The tensors of the module (R290); node shards, which have no handle, do not count (R271). -/
def State.tensorCount (s : State) : Nat := (s.ctxs.map (fun c => (c.2.tensors.filter (fun t => t.1 < 2 ^ 32)).length)).sum

/-- Pin units of a job (R300). -/
def Ctx.pinCount (x : Ctx) : Nat := (x.tensors.map (fun t => t.2.pins.length)).sum

/-- Deal n pin units over the tiles, beginning after the job's last (R300). -/
def dealPins (tiles : List Nat) (last : Option Nat) (n : Nat) : List Nat :=
  let at0 := match last with
    | some l => (tiles.takeWhile (· != l)).length + 1
    | none => 0
  (List.range n).map (fun i => tiles.getD ((at0 + i) % max 1 tiles.length) 0)

/-- The new tensor in its context: handle, image all new, extents placed, pins dealt (R290 to R292,
R295, R300). -/
def State.makeTensor (s : State) (ctx : Nat) (x : Ctx) (p : TensorParams) : State :=
  let o := p.obj
  let tiles := ((Tab.get s.parts x.params.partition).map Part.tiles).getD []
  let pins := if p.pin then dealPins tiles x.lastPin (pinUnits o.bytes) else []
  let t : Tensor := { obj := o, exts := s.newExts x o.bytes false, pins := pins }
  let fresh := if o.persistent && o.kind != .kvView then extentsOf false x.nextHandle o.extents else []
  s.setCtx ctx { x with
    tensors := Tab.set x.tensors x.nextHandle t
    nextHandle := x.nextHandle + 1
    lastPin := match pins.getLast? with | some l => some l | none => x.lastPin
    dirty := addExts x.dirty fresh }

/-- TENSOR_CREATE (R290, R291, R300, R307, R335). -/
def execTensorCreate (h : CmdHead) (ctx : Nat) (p : TensorParams) (s : State) : Out :=
  gheit h (tensorBad p) false (fun s => forOwner h ctx (fun x =>
    let o := p.obj
    let tiles := ((Tab.get s.parts x.params.partition).map (fun q => q.tiles.length)).getD 0
    if p.kind = 2 && (!Tab.has x.pools p.kv.pool || ((Tab.get s.slots p.kv.slot).map (·.ctx)) != some ctx) then .refused 0x12 0
    else refuseIf [(!x.quotaOk o.bytes, 0x02),
        (p.pin && 124 * tiles < x.pinCount + pinUnits o.bytes, 0x03),
        (4194304 ≤ s.tensorCount || 2 ^ 32 ≤ x.nextHandle, 0x04),
        (p.persistent && s.mirrorSlots < s.persistentSlots + o.extents, 0x05)]
      (.ok (result [(4, x.nextHandle)]) ((s.makeTensor ctx x p).journalOp ctx (.tensorCreate ctx p)))) s) s

/-- A tensor is freed: it, its stash entry (its charge with it) and its gathered state with its node shard go (R271, R274,
R294). -/
def Ctx.freeTensor (x : Ctx) (h : Nat) : Ctx :=
  { x with
    tensors := Tab.erase (Tab.erase x.tensors h) (2 ^ 32 + h)
    stash := x.stash.filter (fun e => e.handle != h)
    gathered := Tab.erase x.gathered h
    dirty := x.dirty.filter (fun e => e.pool || e.handle != h) }

/-- Deleted tensors are freed once no ticket accepted before the command is incomplete (R294). -/
def Ctx.sweepDeleted (x : Ctx) : Ctx :=
  x.tensors.foldl (fun y t =>
    match t.2.deletedAt with
    | some n => if y.runs.any (fun r => r.accAt ≤ n) then y else y.freeTensor t.1
    | none => y) x

/-- Does a ticket no longer see a tensor that is being deleted: was it accepted after the command (R294)? -/
def Tensor.gone (t : Tensor) (r : Run) : Bool := match t.deletedAt with | some n => n < r.accAt | none => false

/-- A tensor as a command sees it: not one that is being deleted, whose name is gone at once (R294, R477). -/
def Ctx.named? (x : Ctx) (h : Nat) : Option Tensor := if 2 ^ 32 ≤ h then none else (x.tensor? h).bind (fun t => if t.deletedAt.isSome then none else some t)

/-- A tensor as a ticket sees it: not one deleted before the ticket was accepted (R294). -/
def Ctx.sees (x : Ctx) (r : Run) (h : Nat) : Option Tensor :=
  match x.tensor? h with
  | some t => if t.gone r then none else some t
  | none => none

/-- TENSOR_DELETE (R294): the handle is not seen by later tickets; the tensor is freed once earlier
ones have completed. -/
def execTensorDelete (h : CmdHead) (ctx handle : Nat) (s : State) : Out :=
  gheit h false false (fun s => forOwner h ctx (fun x =>
    match x.named? handle with
    | none => .refused 0x12 0
    | some t =>
      let s1 := s.journalOp ctx (.tensorDelete ctx handle)
      let t2 := { t with deletedAt := some s.jr.nextSeq }
      .ok [] (s1.modCtx ctx (fun y => { y with tensors := Tab.set y.tensors handle t2 }.sweepDeleted))) s) s

/-! ### BAR2 mappings -/

/-- Size of a mapping's range: the image rounded up to 64 KiB (R302). -/
def mapSpan (bytes : Nat) : Nat := alignUp (max 1 bytes) 65536

/-- Does a range overlap a mapping of the function? -/
def Func.overlaps (f : Func) (off bytes : Nat) : Bool :=
  f.maps.any (fun m => m.1 < off + mapSpan bytes && off < m.1 + mapSpan m.2.size)

/-- TENSOR_MAP (R302, R303): refused when it would overlap or is one too many; it waits while a running
descriptor uses the tensor. -/
def execTensorMap (h : CmdHead) (ctx handle offset : Nat) (s : State) : Out :=
  gheit h (offset % 65536 != 0) false (fun s => forOwner h ctx (fun x =>
    match x.named? handle with
    | none => .refused 0x12 0
    | some t =>
      let f := s.fn h.fn
      if 2 ^ 36 < offset + mapSpan t.obj.bytes then .malformed
      else refuseIf [(f.overlaps offset t.obj.bytes, 0x06), (4096 ≤ f.maps.length, 0x01)]
        (if x.inUse handle then .waits (.map ctx handle offset) s
         else .ok [] (s.makeMapping h.fn ctx handle offset t.obj.bytes))) s) s

/-- Runs of adjoining 64-byte units as (first unit, count); the list rises. -/
def unitRanges : List Nat → List (Nat × Nat)
  | [] => []
  | u :: l =>
    match unitRanges l with
    | (v, n) :: r => if v = u + 1 then (u, n + 1) :: r else (u, 1) :: (v, n) :: r
    | [] => [(u, 1)]

/-- Bodies of HOSTWRITE records for a range of bytes, 200 each (R321). -/
def hostWriteBodies (h : Nat) : Nat → Nat → List Byte → List JBody
  | 0, _, _ => []
  | fuel + 1, off, bs =>
    if bs.isEmpty then [] else .hostWrite h off (bs.take 200) :: hostWriteBodies h fuel (off + 200) (bs.drop 200)

/-- The bodies of the entry that the end of a mapping makes: the marked units with their present contents; above 256 MiB
none of them, one record without bytes that says so (R321, R322; log entry 154: DEDUCED). -/
def Mapping.bodies (m : Mapping) (t : Tensor) : List JBody :=
  if 4194304 < m.touched.length then [.hostWrite m.handle 0 []]
  else
    let get (off n : Nat) : List Byte := Mem.read t.obj.dflt t.img off (min n (t.obj.bytes - off))
    (unitRanges m.touched).flatMap (fun r => hostWriteBodies m.handle (r.2 + 1) (64 * r.1) (get (64 * r.1) (64 * r.2)))

/-- The job cannot be replayed past what the journal lacks from a number on (R322). -/
def Ctx.lostRecord (x : Ctx) (seq : Nat) : Ctx := { x with unreplayable := some (max seq (x.unreplayable.getD 0)) }

/-- The entry that the end of a mapping is to make. -/
def State.unmapBodies (s : State) (m : Mapping) : List JBody :=
  if m.touched.isEmpty then []
  else (((s.ctx? m.ctx).bind (fun x => x.tensor? m.handle)).map m.bodies).getD []

/-- A mapping ends: its entry is journaled; where there is more than 256 MiB to journal, or no room, the job becomes
UNREPLAYABLE; the write count rises when bytes were written (R293, R302, R321, R322). -/
def State.endMapping (s : State) (fn offset : Nat) : State :=
  match Tab.get (s.fn fn).maps offset with
  | none => s
  | some m =>
    let s1 := s.modFn fn (fun f => { f with maps := Tab.erase f.maps offset })
    let bodies := s.unmapBodies m
    if bodies.isEmpty then s1
    else
      let lost := 4194304 < m.touched.length || !s.journalRoom bodies.length
      let s2 := s1.journalIf 0xFFFF m.ctx 0 bodies
      s2.modCtx m.ctx (fun x => (if lost then x.lostRecord s1.jr.nextSeq else x).countWrite m.handle)

/-- TENSOR_UNMAP (R302). A tensor that is not mapped is no object of the command: NO_OBJECT (log entry
15: DEDUCED). -/
def execTensorUnmap (h : CmdHead) (ctx handle : Nat) (s : State) : Out :=
  gheit h false false (fun s => forOwner h ctx (fun _ =>
    match (s.fn h.fn).maps.find? (fun m => m.2.ctx = ctx && m.2.handle = handle) with
    | some m =>
      if s.journalRoom (s.unmapBodies m.2).length then .ok [] ((s.endMapping h.fn m.1).refresh ctx) else .stays
    | none => .refused 0x12 0) s) s

/-- The code of a tensor kind (Table 10.6). -/
def TKind.code : TKind → Nat
  | .ordinary => 0
  | .wide => 1
  | .kvView => 2

/-- The extents of a tensor, or those of the pool that a view's pages lie in, each with whether a pin unit of it is held. -/
def State.tierExts (s : State) (x : Ctx) (h : Nat) : List (Ext × Bool) :=
  (((s.piecesOf x h).map PieceId.ext).eraseDups).filterMap (fun i => (x.ext? i).map (fun e =>
    (e, x.resident && (List.range 32).any (fun p => (x.pinTile ⟨i.pool, i.handle, 32 * i.index + p⟩).isSome))))

/-- TENSOR_QUERY (R304): kind, format, rank and shape, T, write count, extents in HBM, in ballast, and
copied in die pools and tile SRAM, pin units among the copies (R300). -/
def execTensorQuery (h : CmdHead) (ctx handle : Nat) (s : State) : Out :=
  gheit h false false (fun s => forOwner h ctx (fun x =>
    match x.named? handle with
    | none => .refused 0x12 0
    | some t =>
      let dims := s.dimsOf t.obj
      let n (p : Ext × Bool → Bool) : Nat := ((s.tierExts x handle).filter p).length
      .ok (result ([(1, t.obj.kind.code), (1, fmtCode t.obj.fmt), (1, dims.length)]
        ++ (List.range 6).map (fun i => (4, dims.getD i 0))
        ++ [(1, twosOf t.obj.t 8), (8, t.obj.writes),
            (8, n (fun e => e.1.home.isHbm)), (8, n (fun e => !e.1.home.isHbm)),
            (8, n (fun e => !e.1.pools.isEmpty)), (8, n (fun e => !e.1.sram.isEmpty || e.2))])) s) s) s

/-- The mapping that holds an aperture offset. -/
def Func.mapAt (f : Func) (off : Nat) : Option (Nat × Mapping) :=
  f.maps.find? (fun m => m.1 ≤ off && off < m.1 + mapSpan m.2.size)

/-- An access counts as unmapped when it meets no mapping or runs beyond an image (R304). -/
def Func.strays (f : Func) (off len : Nat) : Bool :=
  (List.range len).any (fun i => match f.mapAt (off + i) with | some m => m.2.size ≤ off + i - m.1 | none => true)

/-- One byte read through BAR2: 0xFF unmapped, zero beyond the image (R304). -/
def State.bar2Byte (s : State) (f : Func) (off : Nat) : Byte :=
  match f.mapAt off with
  | none => 0xFF
  | some m =>
    match (s.ctx? m.2.ctx).bind (fun x => x.tensor? m.2.handle) with
    | some t => if off - m.1 < t.obj.bytes then Mem.get t.obj.dflt t.img (off - m.1) else 0
    | none => 0

/-- Does BAR2 read as unmapped: in recovery, before READY, or HALTED (R404, R427)? -/
def State.bar2Off (s : State) : Bool := !s.live

/-- Count a stray access, once however many of its bytes are stray (R304, R387; log entry 172: DEDUCED). -/
def State.countStray (s : State) (fn off len : Nat) : State :=
  if s.bar2Off || (s.fn fn).strays off len then
    s.modFn fn (fun f => { f with bar2Unmapped := satAdd 32 f.bar2Unmapped 1 }) else s

/-- The pieces that an access of a function's aperture meets, each with its context. -/
def Func.meets (f : Func) (off len : Nat) : List (Nat × PieceId) :=
  ((List.range len).filterMap (fun i =>
    (f.mapAt (off + i)).map (fun m => (m.2.ctx, ⟨false, m.2.handle, (off + i - m.1) / 65536⟩)))).eraseDups

/-- The stacks that an access of BAR2 reaches are asked for (R441, R442; log entry 134: DEDUCED). -/
def State.bar2Wake (s : State) (fn off len : Nat) : State :=
  if s.bar2Off then s
  else ((s.fn fn).meets off len).foldl (fun a e =>
    match a.ctx? e.1 with
    | some x => a.wake ⟨[], x.homeDies [e.2]⟩
    | none => a) s

/-- BAR2_READ (R304, R385, R387). -/
def execBar2Read (fn offset len : Nat) (s : State) : Out :=
  withUnit (fn ≤ 62)
    (if !s.boot.powered || 512 < len then s
     else
       let bytes := if s.bar2Off then List.replicate len 0xFF
         else (List.range len).map (fun i => s.bar2Byte (s.fn fn) (offset + i))
       ((s.countStray fn offset len).bar2Wake fn offset len).emit [.readData fn bytes])

/-- Write one byte through BAR2 into a mapped image, marking its 64-byte unit (R304, R321). -/
def State.bar2Put (s : State) (fn off : Nat) (b : Byte) : State :=
  match (s.fn fn).mapAt off with
  | none => s
  | some m =>
    match (s.ctx? m.2.ctx), (s.ctx? m.2.ctx).bind (fun x => x.tensor? m.2.handle) with
    | some x, some t =>
      let a := off - m.1
      if a < t.obj.bytes then
        let t2 := { t with img := Mem.put t.obj.dflt t.img a b }
        let y := ({ x with tensors := Tab.set x.tensors m.2.handle t2 }).wrotePieces [⟨false, m.2.handle, a / 65536⟩]
        let u := a / 64
        let touched := if m.2.touched.contains u then m.2.touched
          else m.2.touched.filter (· < u) ++ [u] ++ m.2.touched.filter (fun v => u < v)
        (s.setCtx m.2.ctx y).modFn fn (fun f => { f with maps := Tab.set f.maps m.1 { m.2 with touched := touched } })
      else s
    | _, _ => s

/-- BAR2_WRITE (R304, R387). -/
def execBar2Write (fn offset : Nat) (bytes : List Byte) (s : State) : Out :=
  withUnit (fn ≤ 62)
    (if !s.boot.powered || 512 < bytes.length then s
     else
       let s1 := (s.countStray fn offset bytes.length).bar2Wake fn offset bytes.length
       if s.bar2Off then s1
       else (bytes.zip (List.range bytes.length)).foldl (fun a e => a.bar2Put fn (offset + e.2) e.1) s1)

/-! ### KV pools and page tables -/

/-- The pool made, numbered lowest free (R305). -/
def State.makePool (s : State) (ctx : Nat) (x : Ctx) (n pages : Nat) (persistent : Bool) : State :=
  s.setCtx ctx { x with
    pools := Tab.set x.pools n { obj := ⟨pages, persistent⟩, exts := s.newExts x (pages * 65536) true }
    dirty := if persistent then addExts x.dirty (extentsOf true n (ceilDiv (pages * 65536) unitBytes)) else x.dirty }

/-- KV_POOL_CREATE (R305): 1 to 2^24 pages within the placement share; returns the pool number, the
lowest free (log entry 16: DESIGN CHOICE). -/
def execKvPoolCreate (h : CmdHead) (ctx pages persistent : Nat) (s : State) : Out :=
  gheit h (pages = 0 || 2 ^ 24 < pages || 1 < persistent) false (fun s => forOwner h ctx (fun x =>
    match lowestFree 65536 (Tab.keys x.pools) with
    | none => .refused 0x04 0
    | some n =>
      refuseIf [(!x.poolOk (pages * 65536), 0x02),
          (persistent = 1 && s.mirrorSlots < s.persistentSlots + ceilDiv (pages * 65536) unitBytes, 0x05)]
        (.ok (result [(2, n)]) ((s.makePool ctx x n pages (persistent = 1)).journalOp ctx (.kvPoolCreate ctx pages (persistent = 1))))) s) s

/-- Page-table entries written from the first on (R306). -/
def putEntries (t : Tab Word32) (first : Nat) : List Word32 → Tab Word32
  | [] => t
  | e :: es => putEntries (if e = 0 then Tab.erase t first else Tab.set t first e) (first + 1) es

/-- The tables that incomplete tickets of a context still see, the present one ending at a RECORD_SEQ (R306). -/
def State.keptTables (s : State) (l : Slot) (seq : Nat) : List (Nat × Tab Word32) :=
  let runs := ((s.ctx? l.ctx).map (fun x => x.runs)).getD []
  (l.old ++ [(seq, l.obj.table)]).filter (fun e => runs.any (fun r => r.accAt ≤ e.1))

/-- The slot's table changed by the KV_MAP of a RECORD_SEQ: tickets accepted before it keep the one they saw (R306). -/
def State.mapPages (s : State) (slot first seq : Nat) (es : List Word32) : State :=
  { s with slots := Tab.modify s.slots slot (fun l =>
      { l with obj := { l.obj with table := putEntries l.obj.table first es }, old := s.keptTables l seq }) }

/-- KV_MAP (R306, R390): a failed read of the host buffer is HOST_READ; a reserved bit in an entry is
MALFORMED. -/
def execKvMap (h : CmdHead) (ctx slot first count : Nat) (entries : Option (List Word32)) (s : State) : Out :=
  gheit h (32768 < first + count) false (fun s => forOwner h ctx (fun _ =>
    match Tab.get s.slots slot with
    | none => .refused 0x12 0
    | some l =>
      if l.ctx != ctx then .notPermitted
      else
        match entries with
        | none => .refused 0x10 0
        | some es =>
          if (es.take count).any (fun e => fieldOf e.toNat 30 24 != 0) then .malformed
          else .ok [] ((s.mapPages slot first s.jr.nextSeq (es.take count)).journalOp ctx (.kvMap ctx slot first (es.take count)))) s) s

/-- A pool freed with its pages (R356). -/
def Ctx.dropPool (x : Ctx) (pool : Nat) : Ctx :=
  { x with pools := Tab.erase x.pools pool, dirty := x.dirty.filter (fun e => !(e.pool && e.handle = pool)) }

/-- KV_POOL_DESTROY (R356). -/
def execKvPoolDestroy (h : CmdHead) (ctx pool : Nat) (s : State) : Out :=
  gheit h false false (fun s => forOwner h ctx (fun x =>
    if !Tab.has x.pools pool then .refused 0x12 0
    else refuseIf [(x.tensors.any (fun t => t.2.obj.kind = .kvView && t.2.obj.kv.pool = pool), 0x06)]
      (.ok [] ((s.modCtx ctx (fun y => y.dropPool pool)).journalOp ctx (.kvPoolDestroy ctx pool)))) s) s

/-! ### Serving slots -/

/-- PROMPT record bodies, 208 bytes each (Table 11.8). -/
def promptBodies (slot : Nat) : Nat → List Byte → List JBody
  | 0, _ => []
  | fuel + 1, bs => if bs.isEmpty then [] else .prompt slot (bs.take 208) :: promptBodies slot fuel (bs.drop 208)

/-- The slot assigned: length 0, an all-zero table, its prompt kept (R378). -/
def State.assignSlot (s : State) (ctx slot : Nat) (prompt : List Byte) : State :=
  { s with slots := Tab.set s.slots slot ⟨ctx, false, ⟨0, [], prompt⟩, []⟩ }

/-- SLOT_ASSIGN (R378, R390). -/
def execSlotAssign (h : CmdHead) (ctx bytes : Nat) (prompt : Option (List Byte)) (s : State) : Out :=
  gheit h (262144 < bytes) false (fun s => forOwner h ctx (fun _ =>
    match lowestFree 8192 (Tab.keys s.slots) with
    | none => .refused 0x01 0
    | some n =>
      match prompt with
      | none => .refused 0x10 0
      | some p =>
        let p := p.take bytes
        let s1 := (s.assignSlot ctx n p).journal 0xFFFF ctx 0 (.config (.slotAssign ctx n) :: promptBodies n (p.length + 1) p)
        .ok (result [(2, n)]) s1) s) s

/-- Does an incomplete ticket name a slot (R378)? -/
def Ctx.namesSlot (x : Ctx) (slot : Nat) : Bool :=
  x.runs.any (fun r => r.descs.any (fun d => d.opcode = 0x60 && (slotEntries d).any (fun e => e.1 = slot)))

/-- SLOT_RELEASE (R378). -/
def execSlotRelease (h : CmdHead) (ctx slot : Nat) (s : State) : Out :=
  gheit h false false (fun s => forOwner h ctx (fun x =>
    match Tab.get s.slots slot with
    | none => .refused 0x12 0
    | some l =>
      if l.ctx != ctx then .notPermitted
      else refuseIf [(x.namesSlot slot, 0x06)]
        (.ok [] ({ s with slots := Tab.erase s.slots slot }.journalOp ctx (.slotRelease ctx slot)))) s) s

/-- SLOT_QUERY (R378): state (0 ASSIGNED, 1 RESTART; log entry 13: DEDUCED) and L; the prompt goes to the host
buffer. -/
def execSlotQuery (h : CmdHead) (ctx slot addr : Nat) (s : State) : Out :=
  gheit h false false (fun s => forOwner h ctx (fun _ =>
    match Tab.get s.slots slot with
    | none => .refused 0x12 0
    | some l =>
      if l.ctx != ctx then .notPermitted
      else .ok (result [(1, if l.restart then 1 else 0), (4, l.obj.length)]) (s.fnWrite h.fn addr l.obj.prompt)) s) s

end Sys2Proof.Machine
end

