-- ==== Sys2Proof/Machine/Starts.lean ====
section
/-! DEFINITION. What every dispatched descriptor does to its job: access counts, scope inputs, holds on
gathered tensors; storing converted values; the checks that name tensors (R128, R137, R175, R184, R272 to
R274, R279). -/

namespace Sys2Proof.Machine

/-! ### Accesses (R279, R296) -/

/-- A piece of an extent is read or written: its count rises by one; vector work counts as work of the die of its home (log
entry 35: DEDUCED), a matrix descriptor's tasks count where they run. -/
def Ext.access (vec : Bool) (e : Ext) : Ext :=
  { e with
    count := satAdd 16 e.count 1
    byCluster := match e.home.die with
      | some d => if vec then Tab.set e.byCluster (8 * d) (Tab.getD e.byCluster (8 * d) 0 + 1) else e.byCluster
      | none => e.byCluster }

/-- A descriptor reads or writes pieces. -/
def Ctx.access (vec : Bool) (x : Ctx) (ps : List PieceId) : Ctx := x.modPieces ps (fun _ => Ext.access vec)

/-! ### Scopes and gathered tensors -/

/-- Does an open scope cover a position of a run? -/
def Scope.covers (sc : Scope) (r : Run) (pos : Nat) : Bool :=
  r.ring = sc.ring && r.tseq = sc.tseq && sc.pos < pos && pos ≤ sc.pos + sc.len

/-- The tensors that the descriptors of a scope before a position write. -/
def Scope.written (sc : Scope) (r : Run) (pos : Nat) : List Nat :=
  ((r.descs.take pos).drop (sc.pos + 1)).flatMap Desc.writes

/-- A descriptor of a scope adds the tensors it reads, and no earlier descriptor of the scope wrote, to
the scope's inputs with their write counts (R184, R185). -/
def Ctx.noteInputs (x : Ctx) (r : Run) (pos : Nat) (d : Desc) : Ctx :=
  match x.scope with
  | none => x
  | some sc =>
    if sc.covers r pos then
      let new := (d.reads.eraseDups).filter (fun h =>
        !(sc.written r pos).contains h && !sc.inputs.any (fun e => e.1 = h))
      { x with scope := some { sc with inputs := sc.inputs ++ new.map (fun h => (h, x.writesOf h)) } }
    else x

/-- A ticket that reads a re-gathered tensor while it is held holds it (R273); the first hold is the XGATHER's own (R272). -/
def Ctx.holdGathered (x : Ctx) (r : Run) (d : Desc) : Ctx :=
  { x with gathered := Tab.mapVals x.gathered (fun h g =>
      if g.held && g.first.isNone && d.reads.contains h && !g.holders.contains (r.ring, r.tseq) then
        { g with holders := g.holders ++ [(r.ring, r.tseq)] }
      else g) }

/-- The next descriptor of a run is dispatched. -/
def State.beginDesc (s : State) (ctx : Nat) (r : Run) (d : Desc) : State :=
  (s.modCtx ctx (fun x =>
    let x1 := (d.reads ++ d.writes).foldl s.house ((x.noteInputs r r.next d).holdGathered r d)
    (d.reads ++ d.writes).foldl (fun y h => y.access (d.opcode != 0x20) ((s.seenBy r).piecesOf x1 h)) x1)).startDesc ctx r

/-- Does a descriptor write a gathered tensor (R274)? -/
def Ctx.writesGathered (x : Ctx) (d : Desc) : Bool := d.writes.any (fun h => Tab.has x.gathered h)

/-! ### Checks that name tensors -/

/-- Does a tensor of the given dimensions match X × Y × Z? A zero is compared with no dimension (R128). -/
def matchesShape (dims : List Nat) (a b c : Nat) : Bool :=
  let same (want got : Nat) : Bool := want = 0 || want = got
  match dims.reverse with
  | [n] => same a 1 && same b 1 && same c n
  | z :: y :: outer => same b y && same c z && same a (prodOf outer)
  | [] => false

/-- Can a tensor be repeated over a destination of the given shape (R137)? -/
def broadcasts (src dst : List Nat) : Bool :=
  src.length = dst.length && (src.zip dst).all (fun e => e.1 = e.2 || e.1 = 1)

/-- The element of a source that stands over element e of the destination; dimensions innermost first. -/
def bcastGo : List Nat → List Nat → Nat → Nat → Nat
  | a :: as, b :: bs, e, stride => (if a = 1 then 0 else e % b * stride) + bcastGo as bs (e / b) (stride * a)
  | _, _, _, _ => 0

def bcastIdx (src dst : List Nat) (e : Nat) : Nat := bcastGo src.reverse dst.reverse e 1

/-- A tensor that vector work may read or write: seen by the ticket, and no wide tensor. -/
def Ctx.operand (x : Ctx) (r : Run) (h : Nat) : Option TObj :=
  match x.sees r h with
  | some t => if t.obj.kind = .wide then none else some t.obj
  | none => none

/-! ### Storing values -/

/-- Which elements of a destination a backward scope discards, and how many blocks: row and column of the
destination (R175 to R177). -/
structure Discard where
  mask : Option (Nat × Nat × List (List Nat))
deriving DecidableEq, Repr

/-- Is the element at a row and column discarded? -/
def Discard.at (m : Discard) (row col : Nat) : Bool :=
  match m.mask with
  | none => false
  | some (rows, blocks, bits) => (bits.getD (row / rows * blocks + row % rows / 64) []).getD (col / 64) 0 = 1

/-- Masked blocks. -/
def Discard.blocks (m : Discard) : Nat :=
  match m.mask with
  | none => 0
  | some (_, _, bits) => (bits.map (fun r => (r.filter (· = 1)).length)).sum

/-- The rows of a matrix, the last dimension but one. -/
def matRows (dims : List Nat) : Nat := dims.dropLast.getLastD 1

/-- The mask that applies to a write of `h` by the descriptor at a position of a run (R176). (Log entry 60: DEDUCED.) -/
def State.discardOf (s : State) (x : Ctx) (r : Run) (pos h : Nat) (dims : List Nat) : Discard :=
  match x.scope with
  | none => ⟨none⟩
  | some sc =>
    if sc.covers r pos && sc.backward && sc.gradTarget = h && h != 0 then
      match s.readTensor x sc.gradMask with
      | some m => ⟨some (matRows dims, ceilDiv (matRows dims) 64, m.codes)⟩
      | none => ⟨none⟩
    else ⟨none⟩

/-- Number the rows of a list. -/
def numbered {α : Type} (l : List α) : List (Nat × α) := (List.range l.length).zip l

/-- The values with the discarded ones as zero, which adds to no scale and no status. -/
def Discard.clear (m : Discard) (rows : List (List Val)) : List (List Val) :=
  (numbered rows).map (fun r => (numbered r.2).map (fun (e : Nat × Val) => if m.at r.1 e.1 then .zero false else e.2))

/-- The codes and nibbles to write, none where discarded. -/
def Discard.keepCodes (m : Discard) (codes : List (List Nat)) : List (List (Option Nat)) :=
  (numbered codes).map (fun r => (numbered r.2).map (fun (e : Nat × Nat) => if m.at r.1 e.1 then none else some e.2))
def Discard.keepNibs (m : Discard) (nibs : List (List Nat)) : List (List (Option Nat)) :=
  (numbered nibs).map (fun r => (numbered r.2).map (fun (e : Nat × Nat) => if m.at r.1 (32 * e.1) then none else some e.2))

/-- What a stochastic rounding of a descriptor draws from (R97). -/
def Ctx.draw (x : Ctx) (r : Run) (pos : Nat) : Draw := ⟨x.params.seed.toNat, r.tseq, pos⟩

/-- Write what a conversion gives into a tensor and raise its write count (R293); none when a page of it faults. -/
def State.storeOut (s : State) (x : Ctx) (h : Nat) (m : Discard) (o : ConvOut) : Option (Ctx × ConvStatus) :=
  (s.writeTensor x h o.t (m.keepCodes o.codes) (m.keepNibs o.scales)).map (fun y => (y.countWrite h, o.st))

/-- What converting values, row by row, into a tensor by a CONV word gives (R45, R46, R49). -/
def State.convInto (s : State) (o : TObj) (conv : Conv) (draw : Draw) (m : Discard) (vals : List Val) : ConvOut :=
  convValues conv o.fmt draw (m.clear (chunksOf (rowLen (s.dimsOf o)) vals.length vals))

/-- Convert values, row by row, into a tensor by a CONV word and raise its write count (R45, R46, R49, R293);
none when a page of it faults. -/
def State.storeVals (s : State) (x : Ctx) (h : Nat) (conv : Conv) (draw : Draw) (m : Discard) (vals : List Val) :
    Option (Ctx × ConvStatus) :=
  match x.tensor? h with
  | none => none
  | some t => s.storeOut x h m (s.convInto t.obj conv draw m vals)

/-- Write row-flag bytes (R163). -/
def State.storeFlags (s : State) (x : Ctx) (h : Nat) (flags : List Nat) : Option Ctx :=
  if h = 0 then some x
  else
    match x.tensor? h with
    | none => none
    | some t =>
      let rows := chunksOf (rowLen (s.dimsOf t.obj)) flags.length flags
      (s.writeTensor x h t.obj.t (allOf rows) []).map (fun y => y.countWrite h)

/-- The VE of a tile counts elements that overflowed and NaRs lost (R52, R67); the registers hold at their largest
value. -/
def State.countVe (s : State) (tile ovf nar : Nat) : State :=
  if ovf = 0 ∧ nar = 0 then s
  else
    let t := s.tile tile
    s.setTile tile { t with ovf := satAdd 32 t.ovf ovf, narLost := satAdd 32 t.narLost nar }

/-- A vector engine counts the conversions of a vector or collective descriptor (R67); the model lays all of a
descriptor's on the lowest tile of its partition (log entry 35: DEDUCED). -/
def State.countConv (s : State) (ctx : Nat) (st : ConvStatus) : State :=
  match s.lowTile ctx with
  | some n => s.countVe n st.ovfCount st.narCount
  | none => s

/-- Discarded blocks are counted in the scope's record (R177). -/
def Ctx.countDiscards (x : Ctx) (m : Discard) : Ctx :=
  { x with scope := x.scope.map (fun sc => { sc with discarded := satAdd 32 sc.discarded m.blocks }) }

end Sys2Proof.Machine
end

