-- ==== Sys2Proof/Machine/Exchange.lean ====
section
/-! DEFINITION. The arithmetic and the routes of the exchange: chunks and shards, figures, words, hallmarks,
partial sums (R197 to R207, R266, R267). -/

namespace Sys2Proof.Machine

/-! ### Chunks and shards (R197) -/

def chunkNo (elems : Nat) : Nat := ceilDiv elems 4096

/-- The elements of a chunk. -/
def chunkVals (vals : List Val) (c : Nat) : List Val := (vals.drop (4096 * c)).take 4096

/-- First element and length of the shard of rank k. -/
def shardSpan (elems shardChunks k : Nat) : Nat × Nat :=
  let a := min elems (4096 * shardChunks * k)
  (a, min elems (4096 * shardChunks * (k + 1)) - a)

/-! ### Figures (R198, R199, R208) -/

/-- The local figure and flags of a chunk; `none` is EMPTY. -/
def figureOf (vs : List Val) : Figure :=
  { fig := maxOverFin (fun x => x.log2Floor + 1) vs
    nar := vs.any (fun v => v = .nar)
    pinf := vs.any (fun v => v = .inf false)
    ninf := vs.any (fun v => v = .inf true) }

/-- Maximum and OR. -/
def Figure.join (a b : Figure) : Figure := ⟨optMax a.fig b.fig, a.nar || b.nar, a.pinf || b.pinf, a.ninf || b.ninf⟩

def Figure.special (f : Figure) : Bool := f.nar || f.pinf || f.ninf

/-- The figures of all chunks of a list of values. -/
def figuresOf (vals : List Val) : List Figure := (List.range (chunkNo vals.length)).map (fun c => figureOf (chunkVals vals c))

/-! ### Words and hallmarks (R200, R201, R205, R206) -/

/-- Fraction bits of a word below the shared scale. -/
def wordBits (q32 : Bool) : Nat := if q32 then 23 else 40

/-- The integer a member contributes for a value under the shared scale. -/
def wordOf (q32 : Bool) (scale : Option Int) (v : Val) : Int :=
  match scale, v with
  | some s, .fin x =>
    let m : Nat := x.rneScaled ((wordBits q32 : Int) - s)
    if x.neg then -(m : Int) else m
  | _, _ => 0

/-- The hallmark of a word: its signed value modulo 255. -/
def hallmark (w : Int) : Nat := (w % 255).toNat

/-- End-around addition of hallmarks. -/
def hadd (a b : Nat) : Nat :=
  let s := (a + b) % 256 + (a + b) / 256
  if s = 255 then 0 else s

/-- A word as its source forms it. -/
def markedOf (w : Int) : MarkedWord := ⟨w, hallmark w⟩

/-- An adder of n bits: words in two's complement, hallmarks beside them. -/
def MarkedWord.add (n : Nat) (a b : MarkedWord) : MarkedWord := ⟨signedOf (twosOf (a.word + b.word) n) n, hadd a.mark b.mark⟩

/-- A Q32 sum widened to Q64. -/
def MarkedWord.widen (a : MarkedWord) : MarkedWord := ⟨a.word * 2 ^ 17, hadd a.mark a.mark⟩

/-- The value of a summed word, after widening (R203, R204). -/
def sumVal (scale : Option Int) (w : Int) : Val :=
  match scale with
  | some s => Val.ofInt w (s - 40)
  | none => .zero false

/-! ### Partial sums -/

/-- Arrival ports that a partial sum brings as the operand of an addition. -/
def PartSum.enters (p : PartSum) : List Nat := if p.added then [] else p.ports

/-- Two partial sums of a chunk; one that covers a rank twice is left out. -/
def PartSum.add (n : Nat) (a b : PartSum) : PartSum :=
  if meet a.covers b.covers then a
  else ⟨a.covers ++ b.covers, (a.words.zip b.words).map (fun e => e.1.add n e.2), a.enters ++ b.enters, true⟩

/-- A partial sum enters a table of them. -/
def addSum (n : Nat) (t : Tab PartSum) (key : Nat) (p : PartSum) : Tab PartSum :=
  match Tab.get t key with
  | some q => Tab.set t key (q.add n p)
  | none => Tab.set t key p

/-- UNIT of a HALLMARK record (R429). (Log entry 63: DEDUCED.) -/
def PartSum.unit (p : PartSum) : Nat := if p.ports.isEmpty then 36 else p.ports.foldl min 36

/-! ### Routes (R266, R267) -/

/-- A stage with more than eight members uses a ring. -/
def isRing (n : Nat) : Bool := 8 < n

/-- What participant i of a stage holds before it sends on toward participant p, counted in ranks, and where it
sends to; none at p itself. -/
structure Hop where
  need : Nat
  next : Option Nat
deriving DecidableEq, Repr

def hopOf (sizes : List Nat) (p i : Nat) : Hop :=
  let n := sizes.length
  if isRing n then
    let d := (i + n - p - 1) % n
    ⟨((List.range (d + 1)).map (fun e => sizes.getD ((p + 1 + e) % n) 0)).sum, if i = p then none else some ((i + 1) % n)⟩
  else if i = p then ⟨sizes.sum, none⟩
  else ⟨sizes.getD i 0, some p⟩

/-- The node of a member and its position in it. -/
def placeIn (nodes : List (List Nat)) (m : Nat) : Nat × Nat :=
  let n := nodes.findIdx (fun l => l.contains m)
  (n, (nodes.getD n []).idxOf m)

/-- The member of a node that takes what goes to position p of another node. -/
def landing (node : List Nat) (p : Nat) : Nat := min p (node.length - 1)

/-- The first stage of the way to member `dest`, seen from member `me`: its hop, and the member it sends to. -/
def nearHop (nodes : List (List Nat)) (me dest : Nat) : Nat × Option Nat :=
  let (ni, i) := placeIn nodes me
  let node := nodes.getD ni []
  let h := hopOf (node.map (fun _ => 1)) (landing node (placeIn nodes dest).2) i
  (h.need, h.next.bind (fun j => node[j]?))

/-- The second stage. -/
def farHop (nodes : List (List Nat)) (me dest : Nat) : Nat × Option Nat :=
  let (nd, pd) := placeIn nodes dest
  let h := hopOf (nodes.map List.length) nd (placeIn nodes me).1
  (h.need, h.next.bind (fun j => (nodes.getD j [])[landing (nodes.getD j []) pd]?))

/-- The next member on the way of a copy to `dest`; none at `dest`. (Log entry 50: DEDUCED.) -/
def copyHop (nodes : List (List Nat)) (me dest : Nat) : Option Nat :=
  if me = dest then none
  else
    match (nearHop nodes me dest).2 with
    | some m => some m
    | none => (farHop nodes me dest).2

/-! ### A collective's data phase -/

/-- The key of a partial sum: destination rank and chunk. -/
def sumKey (rank chunk : Nat) : Nat := rank * 2 ^ 40 + chunk

/-- The collective after an event, the messages it sends, the hallmark mismatches it found: unit and count. -/
structure CollOut where
  c : Coll
  out : List (Nat × Msg)
  miss : List (Nat × Nat)
deriving DecidableEq, Repr

/-- The shard that a chunk belongs to. (Log entry 58: DEDUCED.) -/
def Coll.shardOf (c : Coll) (chunk : Nat) : Nat := min (c.members.length - 1) (chunk / max 1 c.digest.shardChunks)

/-- Does every member receive every chunk? So in the rounds of low-rank thinning (R214). -/
def Coll.toAll (c : Coll) : Bool := c.digest.all || c.digest.lowRank

/-- Chunks that take part in the present run: those of its shards, special chunks left out (R208, R211). -/
def Coll.liveChunks (c : Coll) : List Nat :=
  (List.range c.figures.length).filter (fun k =>
    c.shards.contains (c.shardOf k) && !((c.figures.map Figure.special).getD k true))

def Coll.scaleOf (c : Coll) (chunk : Nat) : Option Int := (c.figures.getD chunk ⟨none, false, false, false⟩).fig

/-- Destination ranks of a chunk. -/
def Coll.dests (c : Coll) (chunk : Nat) : List Nat :=
  if c.toAll then List.range c.members.length else [c.shardOf chunk]

/-- A complete sum is checked and kept (R207). -/
def Coll.keepSum (c : Coll) (chunk : Nat) (p : PartSum) : CollOut :=
  let wrong := (p.words.filter (fun w => hallmark w.word != w.mark)).length
  let c1 := { c with sums := Tab.set c.sums chunk (p.words.map (·.word)) }
  if wrong = 0 then ⟨c1, [], []⟩
  else ⟨{ c1 with bad := if c.bad.contains (c.shardOf chunk) then c.bad else c.bad ++ [c.shardOf chunk] }, [], [(p.unit, wrong)]⟩

/-- The second stage goes on for a destination and chunk. -/
def Coll.pushFar (me : Nat) (c : Coll) (rank chunk : Nat) : CollOut :=
  let (need, next) := farHop c.nodes me (c.members.getD rank 0)
  match Tab.get c.far (sumKey rank chunk) with
  | none => ⟨c, [], []⟩
  | some p =>
    if p.covers.length < need then ⟨c, [], []⟩
    else
      let c1 := { c with far := Tab.erase c.far (sumKey rank chunk) }
      match next with
      | some m => ⟨c1, [(m, .xd ⟨c.head, rank, true, p.covers, chunk, p.words⟩)], []⟩
      | none => c1.keepSum chunk p

/-- The first stage goes on; its sum is widened under Q32 when it leaves it. -/
def Coll.pushNear (me : Nat) (c : Coll) (rank chunk : Nat) : CollOut :=
  let (need, next) := nearHop c.nodes me (c.members.getD rank 0)
  match Tab.get c.near (sumKey rank chunk) with
  | none => ⟨c, [], []⟩
  | some p =>
    if p.covers.length < need then ⟨c, [], []⟩
    else
      let c1 := { c with near := Tab.erase c.near (sumKey rank chunk) }
      match next with
      | some m => ⟨c1, [(m, .xd ⟨c.head, rank, false, p.covers, chunk, p.words⟩)], []⟩
      | none =>
        let q := if c.digest.q32 then { p with words := p.words.map MarkedWord.widen } else p
        ({ c1 with far := addSum 64 c1.far (sumKey rank chunk) q }).pushFar me rank chunk

/-- A partial sum enters a stage. -/
def Coll.enter (me : Nat) (c : Coll) (rank chunk : Nat) (across : Bool) (p : PartSum) : CollOut :=
  if across then ({ c with far := addSum 64 c.far (sumKey rank chunk) p }).pushFar me rank chunk
  else ({ c with near := addSum (if c.digest.q32 then 32 else 64) c.near (sumKey rank chunk) p }).pushNear me rank chunk

/-- The rank of a module in a list. -/
def rankOf (members : List Nat) (m : Nat) : Nat := members.idxOf m

/-- This member's own words of a chunk. -/
def Coll.ownSum (me : Nat) (c : Coll) (chunk : Nat) : PartSum :=
  ⟨[rankOf c.members me], (chunkVals c.work chunk).map (fun v => markedOf (wordOf c.digest.q32 (c.scaleOf chunk) v)), [], false⟩

/-- One event after another. -/
def CollOut.thenDo (o : CollOut) (f : Coll → CollOut) : CollOut :=
  let p := f o.c
  ⟨p.c, o.out ++ p.out, o.miss ++ p.miss⟩

/-- Phase 2 starts: this member's words enter the ways to their destinations. -/
def Coll.startData (me : Nat) (c : Coll) : CollOut :=
  c.liveChunks.foldl (fun o k => (c.dests k).foldl (fun o d =>
    o.thenDo (fun q => q.enter me d k false (c.ownSum me k))) o) ⟨{ c with phase := .data }, [], []⟩

/-- Has every word that this member awaits arrived and been checked? -/
def Coll.dataDone (me : Nat) (c : Coll) : Bool :=
  c.liveChunks.all (fun k => !(c.toAll || c.shardOf k = rankOf c.members me) || Tab.has c.sums k)

/-- The summed values of elements from `first` on, in units before SCALE_CODE; NaR over a special chunk. -/
def Coll.sumVals (c : Coll) (first n : Nat) : List Val :=
  (List.range n).map (fun i =>
    let k := (first + i) / 4096
    match Tab.get c.sums k with
    | some ws => sumVal (c.scaleOf k) (ws.getD ((first + i) % 4096) 0)
    | none => .nar)

/-- Phase 2 runs again for the shards that failed (R211). -/
def Coll.rerun (c : Coll) : Coll :=
  { c with
    head := { c.head with run := c.head.run + 1 }, redoRuns := c.redoRuns + 1, shards := c.failed
    bad := [], failed := [], verifyCovered := [], near := [], far := []
    sums := c.sums.filter (fun e => !c.failed.contains (c.shardOf e.1)) }

/-- The figures of a round enter the record's sums. -/
def Coll.countRound (c : Coll) : Coll :=
  { c with
    specialNar := c.specialNar || c.figures.any (·.nar)
    specialInf := c.specialInf || c.figures.any (fun f => f.pinf || f.ninf)
    specialChunks := c.specialChunks + (c.figures.filter Figure.special).length
    sMax := c.figures.foldl (fun m f => optMax m f.fig) c.sMax }

/-- The record of a collective (Table 7.12). (Log entry 57: DEDUCED.) -/
def Coll.record (c : Coll) (convStatus : Nat) : List Byte :=
  let flags := (if c.specialNar then 1 else 0) + (if c.specialInf then 2 else 0) + (if c.deficient then 4 else 0)
    + (if c.redoRuns != 0 then 8 else 0)
  le 2 0 ++ le 1 convStatus ++ le 1 flags ++ le 4 (min 0xFFFFFFFF c.specialChunks)
    ++ le 2 (match c.sMax with | some m => twosOf m 16 | none => 0x8000) ++ le 2 (min 0xFFFF c.redoRuns) ++ le 4 0

end Sys2Proof.Machine
end

