-- ==== Sys2Proof/Machine/Reads.lean ====
section
/-! DEFINITION. Remote reads that a re-gather makes of its peers (R212, R271 to R275). -/

namespace Sys2Proof.Machine

/-- The key of the tensor that holds the node shard of a gathered tensor; no handle names it (R271). -/
def nodeKey (h : Nat) : Nat := 2 ^ 32 + h

/-- A span of a tensor's elements, with the nibbles of its blocks of 32 out of a table of them or the tensor's own. -/
def TData.span (t : TData) (first count : Nat) (flat : Option (Tab Nat)) : List Nat × List Nat :=
  ((t.codes.flatten.drop first).take count,
   match flat with
   | some f => (List.range (ceilDiv count 32)).map (fun i => Tab.getD f (first / 32 + i) 15)
   | none => (t.nibs.flatten.drop (first / 32)).take (ceilDiv count 32))

/-- An answer with data, and one that says that they are no longer there. -/
def ReadReq.data (q : ReadReq) (rank writes : Nat) (d : List Nat × List Nat) : ReadData :=
  ⟨false, q.ctx, q.tag, rank, q.number, q.first, d.1, d.2, writes⟩
def ReadReq.gone (q : ReadReq) (rank : Nat) : ReadData := ⟨true, q.ctx, q.tag, rank, q.number, q.first, [], [], 0⟩

/-- A span of the gathered tensor of a request, out of DST while it is held whole, else out of the node shard; none until its
XGATHER has ended here (R271 to R273). -/
def State.readNode (s : State) (x : Ctx) (rank : Nat) (q : ReadReq) : Option ReadData :=
  match x.gathered.find? (fun e => e.2.group = q.group && e.2.number = q.number) with
  | some (h, g) =>
    if g.counts.isEmpty then none
    else if g.held then (s.readTensor x h).map (fun t => q.data rank 0 (t.span q.first q.count (some g.flatNibs)))
    else
      match g.shard with
      | some (a, n) =>
        if a ≤ q.first && q.first + q.count ≤ a + n then
          (s.readTensor x (nodeKey h)).map (fun t => q.data rank 0 (t.span (q.first - a) q.count none))
        else some (q.gone rank)
      | none => if x.replay.isSome then none else some (q.gone rank)
  | none =>
    match Tab.get x.groups q.group with
    | some g => if x.replay.isSome || g.obj.nextNumber ≤ q.number then none else some (q.gone rank)
    | none => none

/-- The source shard of a request, with its write count. A shard written fewer times than at the gather is one that a rollback
took back and that the replay has still to write. -/
def State.readSource (s : State) (x : Ctx) (rank : Nat) (q : ReadReq) : Option ReadData :=
  if x.writesOf q.handle < q.writes && (x.tensor? q.handle).isSome then none
  else
    match s.readTensor x q.handle with
    | some t => some (q.data rank (x.writesOf q.handle) (t.codes.flatten, t.nibs.flatten))
    | none => if x.replay.isSome then none else some (q.gone rank)

/-- What this member answers to a remote read; none while it cannot: its job has faulted, or is still to be brought back
(R275, R341). (Log entry 61: DEDUCED.) -/
def State.readFor (s : State) (x : Ctx) (rank : Nat) (q : ReadReq) : Option ReadData :=
  if x.state = .faulted || x.rollbackDue.isSome then none
  else if q.node then s.readNode x rank q
  else s.readSource x rank q

/-- A remote read is answered, or waits with its job. -/
def State.serveRead (s : State) (src : Nat) (q : ReadReq) : State :=
  match s.ctx? q.ctx, s.ident with
  | some x, some me =>
    match s.readFor x (rankOf (((Tab.get x.groups q.group).map (fun g => g.obj.members)).getD []) me) q with
    | some d => s.send src (some x.params.partition) (.readData d)
    | none => s.holdFor q.ctx ⟨src, 36, .readRequest q⟩
  | _, _ => s.holdFor q.ctx ⟨src, 36, .readRequest q⟩

/-- The remote reads that wait with a job are tried again. -/
def State.serveReads (s : State) (ctx : Nat) : State :=
  s.retakeMsgs ctx (fun m => match m with | .readRequest _ => true | _ => false) (fun a m =>
    match m.msg with
    | .readRequest q => a.serveRead m.src q
    | _ => a)

end Sys2Proof.Machine
end

