-- ==== Sys2Proof/Machine/Restore.lean ====
section
/-! DEFINITION. Rollback, restore and replay of a job (R192, R212, R275, R322, R340 to R344, R348). -/

namespace Sys2Proof.Machine

/-! ### The state of R341 -/

/-- Does a slot restart: a KV view over a non-persistent pool names it (R344)? -/
def JobHeader.restarts (h : JobHeader) (slot : Nat) : Bool :=
  h.tensors.any (fun t => t.2.kind = .kvView && t.2.kv.slot = slot
    && !((Tab.get h.pools t.2.kv.pool).map (·.persistent)).getD false)

/-- Replay makes again what these records make: their queue, or group, is not one that is gone for good (R356). -/
def JBody.destroys : JBody → Option (Bool × Nat)
  | .config (.queueDestroy _ q) => some (true, q)
  | .config (.xgroupDestroy _ g) => some (false, g)
  | _ => none

/-- A context with the objects of a header, placed afresh (R341): tensors and pools as new, queues empty
with full credits, groups with the header's collective numbers, gathered tensors released at level
GROUP with no place, no chain state, no open collective. `later` holds the records that follow. -/
def State.objectsOf (s : State) (x : Ctx) (h : JobHeader) (later : List JRec) : Ctx :=
  let tiles := ((Tab.get s.parts x.params.partition).map Part.tiles).getD []
  let remade (queue : Bool) (n : Nat) : Bool := later.any (fun r => r.body.destroys = some (queue, n))
  let y0 := { x.stopped with
    gatherHbm := h.gatherHbm, runs := [], nextHandle := h.nextHandle, tensors := [], pools := []
    queues := Tab.mapVals h.queues (fun _ p => newQueue p)
    goneQueues := x.goneQueues.filter (fun q => !Tab.has h.queues q && !remade true q)
    groups := Tab.mapVals h.groups (fun g o => ⟨o, ((Tab.get x.groups g).map (·.nodes)).getD [], ((Tab.get x.groups g).map (·.reports)).getD []⟩)
    goneGroups := x.goneGroups.filter (fun g => !Tab.has h.groups g && !remade false g)
    epoch := h.epoch, pendingEpoch := h.pendingEpoch, stash := [], gathered := h.gathered, commits := [], dirty := []
    state := .idle, faultCause := 0, lastPin := none }
  let y1 := h.pools.foldl (fun y p =>
    { y with pools := Tab.set y.pools p.1 { obj := p.2, exts := s.newExts y (p.2.pages * 65536) true } }) y0
  h.tensors.foldl (fun y t =>
    let pins := if t.2.pin then dealPins tiles y.lastPin (pinUnits t.2.bytes) else []
    { y with
      tensors := Tab.set y.tensors t.1 { obj := t.2, exts := if Tab.has h.gathered t.1 then [] else s.newExts y t.2.bytes false
                                         pins := pins, deletedAt := Tab.get h.deleting t.1 }
      lastPin := match pins.getLast? with | some l => some l | none => y.lastPin }) y1

/-- The slots of a job as its header has them. -/
def State.slotsOf (s : State) (ctx : Nat) (h : JobHeader) : Tab Slot :=
  h.slots.foldl (fun t e => Tab.set t e.1 ⟨ctx, h.restarts e.1, e.2, Tab.getD h.tables e.1 []⟩) (s.slots.filter (fun l => l.2.ctx != ctx))

/-- Is a record of the entry of a ticket that is still being journaled, and so not accepted? -/
def State.isJournaling (s : State) (r : JRec) : Bool :=
  match (Tab.get s.rings r.ring).bind (·.journaling) with
  | some j => j.written && j.ticket.tseq = r.tseq
  | none => false

/-- The records of a job that follow a FREEZE, with the entries of the tickets that were incomplete at it; without those of
tickets that are not accepted yet (R325, R342). (Log entry 108: DEDUCED.) -/
def State.recordsAfter (s : State) (ctx : Nat) (k : Kept) : List JRec :=
  s.jr.own.filter (fun r => r.ctx = ctx && (k.freezeSeq < r.seq || k.header.keepsRecord r) && !s.isJournaling r)

/-- Can a job be replayed from a commit: was everything written since its FREEZE journaled (R322)? -/
def Ctx.replaysFrom (x : Ctx) (k : Kept) : Bool := x.unreplayable.all (fun n => n ≤ k.freezeSeq)

/-- The job is a faulted context with NO_REPLAY: its replay executes nothing and only completes its tickets (R322, R327, R377;
log entry 156: DEDUCED). -/
def State.noReplay (s : State) (ctx : Nat) : State :=
  let p := (s.ctx? ctx).bind (·.replay)
  (s.jobFault ctx 0x0A none).modCtx ctx (fun z => { z with replay := p })

/-- Is an outgoing message a queue's for a job? -/
def Msg.isQueueOf (ctx : Nat) : Msg → Bool
  | .queueSlot c _ _ | .slotWritten c _ | .queueCredit c _ => c = ctx
  | _ => false

/-- Has neither a message nor any later one of its DEST and VC begun to be sent? -/
def Net.unstarted (n : Net) (m : OutMsg) : Bool :=
  let key := m.dest * 8 + m.vc
  let later := n.out.filter (fun q => q.dest * 8 + q.vc = key && (q.seq + 2 ^ 32 - m.seq) % 2 ^ 32 < 2 ^ 31)
  later.all (fun q => q.sentBytes = 0) && later.length = (Tab.getD n.txSeq key 0 + 2 ^ 32 - m.seq) % 2 ^ 32

/-- Messages that wait to be sent are withdrawn, and those behind them take their numbers. -/
def Net.withdraw (n : Net) (gone : Msg → Bool) : Net :=
  let first := n.out.reverse.foldl (fun t m => if n.unstarted m then Tab.set t (m.dest * 8 + m.vc) m.seq else t) n.txSeq
  n.out.foldl (fun (a : Net) m =>
    if !n.unstarted m then { a with out := a.out ++ [m] }
    else if gone m.msg then a
    else
      let key := m.dest * 8 + m.vc
      { a with
        out := a.out ++ [{ m with seq := Tab.getD a.txSeq key 0 }]
        txSeq := Tab.set a.txSeq key ((Tab.getD a.txSeq key 0 + 1) % 2 ^ 32) }) { n with out := [], txSeq := first }

/-- The queue contents of a job that stand between modules are discarded as far as this module holds them (R192, R348; log
entry 157: DEDUCED). -/
def State.dropQueued (s : State) (ctx : Nat) : State :=
  let s1 := s.ctxs.foldl (fun a c => if c.1 = ctx then a.modCtx ctx (fun x =>
    { x with waitingMsgs := x.waitingMsgs.filter (fun m => !m.msg.isQueueOf ctx) }) else a) s
  { s1 with net := { s1.net.withdraw (Msg.isQueueOf ctx) with inbox := s1.net.inbox.filter (fun a => !a.msg.isQueueOf ctx) } }

/-- The job returns to a kept commit, its image still to come, its records to be replayed; with NO_REPLAY
when an unjournaled unmap follows the commit's FREEZE (R322, R341, R342, R348). BAR2 mappings stand (R302; log
entry 42: DEDUCED). -/
def State.returnTo (s : State) (ctx : Nat) (x : Ctx) (k : Kept) : State :=
  let later := s.recordsAfter ctx k
  let y := s.objectsOf x k.header later
  let old := k.map.filter (fun e => !x.latestMap.contains e)
  let y2 : Ctx := { y with
    dirty := old.map (·.1), wrote := false, lastFreeze := some k
    rollbackDue := some (.image k.id)
    replay := some ⟨some k.id, later, none⟩ }
  let s0 := s.dropQueued ctx
  let s1 := { s0 with
    slots := s0.slotsOf ctx k.header
    tiles := Tab.mapVals s0.tiles (fun _ t => t.dropCtx ctx) }
  let s2 := if s.holdsSlice ctx then (s1.setCtx ctx y2).passSlice x.params.partition else s1.setCtx ctx y2
  if x.replaysFrom k then s2 else s2.noReplay ctx

/-- JOB_ROLLBACK to a kept commit (R348): in-flight work is discarded, ROLLBACK is journaled, the job is
as its commit left it; the record brings the twin to send the image. -/
def State.rollback (s : State) (ctx : Nat) (x : Ctx) (k : Kept) : State :=
  (s.journal 0xFFFF ctx 0 [.rollback k.id]).returnTo ctx x k

/-- Extents of an image arrive (step 5 of Table 11.13). -/
def Ctx.putExtents (x : Ctx) (es : List (ExtentId × Mem)) : Ctx :=
  es.foldl (fun y e =>
    let base := e.1.index * unitBytes
    if e.1.pool then
      { y with pools := Tab.modify y.pools e.1.handle (fun p =>
          { p with img := e.2.foldl (fun m b => Mem.put pageDflt m (base + b.1) b.2) p.img }) }
    else
      { y with tensors := Tab.modify y.tensors e.1.handle (fun t =>
          { t with img := e.2.foldl (fun m b => Mem.put t.obj.dflt m (base + b.1) b.2) t.img }) }) x

/-- Does a job wait for the image of a commit? -/
def State.imageDue (s : State) (ctx commit : Nat) : Bool :=
  ((s.ctx? ctx).bind (·.rollbackDue)) = some (.image commit)

/-- A part of the image of a job's commit comes back; its header is the end (R340, R348). One that has been taken whole is
acknowledged again. -/
def State.imageIn (s : State) (src : Nat) (m : MirrorMsg) : State :=
  let due := s.imageDue m.ctx m.commit
  match m.extent with
  | some e => if due then s.modCtx m.ctx (fun x => x.putExtents [(e, m.bytes)]) else s
  | none =>
    let s1 := if due then ((s.modCtx m.ctx (fun x => { x with rollbackDue := none })).serveReads m.ctx).refresh m.ctx else s
    s1.send src none (.mirrorAck true m.ctx m.commit none)

/-- MEMORY_WRITE (R333, R340, R348): a mirror message is written and acknowledged, once there is a slot for it; a part of an
image that comes back is put in its place. -/
def execMemoryWrite (src : Nat) (s : State) : Out :=
  .next (onMessage src 3 s (fun s a =>
    match a.msg with
    | .mirror m =>
      if !s.isTwin src then some s
      else if m.image then some (s.imageIn src m)
      else (s.mirrorWrite m).map (fun t => t.send src none (.mirrorAck false m.ctx m.commit m.extent))
    | _ => none))

/-! ### Replay (R342 to R344) -/

/-- Has a replayed run been taken up: its descriptors dispatched, its freeze made, or its status decided? -/
def Run.takenUp (r : Run) : Bool := r.status.isSome || (if r.ticket.kind = 3 then r.frozen else r.descs.length ≤ r.next)

/-- Is acceptance on a ring held by a restore or rollback of its job (R342)? -/
def Ctx.ringHeld (x : Ctx) (ring : Nat) : Bool :=
  x.rollbackDue.isSome
  || (match x.replay with
      | some p => p.records.any (fun r => r.ring = ring && (match r.body with | .accept _ => true | _ => false))
          || x.runs.any (fun q => q.ring = ring && !q.takenUp)
      | none => false)

/-- Is acceptance on a ring held (R342)? -/
def State.ringHeld (s : State) (g : Nat) (r : Ring) : Bool := ((s.ctx? r.params.ctx).map (fun x => x.ringHeld g)).getD false

/-- Does the ticket that a ring has fetched wait for room: in the own journal, or in the twin's (R324)? -/
def State.waitsRoom (s : State) (g : Nat) (r : Ring) : Bool :=
  match r.journaling with
  | some j =>
    if j.written then s.jr.twinFull && s.twin.state = .paired && s.jr.acked < j.lastSeq
    else !s.ringHeld g r && !s.journalRoom (ticketBodies j.ticket j.descs).length
  | none => false

/-- JOURNAL_WAIT (Table 11.3). -/
def State.journalWaits (s : State) : Bool := s.rings.any (fun e => s.waitsRoom e.1 e.2)

/-- The completion entry of a ticket that stands in the journal. -/
def State.journaledEnd (s : State) (ring tseq : Nat) : Option (List Byte) :=
  s.jr.own.findSome? (fun q => if q.ring = ring && q.tseq = tseq then (match q.body with | .complete e => some e | _ => none) else none)

/-- A ticket's run as replay makes it: its writes to the host by R343; what it sees as at its acceptance, for one that the
header does not name as at its place in the journal (log entry 150: DEDUCED). A COMMIT that the restored commit has frozen
with or before is decided, and so is every ticket of a job that is not replayed: as the journal says, else sealed or, in
place, COMMIT_SOLO, or CONTEXT_FAULTED (R325, R327, R337, R342, R377). -/
def State.replayRun (s : State) (x : Ctx) (p : Replay) (r : JRec) (t : Ticket) (ds : List Desc) : Run :=
  let h := Tab.getD (p.hostRead.getD []) r.ring 0
  let done := s.journaledEnd r.ring r.tseq
  let kept := p.commit.bind (fun n => (x.kept ++ x.lastFreeze.toList).find? (fun k => k.id = n))
  let w := kept.bind (fun k => k.header.waiting.find? (fun w => w.ring = r.ring && w.tseq = r.tseq))
  let stands := t.kind = 3 && kept.any (fun k => t.commitId ≤ k.id)
  let run : Run :=
    { ring := r.ring, tseq := r.tseq, ticket := t, descs := ds.take t.descCount
      states := (List.range t.descCount).map (fun _ => .waiting), accSeq := r.seq
      gatherHbm := (w.map (·.gatherHbm)).getD x.gatherHbm, accAt := (w.map (·.accAt)).getD r.seq
      mode := if r.tseq ≤ h then .silent else if done.isSome then .rewrite else .replayed }
  if x.state = .faulted || stands then
    let e := done.getD []
    { run with
      states := run.states.map (fun _ => .ended), next := run.descs.length, frozen := true
      status := some (if done.isSome then fieldAt e 8 2 else if stands then (if x.kept.any (fun k => t.commitId ≤ k.id) then 0 else 0x12) else 3)
      fault := fieldAt e 10 2, index := if done.isSome then fieldAt e 12 2 else 0xFFFF }
  else run

/-- A run enters a replay; one that is decided settles, with NOT_RUN for its descriptors where the journal has no end of it. -/
def State.addReplayed (s : State) (ctx : Nat) (q : Run) : State :=
  let s1 := s.modCtx ctx (fun y => { y with runs := y.runs ++ [q] })
  if q.status.isNone then s1
  else
    let s2 := if q.mode = .replayed then (List.range q.descs.length).foldl (fun a i => a.putRecord ctx q i (statusRecord 2)) s1 else s1
    s2.settle ctx q.ring q.tseq

/-- Does a slot's sequence restart: does a view over a pool that is not persistent name it (R344)? -/
def Ctx.slotRestarts (x : Ctx) (slot : Nat) : Bool :=
  x.tensors.any (fun t => t.2.obj.kind = .kvView && t.2.obj.kv.slot = slot
    && !((Tab.get x.pools t.2.obj.kv.pool).map (·.obj.persistent)).getD false)

/-- RESTART is set for a slot whose sequence restarts. -/
def State.markRestart (s : State) (ctx slot : Nat) : State :=
  if ((s.ctx? ctx).map (fun x => x.slotRestarts slot)).getD false then { s with slots := Tab.modify s.slots slot (fun l => { l with restart := true }) }
  else s

/-- A journaled command of the job is applied again; those of partitions, contexts, ring bindings and
reservations are not (R342). A sequence whose pages the replay does not have restarts (R344). -/
def State.applyOp (s : State) (ctx : Nat) (x : Ctx) (seq : Nat) (op : ConfigOp) (prompt : List Byte) : State :=
  match op with
  | .tensorCreate _ p => let s1 := s.makeTensor ctx x p
    if p.obj.kind = .kvView then s1.markRestart ctx p.kv.slot else s1
  | .tensorDelete _ h => s.modCtx ctx (fun y =>
      { y with tensors := Tab.modify y.tensors h (fun t => { t with deletedAt := some seq }) }.sweepDeleted)
  | .kvPoolCreate _ pages p => match lowestFree 65536 (Tab.keys x.pools) with
    | some n => s.makePool ctx x n pages p
    | none => s
  | .kvMap _ slot first es => s.mapPages slot first seq es
  | .kvPoolDestroy _ p => s.modCtx ctx (fun y => y.dropPool p)
  | .slotAssign _ n => (s.assignSlot ctx n prompt).markRestart ctx n
  | .slotRelease _ n => { s with slots := Tab.erase s.slots n }
  | .queueCreate _ p => s.setCtx ctx (x.addQueue p)
  | .queueDestroy _ q => s.setCtx ctx (x.dropQueue q)
  | .xgroupCreate _ g ms => s.makeGroup ctx g ms
  | .xgroupDestroy _ g => s.setCtx ctx (x.dropGroup g)
  | .gatherBudget _ u => s.setCtx ctx { x with gatherHbm := u }
  | .mapPlan _ p r =>
    if Tab.has x.plans p.id then s
    else s.setCtx ctx { x with plans := Tab.set x.plans p.id { newPlan p with result := some r, now := r.classes }, latestPlan := some p.id }
  | .mapPlanDrop _ p => s.setCtx ctx { x with plans := Tab.erase x.plans p, latestPlan := if x.latestPlan = some p then none else x.latestPlan }
  | .partitionCreate _ | .partitionDestroy _ | .partitionQuantum _ _ | .contextCreate _ _ | .contextDestroy _
  | .contextPriority _ _ | .ringCreate _ | .ringDestroy _ | .fabricReserve _ _ _ => s

/-- The HOSTWRITE records of an entry are written; the tensor's write count rises by one (R293, R342). -/
def State.replayWrites (s : State) (ctx : Nat) (rs : List JRec) : State :=
  let s1 := rs.foldl (fun a r => match r.body with
    | .hostWrite h off bs => a.modCtx ctx (fun x =>
        { x with tensors := Tab.modify x.tensors h (fun t => { t with img := Mem.putAll t.obj.dflt t.img off bs }) }.wrotePieces
          ((List.range (ceilDiv (off % 65536 + bs.length) 65536)).map (fun i => ⟨false, h, off / 65536 + i⟩)))
    | _ => a) s
  match rs with
  | r :: _ => (match r.body with | .hostWrite h _ _ => s1.modCtx ctx (fun x => x.countWrite h) | _ => s1)
  | [] => s1

/-- The replay of one entry, its records given; none when the job's earlier work must end first. A job that is not replayed
takes up its tickets alone. (Log entry 107: DEDUCED.) -/
def State.replayEntry (s : State) (ctx : Nat) (x : Ctx) (p : Replay) (es : List JRec) : Option State :=
  let quiet := x.runs.all (fun r => r.over || (r.ticket.kind = 3 && r.frozen))
  match es with
  | [] => some s
  | r :: more =>
    match r.body with
    | .accept t =>
      some (s.addReplayed ctx (s.replayRun x p r t (more.flatMap (fun q => match q.body with | .desc l => l | _ => []))))
    | .config op =>
      if x.state = .faulted then some s
      else if quiet then
        let prompt := more.flatMap (fun q => match q.body with | .prompt _ b => b | _ => [])
        some (s.applyOp ctx x r.seq op prompt)
      else none
    | .hostWrite _ _ _ => if x.state = .faulted then some s else if quiet then some (s.replayWrites ctx es) else none
    | _ => some s

/-- JOB_REPLAY (R342, R343): the next entry of the job's journal is taken up; replay ends when every
replayed ticket has been taken up. The consumed positions are those read from host memory when replay
begins. What is replayed is computed as in the first run (R345). -/
def execJobReplay (ctx : Nat) (consumed : Tab Nat) (s : State) : Out :=
  .next (match s.ctx? ctx with
    | some x =>
      match x.replay with
      | some p0 =>
        if !s.live || x.rollbackDue.isSome then s
        else
          let p := { p0 with hostRead := some (p0.hostRead.getD consumed) }
          match p.records with
          | [] =>
            if x.runs.all Run.takenUp then ((s.setCtx ctx { x with replay := none }).serveReads ctx).refresh ctx
            else s.setCtx ctx { x with replay := some p }
          | r :: _ =>
            let n := max 1 (r.count - r.part)
            let x1 := { x with replay := some { p with records := p.records.drop n } }
            match (s.setCtx ctx x1).replayEntry ctx x1 p (p.records.take n) with
            | some t => t.refresh ctx
            | none => s.setCtx ctx { x with replay := some p }
      | none => s
    | none => s)

/-! ### Restoring a module (R340, Table 11.13) -/

/-- The greatest COMMIT_ID that a job has used, from its records and its kept commits (R329). -/
def usedCommits (ctx : Nat) (records : List JRec) (kept : List Kept) : Option Nat :=
  (kept.map (·.id) ++ records.filterMap (fun r => match r.body with
    | .accept t => if r.ctx = ctx && t.kind = 3 then some t.commitId else none
    | _ => none)).max?

/-- The last record that says that a job's unmap was not journaled (R322; log entry 154: DEDUCED). -/
def lastUnjournaled (ctx : Nat) (records : List JRec) : Option Nat :=
  records.foldl (fun n r => match r.body with
    | .hostWrite _ _ [] => if r.ctx = ctx then some r.seq else n
    | _ => n) none

/-- The header of a job that has no commit. -/
def JobHeader.empty (p : ContextParams) : JobHeader :=
  { params := p, gatherHbm := 0, tensors := [], nextHandle := 1, groups := [], epoch := 0, pendingEpoch := false, queues := [], pools := []
    slots := [], gathered := [] }

/-- A job with no sealed commit replays all its records (R342). -/
def State.replayAll (s : State) (ctx : Nat) (x : Ctx) : State :=
  let h := JobHeader.empty x.params
  let all := s.jr.own.filter (fun r => r.ctx = ctx && !s.isJournaling r)
  let s1 := { s with slots := s.slotsOf ctx h }.setCtx ctx { s.objectsOf x h all with rollbackDue := none, replay := some ⟨none, all, none⟩ }
  if x.unreplayable.isNone then s1 else s1.noReplay ctx

/-- The context of a job that is rebuilt: what came early for it is there, its groups are formed anew (R259, R340). -/
def State.rejoin (s : State) (ctx : Nat) : State :=
  let s1 := s.takeEarly ctx
  (((s1.ctx? ctx).map (·.groups)).getD []).foldl (fun a g => a.reformGroup ctx g.1 g.2.obj.members) s1

/-- Step 2 and 3: partitions, contexts, rings and client counts from the tables; each job as its latest kept commit left it,
or from nothing; jobs whose state is lost faulted with NO_REPLAY (R328, R329, R340, R428). -/
def State.rebuild (s : State) (t : RestoreTables) : State :=
  let parts := Tab.mapVals t.tables.parts (fun _ e =>
    ({ params := e.1, dies := e.2.1, channels := e.2.2.1, quantum := e.2.2.2.1, share := e.2.2.2.2 } : Part))
  let regions := parts.foldl (fun r p => addRegions r ((s.partRegions p.2.dies p.2.channels).map (fun g => regionEntry g.1 g.2 p.1 false))) s.regions
  let rings := Tab.mapVals t.tables.rings (fun _ e =>
    ({ params := e.params, accepted := e.accepted, complete := e.complete, above := e.above, tail := e.accepted } : Ring))
  let next := t.records.foldl (fun n r => max n (r.seq + 1)) t.tables.next
  let s1 : State := { s with
    parts := parts, regions := regions, lend := t.tables.lend, rings := rings, clients := t.tables.clients
    jr := { s.jr with own := t.records, nextSeq := next, acked := next } }
  t.tables.ctxs.foldl (fun a c =>
    let kept := Tab.getD t.kept c.1 []
    let base : Ctx := { newCtx c.2.1 c.2.2.1 with
      priority := c.2.2.2, kept := kept, lastCommitId := usedCommits c.1 t.records kept, unreplayable := lastUnjournaled c.1 t.records }
    let b := a.setCtx c.1 base
    (if t.lost.contains c.1 then
      (b.setCtx c.1 { base with replay := some ⟨none, t.records.filter (fun r => r.ctx = c.1), none⟩ }).noReplay c.1
    else
      match kept.getLast? with
      | some k => b.returnTo c.1 base k
      | none => b.replayAll c.1 base).rejoin c.1) s1

/-- Every job's persistent extents are to be sealed anew on a replacement (R346). (Log entry 23: DEDUCED.) -/
def State.resealAll (s : State) : State :=
  let s1 := s.ctxs.foldl (fun a c => a.endCommits c.1 0x12) s
  { s1 with ctxs := Tab.mapVals s1.ctxs (fun c x => { x with
      kept := [], damaged := false
      dirty := (s1.header c x).extents }) }

/-! ### After a warm reset (R403) -/

/-- A job that a warm reset leaves without a state to go on from: FAULTED with NO_REPLAY, its tickets completed as the journal
says (R327, R403). -/
def State.inPlaceFault (s : State) (ctx : Nat) (x : Ctx) : State :=
  let all := s.jr.own.filter (fun r => r.ctx = ctx && !s.isJournaling r)
  (s.setCtx ctx { x with runs := [], rollbackDue := none, replay := some ⟨none, all, none⟩ }).noReplay ctx

/-- Step 3: every job goes back to its latest sealed commit; without room for its ROLLBACK record it cannot, and is faulted
(log entry 153: DESIGN CHOICE). -/
def State.restartPaired (s : State) : State :=
  s.ctxs.foldl (fun a c =>
    match a.ctx? c.1 with
    | some x => (match x.kept.getLast? with
      | some k => if a.journalRoom 1 then a.rollback c.1 x k else a.inPlaceFault c.1 x
      | none => a.replayAll c.1 x)
    | none => a) s

/-- Step 4 for one job: it replays in place from its latest freeze when no persistent extent has been
written since; else it is FAULTED with NO_REPLAY. -/
def State.inPlace (s : State) (ctx : Nat) (x : Ctx) : State :=
  match x.lastFreeze with
  | some k =>
    if x.wrote || !x.replaysFrom k then s.inPlaceFault ctx x
    else
      let later := s.recordsAfter ctx k
      let y := s.objectsOf x k.header later
      let old (h : Nat) (t : Tensor) : Tensor := match x.tensor? h with
        | some o => if t.obj.persistent then { t with img := o.img, exts := o.exts } else t
        | none => t
      let pool (n : Nat) (p : Pool) : Pool := match Tab.get x.pools n with
        | some o => if p.obj.persistent then { p with img := o.img, exts := o.exts } else p
        | none => p
      { s with slots := s.slotsOf ctx k.header }.setCtx ctx { y with
        tensors := Tab.mapVals y.tensors old, pools := Tab.mapVals y.pools pool, dirty := x.dirty
        rollbackDue := none, replay := some ⟨some k.id, later, none⟩ }
  | none => s.inPlaceFault ctx x

/-- Step 4 on a module that is UNPAIRED or SOLO. -/
def State.restartInPlace (s : State) : State :=
  s.ctxs.foldl (fun a c => match a.ctx? c.1 with | some x => a.inPlace c.1 x | none => a) s

/-- The jobs of a warm-reset module are taken up, once (R403). -/
def State.restartJobs (s : State) (paired : Bool) : State :=
  if s.boot.rebuildDue then
    let s1 := { s with boot := { s.boot with rebuildDue := false } }
    if paired then s1.restartPaired else s1.restartInPlace
  else s

end Sys2Proof.Machine
end

