-- ==== Sys2Proof/Machine/Twin.lean ====
section
/-! DEFINITION. Pairing, loss of the twin, restore between modules, winch-to-winch messages (R310 to
R318, R334, R338 to R340, R346, R348, R349). -/

namespace Sys2Proof.Machine

/-! ### Twin states -/

/-- A change of STATE raises a TWIN_STATE event (R318, Table 12.20). -/
def State.setTwin (s : State) (st : TState) : State :=
  if s.twin.state = st then s
  else (s.modTwin (fun t => { t with state := st })).event 0 0x04 0xFFFF st.code (s.twin.twinId.getD 0)

/-- A refusal written to XD_TWIN_REFUSE (Table 11.4). -/
def State.refuseTwin (s : State) (cause peer : Nat) : State :=
  s.modTwin (fun t => { t with refuse := cause, refusePeer := peer })

/-- What a module tells the other of itself (Table 11.1). -/
def State.pairInfo (s : State) (asks : Bool) : PairInfo :=
  ⟨asks, s.ident, if s.twin.state = .restoring then none else s.twin.twinId, 0x0A, s.ballastCode, s.twin.partnerOf⟩

/-- The module is PAIRED: held records and unsealed transfers are sent (R314, R339). A twin that no
longer holds this module's state gets all of it anew. After a warm reset the jobs roll back (R403).
(Log entry 78: DEDUCED.) -/
def State.enterPaired (s : State) : State :=
  match s.twin.twinId with
  | none => s
  | some t =>
    let lost := match s.twin.peerInfo with | some i => i.holds != s.ident | none => false
    let s1 := if s.twin.state = .twinLost && lost then
        let r := s.resealAll
        { r with jr := { r.jr with acked := 0, twinFull := false } }
      else s
    let s2 := s1.modTwin (fun w => { w with
      exposed := false, holdsPartner := false, partnerOf := some t, refuse := 0, refusePeer := 0, peerInfo := none })
    ((s2.setTwin .paired).resume t).restartJobs true

/-! ### Pairing (R310) -/

/-- In-service tether ports that face another module than the one named. -/
def State.strayTether (s : State) (t : Nat) : Option Nat :=
  [32, 33, 34, 35].findSome? (fun i =>
    let p := s.port i
    let who := p.peer.bind (fun f => f.ident)
    if p.state = .inService && who != some t then some (who.getD 0) else none)

/-- What is known of the other end's identity: as it tells it, else as a tether port's training told it. -/
def State.peerIdent (s : State) : Option (Option Nat) :=
  match s.twin.peerInfo with
  | some i => some i.ident
  | none => [32, 33, 34, 35].findSome? (fun p => if (s.port p).state = .inService then (s.port p).peer.map (·.ident) else none)

/-- Rows 1 to 4 of Table 11.1 in order: cause and PEER_ID of the first that fails; row 3 is the rule of R5. Where
nothing is known of the other end yet, row 1 is judged on this end alone. -/
def State.pairFirst (s : State) (t : Nat) : Option (Nat × Nat) :=
  match s.ident with
  | none => some (8, t)
  | some me =>
    if s.peerIdent = some none then some (8, t)
    else if me = t then some (9, me)
    else if s.tetherUp = 0 then some (10, t)
    else
      match s.strayTether t with
      | some p => some (1, p)
      | none =>
        match s.twin.peerInfo with
        | none => some (2, t)
        | some i =>
          if i.names != some me then some (2, t)
          else if i.revision != 0x0A || i.ballast != s.ballastCode then some (3, t)
          else none

/-- Row 6: the third module whose state either mirror area holds. -/
def State.pairThird (s : State) (t : Nat) : Option Nat :=
  match s.twin.partnerOf, s.twin.peerInfo.bind (fun i => i.holds) with
  | some p, h => if p != t then some p else (match h with | some q => if s.ident != some q then some q else none | none => none)
  | none, some q => if s.ident != some q then some q else none
  | none, none => none

/-- The checks of Table 11.1 run once: a refusal, authentication begun or under way, or PAIRED. -/
def State.pairStep (s : State) : State :=
  match s.twin.state, s.twin.twinId with
  | .pairing, some t =>
    match s.pairFirst t with
    | some (c, p) => s.refuseTwin c p
    | none =>
      if s.twin.auth.verified then
        match s.pairThird t with
        | some p => s.refuseTwin 5 p
        | none => s.enterPaired
      else if s.twin.auth.keyDraw.isNone then s.beginAuth
      else s
  | _, _ => s

/-- This module's pairing facts are sent to a module, while a tether port is in service. (Log entry 79: DEDUCED.) -/
def State.tellTo (s : State) (dest : Nat) (asks : Bool) : State :=
  if 0 < s.tetherUp then s.send dest none (.winch (.pairInfo (s.pairInfo asks))) else s

/-- They are sent to the module named, whose own are asked for. -/
def State.tellPair (s : State) : State :=
  match s.twin.twinId with
  | some t => s.tellTo t true
  | none => s

/-- TWIN_PAIR (R310, R318). -/
def execTwinPair (h : CmdHead) (ident : Nat) (s : State) : Out :=
  gheit h (!fits 18 ident) true (fun s =>
    refuseIf [(s.twin.state != .unpaired, 0x0F)]
      (let s1 := s.modTwin (fun t => { t with twinId := some ident, peerInfo := none, auth := {} })
       .ok [] ({ s1 with flash := { s1.flash with twinId := some ident } }.setTwin .pairing).tellPair.pairStep)) s

/-- TWIN_PAIR_RETRY (R310): once per second while PAIRING. -/
def execTwinPairRetry (s : State) : Out :=
  .next (if s.live && s.twin.state = .pairing then s.tellPair.pairStep else s)

/-- All partner state held is freed (Table 11.5a). -/
def State.freePartner (s : State) : State :=
  { s with
    jr := { s.jr with
      partner := [], partnerLost := [], partnerTables := none, refusedAt := none, returning := [], images := [], incoming := [], slots := [] }
    twin := { s.twin with holdsPartner := false, partnerOf := none } }

/-- The pairing ends or is withdrawn (R318, R337): the other end is told; unsealed commits complete with COMMIT_SOLO; no seal
stands on a current twin. (Log entry 77: DEDUCED.) -/
def State.unpair (s : State) (discard : Bool) : State :=
  let s0 := match s.twin.state, s.twin.twinId with
    | .paired, some t => s.send t none (.winch .unpaired)
    | _, _ => s
  let s1 := ((s0.setTwin .unpaired).restartJobs false).resealAll
  let s2 : State := { s1 with
    flash := { s1.flash with twinId := none }
    jr := { s1.jr with acked := 0, twinFull := false, returning := [], incoming := [] }.sweep
    twin := { s1.twin with
      twinId := none, exposed := false, auth := {}, peerInfo := none, refuse := 0, refusePeer := 0
      holdsPartner := s1.twin.partnerOf.isSome, withheld := none, serving := none } }
  let s3 := if discard then s2.freePartner else s2
  match s.twin.state, s.twin.twinId with
  | .pairing, some t => s3.tellTo t false
  | _, _ => s3

/-- TWIN_UNPAIR (R318). -/
def execTwinUnpair (h : CmdHead) (discard : Nat) (s : State) : Out :=
  gheit h (1 < discard) true (fun s =>
    refuseIf [(s.twin.state = .restoring, 0x0F)] (.ok [] (s.unpair (discard = 1)))) s

/-- TWIN_SOLO (R337, R339). -/
def execTwinSolo (h : CmdHead) (s : State) : Out :=
  gheit h false true (fun s =>
    refuseIf [(s.twin.state != .twinLost, 0x0F)]
      (.ok [] (s.ctxs.foldl (fun a c => a.endCommits c.1 0x12) (s.setTwin .solo)))) s

/-! ### Losing the twin (R338) -/

/-- Do rows 3 and 4 of Table 11.1 hold of a restore request: does it name this module, of the same revision and order code
(R5, Table 11.13)? The cause of the first that fails. -/
def State.requestFails (s : State) (r : RestoreReq) : Option Nat :=
  if s.ident != some r.survivor then some 2
  else if r.revision != 0x0A || r.ballast != s.ballastCode then some 3
  else none

/-- A survivor answers a restore request: WRONG_ID unless it holds the state of that identity; else it serves it, when rows 3
and 4 of Table 11.1 hold (R340, Table 11.13). -/
def State.answerRestore (s : State) (r : RestoreReq) : State :=
  let s1 := s.modTwin (fun t => { t with withheld := none })
  if !(s.twin.holdsPartner && s.twin.partnerOf = some r.ident) then s1.send r.ident none (.winch (.restoreAnswer none))
  else
    let s2 := s1.send r.ident none (.winch (.restoreAnswer (some (0x0A, s.ballastCode))))
    match s.requestFails r with
    | some c => (s2.refuseTwin c r.ident).send r.ident none (.winch (.restoreChecked false))
    | none => s2.modTwin (fun t => { t with serving := some ⟨r, 1, false⟩, auth := {} })

/-- The module enters TWIN_LOST. -/
def State.loseTwin (s : State) : State :=
  let s1 := ((s.modTwin (fun t => { t with
    exposed := true, holdsPartner := true, partnerOf := t.twinId, auth := {}, peerInfo := none })).setTwin .twinLost).countEvent 9
  match s1.twin.withheld with
  | some r => s1.answerRestore r
  | none => s1

/-- TWIN_LOST: 200 ms with no tether port in service. -/
def execTwinLost (s : State) : Out :=
  .next (match s.twin.tetherDownAt with
    | some t => if s.live && s.twin.state = .paired && t + 200000000 ≤ s.time.now then s.loseTwin else s
    | none => s)

/-! ### Authentication (R312 to R314) -/

/-- A TWIN_RESTORE that waits completes REFUSED, and the restore is given up. -/
def State.refuseRestore (s : State) (h : CmdHead) (cause : Nat) : State :=
  (s.modTwin (fun t => { t with restoring := none, auth := {} })).finishCmd h 1 cause (leBytes 8 0)

/-- The command that waits for a restore. -/
def State.restoreWaiter (s : State) : Option (CmdHead × Nat) :=
  match (s.fn 0).mbox.waiting with
  | some (h, .restore sv) => some (h, sv)
  | _ => none

/-- Step 1 has ended well on both ends: RESTORING, and the command completes (R318, R340). -/
def State.restorePasses (s : State) : State :=
  match s.restoreWaiter, s.twin.restoring with
  | some (h, sv), some r =>
    if r.step = 1 && r.ownOk && r.peerOk then
      let s1 := s.modTwin (fun t => { t with twinId := some sv, restoring := some { r with step := 2 } })
      ({ s1 with flash := { s1.flash with twinId := some sv } }.setTwin .restoring).finishCmd h 0 0 []
    else s
  | _, _ => s

/-- Step 1 fails at this end or the other: PAIR_CHECK, with the cause in XD_TWIN_REFUSE (R318). -/
def State.restoreFails (s : State) (cause : Nat) : State :=
  match s.restoreWaiter with
  | some (h, sv) => (s.refuseTwin cause sv).refuseRestore h 0x13
  | none => s

/-- Authentication has ended well; a survivor tells the module that it serves. -/
def State.authDone (s : State) (p : Nat) : State :=
  let fresh := s.twin.auth.sessionKey.isNone
  let s1 := s.newSession p
  match s1.twin.restoring, s1.twin.serving with
  | some r, _ => if r.step = 1 then (s1.modTwin (fun t => { t with restoring := some { r with ownOk := true } })).restorePasses
      else if fresh then s1.resume p else s1
  | none, some v =>
    if v.checked then s1
    else (s1.modTwin (fun t => { t with serving := some { v with checked := true } })).send p none (.winch (.restoreChecked true))
  | none, none =>
    match s1.twin.state with
    | .pairing => s1.pairStep
    | .twinLost => if s1.twin.twinId = some p then s1.enterPaired else s1
    | .paired => if fresh then s1.resume p else s1
    | _ => s1

/-- Authentication has failed: cause AUTH while a pairing or a restore is under way (Tables 11.1, 11.13). -/
def State.authFailed (s : State) (p : Nat) : State :=
  let s1 := s.modTwin (fun t => { t with auth := {} })
  match s.twin.restoring, s.twin.serving with
  | some r, _ => if r.step = 1 then s1.restoreFails 4 else s1
  | none, some _ => ((s1.modTwin (fun t => { t with serving := none })).refuseTwin 4 p).send p none (.winch (.restoreChecked false))
  | none, none => if s.twin.state = .pairing then s1.refuseTwin 4 p else s1

/-- TWIN_AUTH (R312): a message of the authentication is taken. -/
def execTwinAuth (src : Nat) (s : State) : Out :=
  .next (onMessage src 1 s (fun s a =>
    match a.msg with
    | .auth m =>
      if s.authPeer != some src then some s
      else
        match m with
        | .hello fresh certs key => some (s.authHello src fresh certs key)
        | .cipher c => if s.twin.auth.encDraw.isSome then some (s.authCipher src c) else some s
        | .signed sig => if s.authVerified src sig then some (s.authDone src) else some (s.authFailed src)
    | _ => none))

/-- SESSION_REKEY (R313): a new session key is agreed; the old one serves until then. -/
def execSessionRekey (s : State) : Out :=
  .next (if s.live && (s.twin.state = .paired || s.twin.state = .restoring) && s.twin.auth.sessionKey.isSome then
    (s.modTwin (fun t => { t with rekeys := t.rekeys + 1 })).beginAuth else s)

/-! ### Commands on a job's commits (R317, R334, R348) -/

/-- JOB_ROLLBACK (R348). (Log entry 117: DEDUCED.) (Log entry 119: DEDUCED.) -/
def execJobRollback (h : CmdHead) (ctx commit : Nat) (s : State) : Out :=
  gheit h (!fits 64 commit) false (fun s => forOwner h ctx (fun x =>
    match x.kept.find? (fun k => k.id = commit) with
    | none => .refused 0x0E 0
    | some k => refuseIf [(s.twin.state != .paired, 0x0F)] (.ok [] ((s.rollback ctx x k).refresh ctx))) s) s

/-- COMMIT_RELEASE (R334): older sealed commits go, with the records of the job before k's FREEZE; the RELEASE record frees
the same on the twin. -/
def State.releaseCommit (s : State) (ctx : Nat) (k : Kept) : State :=
  let s1 := s.journal 0xFFFF ctx 0 [.release k.id]
  { s1 with jr := { s1.jr with own := s1.jr.own.filter (fun r => !freedBy ctx k.freezeSeq (some k.header) r) } }.modCtx ctx
    (fun x => { x with kept := x.kept.filter (fun c => k.id ≤ c.id) })

def execCommitRelease (h : CmdHead) (ctx commit : Nat) (s : State) : Out :=
  gheit h (!fits 64 commit) false (fun s => forOwner h ctx (fun x =>
    match x.kept.find? (fun k => k.id = commit) with
    | none => .refused 0x0E 0
    | some k => .ok [] (s.releaseCommit ctx k)) s) s

/-- JOURNAL_QUERY (R317): A_g and C_g of each ring, the latest sealed and oldest kept COMMIT_ID, the free
records. -/
def State.journalFacts (s : State) (rings : List Nat) (x : Ctx) : List Byte :=
  result (rings.flatMap (fun g =>
      let r := Tab.get s.rings g
      [(8, (r.map (·.accepted)).getD 0), (8, (r.map (·.complete)).getD 0)])
    ++ [(8, x.sealedId), (8, ((x.kept.head?).map (·.id)).getD 0), (8, s.journalCap - s.jr.own.length)])

def execJournalQuery (h : CmdHead) (byRing : Bool) (number : Nat) (s : State) : Out :=
  gheit h false false (fun s =>
    if byRing then
      match Tab.get s.rings number with
      | none => .refused 0x12 0
      | some r => forOwner h r.params.ctx (fun x => .ok (s.journalFacts [number] x) s) s
    else forOwner h number (fun x => .ok (s.journalFacts (s.ringsOf number) x) s) s) s

/-! ### Restoring (R340, Table 11.13) -/

/-- TWIN_RESTORE (R318, R340): refused on a module that is not fresh, in a state with a twin, or with no
tether port in service; else the survivor is asked. (Log entries 80, 166: DEDUCED.) -/
def execTwinRestore (h : CmdHead) (survivor : Nat) (s : State) : Out :=
  gheit h (!fits 18 survivor) true (fun s =>
    if !s.jr.own.isEmpty || !s.parts.isEmpty then .refusedIn 0x0C 0 (s.refuseTwin 7 survivor)
    else refuseIf [(s.twin.state != .unpaired || s.tetherUp = 0 || s.ident.isNone, 0x0F)]
      (.waits (.restore survivor)
        (s.send survivor none (.restoreRequest ⟨s.ident.getD 0, survivor, 0x0A, s.ballastCode⟩)))) s

/-- TWIN_RESTORE_TIMEOUT (R318). -/
def execTwinRestoreTimeout (s : State) : Out :=
  .next (match s.restoreWaiter with
    | some (h, _) => if s.live then s.refuseRestore h 0x0F else s
    | none => s)

/-- RESTORE_REQUEST (R340): a survivor in RESTORING does not answer; one that is PAIRED or PAIRING
withholds its answer until it enters TWIN_LOST. -/
def execRestoreRequest (src : Nat) (s : State) : Out :=
  .next (onMessage src 1 s (fun s a =>
    match a.msg with
    | .restoreRequest r =>
      match s.twin.state with
      | .restoring => some s
      | .paired | .pairing => some (s.modTwin (fun t => { t with withheld := some r }))
      | _ => some (s.answerRestore r)
    | _ => none))

/-- The survivor's answer reaches the fresh module: WRONG_ID (log entry 166: DEDUCED); MISMATCH; or the authentication of step
1 begins (R5, R340). -/
def State.restoreAnswered (s : State) (src : Nat) (facts : Option (Nat × Nat)) : State :=
  match s.restoreWaiter with
  | some (h, sv) =>
    if sv != src then s
    else
      match facts with
      | none => (s.refuseTwin 6 sv).refuseRestore h 0x0D
      | some f =>
        if f.1 != 0x0A || f.2 != s.ballastCode then s.restoreFails 3
        else (s.modTwin (fun t => { t with auth := {}, restoring := some ⟨sv, 1, false, false, none⟩ })).beginAuth
  | none => s

/-- What the survivor has found of rows 3 to 5 reaches the fresh module; an authentication that failed there is AUTH. -/
def State.restoreHeard (s : State) (src : Nat) (ok : Bool) : State :=
  match s.twin.restoring with
  | some r =>
    if r.survivor != src || r.step != 1 then s
    else if ok then (s.modTwin (fun t => { t with restoring := some { r with peerOk := true } })).restorePasses
    else s.restoreFails 4
  | none => s

/-- For each extent of an image, the oldest kept commit whose map names the same slot: the one that wrote it (R334). -/
def Journals.writersOf (j : Journals) (i : SealedImage) : List (ExtentId × Nat) :=
  i.map.map (fun e => (e.1, ((j.images.find? (fun g => g.ctx = i.ctx && g.map.contains e)).map (·.commit)).getD i.commit))

/-- The kept commits of the partner's jobs, as their module is to know them (R334, Table 11.13). -/
def Journals.keptOf (j : Journals) : Tab (List Kept) :=
  j.images.foldl (fun t i =>
    let frz := ((j.partner.find? (fun r => r.ctx = i.ctx && r.body = .freeze i.commit)).map (·.seq)).getD 0
    Tab.set t i.ctx (Tab.getD t i.ctx [] ++ [⟨i.commit, frz, j.writersOf i, i.header, 0⟩])) []

/-- The jobs of the partner whose state is lost here: all of them when a module record is (R428). -/
def Journals.lostJobs (j : Journals) (t : ModTables) : List Nat :=
  if j.partnerLost.contains 0xFFFF then Tab.keys t.ctxs
  else (j.partnerLost ++ (j.images.filter (·.lost)).map (·.ctx)).eraseDups

/-- What step 2 sends (Table 11.13). -/
def State.restoreData (s : State) : RestoreTables :=
  let t := s.jr.partnerTables.getD {}
  ⟨t, s.jr.keptOf, s.jr.partner, s.jr.lostJobs t⟩

/-- The survivor's side of the end of step 4: its records are sent, it is PAIRED with the replacement, and the images of step
5 follow, for every job its latest. Its own jobs have no sealed copy there (R340, R346). (Log entry 81: DEDUCED.) -/
def State.served (s : State) (r : RestoreReq) : State :=
  let s1 := s.resealAll
  let s2 : State := { s1 with
    flash := { s1.flash with twinId := some r.ident }
    jr := { s1.jr with acked := 0, twinFull := false, refusedAt := none, returning := [], incoming := [] }.sweep
    twin := { s1.twin with
      twinId := some r.ident, serving := none, holdsPartner := false, partnerOf := some r.ident, exposed := false
      tetherDownAt := none } }
  let s3 := ((s2.setTwin .paired).countEvent 10).resume r.ident
  (s.jr.keptOf).foldl (fun a k => match k.2.getLast? with
    | some c => if (s.jr.lostJobs (s.jr.partnerTables.getD {})).contains k.1 then a else a.returnImage r.ident k.1 c.id
    | none => a) s3

/-- A restored module is PAIRED once every image is in place, and sends what it has journaled meanwhile (R340). -/
def State.restoreEnds (s : State) (r : Restoring) : State :=
  if s.ctxs.all (fun c => c.2.rollbackDue.isNone) then
    (((s.modTwin (fun t => { t with restoring := none, partnerOf := some r.survivor, holdsPartner := false })).setTwin .paired).countEvent
      11).resume r.survivor
  else s

/-- The next step of a restore on the fresh module, when what it brings has come (Table 11.13). -/
def State.restoreNext (s : State) (r : Restoring) : State :=
  let goto (a : State) (n : Nat) : State := a.modTwin (fun t => { t with restoring := t.restoring.map (fun q => { q with step := n }) })
  match r.step, r.tables with
  | 2, some t => goto (s.rebuild t) 3
  | 3, _ => goto (s.wakeDies (s.parts.flatMap (fun p => p.2.dies))) 4
  | 4, _ => if s.jr.partnerTables.isSome then goto s 5 else s
  | 5, _ => s.restoreEnds r
  | _, _ => s

/-- RESTORE_STEP_DONE (Table 11.13): a step of the restore is through, and the next begins: on the survivor step 2, then
step 4 with the images of step 5; on the fresh module the next of its steps. The event names the step that is through; one
that is not under way changes nothing. (Log entry 109: DEDUCED.) -/
def execRestoreStepDone (step : Nat) (s : State) : Out :=
  .next (if !s.live then s
    else
      match s.twin.restoring, s.twin.serving with
      | some r, _ => if r.step = step then s.restoreNext r else s
      | none, some v =>
        if !v.checked || v.step != step then s
        else if v.step = 1 then (s.modTwin (fun t => { t with serving := some { v with step := 2 } })).send v.req.ident none (.restoreTables s.restoreData)
        else s.served v.req
      | none, none => s)

/-! ### Winch-to-winch messages (R240, R256, R259, R310, R318, R349, R428) -/

/-- A discovery message: the identity, or its block of 64, is reached through the port it came in on. The
direct table holds 64 identities, the rest fall to the block table. -/
def State.discover (s : State) (ident : Nat) (block : Bool) (port : Nat) : State :=
  if 32 ≤ port then s
  else
    let bit : BitVec 32 := BitVec.ofNat 32 (2 ^ port)
    if !block && (Tab.has s.net.direct ident || s.net.direct.length < 64) then
      { s with net := { s.net with direct := Tab.set s.net.direct ident (Tab.getD s.net.direct ident 0 ||| bit) } }.reachChanged
    else
      let b := ident / 64 % 4096
      { s with net := { s.net with blocks := Tab.set s.net.blocks b (Tab.getD s.net.blocks b 0 ||| bit) } }.reachChanged

/-- A record of the sender's own or partner journal is asked for; it is sent when it is held. -/
def State.answerRecord (s : State) (src : Nat) (partner : Bool) (seq : Nat) : State :=
  match (if partner then s.jr.partner else s.jr.own).find? (fun r => r.seq = seq) with
  | some r => s.send src none (.winch (.recordAnswer partner r))
  | none => s

/-- A record read back: from the twin's partner journal into this module's own, or from the twin's own
into this module's partner journal (R349, R428). -/
def State.takeRecord (s : State) (partner : Bool) (r : JRec) : State :=
  { s with jr := if partner then { s.jr with own := putRec s.jr.own r } else { s.jr with partner := putRec s.jr.partner r } }

/-- The twin reports an uncorrectable extent of a sealed commit: the next commit takes it (R349). -/
def State.mirrorFault (s : State) (ctx commit : Nat) (e : ExtentId) (time : Nat) : State :=
  let s1 := s.putError { time := time, cls := 0x07, source := 0x0B, unit := 0, ctx := ctx, part := s.partOf ctx, action := 7, detail2 := commit }
  s1.modCtx ctx (fun x => { x with damaged := true, dirty := addExts x.dirty [e] })

/-- Pairing facts from the other end: kept when it is the module that this one names, or its twin; answered when it asks. -/
def State.hearPair (s : State) (src : Nat) (i : PairInfo) : State :=
  let s1 := if s.twin.twinId = some src then s.modTwin (fun t => { t with peerInfo := some i }) else s
  if i.asks then s1.tellTo src false else s1

/-- A winch message for a group that was destroyed here is discarded (R356). -/
def State.onGroup (s : State) (a : Arrived) (ctx group : Nat) (f : State → State) : State :=
  if ((s.ctx? ctx).map (fun x => x.goneGroups.contains group)).getD false then s.misroutedMsg a.port else f s

/-- The image that this module runs is served to a module of its TWIN_ID, current or lost, in any twin state (R405). -/
def State.serveImage (s : State) (ident : Nat) : State :=
  match s.boot.running with
  | some r =>
    if s.live && (s.twin.twinId = some ident || (s.twin.holdsPartner && s.twin.partnerOf = some ident)) then
      s.send ident none (.winch (.recoveryImage r.image))
    else s
  | none => s

/-- WINCH_CONTROL. A notice of another module's fault changes nothing here, nor does an image that comes
outside recovery. -/
def execWinchControl (src : Nat) (s : State) : Out :=
  .next (onMessage src 1 s (fun s a =>
    match a.msg with
    | .winch m =>
      some (match m with
        | .discovery i block _ => s.discover i block a.port
        | .planReport ctx p classes => s.planReport src ctx p classes
        | .planResult ctx r => s.planDone ctx r
        | .planRefused ctx i mismatch => s.planRefused src ctx i mismatch
        | .planClasses ctx i classes => s.planClasses src ctx i classes
        | .groupNeighbours ctx g ns => s.onGroup a ctx g (fun t => t.groupReport src ctx g ns)
        | .groupNodes ctx g nodes => s.onGroup a ctx g (fun t => t.groupNodes src ctx g nodes)
        | .groupAsk ctx g => s.onGroup a ctx g (fun t => t.groupAsked src ctx g)
        | .pairInfo i => s.hearPair src i
        | .unpaired => if s.isTwin src then s.loseTwin else s
        | .mirrorFault ctx commit e time => if s.isTwin src then s.mirrorFault ctx commit e time else s
        | .recordRequest partner seq => if s.isTwin src then s.answerRecord src partner seq else s
        | .recordAnswer partner r => if s.isTwin src then s.takeRecord partner r else s
        | .faultNotice _ => s
        | .imageRequest ident => s.serveImage ident
        | .recoveryImage _ => s
        | .restoreAnswer facts => s.restoreAnswered src facts
        | .restoreChecked ok => s.restoreHeard src ok)
    | _ => none))

end Sys2Proof.Machine
end

