-- ==== Sys2Proof/Machine/Regs.lean ====
section
/-! DEFINITION. The registers of BAR0: what each holds, and what a write to it does (R6, R238, R245, R246,
R249, R251, R316, R351, R362, R386 to R388, R400, R404, R427, R430, R435, R451); the module's pins. -/

namespace Sys2Proof.Machine

/-! ### Register values -/

/-- A 0/1 field. -/
def bitF (b : Bool) : Nat := if b then 1 else 0

/-- XD_TIME_STATUS (Table 8.10a). -/
def State.timeStatusReg (s : State) : Nat :=
  bitF s.time.inSync + 2 * bitF s.time.isRoot + 4 * min 63 s.time.hops + 2 ^ 8 * (s.time.root % 2 ^ 18)

/-- XD_TWIN_STATUS (Table 11.3). -/
def State.twinStatusReg (s : State) : Nat :=
  s.twin.state.code + 8 * bitF s.exposed + 16 * bitF s.journalWaits + 32 * bitF s.mirrorWaits
  + 64 * s.tetherUp + 2 ^ 9 * (s.twin.twinId.getD 0) + 2 ^ 27 * bitF s.twin.holdsPartner

/-- XD_TWIN_REFUSE (Table 11.4). -/
def State.twinRefuseReg (s : State) : Nat := s.twin.refuse + 16 * s.twin.refusePeer

/-- STAGE (Table 13.10). -/
def Stage.code : Stage → Nat
  | .rom => 0
  | .verify => 1
  | .recovery => 2
  | .firmwareStart => 3
  | .ready => 4

/-- XD_BOOT_STATUS (Table 13.10). -/
def State.bootStatusReg (s : State) : Nat :=
  s.boot.stage.code + 8 * s.boot.source + 2 ^ 8 * s.boot.fail + 2 ^ 11 * bitF s.boot.updatePending + 2 ^ 16 * s.fuses.minSvn

/-- XD_FW_RELEASE (R400). -/
def State.fwReleaseReg (s : State) : Nat := (s.boot.running.map (·.release)).getD 0

/-- XD_ERR_STATUS (Table 14.6). -/
def State.errStatusReg (s : State) : Nat := bitF s.errs.halted + 2 * bitF s.errs.wrapped + 2 ^ 16 * s.errs.ueCount

/-- XD_ERR_DATA word w of the selected record; zero when it is gone (R430). -/
def State.errDataReg (s : State) (w : Nat) : Nat := fieldAt (Tab.getD s.errs.records s.errs.select.toNat []) (4 * w) 4

/-- XD_PWR_STATUS (Table 15.10). -/
def State.pwrStatusReg (s : State) : Nat :=
  s.power.k + 2 ^ 8 * s.stateCode + 2 ^ 12 * bitF (s.power.peakAgo < 10) + 2 ^ 13 * bitF (0 < s.power.k && s.power.emptyActing)
  + 2 ^ 14 * bitF s.power.dieHot + 2 ^ 15 * bitF s.power.stackHot

/-- XD_PWR_INPUT (Table 15.9). -/
def State.pwrInputReg (s : State) : Nat := s.power.samples.sum / max 1 s.power.samples.length + 2 ^ 16 * s.power.vin

/-- XD_PWR_BUDGET, XD_PWR_TEMP (Table 15.9). -/
def State.pwrBudgetReg (s : State) : Nat := s.power.tenths + 2 ^ 16 * s.power.exhaustions
def State.pwrTempReg (s : State) : Nat :=
  tempByte (maxTemp (s.power.dieTemps.take 10)) + 2 ^ 8 * tempByte (maxTemp (s.power.dieTemps.drop 10)) + 2 ^ 16 * tempByte (maxTemp s.power.stackTemps)

/-- A LOG2_DEPTH, VECTOR and ENABLE register. -/
def cfgReg (depth vec : Nat) (en : Bool) : Nat := depth + 2 ^ 16 * vec + 2 ^ 31 * bitF en

/-- XD_PORT_STATUS (Table 8.14). -/
def State.portStatusReg (s : State) (i : Nat) : Nat :=
  let p := s.port i
  p.state.code + 4 * (p.reach.getD 3) + 16 * bitF p.peerSwitch + 32 * bitF p.calibrated + 64 * bitF p.degraded
  + 2 ^ 7 * bitF (s.time.upstream = some i) + 2 ^ 8 * p.cause
  + 2 ^ 11 * (if p.peerSwitch then 0 else ((p.peer.bind (fun f => f.ident)).getD 0))

/-- The registers of a port (Table 8.13). -/
def State.portReg (s : State) (i k : Nat) : Nat :=
  let p := s.port i
  match k with
  | 0 => s.portStatusReg i
  | 1 => (match p.rtt with | some r => min 0xFFFF (r + if p.peerSwitch then p.remoteRtt else 0) | none => 0xFFFF) + 2 ^ 16 * p.remoteRtt
  | 2 => p.lastSymErr
  | 3 => p.lastBad
  | 4 => p.lastNaks
  | 5 => p.lastReplays
  | 6 => p.lastMisrouted
  | 7 => p.lastDuplicates
  | _ => 0

/-- XD_LASER_BIAS (Table 8.16). -/
def State.laserReg (s : State) (l : Nat) : Nat := (s.laser l).bias + 2 ^ 16 * (s.laser l).factory

/-- WINCH_MBOX_STATUS (Table 12.2). -/
def Mbox.statusReg (m : Mbox) : Nat :=
  3 * bitF m.waiting.isSome + 4 * bitF m.stopped + 2 ^ 16 * m.dropped

/-- A module register by its offset, as the physical function reads it in READY. -/
def State.moduleReg (s : State) (off : Nat) : Nat :=
  if off = 0x00 then s.deviceId
  else if off = 0x10 then s.moduleIdReg
  else if off = 0x14 then s.sysSize
  else if off = 0x20 then s.time.now % 2 ^ 32
  else if off = 0x28 then s.timeStatusReg
  else if off = 0x30 then s.twinStatusReg
  else if off = 0x34 then s.twinRefuseReg
  else if off = 0x40 then s.bootStatusReg
  else if off = 0x44 then s.fwReleaseReg
  else if off = 0x80 then s.errStatusReg
  else if off = 0x84 then s.errs.seq % 2 ^ 32
  else if off = 0x88 then s.errs.select.toNat
  else if 0xC0 ≤ off ∧ off < 0x100 then s.errDataReg ((off - 0xC0) / 4)
  else if off = 0xA0 then 2 * bitF s.logRegs.busy
  else if off = 0xA4 then s.logRegs.addr
  else if off = 0x100 then s.pwrStatusReg
  else if off = 0x104 then s.pwrInputReg
  else if off = 0x108 then s.pwrBudgetReg
  else if off = 0x10C then s.pwrTempReg
  else if off = 0x110 then s.power.policy.toNat
  else if off = 0x114 then s.power.keepAwake.toNat
  else if off = 0x118 then s.dieStateReg
  else if off = 0x140 then s.telem.baseLo.toNat
  else if off = 0x144 then s.telem.baseHi.toNat
  else if off = 0x148 then cfgReg s.telem.logDepth s.telem.vector s.telem.enable
  else if off = 0x14C then s.telem.period
  else if off = 0x150 then s.telem.head
  else if off = 0x154 then s.telem.tail
  else if off = 0x158 then s.telem.lost
  else if 0x20000 ≤ off ∧ off < 0x20900 then s.portReg ((off - 0x20000) / 0x40) ((off - 0x20000) % 0x40 / 4)
  else if 0x21000 ≤ off ∧ off < 0x210C0 then s.laserReg ((off - 0x21000) / 4)
  else 0

/-- A register of a function's own by its offset (Tables 12.1, 13.3; the MSI-X table, log entry 27: PRESUMED). -/
def State.fnReg (s : State) (fn off : Nat) : Nat :=
  let f := s.fn fn
  if off = 0x1000 then f.mbox.baseLo.toNat
  else if off = 0x1004 then f.mbox.baseHi.toNat
  else if off = 0x1008 then cfgReg f.mbox.logDepth f.mbox.vector f.mbox.enable
  else if off = 0x1010 then f.mbox.head
  else if off = 0x1014 then f.mbox.statusReg
  else if off = 0x1020 then f.evq.baseLo.toNat
  else if off = 0x1024 then f.evq.baseHi.toNat
  else if off = 0x1028 then cfgReg f.evq.logDepth f.evq.vector f.evq.enable
  else if off = 0x102C then f.evq.head
  else if off = 0x1030 then f.evq.tail
  else if off = 0x1034 then f.evq.lost
  else if off = 0x1040 then f.badDoorbells
  else if off = 0x1044 then f.bar2Unmapped
  else if 0x2000 ≤ off ∧ off < 0x2000 + 16 * (if fn = 0 then 64 else 32) then
    (Tab.getD f.msix ((off - 0x2000) / 4) (if (off - 0x2000) / 4 % 4 = 3 then 1 else 0)).toNat
  else 0

/-- Is an offset a module register, a port register or a laser register (R386)? -/
def isModuleOff (off : Nat) : Bool := off < 0x1000 || (0x20000 ≤ off && off < 0x22000)

/-- What a 32-bit read of BAR0 returns, by function, stage and HALTED (R386, R404, R427). -/
def State.readReg (s : State) (fn off : Nat) : Nat :=
  if s.errs.halted then
    (if fn = 0 && ([0x00, 0x10, 0x40, 0x30, 0x80, 0x84, 0x88, 0xA0, 0xA4].contains off || (0xC0 ≤ off && off < 0x100))
     then s.moduleReg off else 0)
  else match s.boot.stage with
  | .recovery =>
    if fn != 0 then 0
    else if off = 0x00 then s.deviceId
    else if off = 0x40 then s.bootStatusReg
    else if off = 0x50 then s.boot.recAddrLo.toNat
    else if off = 0x54 then s.boot.recAddrHi.toNat
    else if off = 0x58 then s.boot.recLen
    else if off = 0x5C then 2 * bitF s.boot.recBusy
    else 0
  | .ready =>
    if off = 0x24 then (s.fn fn).timeHi.toNat
    else if isModuleOff off then
      (if fn = 0 || [0x00, 0x10, 0x14, 0x20, 0x28, 0x40].contains off then s.moduleReg off else 0)
    else s.fnReg fn off
  | _ => 0

/-! ### Pins (R463, R464, R469, R476) -/

/-- HALT# is low while HALTED is set; ALERT# while the state code is 5, 6 or 7. -/
def State.haltLow (s : State) : Bool := s.boot.powered && s.errs.halted
def State.alertLow (s : State) : Bool := s.boot.powered && 5 ≤ s.stateCode

/-- The module status indicator (Table 16.7): 0 off, 1 green blinking, 2 amber blinking, 3 green steady, 4
amber steady, 5 red steady. -/
def State.indicator (s : State) : Nat :=
  if !s.boot.powered then 0
  else if s.stateCode = 7 then 5
  else if 5 ≤ s.stateCode then 4
  else if 1 ≤ s.stateCode then 3
  else if s.boot.stage = .recovery then 2
  else 1

/-- The indicators of a cartridge slot (R466): amber while the cartridge is released and its lasers are off, green while all
twelve are locked. -/
def Cart.amber (c : Cart) : Bool := c.present && c.released
def Cart.green (c : Cart) : Bool := c.present && c.locked

/-! ### Mailbox and event-queue registers (R351) -/

/-- A write to WINCH_MBOX_CFG. -/
def State.mboxCfg (s : State) (fn : Nat) (v : Word32) : State :=
  let depth := fieldOf v.toNat 3 0
  let vec := fieldOf v.toNat 26 16
  let en := bitOf v.toNat 31
  s.modFn fn (fun f =>
    let m := f.mbox
    if m.enable then (if en then f else { f with mbox := { m with enable := false } })
    else if depth < 4 || 10 < depth || !vectorOk fn vec then f
    else if en then { f with mbox := { m with logDepth := depth, vector := vec, enable := true, head := 0, tail := 0, stopped := false, badBlock := none, restarted := true } }
    else { f with mbox := { m with logDepth := depth, vector := vec } })

/-- A write to WINCH_EVQ_CFG. -/
def State.evqCfg (s : State) (fn : Nat) (v : Word32) : State :=
  let depth := fieldOf v.toNat 3 0
  let vec := fieldOf v.toNat 26 16
  let en := bitOf v.toNat 31
  s.modFn fn (fun f =>
    let q := f.evq
    if q.enable then (if en then f else { f with evq := { q with enable := false } })
    else if depth < 4 || 12 < depth || !vectorOk fn vec then f
    else if en then { f with evq := { q with logDepth := depth, vector := vec, enable := true, head := 0, tail := 0 } }
    else { f with evq := { q with logDepth := depth, vector := vec } })

/-- A write to WINCH_MBOX_TAIL: counted in DROPPED while ENABLE is 0. Where a block that it adds cannot be read, the mailbox
stops on reaching the first of them (R351, Table 13.4; log entry 158: DEDUCED). -/
def Mbox.setTail (m : Mbox) (tail : Nat) (readFails : Bool) : Mbox :=
  let bad := if readFails && tail != m.tail && m.badBlock.isNone then some m.tail else m.badBlock
  { m with tail := tail, badBlock := bad, stopped := m.stopped || (m.waiting.isNone && bad = some m.head) }

def State.mboxTail (s : State) (fn : Nat) (v : Word32) (readFails : Bool) : State :=
  s.modFn fn (fun f =>
    let m := f.mbox
    { f with mbox := if m.enable then m.setTail (fieldOf v.toNat 9 0 % 2 ^ m.logDepth) readFails else { m with dropped := satAdd 16 m.dropped 1 } })

/-! ### Doorbells (R362) -/

/-- A doorbell write that is dropped is counted. -/
def State.badDoorbell (s : State) (fn : Nat) : State :=
  s.modFn fn (fun f => { f with badDoorbells := satAdd 32 f.badDoorbells 1 })

/-- A doorbell write of `width` bytes. (Log entry 87: DEDUCED.) -/
def State.doorbell (s : State) (fn ring width tailSeq : Nat) : State :=
  match Tab.get s.rings ring with
  | none => s.badDoorbell fn
  | some r =>
    if width != 8 || s.ownerOf r.params.ctx != fn then s.badDoorbell fn
    else
      let t := tailSeq % 2 ^ 64
      if t = 0 then s
      else if r.accepted < t then s.setRing ring { r with tail := max r.tail t, stopped := false }
      else s.setRing ring { r with again := r.again ++ [t], stopped := false }

/-! ### Logbook access (R433, R435) -/

/-- n little-endian fields of w bytes from a table. -/
def fields (w n : Nat) (t : Tab Nat) : List Byte := (List.range n).flatMap (fun i => le w (Tab.getD t i 0))

/-- Two interleaved tables of 32-bit counts. -/
def pairs (n : Nat) (a b : Tab Nat) : List Byte := (List.range n).flatMap (fun i => le 4 (Tab.getD a i 0) ++ le 4 (Tab.getD b i 0))

/-- The bytes of a bank from offset 0x20 on, with the CRC field zero (Table 14.11). -/
def Logbook.body (l : Logbook) (serial : Nat) : List Byte :=
  let b0 := padTo 0x100 (le 4 0x4C584631 ++ le 2 1 ++ le 2 0 ++ le 8 l.generation ++ le 8 serial ++ le 8 l.liveSeconds)
  let b1 := padTo 0x800 (b0 ++ fields 8 16 l.stateSeconds ++ fields 8 16 l.events ++ fields 4 384 l.tjHist)
  let b2 := b1 ++ fields 4 32 l.vinHist ++ pairs 20 l.stackCe l.stackUe ++ pairs 320 l.tileCe l.tileUe
    ++ pairs 12 l.dimmCe l.dimmUe
  let b3 := padTo 0x1380 b2 ++ pairs 10 l.poolCe l.poolUe ++ fields 4 12 l.parity
  let b4 := padTo 0x1400 b3 ++ (List.range 36).flatMap (fun i => padTo 160
    ((List.range 16).flatMap (fun k => le 8 (Tab.getD l.serHist (16 * i + k) 0))
      ++ le 8 (Tab.getD l.portBad i 0) ++ le 4 (Tab.getD l.portRetrains i 0) ++ le 4 (Tab.getD l.portDowns i 0)
      ++ le 8 (Tab.getD l.portMisrouted i 0) ++ le 8 (Tab.getD l.portDuplicates i 0)))
  let b5 := padTo 0x2A80 b4 ++ (List.range 48).flatMap (fun i =>
    (List.range 16).flatMap (fun k => le 4 (Tab.getD l.biasHist (16 * i + k) 0)) ++ le 2 (Tab.getD l.peakPermille i 0) ++ le 6 0)
  let b6 := padTo 0x3800 b5 ++ (List.range 4).flatMap (fun i =>
    le 8 (Tab.getD l.cartSerial i 0) ++ le 4 (Tab.getD l.cartChanges i 0) ++ le 4 (Tab.getD l.failovers i 0))
  padTo 0x5000 (padTo 0x4000 b6 ++ l.lastFailures.flatten)

/-- The bytes of a bank: its CRC is that of the whole 256 KiB with the field taken as zero. -/
def Logbook.bytes (l : Logbook) (serial : Nat) : List Byte :=
  let b := l.body serial
  b.take 252 ++ le 4 (crc32c (padTo 0x40000 b)) ++ b.drop 256

/-- A read of XD_LOG_DATA: four bytes of the buffer, and ADDR advances by 4. -/
def State.logData (s : State) : Nat × State :=
  let a := s.logRegs.addr
  (fieldAt (s.logRegs.buffer.bytes s.fuses.serial) a 4, { s with logRegs := { s.logRegs with addr := (a + 4) % 2 ^ 18 } })

/-! ### Reads of BAR0 (R386) -/

/-- A 32-bit read: what it returns, and what it leaves. XD_FABRIC_TIME_LO latches the upper half for the function, XD_LOG_DATA
advances ADDR (R245, R435). -/
def State.read32 (s : State) (fn off : Nat) : Nat × State :=
  if off = 0x20 && s.live then
    (s.time.now % 2 ^ 32, s.modFn fn (fun f => { f with timeHi := BitVec.ofNat 32 (s.time.now / 2 ^ 32) }))
  else if off = 0xA8 && fn = 0 && s.boot.powered && (s.live || s.errs.halted) then s.logData
  else (s.readReg fn off, s)

/-- A read of any size: 4 or 8 bytes, naturally aligned, of 8 bytes the lower offset first; none for Unsupported Request. -/
def State.readBar0 (s : State) (fn off width : Nat) : Option (Nat × State) :=
  if (width != 4 && width != 8) || off % width != 0 || 67108864 ≤ off then none
  else
    let lo := s.read32 fn off
    if width = 4 then some lo
    else
      let hi := lo.2.read32 fn (off + 4)
      some (lo.1 + 2 ^ 32 * hi.1, hi.2)

/-- A 32-bit read whose data goes back to the host. -/
def State.answerRead (s : State) (fn off : Nat) : State :=
  if s.boot.powered then (s.read32 fn off).2.emit [.readData fn (le 4 (s.read32 fn off).1)] else s

/-- Does the module answer configuration requests with Configuration Request Retry Status (R401)? -/
def State.configRetry (s : State) : Bool := s.boot.powered && s.boot.stage != .ready && s.boot.stage != .recovery

/-- SNAP. (Log entry 85: DEDUCED.) -/
def State.snap (s : State) (v : Word32) : State :=
  if bitOf v.toNat 0 then { s with logRegs := { s.logRegs with busy := true, buffer := s.logbook } } else s

/-! ### Power and telemetry registers (R442, R451) -/

/-- A write to XD_PWR_KEEP_AWAKE: bits set wake the partition; of bits cleared, idle times start now. -/
def State.keepAwake (s : State) (v : Word32) : State :=
  let old := s.power.keepAwake
  let new : Word32 := v &&& 0x3FF
  let s1 := { s with power := { s.power with keepAwake := new } }
  s1.parts.foldl (fun a p =>
    if new.getLsbD p.1 && !old.getLsbD p.1 then a.wakeDies p.2.dies
    else if !new.getLsbD p.1 && old.getLsbD p.1 then
      p.2.dies.foldl (fun b d =>
        (List.range 8).foldl (fun c i => c.setCluster (8 * d + i) { c.cluster (8 * d + i) with idleSince := c.time.now })
          (b.setDie d { b.die d with idleSince := b.time.now })) a
    else a) s1

/-- A write to XD_TELEM_CFG. -/
def State.telemCfg (s : State) (v : Word32) : State :=
  let depth := fieldOf v.toNat 3 0
  let vec := fieldOf v.toNat 26 16
  let en := bitOf v.toNat 31
  let t := s.telem
  if t.enable then
    (if !en then { s with telem := { t with enable := false } }
     else if vectorOk 0 vec then { s with telem := { t with vector := vec } } else s)
  else if depth < 2 || 10 < depth || !vectorOk 0 vec then s
  else if en then
    { s with telem := { t.fresh (alignUp s.time.now t.span) false s.power.k with
        logDepth := depth, vector := vec, enable := true, head := 0, tail := 0, seq := 0 } }
  else { s with telem := { t with logDepth := depth, vector := vec } }

/-- A write to XD_TELEM_PERIOD. -/
def State.telemPeriod (s : State) (v : Word32) : State :=
  let p := fieldOf v.toNat 13 0
  if s.telem.enable || p = 0 || 10000 < p then s else { s with telem := { s.telem with period := p } }

/-! ### Writes -/

/-- A write to a recovery register (Table 13.13). GO does nothing once a source is taken (R406). -/
def State.writeRecovery (s : State) (off : Nat) (v : Word32) : State :=
  if off = 0x50 then { s with boot := { s.boot with recAddrLo := v &&& 0xFFFFF000 } }
  else if off = 0x54 then { s with boot := { s.boot with recAddrHi := v } }
  else if off = 0x58 then { s with boot := { s.boot with recLen := fieldOf v.toNat 25 0 } }
  else if off = 0x5C ∧ bitOf v.toNat 0 ∧ s.boot.recSource = none then { s with boot := { s.boot with recBusy := true } }
  else s

/-- A write to the error-log and logbook access registers. -/
def State.writeErr (s : State) (off : Nat) (v : Word32) : State :=
  if off = 0x88 then { s with errs := { s.errs with select := v } }
  else if off = 0xA0 then s.snap v
  else if off = 0xA4 then { s with logRegs := { s.logRegs with addr := fieldOf v.toNat 17 2 * 4 } }
  else s

/-- A write to a module register by the physical function. -/
def State.writeModule (s : State) (off : Nat) (v : Word32) : State :=
  let t := s.telem
  if off = 0x110 then
    let p : Word32 := v &&& 0x00FFFFFF
    { s with power := { s.power with policy := p, policies := (s.time.now, p) :: s.power.policies } }
  else if off = 0x114 then s.keepAwake v
  else if off = 0x140 then (if t.enable then s else { s with telem := { t with baseLo := v &&& 0xFFFFF000 } })
  else if off = 0x144 then (if t.enable then s else { s with telem := { t with baseHi := v } })
  else if off = 0x148 then s.telemCfg v
  else if off = 0x14C then s.telemPeriod v
  else if off = 0x150 then { s with telem := { t with head := fieldOf v.toNat 9 0 } }
  else s.writeErr off v

/-- A write to a register of the function's own. -/
def State.writeFn (s : State) (fn off : Nat) (v : Word32) : State :=
  let f := s.fn fn
  if off = 0x1000 then (if f.mbox.enable then s else s.setFn fn { f with mbox := { f.mbox with baseLo := v &&& 0xFFFFFF00 } })
  else if off = 0x1004 then (if f.mbox.enable then s else s.setFn fn { f with mbox := { f.mbox with baseHi := v } })
  else if off = 0x1008 then s.mboxCfg fn v
  else if off = 0x100C then s.mboxTail fn v false
  else if off = 0x1020 then (if f.evq.enable then s else s.setFn fn { f with evq := { f.evq with baseLo := v &&& 0xFFFFFFE0 } })
  else if off = 0x1024 then (if f.evq.enable then s else s.setFn fn { f with evq := { f.evq with baseHi := v } })
  else if off = 0x1028 then s.evqCfg fn v
  else if off = 0x102C then s.setFn fn { f with evq := { f.evq with head := fieldOf v.toNat 11 0 } }
  else if 0x2000 ≤ off ∧ off < 0x2000 + 16 * (if fn = 0 then 64 else 32) then
    s.setFn fn { f with msix := Tab.set f.msix ((off - 0x2000) / 4) v }
  else s

/-- A 32-bit write to BAR0, by function, stage and HALTED (R386, R404, R427); reserved bits are ignored (R11). -/
def State.writeReg (s : State) (fn off : Nat) (v : Word32) : State :=
  if !s.boot.powered then s
  else if s.errs.halted then (if fn = 0 then s.writeErr off v else s)
  else match s.boot.stage with
  | .recovery => if fn = 0 then s.writeRecovery off v else s
  | .ready => if isModuleOff off then (if fn = 0 then s.writeModule off v else s) else s.writeFn fn off v
  | _ => s

/-- Is an offset a doorbell? Its ring. -/
def doorbellAt (off : Nat) : Option Nat :=
  if 0x1000000 ≤ off ∧ off < 0x1000000 + 64 * 16384 ∧ off % 64 = 0 then some ((off - 0x1000000) / 64) else none

/-- A write of any size to BAR0 (R386): 4 or 8 bytes, naturally aligned; 8 bytes act on two registers, the
lower first; any other is dropped. -/
def State.writeBar0 (s : State) (fn off width value : Nat) : State :=
  if (width != 4 && width != 8) || off % width != 0 || 67108864 ≤ off then s
  else
    match doorbellAt off with
    | some g => if s.live then s.doorbell fn g width value else s
    | none =>
      let s1 := s.writeReg fn off (BitVec.ofNat 32 value)
      if width = 8 then s1.writeReg fn (off + 4) (BitVec.ofNat 32 (value / 2 ^ 32)) else s1

/-! ### The rows -/

/-- REGISTER_WRITE (R386). -/
def execRegisterWrite (fn offset width value : Nat) (s : State) : Out :=
  withUnit (fn ≤ 62) (s.writeBar0 fn offset width value)

/-- WINCH_MBOX_CFG_WRITE (R351). -/
def execWinchMboxCfgWrite (fn : Nat) (value : Word32) (s : State) : Out :=
  withUnit (fn ≤ 62) (if s.live then s.mboxCfg fn value else s)

/-- WINCH_EVQ_CFG_WRITE (R351). -/
def execWinchEvqCfgWrite (fn : Nat) (value : Word32) (s : State) : Out :=
  withUnit (fn ≤ 62) (if s.live then s.evqCfg fn value else s)

/-- WINCH_MBOX_TAIL_WRITE (R351, R390). -/
def execWinchMboxTailWrite (fn : Nat) (value : Word32) (readFails : Bool) (s : State) : Out :=
  withUnit (fn ≤ 62) (if s.live then s.mboxTail fn value readFails else s)

/-- RING_DOORBELL (R362, R427). -/
def execRingDoorbell (fn ring width tailSeq : Nat) (s : State) : Out :=
  withUnit (fn ≤ 62) (if s.live then s.doorbell fn ring width tailSeq else s)

/-- FABRIC_TIME_LO_READ (R245): the lower half is returned and the upper half latched. (Log entry 116: DEDUCED.) -/
def execFabricTimeLoRead (fn : Nat) (s : State) : Out := withUnit (fn ≤ 62) (s.answerRead fn 0x20)

/-- LOG_SNAP (R427, R435): by the physical function, HALTED or not. -/
def execLogSnap (fn : Nat) (value : Word32) (s : State) : Out :=
  withUnit (fn ≤ 62) (if fn = 0 && s.boot.powered && (s.live || s.errs.halted) then s.snap value else s)

/-- LOG_SNAP_DONE (R435): BUSY clears. -/
def execLogSnapDone (s : State) : Out :=
  .next { s with logRegs := { s.logRegs with busy := false } }

/-- LOG_DATA_READ (R386, R427, R435): a virtual function reads zero. -/
def execLogDataRead (fn : Nat) (s : State) : Out := withUnit (fn ≤ 62) (s.answerRead fn 0xA8)

/-- XD_TELEM_CFG_WRITE (R451). -/
def execXdTelemCfgWrite (fn : Nat) (value : Word32) (s : State) : Out :=
  withUnit (fn ≤ 62) (if fn = 0 && s.live then s.telemCfg value else s)

/-- XD_TELEM_PERIOD_WRITE (R451). -/
def execXdTelemPeriodWrite (fn : Nat) (value : Word32) (s : State) : Out :=
  withUnit (fn ≤ 62) (if fn = 0 && s.live then s.telemPeriod value else s)

/-- KEEP_AWAKE_WRITE (R442). -/
def execKeepAwakeWrite (fn : Nat) (value : Word32) (s : State) : Out :=
  withUnit (fn ≤ 62) (if fn = 0 && s.live then s.keepAwake value else s)

/-- RECOVERY_GO (R404, R406): the host image is read by DMA. -/
def execRecoveryGo (fn : Nat) (value : Word32) (s : State) : Out :=
  withUnit (fn ≤ 62)
    (if fn = 0 && s.boot.powered && !s.errs.halted && s.boot.stage = .recovery then s.writeRecovery 0x5C value else s)

end Sys2Proof.Machine
end

