-- ==== Sys2Proof/Machine/Boot.lean ====
section
/-! DEFINITION. Power, boot, recovery, resets, functions that go and come (R391 to R394, R397 to R406,
R417, R459, R460). -/

namespace Sys2Proof.Machine

/-! ### Functions (R391, R392, R394) -/

/-- A function becomes unavailable: its mailbox and event queue stop until software enables them again, what a waiting command
would write to its block is discarded, its mappings end, its rings fetch nothing until after a FUNCTION_RESYNC (log entry 26: DEDUCED). -/
def State.makeUnavailable (s : State) (fn : Nat) : State :=
  if !(s.fn fn).avail then s
  else
    let s1 := (s.fn fn).maps.foldl (fun a m => a.endMapping fn m.1) s
    let s2 := s1.modFn fn (fun f => { f with
      avail := false, awaitResync := true, mbox := { f.mbox with enable := false, block := none }, evq := { f.evq with enable := false } })
    let gs := s2.fnRings fn
    let s3 := { s2 with rings := Tab.mapVals s2.rings (fun g r => if gs.contains g then { r with stopped := true, again := [] } else r) }
    s3.ctxs.foldl (fun a c => if c.2.owner = fn then a.refresh c.1 else a) s3

/-- The state of a function is reset: what stays is its hold log and that it must resynchronise. -/
def State.resetFn (s : State) (fn : Nat) : State :=
  let s1 := s.makeUnavailable fn
  s1.modFn fn (fun f => { awaitResync := f.awaitResync, hold := f.hold, holdFullAt := f.holdFullAt, mbox := { waiting := f.mbox.waiting, restarted := true } })

/-- Every function in turn. -/
def allFns : List Nat := List.range 63

/-- FUNCTION_UNAVAILABLE (R391, R392). -/
def execFunctionUnavailable (fn : Nat) (s : State) : Out :=
  withUnit (fn ≤ 62) (if s.boot.powered then s.makeUnavailable fn else s)

/-- FUNCTION_AVAILABLE (R391): link up, D0, Bus Master Enable set. -/
def execFunctionAvailable (fn : Nat) (s : State) : Out :=
  withUnit (fn ≤ 62)
    (if s.boot.powered then
       { s.modFn fn (fun f => { f with avail := true }) with linkUp := true, numVfs := max s.numVfs fn }
     else s)

/-- FUNCTION_LEVEL_RESET (R391): one function; of the physical function, every function, with VF Enable
cleared. -/
def execFunctionLevelReset (fn : Nat) (s : State) : Out :=
  withUnit (fn ≤ 62)
    (if !s.boot.powered then s
     else if fn = 0 then { allFns.foldl (fun a f => a.resetFn f) s with numVfs := 0 }
     else s.resetFn fn)

/-- LINK_RESET (R402): the PCIe core and the state of every function; jobs run on. -/
def execLinkReset (s : State) : Out :=
  .next (if s.boot.powered then { allFns.foldl (fun a f => a.resetFn f) s with numVfs := 0, linkUp := false } else s)

/-! ### Power (R402, R459, R460) -/

/-- The module after a removal of 54 V: flash and fuses stay, the client counts, and what is plugged in
(log entry 30: DEDUCED). -/
def State.unpowered (s : State) : State :=
  { pending := s.pending, order1536 := s.order1536, fuses := s.fuses, flash := s.flash, clients := s.clients
    carts := Tab.mapVals s.carts (fun _ c => { present := c.present, serial := c.serial })
    lasers := Tab.mapVals s.lasers (fun _ l => { bias := 0, factory := l.factory })
    hostOut := s.hostOut, freeCtr := s.freeCtr, boot := { powered := false } }

/-- INPUT_DISCONNECT: below 45.0 V or above 63.0 V for 50 µs or more; the voltage in units of 10 mV.
(Log entry 123: DESIGN CHOICE.) -/
def execInputDisconnect (vin micros : Nat) (s : State) : Out :=
  .next (if s.boot.powered && (vin < 4500 || 6300 < vin) && 50 ≤ micros then s.unpowered else s)

/-- POWER_APPLIED: the soft start has ended and the cold boot begins. (Log entry 122: DESIGN CHOICE.) -/
def execPowerApplied (s : State) : Out :=
  .next (if s.boot.powered then s else { s.unpowered with boot := {} })

/-! ### Boot (R398, R401) -/

/-- BOOT_HEADER_READ: checks 1 to 5 on the image header; the first that fails leads to recovery. -/
def execBootHeaderRead (s : State) : Out :=
  .next (if s.boot.powered && !s.errs.halted && s.boot.stage = .rom then
      let f := s.headerFail s.flashHeader
      { s with boot := if f = 0 then { s.boot with stage := .verify } else { s.boot with stage := .recovery, fail := f } }
    else s)

/-- BOOT_BODY_VERIFIED: check 6; WRAP_KEY is locked and the firmware starts, or recovery begins. -/
def execBootBodyVerified (s : State) : Out :=
  .next (if s.boot.powered && !s.errs.halted && s.boot.stage = .verify then
      { s with boot :=
          if bodyOk s.flashImage then { s.boot with stage := .firmwareStart, keyLocked := true, running := some (s.runningOf s.flashImage) }
          else { s.boot with stage := .recovery, fail := 6 } }
    else s)

/-- The fuses after READY (R399). -/
def Fuses.afterReady (f : Fuses) (r : Running) : Fuses :=
  { f with
    minSvn := if r.commitSvn then max f.minSvn r.svn else f.minSvn
    key0Revoked := f.key0Revoked || (r.revokeKey0 && r.bySecondKey) }

/-- The working copy of the logbook: the valid bank of higher GENERATION (R432). -/
def Flash.loadLogbook (f : Flash) : Logbook :=
  match f.bank0, f.bank1 with
  | none, none => {}
  | some a, none => a
  | none, some b => b
  | some a, some b => if a.generation < b.generation then b else a

/-- The twin's state as the firmware takes it up: after a warm reset the module pairs again with the TWIN_ID
in flash, unless it was SOLO (R403; log entries 28 and 29: DEDUCED). -/
def State.bootTwin (s : State) : State :=
  let n := s.freeCtr
  let s1 := { s with freeCtr := n + 1, twin := { s.twin with incarnation := Config.freeValue 16 n } }
  if s.boot.cold then s1
  else
    match s1.flash.twinId, s1.twin.state with
    | _, .solo => s1.restartJobs false
    | some t, _ => ((s1.modTwin (fun w => { w with twinId := some t })).setTwin .pairing).tellPair.pairStep
    | none, _ => (s1.setTwin .unpaired).restartJobs false

/-- FIRMWARE_READY (R399, R401, R403): fuses, logbook, identity; the ports of lit cartridges train, those that recovery has
brought into service excepted (log entry 173: DEDUCED). -/
def execFirmwareReady (s : State) : Out :=
  .next (match s.boot.running with
    | some r =>
      if s.boot.powered && !s.errs.halted && s.boot.stage = .firmwareStart then
        let s1 : State := { s with
          fuses := s.fuses.afterReady r
          logbook := s.flash.loadLogbook
          boot := { s.boot with stage := .ready, updatePending := false } }
        let s2 := (s1.countEvent (if s.boot.cold then 0 else 1)).elect
        let s3 := (List.range 4).foldl (fun a c =>
          if (a.cart c).locked then
            (cartPorts c).foldl (fun b i => if (b.port i).state = .inService then b else b.beginTraining i) a
          else a) s2
        let s4 := s3.bootTwin
        s4.ctxs.foldl (fun a c => a.refresh c.1) s4
      else s
    | none => s)

/-! ### Recovery (R404 to R406) -/

def RecSource.code : RecSource → Nat
  | .host => 1
  | .twin => 2

/-- Is a source offered now: a host image that is being read, or a twin on the tether? -/
def State.offered (s : State) : RecSource → Bool
  | .host => s.boot.recBusy
  | .twin => s.ident.isSome && s.flash.twinId.isSome && 0 < s.tetherUp

/-- A failure returns the ROM to offering both sources; a twin that was abandoned, or has failed, is asked again. -/
def State.recoveryFails (s : State) (cause : Nat) : State :=
  let s1 := { s with boot := { s.boot with fail := cause, recSource := none, recHeader := [], recBusy := false } }
  if s.boot.recSource.isSome then s1.askTwin else s1

/-- RECOVERY_HEADER (R406): the first source whose header passes is taken, and the other is abandoned; the twin is asked again
for an image whose header fails. -/
def execRecoveryHeader (source : RecSource) (header : List Byte) (s : State) : Out :=
  .next (if s.boot.powered && !s.errs.halted && s.boot.stage = .recovery && s.boot.recSource.isNone && s.offered source then
      let f := s.headerFail (header.take 4096)
      if f = 0 then { s with boot := { s.boot with
        recSource := some source, recHeader := header.take 4096, recBusy := s.boot.recBusy && source = .host } }
      else if source = .host then s.recoveryFails f
      else { s with boot := { s.boot with fail := f } }.askTwin
    else s)

/-- RECOVERY_IMAGE_RECEIVED (R406): the image area is written while the body is hashed; a body that passes
check 6 boots from flash. A failed host read is HOST_READ; the cause on the loss of the twin is not given
(log entry 31: UNVERIFIED). -/
def execRecoveryImageReceived (image : Option (List Byte)) (s : State) : Out :=
  .next (match s.boot.recSource with
    | none => s
    | some src =>
      if !(s.boot.powered && !s.errs.halted && s.boot.stage = .recovery) then s
      else
        match image with
        | none =>
          if src = .host then s.recoveryFails 7
          else { s.recoveryFails (Config.freeValue 3 s.freeCtr % 8) with freeCtr := s.freeCtr + 1 }
        | some b =>
          let img := (s.boot.recHeader ++ b.drop 4096).take (fieldAt s.boot.recHeader 0x14 4)
          let s1 := s.writeImageArea img
          if bodyOk img then
            { s1 with boot := { s1.boot with stage := .rom, source := src.code, recSource := none, recHeader := [], recBusy := false } }
          else s1.recoveryFails 6)

/-- RECOVERY_IMAGE_REQUEST (R405): the twin's request reaches this module. -/
def execRecoveryImageRequest (ident : Nat) (s : State) : Out := .next (s.serveImage ident)

/-! ### Warm reset (R402, R403, Table 15.13) -/

/-- A job over a warm reset: what ran is gone, its unsealed commits are given up, it waits for R403. One whose image was still
to come has nothing to replay in place from. -/
def Ctx.overReset (x : Ctx) : Ctx :=
  { x.stopped with
    commits := [], dirty := x.commits.foldl (fun d c => addExts d c.dirty) x.dirty, stash := [], plans := x.plans
    lastFreeze := if x.rollbackDue.isSome && x.rollbackDue != some .reset then none else x.lastFreeze
    rollbackDue := some .reset, saved := [] }

/-- A ring over a warm reset: a ticket whose records stand in the own journal counts as accepted (log
entry 32: DEDUCED). -/
def Ring.overReset (r : Ring) : Ring :=
  { r with
    journaling := none
    accepted := match r.journaling with | some j => if j.written then max r.accepted j.ticket.tseq else r.accepted | none => r.accepted
    stopped := true, again := [] }

/-- WARM_RESET: dies, I/O dies and firmware are reset; HBM, ballast, journals, the mirror area, hold logs
and lit lasers stay; k is 0 and B is kept; the engines' counters count since power-on (log entry 175: DEDUCED). (Log entry 82: DEDUCED.) (Log entry 83: DEDUCED.) -/
def State.warmReset (s : State) : State :=
  let s1 := allFns.foldl (fun a f => a.resetFn f) s
  { s1 with
    boot := { stage := .rom, cold := false, source := s1.boot.source, rebuildDue := true }
    linkUp := false, numVfs := 0
    parts := Tab.mapVals s1.parts (fun _ p => { p with slice := none, yield := none, switch := none, preempted := [], retry := none })
    ctxs := Tab.mapVals s1.ctxs (fun _ x => x.overReset)
    rings := Tab.mapVals s1.rings (fun _ r => r.overReset)
    tiles := Tab.mapVals s.tiles (fun _ t => t.cleared), dies := [], clusters := []
    jr := { s1.jr with twinFull := false }
    ports := Tab.mapVals s1.ports (fun _ p => { light := p.light, laserOk := p.laserOk })
    time := {}, net := {}
    twin := { s1.twin with
      auth := {}, peerInfo := none, restoring := none, withheld := none, serving := none, refuse := 0, refusePeer := 0, tetherDownAt := none }
    errs := { s1.errs with select := 0, window := [], ceWindow := [], ceStart := 0 }
    logRegs := {}
    power := { budget := s1.power.budget, exhaustions := s1.power.exhaustions, emptyActing := s1.power.emptyActing }
    telem := {}, arb := {} }

/-- WARM_RESET (R402): 1 ms after a MODULE_RESET has completed. -/
def execWarmReset (s : State) : Out :=
  .next (if s.boot.powered && s.boot.resetDue && !s.errs.halted then s.warmReset else s)

end Sys2Proof.Machine
end

