-- ==== Sys2Proof/Machine/VecFun.lean ====
section
/-! DEFINITION. Exponential, logarithm and activations of the vector engine (R143 to R145). -/

namespace Sys2Proof.Machine

/-- log2 e as an X40 value, rounded nearest-even (R143). -/
def log2eConst : VeVal := ⟨.fin (Exact.dyadic false 3098164009 (-31)), 0, false⟩

/-- ln 2 as an X40 value, rounded nearest-even (R143). -/
def ln2Const : VeVal := ⟨.fin (Exact.dyadic false 2977044472 (-32)), 0, false⟩

/-- Nodes 0 to 47 of GT (R144). -/
def gateGelu0 : List Nat :=
  [0, 0, 0, 0, 0, 0, 0, 0, 0, 0, 0, 0,
   0, 0, 0, 0, 0, 0, 0, 0, 0, 0, 0, 0,
   0, 0, 0, 0, 0, 0, 0, 0, 0, 0, 0, 0,
   0, 0, 0, 0, 0, 0, 1, 1, 1, 2, 2, 3]

/-- Nodes 48 to 95 of GT (R144). -/
def gateGelu1 : List Nat :=
  [5, 7, 9, 13, 17, 23, 31, 42, 57, 76, 102, 135,
   179, 237, 311, 407, 531, 691, 894, 1154, 1483, 1900, 2424, 3081,
   3903, 4925, 6192, 7757, 9681, 12038, 14915, 18413, 22648, 27755, 33892, 41237,
   49992, 60389, 72686, 87176, 104181, 124061, 147211, 174065, 205093, 240804, 281745, 328499]

/-- Nodes 96 to 143 of GT (R144). -/
def gateGelu2 : List Nat :=
  [381684, 441948, 509966, 586439, 672081, 767618, 873779, 991284, 1120839, 1263123, 1418777, 1588395,
   1772509, 1971578, 2185979, 2415993, 2661793, 2923442, 3200874, 3493895, 3802176, 4125246, 4462497, 4813177,
   5176401, 5551151, 5936286, 6330552, 6732591, 7140959, 7554139, 7970559, 8388608, 8806657, 9223077, 9636257,
   10044625, 10446664, 10840930, 11226065, 11600815, 11964039, 12314719, 12651970, 12975040, 13283321, 13576342, 13853774]

/-- Nodes 144 to 191 of GT (R144). -/
def gateGelu3 : List Nat :=
  [14115423, 14361223, 14591237, 14805638, 15004707, 15188821, 15358439, 15514093, 15656377, 15785932, 15903437, 16009598,
   16105135, 16190777, 16267250, 16335268, 16395532, 16448717, 16495471, 16536412, 16572123, 16603151, 16630005, 16653155,
   16673035, 16690040, 16704530, 16716827, 16727224, 16735979, 16743324, 16749461, 16754568, 16758803, 16762301, 16765178,
   16767535, 16769459, 16771024, 16772291, 16773313, 16774135, 16774792, 16775316, 16775733, 16776062, 16776322, 16776525]

/-- Nodes 192 to 239 of GT (R144). -/
def gateGelu4 : List Nat :=
  [16776685, 16776809, 16776905, 16776979, 16777037, 16777081, 16777114, 16777140, 16777159, 16777174, 16777185, 16777193,
   16777199, 16777203, 16777207, 16777209, 16777211, 16777213, 16777214, 16777214, 16777215, 16777215, 16777215, 16777216,
   16777216, 16777216, 16777216, 16777216, 16777216, 16777216, 16777216, 16777216, 16777216, 16777216, 16777216, 16777216,
   16777216, 16777216, 16777216, 16777216, 16777216, 16777216, 16777216, 16777216, 16777216, 16777216, 16777216, 16777216]

/-- Nodes 240 to 256 of GT (R144). -/
def gateGelu5 : List Nat :=
  [16777216, 16777216, 16777216, 16777216, 16777216, 16777216, 16777216, 16777216, 16777216, 16777216, 16777216, 16777216,
   16777216, 16777216, 16777216, 16777216, 16777216]

/-- GT of R144. -/
def gateGelu : List Nat := gateGelu0 ++ gateGelu1 ++ gateGelu2 ++ gateGelu3 ++ gateGelu4 ++ gateGelu5

/-- Nodes 0 to 47 of ST (R144). -/
def gateSilu0 : List Nat :=
  [2, 2, 2, 3, 3, 4, 4, 5, 5, 6, 7, 7,
   8, 10, 11, 12, 14, 16, 18, 20, 23, 26, 30, 33,
   38, 43, 49, 55, 63, 71, 80, 91, 103, 117, 132, 150,
   170, 193, 218, 247, 280, 318, 360, 408, 462, 523, 593, 672]

/-- Nodes 48 to 95 of ST (R144). -/
def gateSilu1 : List Nat :=
  [762, 863, 978, 1108, 1256, 1423, 1612, 1827, 2070, 2346, 2658, 3012,
   3413, 3867, 4382, 4965, 5626, 6375, 7224, 8185, 9274, 10508, 11906, 13490,
   15285, 17318, 19621, 22230, 25186, 28533, 32325, 36620, 41484, 46992, 53229, 60291,
   68286, 77336, 87579, 99171, 112287, 127125, 143906, 162881, 184330, 208568, 235949, 266865]

/-- Nodes 96 to 143 of ST (R144). -/
def gateSilu2 : List Nat :=
  [301759, 341120, 385496, 435492, 491778, 555091, 626241, 706115, 795674, 895959, 1008087, 1133245,
   1272689, 1427725, 1599699, 1789971, 1999893, 2230770, 2483820, 2760128, 3060592, 3385864, 3736288, 4111844,
   4512088, 4936108, 5382488, 5849295, 6334081, 6833920, 7345459, 7865002, 8388608, 8912214, 9431757, 9943296,
   10443135, 10927921, 11394728, 11841108, 12265128, 12665372, 13040928, 13391352, 13716624, 14017088, 14293396, 14546446]

/-- Nodes 144 to 191 of ST (R144). -/
def gateSilu3 : List Nat :=
  [14777323, 14987245, 15177517, 15349491, 15504527, 15643971, 15769129, 15881257, 15981542, 16071101, 16150975, 16222125,
   16285438, 16341724, 16391720, 16436096, 16475457, 16510351, 16541267, 16568648, 16592886, 16614335, 16633310, 16650091,
   16664929, 16678045, 16689637, 16699880, 16708930, 16716925, 16723987, 16730224, 16735732, 16740596, 16744891, 16748683,
   16752030, 16754986, 16757595, 16759898, 16761931, 16763726, 16765310, 16766708, 16767942, 16769031, 16769992, 16770841]

/-- Nodes 192 to 239 of ST (R144). -/
def gateSilu4 : List Nat :=
  [16771590, 16772251, 16772834, 16773349, 16773803, 16774204, 16774558, 16774870, 16775146, 16775389, 16775604, 16775793,
   16775960, 16776108, 16776238, 16776353, 16776454, 16776544, 16776623, 16776693, 16776754, 16776808, 16776856, 16776898,
   16776936, 16776969, 16776998, 16777023, 16777046, 16777066, 16777084, 16777099, 16777113, 16777125, 16777136, 16777145,
   16777153, 16777161, 16777167, 16777173, 16777178, 16777183, 16777186, 16777190, 16777193, 16777196, 16777198, 16777200]

/-- Nodes 240 to 256 of ST (R144). -/
def gateSilu5 : List Nat :=
  [16777202, 16777204, 16777205, 16777206, 16777208, 16777209, 16777209, 16777210, 16777211, 16777211, 16777212, 16777212,
   16777213, 16777213, 16777214, 16777214, 16777214]

/-- ST of R144. -/
def gateSilu : List Nat := gateSilu0 ++ gateSilu1 ++ gateSilu2 ++ gateSilu3 ++ gateSilu4 ++ gateSilu5

/-- 1.0 -/
def oneVal : Val := .fin (Exact.dyadic false 1 0)

/-- EXP of a pair: the value whose position is the one X40 value a * log2 e, or a (R143), and
whether that product left the X40 range. (Log entry 111: DEDUCED.) -/
def veExp (base2 : Bool) (a : VeVal) : Val × Bool :=
  match a.x with
  | .nar => (.nar, a.range)
  | .inf n => (if n then .zero false else .inf false, a.range)
  | .zero _ => (oneVal, a.range)
  | .fin x =>
    let v := Val.fin (x.scale a.tc)
    let l := veRound (if base2 then v else mulVal v log2eConst.x) 0 a.range
    match l.x with
    | .inf n => (if n then .zero false else .inf false, l.range)
    | .fin y =>
      let m : Int := if y.neg then -(y.num : Int) else y.num
      if 0 ≤ y.p then (.fin (Exact.pow false (m * (2 ^ y.p.toNat : Nat)) 0), l.range)
      else (.fin (Exact.pow false m (-y.p).toNat), l.range)
    | _ => (oneVal, l.range)

/-- log2 of a magnitude as a value: exact when it is dyadic, otherwise its floor at 2^-160 with a
sticky bit below, which rounds as the exact value does (log entry 1: DEDUCED). -/
def log2Val (x : Exact) : Val :=
  let p := max x.k 1
  let (fl, ex) := x.logFloor p
  if ex then Val.ofInt fl (-(p : Int))
  else
    let (g, _) := x.logFloor 160
    Val.ofInt (2 * g + 1) (-161)

/-- LOG of a source element (R143): log2 |a| of the exact source, times ln 2 unless base 2, rounded
once into X40. Edge sources pass through L32 first, under OVF_INF of the descriptor (log entry 3: DEDUCED). -/
def veLog (ovfInf base2 : Bool) (f : Fmt) (t : Int) (v : Val) : VeVal :=
  let v := if f.isEdge then (ladOperand ovfInf f t v).1 else v
  match v with
  | .nar => ⟨.nar, 0, false⟩
  | .zero _ => ⟨.inf true, 0, false⟩
  | .inf n => ⟨if n then .nar else .inf false, 0, false⟩
  | .fin x =>
    if x.neg then ⟨.nar, 0, false⟩
    else
      let l := log2Val x
      veRound (if base2 then l else mulVal l ln2Const.x) 0 false

/-- The three activations (Table 5.2). -/
inductive Act where
  | relu | gelu | silu
deriving DecidableEq, Repr

/-- The gate of R144 for a value inside the table range. -/
def gateOf (gelu : Bool) (x : Exact) : Nat :=
  let off : Int := if gelu then 8 else 16
  let sc : Nat := if gelu then 24 else 23
  let u : Nat := match addVal (.fin x) (Val.ofInt off 0) with
    | .fin y => y.rneScaled sc
    | _ => 0
  let tab := if gelu then gateGelu else gateSilu
  let i := u / 2 ^ 20
  let t : Int := (u % 2 ^ 20 : Nat)
  if i = 256 then tab.getD 256 0
  else
    let a : Int := tab.getD i 0
    let b : Int := tab.getD (i + 1) 0
    (a + ((b - a) * t + 0x80000) / (2 ^ 20 : Nat)).toNat

/-- An activation on the full value of a pair (R140, R144, R145). -/
def veAct (f : Act) (a : VeVal) : VeVal :=
  match a.x with
  | .nar => ⟨.nar, 0, a.range⟩
  | .zero _ => ⟨.zero false, 0, a.range⟩
  | .inf n => ⟨if n then .zero false else .inf false, 0, a.range⟩
  | .fin x =>
    let y := x.scale a.tc
    match f with
    | .relu => if y.neg then ⟨.zero false, 0, a.range⟩ else veRound (.fin y) 0 a.range
    | f =>
      let lim : Int := if f = .gelu then 8 else 16
      if (Val.fin y).lt (Val.ofInt (-lim) 0) then ⟨.zero false, 0, a.range⟩
      else if !(Val.fin y).lt (Val.ofInt lim 0) then veRound (.fin y) 0 a.range
      else
        let g := gateOf (f == .gelu) y
        veRound (mulVal (.fin y) (Val.ofInt g (-24))) 0 a.range

/-- An activation that may be absent. -/
def veActOpt (f : Option Act) (a : VeVal) : VeVal :=
  match f with
  | none => a
  | some f => veAct f a

end Sys2Proof.Machine
end

