-- ==== Sys2Proof/Machine/Reduce.lean ====
section
/-! DEFINITION. Row reductions, log-sum-exp and softmax (R150 to R159, R163). -/

namespace Sys2Proof.Machine

/-- The pairwise tree of R150 over the leaves of a row, the left half larger. -/
def treeFold {α : Type} (comb : α → α → α) : Nat → List α → Option α
  | _, [] => none
  | 0, a :: _ => some a
  | _, [a] => some a
  | fuel + 1, l =>
    let h := (l.length + 1) / 2
    match treeFold comb fuel (l.take h), treeFold comb fuel (l.drop h) with
    | some a, some b => some (comb a b)
    | some a, none => some a
    | none, b => b

/-- The row functions of VEC_REDUCE (Table 5.3). -/
inductive RedFn where
  | sum | sumsq | max | min | count | lse | meanvar
deriving DecidableEq, Repr

/-- The row flags of Table 5.14. -/
structure RowFlags where
  empty : Bool
  nar : Bool
  infIn : Bool
  range : Bool
deriving DecidableEq, Repr

/-- The flag byte of a row (Table 5.14). -/
def RowFlags.byte (f : RowFlags) : Nat :=
  (if f.empty then 1 else 0) + (if f.nar then 2 else 0) + (if f.infIn then 4 else 0)
    + (if f.range then 8 else 0)

/-- The result of a row: one value, or mean and variance. -/
structure RowOut where
  val : Val
  val2 : Val
  flags : RowFlags
deriving DecidableEq, Repr

/-- An element of a row: its exact value and whether it is masked. -/
structure RowElem where
  v : Val
  masked : Bool
deriving DecidableEq, Repr

/-- The X40 pair ZERO. -/
def veZero : VeVal := ⟨.zero false, 0, false⟩

/-- An exact count as an X40 pair (R152). -/
def veCount (n : Nat) : VeVal := ⟨Val.ofInt n 0, 0, false⟩

/-- A Welford node (R152). -/
structure Mv where
  n : Nat
  m : VeVal
  q : VeVal
deriving DecidableEq, Repr

/-- The parallel Welford combination (R152). -/
def Mv.comb (a b : Mv) : Mv :=
  if a.n = 0 then b
  else if b.n = 0 then a
  else
    let n := a.n + b.n
    let d := veSub b.m a.m
    let t := veMul d (veDiv (veCount b.n) (veCount n))
    let m := veAdd a.m t
    let q := veAdd (veAdd a.q b.q) (veMul (veMul d t) (veCount a.n))
    ⟨n, m, q⟩

/-- A Welford leaf (Table 5.8). -/
def Mv.leaf (t : Int) (e : RowElem) : Mv :=
  if e.masked then ⟨0, veZero, veZero⟩ else ⟨1, veEnter e.v t, veZero⟩

/-- A leaf of SUM, SUMSQ, MAX or MIN (Table 5.8). -/
def redLeaf (f : RedFn) (t : Int) (e : RowElem) : VeVal :=
  match f with
  | .sumsq => if e.masked then veZero else
      let x := e.v.scale (-t)
      veRound (mulVal x x) (2 * t) false
  | .max => if e.masked then ⟨.inf true, 0, false⟩ else veEnter e.v t
  | .min => if e.masked then ⟨.inf false, 0, false⟩ else veEnter e.v t
  | _ => if e.masked then veZero else veEnter e.v t

/-- The combination of SUM, SUMSQ, MAX or MIN (Table 5.8). -/
def redComb (f : RedFn) : VeVal → VeVal → VeVal :=
  match f with
  | .max => veMax true
  | .min => veMax false
  | _ => veAdd

/-- Two log-sum-exp leaves (R157); none is NONE. -/
def lseComb (a b : Option Int) : Option Int :=
  match a, b with
  | none, b => b
  | a, none => a
  | some x, some y =>
    let hi := max x y
    some (hi + phiOf (hi - min x y).toNat)

/-- Is a value finite or zero? -/
def Val.isReal : Val → Bool
  | .zero _ => true
  | .fin _ => true
  | _ => false

/-- The largest real value among unmasked pairs (R156 step 2). -/
def rowMax : List (Option VeVal) → Option VeVal
  | [] => none
  | none :: l => rowMax l
  | some a :: l =>
    match rowMax l with
    | none => some a
    | some b => some (if a.full.lt b.full then b else a)

/-- The position of an element against the row's maximum (R156 steps 3 to 5), and whether an X40
intermediate left its range. -/
def rowPos (base2 : Bool) (m : VeVal) (a : Option VeVal) : Option Int × Bool :=
  match a with
  | none => (none, false)
  | some a =>
    let d := veSub a m
    let d := if base2 then d else veMul d log2eConst
    match d.full with
    | .fin x =>
      if (Val.fin x).lt (Val.ofInt (-1024) 0) then (none, d.range)
      else
        let n : Int := x.rneScaled 24
        (some (if x.neg then -n else n), d.range)
    | .zero _ => (some 0, d.range)
    | _ => (none, d.range)

/-- The maximum, the positions, the combined position and the range flag of a row with at least one
real value (R156, R157). -/
structure LseRow where
  m : VeVal
  q : List (Option Int)
  z : Int
  range : Bool
deriving DecidableEq, Repr

/-- Form the positions of a row and combine them (R156, R157); none when no value is real. -/
def lseRow (base2 : Bool) (row : List (Option VeVal)) : Option LseRow :=
  match rowMax row with
  | none => none
  | some m =>
    let ps := row.map (rowPos base2 m)
    let q := ps.map (·.1)
    let z := ((treeFold lseComb q.length q).getD none).getD 0
    some ⟨m, q, z, ps.any (·.2) || row.any (fun a => match a with
      | some a => a.range
      | none => false)⟩

/-- The pairs of a row that take part in LSE and SOFTMAX: unmasked real values. -/
def lseEnter (t : Int) (e : RowElem) : Option VeVal :=
  if !e.masked && e.v.isReal then some (veEnter e.v t) else none

/-- The result of Table 5.9 for the unmasked values, none where the tree decides (R153). -/
def specialRow (f : RedFn) (live : List Val) : Option (Val × Val) :=
  let nar := live.contains .nar
  let pos := live.contains (.inf false)
  let neg := live.contains (.inf true)
  let one (v : Val) : Option (Val × Val) := some (v, .zero false)
  let p : Val := .inf false
  let m : Val := .inf true
  if nar then some (.nar, .nar)
  else match f with
    | .count => none
    | .sum => if pos && neg then one .nar else if pos then one p else if neg then one m else none
    | .sumsq => if pos || neg then one p else none
    | .max => if pos then one p else none
    | .min => if neg then one m else none
    | .lse => if pos then one p else none
    | .meanvar =>
      if pos && neg then some (.nar, .nar) else if pos then some (p, .nar)
      else if neg then some (m, .nar) else none

/-- The empty result of Table 5.10. -/
def emptyRow (f : RedFn) : Val × Val :=
  match f with
  | .sum | .sumsq | .count => (.zero false, .zero false)
  | .max => (.inf true, .zero false)
  | .min => (.inf false, .zero false)
  | .lse => (.inf true, .zero false)
  | .meanvar => (.nar, .nar)

/-- The tree's result over a row without deciding specials. -/
def treeRow (f : RedFn) (base2 : Bool) (t : Int) (row : List RowElem) : Val × Val × Bool :=
  match f with
  | .count => (Val.ofInt ((row.filter (fun e => !e.masked)).length : Nat) 0, .zero false, false)
  | .meanvar =>
    match treeFold Mv.comb row.length (row.map (Mv.leaf t)) with
    | none => (.nar, .nar, false)
    | some r =>
      let v := veDiv r.q (veCount r.n)
      (r.m.full, v.full, r.m.range || v.range)
  | .lse =>
    match lseRow base2 (row.map (lseEnter t)) with
    | none => (.inf true, .zero false, false)
    | some r =>
      let z := veEnter (Val.ofInt r.z (-24)) 0
      let z := if base2 then z else veMul z ln2Const
      let s := veAdd r.m z
      (s.full, .zero false, r.range || s.range)
  | f =>
    match treeFold (redComb f) row.length (row.map (redLeaf f t)) with
    | none => (.zero false, .zero false, false)
    | some r => (r.full, .zero false, r.range)

/-- One row of VEC_REDUCE (R150 to R154, R163). A row that Table 5.9 or 5.10 decides leaves X40_RANGE clear (log entry 130:
DESIGN CHOICE). -/
def reduceRow (f : RedFn) (base2 : Bool) (t : Int) (row : List RowElem) : RowOut :=
  let live := (row.filter (fun e => !e.masked)).map (·.v)
  let inf := live.contains (.inf false) || (f != .lse && live.contains (.inf true))
  let dead := live.isEmpty || (f == .lse && live.all (· == .inf true))
  if dead then
    let (a, b) := emptyRow f
    ⟨a, b, ⟨true, f == .meanvar, inf, false⟩⟩
  else
    match (if f = .count then none else specialRow f live) with
    | some (a, b) => ⟨a, b, ⟨false, a == .nar || (f == .meanvar && b == .nar), inf, false⟩⟩
    | none =>
      let (a, b, r) := treeRow f base2 t row
      ⟨a, b, ⟨false, a == .nar || (f == .meanvar && b == .nar), inf, r⟩⟩

/-- One row of VEC_SOFTMAX (R156, R159, Table 5.11): the value of each element, the flags. `scale`
is the value of SCALE_CODE where the descriptor has one; it multiplies the exact element (log entry 129: DESIGN CHOICE). A row
with NaR and +INF has both flags (log entry 131: DESIGN CHOICE). -/
def softmaxRow (base2 : Bool) (t : Int) (scale : Option Val) (row : List RowElem) :
    List Val × RowFlags :=
  let pairs : List (Option VeVal) := row.map (fun e =>
    if e.masked then none
    else match scale with
      | none => some (veEnter e.v t)
      | some s => some (veRound (mulVal (e.v.scale (-t)) s) t false))
  let live := pairs.filterMap id
  let xs := live.map (·.x)
  let rng := live.any (·.range)
  if xs.contains .nar then
    (row.map (fun _ => .nar), ⟨false, true, xs.contains (.inf false), rng⟩)
  else
    let m := (xs.filter (· == .inf false)).length
    if m != 0 then
      (pairs.map (fun a => match a with
        | some a => if a.x = .inf false then .fin ⟨false, 1, m, 0, 0, 0⟩ else .zero false
        | none => .zero false), ⟨false, false, true, rng⟩)
    else
      match lseRow base2 (pairs.map (fun a => match a with
        | some a => if a.x.isReal then some a else none
        | none => none)) with
      | none => (row.map (fun _ => .zero false), ⟨true, false, false, rng⟩)
      | some r =>
        (r.q.map (fun q => match q with
          | some q => .fin (Exact.pow false (q - r.z) 24)
          | none => .zero false), ⟨false, false, false, rng || r.range⟩)

end Sys2Proof.Machine
end

