-- ==== Sys2Proof/Machine/Vector.lean ====
section
/-! DEFINITION. Vector descriptors: VEC_MAP, VEC_REDUCE, VEC_SOFTMAX (R134 to R145, R150 to R164). The
epilogue stands with the matrix descriptors. -/

namespace Sys2Proof.Machine

/-! ### Fields -/

def Desc.base2 (d : Desc) : Bool := d.f 0 17 17 = 1
def Desc.actOf (d : Desc) : Option Act :=
  match d.f 0 23 22 with
  | 1 => some .relu
  | 2 => some .gelu
  | 3 => some .silu
  | _ => none
def Desc.srcA (d : Desc) : Nat := d.f 1 31 0
def Desc.srcB (d : Desc) : Nat := d.f 1 63 32
def Desc.srcC (d : Desc) : Nat := d.f 4 63 32
def Desc.dst (d : Desc) : Nat := d.f 2 31 0
def Desc.dst2 (d : Desc) : Nat := d.f 2 63 32
def Desc.maskH (d : Desc) : Nat := d.f 3 31 0
def Desc.flagH (d : Desc) : Nat := d.f 3 63 32
def Desc.scaleCode (d : Desc) : Nat := d.f 4 15 0

/-! ### Checks at dispatch (Table 5.15) -/

/-- Does the flag tensor fit the rows of the descriptor (R137)? -/
def State.flagOk (s : State) (x : Ctx) (r : Run) (h rows : Nat) : Bool :=
  h = 0 || (match x.operand r h with
    | some o => o.fmt = .int8 && elemCount (s.dimsOf o) = rows
    | none => false)

/-- The checks of a CONVERT on its source and table (R61, R164). -/
def State.convertOk (s : State) (x : Ctx) (r : Run) (d : Desc) (a : TObj) : Bool :=
  d.convW.src = some a.fmt
  && (!(a.fmt.isInt && d.convW.intMode) || (match x.operand r d.srcB with
    | some b => b.fmt = .l16 && elemCount (s.dimsOf b) = (if a.fmt = .int8 then 256 else 16)
    | none => false))

/-- May a source stand under a VEC_MAP destination: the tensor exists, is no integer, and repeats to the
destination's shape? -/
def State.mapSourceOk (s : State) (x : Ctx) (r : Run) (h : Nat) (dims : List Nat) : Bool :=
  match x.operand r h with
  | some o => !o.fmt.isInt && broadcasts (s.dimsOf o) dims
  | none => false

/-- The checks of VEC_MAP that name tensors. -/
def State.mapOk (s : State) (x : Ctx) (r : Run) (d : Desc) : Bool :=
  let (_, b, c) := vecSources 0x30 d.func d
  match x.operand r d.dst, x.operand r d.srcA with
  | some o, some a =>
    d.convW.dst = some o.fmt
    && (if d.func = 0 then broadcasts (s.dimsOf a) (s.dimsOf o) && s.convertOk x r d a
        else s.mapSourceOk x r d.srcA (s.dimsOf o)
          && (!b || s.mapSourceOk x r d.srcB (s.dimsOf o)) && (!c || s.mapSourceOk x r d.srcC (s.dimsOf o)))
    && s.flagOk x r d.flagH (rowsOf (s.dimsOf o))
  | _, _ => false

/-- Is the mask of a row operation a B1 tensor that repeats to the source's shape? -/
def State.maskOk (s : State) (x : Ctx) (r : Run) (h : Nat) (dims : List Nat) : Bool :=
  h = 0 || (match x.operand r h with
    | some o => o.fmt = .b1 && broadcasts (s.dimsOf o) dims
    | none => false)

/-- The shape with an innermost dimension of 1. -/
def oneCol (dims : List Nat) : List Nat := dims.dropLast ++ [1]

/-- The checks of VEC_REDUCE and VEC_SOFTMAX that name tensors. -/
def State.rowOpOk (s : State) (x : Ctx) (r : Run) (d : Desc) : Bool :=
  match x.operand r d.srcA, x.operand r d.dst with
  | some a, some o =>
    let dims := s.dimsOf a
    let want := if d.opcode = 0x33 then dims else oneCol dims
    !a.fmt.isInt && rowLen dims ≤ 2 ^ 24 && s.dimsOf o = want && d.convW.dst = some o.fmt
    && s.maskOk x r d.maskH dims && s.flagOk x r d.flagH (rowsOf dims)
    && (d.dst2 = 0 || (match x.operand r d.dst2 with
      | some o2 => !o2.fmt.isInt && s.dimsOf o2 = want
      | none => false))
  | _, _ => false

/-! ### Element-wise functions (R140 to R145) -/

/-- An operand of an element: its tensor's format, its T, its value. -/
structure Src where
  fmt : Fmt
  t : Int
  v : Val
deriving DecidableEq, Repr

/-- The carried scale an operand enters with, and its pair (R140). -/
def Src.tc (a : Src) : Int := if a.fmt.hasT then a.t else 0
def Src.enter (a : Src) : VeVal := veEnter a.v a.tc

/-- Formats in which R141 forms the exact position: log, weight and B1. -/
def positional (f : Fmt) : Bool := f.isLog || f.isWeight || f = .b1

/-- The value of an element and whether an X40 intermediate left its range. -/
def ofPair (a : VeVal) : Val × Bool := (a.full, a.range)

/-- One element of a VEC_MAP function other than CONVERT (Tables 5.3, 5.4). `direct`: every operand and the
destination is positional; `ovfInf` is OVF_INF of the CONV word. -/
def mapElem (ovfInf : Bool) (func : Nat) (base2 direct : Bool) (act : Option Act) (a b c : Src) : Val × Bool :=
  match func with
  | 0x01 => ofPair (veAdd a.enter b.enter)
  | 0x02 => ofPair (veSub a.enter b.enter)
  | 0x03 => if direct then (mulVal a.v b.v, false) else ofPair (veMul a.enter b.enter)
  | 0x04 => if direct then (divVal a.v b.v, false) else ofPair (veDiv a.enter b.enter)
  | 0x05 => ofPair (veMulAdd a.enter b.enter c.enter)
  | 0x06 => ofPair (veMax true a.enter b.enter)
  | 0x07 => ofPair (veMax false a.enter b.enter)
  | 0x08 =>
    let z := laddVal ovfInf a.fmt a.t a.v b.fmt b.t b.v
    (z.value, z.range)
  | 0x09 => if direct then (mulVal a.v a.v, false) else ofPair (veMul a.enter a.enter)
  | 0x0A => if direct then (sqrtVal a.v, false) else ofPair (veSqrt a.enter)
  | 0x0B => if direct then (divVal oneVal a.v, false) else ofPair (veDiv ⟨oneVal, 0, false⟩ a.enter)
  | 0x0C => veExp base2 a.enter
  | 0x0D => ofPair (veLog ovfInf base2 a.fmt a.t a.v)
  | 0x0E => ofPair (veActOpt act a.enter)
  | _ =>
    let p := a.enter
    ofPair { p with x := absVal p.x }

/-- Overflows that the inner conversions of LADD and LOG into L32 count for one element (R52, R92, R143; log entry
3: DEDUCED). -/
def innerOvf (ovfInf : Bool) (func : Nat) (a b : Src) : Nat :=
  if func = 0x08 then (ladOperand ovfInf a.fmt a.t a.v).2 + (ladOperand ovfInf b.fmt b.t b.v).2
  else if func = 0x0D && a.fmt.isEdge then (ladOperand ovfInf a.fmt a.t a.v).2
  else 0

/-- The status that overflows of inner conversions add. -/
def innerStatus (n : Nat) : ConvStatus := ⟨n != 0, false, false, n, 0⟩

/-- A tensor's values in one list. -/
def TData.flat (d : TData) : List Val := d.vals.flatten

/-- The operand over element e of a destination. -/
def TData.src (d : TData) (flat : List Val) (dims : List Nat) (e : Nat) : Src :=
  ⟨d.fmt, d.t, flat.getD (bcastIdx d.dims dims e) (.zero false)⟩

/-- The values of a CONVERT: the source's values, or those of its integer codes through the table or by
scale and zero point (R49, R61 to R63). -/
def convertVals (d : Desc) (a : TData) (table : List Nat) : List Val :=
  if a.fmt.isInt then
    a.codes.flatten.map (fun c =>
      if d.convW.intMode then intTableVal table c
      else intScaleVal d.scaleCode d.convW.zeroPoint (signedOf c a.fmt.width))
  else a.flat

/-- Read a tensor; handle 0 reads as nothing. None when a page faults. -/
def State.readOpt (s : State) (x : Ctx) (h : Nat) : Option TData :=
  if h = 0 then some ⟨.l8, 0, [1], [[0]], [[]]⟩ else s.readTensor x h

/-- The values of a VEC_MAP destination with the range mark of each, and the overflows of inner conversions; none
when a page faults. -/
def State.mapVals (s : State) (x : Ctx) (d : Desc) (o : TObj) : Option (List (Val × Bool) × Nat) :=
  match s.readOpt x d.srcA, s.readOpt x d.srcB, s.readOpt x d.srcC with
  | some a, some b, some c =>
    let dims := s.dimsOf o
    let n := elemCount dims
    if d.func = 0 then
      let vs := convertVals d a b.codes.flatten
      some ((List.range n).map (fun e => (vs.getD (bcastIdx a.dims dims e) (.zero false), false)), 0)
    else
      let (_, ub, uc) := vecSources 0x30 d.func d
      let direct := positional a.fmt && (!ub || positional b.fmt) && (!uc || positional c.fmt) && positional o.fmt
      let va := a.flat
      let vb := b.flat
      let vc := c.flat
      let inf := d.convW.ovfInf
      some ((List.range n).map (fun e =>
          mapElem inf d.func d.base2 direct d.actOf (a.src va dims e) (b.src vb dims e) (c.src vc dims e)),
        ((List.range n).map (fun e => innerOvf inf d.func (a.src va dims e) (b.src vb dims e))).sum)
  | _, _, _ => none

/-! ### Records -/

/-- The record of a vector descriptor (Table 5.13) from its status and the flags of its rows. -/
def vecRecord (st : ConvStatus) (flags : List Nat) : List Byte :=
  let any := flags.foldl Nat.lor 0
  le 2 0 ++ le 1 st.byte ++ le 1 any ++ le 4 (min 0xFFFFFFFF flags.length)
    ++ le 4 (min 0xFFFFFFFF (flags.filter (· != 0)).length) ++ le 4 0

/-- X40_RANGE of each row of a destination. (Log entry 114: DEDUCED.) -/
def rangeFlags (n : Nat) (marks : List Bool) : List Nat :=
  (chunksOf n marks.length marks).map (fun r => if r.any id then 8 else 0)

/-- The job after a vector descriptor has run, with its status, its row flags, and where an epilogue's conversions are
counted: tile, elements that overflowed, NaRs lost. -/
structure VecDone where
  x : Ctx
  st : ConvStatus
  flags : List Nat
  ves : List (Nat × Nat × Nat) := []
deriving DecidableEq, Repr

/-- Is a CONVERT of a source into a destination an identity copy: the same format, and for a format that has one the
same coarse scale (R49)? -/
def Desc.isCopy (d : Desc) (a : TData) (o : TObj) : Bool :=
  d.func = 0 && a.fmt = o.fmt && (!o.fmt.hasT || destT d.convW o.fmt [a.flat] = a.t)

/-- The codes and scale nibbles of a source laid over a destination of the given shape, as the source holds them
(R45, R49). -/
def copyOver (a : TData) (dims : List Nat) : ConvOut :=
  let n := rowLen dims
  let codes := a.codes.flatten
  let src (e : Nat) : Nat := bcastIdx a.dims dims e
  let nib (e : Nat) : Nat := (a.nibs.getD (e / rowLen a.dims) []).getD (e % rowLen a.dims / 32) 15
  ConvOut.copyOf a.t
    ((List.range (rowsOf dims)).map (fun r => (List.range n).map (fun i => codes.getD (src (r * n + i)) 0)))
    ((List.range (rowsOf dims)).map (fun r =>
      if a.fmt.hasBlocks then (List.range (blocksPerRow dims)).map (fun j => nib (src (r * n + 32 * j))) else []))

/-- VEC_MAP. -/
def State.runMap (s : State) (x : Ctx) (r : Run) (d : Desc) : Option VecDone :=
  match x.tensor? d.dst with
  | none => none
  | some t =>
    match s.mapVals x d t.obj, s.readOpt x d.srcA with
    | some (vs, inner), some a =>
      let flags := rangeFlags (rowLen (s.dimsOf t.obj)) (vs.map (·.2))
      let stored :=
        if d.isCopy a t.obj then s.storeOut x d.dst ⟨none⟩ (copyOver a (s.dimsOf t.obj))
        else s.storeVals x d.dst d.convW (x.draw r r.next) ⟨none⟩ (vs.map (·.1))
      match stored with
      | none => none
      | some (y, st) => (s.storeFlags y d.flagH flags).map (fun z => ⟨z, st.join (innerStatus inner), flags, []⟩)
    | _, _ => none

/-! ### Row operations (R150 to R159) -/

def redFnOf : Nat → RedFn
  | 0 => .sum | 1 => .sumsq | 2 => .max | 3 => .min | 4 => .count | 5 => .lse | _ => .meanvar

/-- The elements of the rows of SRC_A with their mask bits. -/
def State.maskedRows (s : State) (x : Ctx) (d : Desc) : Option (TData × List (List RowElem)) :=
  match s.readOpt x d.srcA, s.readOpt x d.maskH with
  | some a, some m =>
    let bits := m.codes.flatten
    let masked (e : Nat) : Bool := d.maskH != 0 && bits.getD (bcastIdx m.dims a.dims e) 0 = 1
    let es := (numbered a.flat).map (fun (e : Nat × Val) => (⟨e.2, masked e.1⟩ : RowElem))
    some (a, if rowLen a.dims = 0 then List.replicate (rowsOf a.dims) [] else chunksOf (rowLen a.dims) es.length es)
  | _, _ => none

/-- The carried scale of a tensor's values. -/
def TData.tc (d : TData) : Int := if d.fmt.hasT then d.t else 0

/-- VEC_REDUCE. -/
def State.runReduce (s : State) (x : Ctx) (r : Run) (d : Desc) : Option VecDone :=
  match s.maskedRows x d with
  | none => none
  | some (a, rows) =>
    let outs := rows.map (reduceRow (redFnOf d.func) d.base2 a.tc)
    let flags := outs.map (fun o => o.flags.byte)
    match s.storeVals x d.dst d.convW (x.draw r r.next) ⟨none⟩ (outs.map (·.val)) with
    | none => none
    | some (y, st) =>
      let second := if d.dst2 = 0 then some (y, ConvStatus.clear)
        else s.storeVals y d.dst2 d.convW (x.draw r r.next) ⟨none⟩ (outs.map (·.val2))
      match second with
      | none => none
      | some (z, st2) => (s.storeFlags z d.flagH flags).map (fun w => ⟨w, st.join st2, flags, []⟩)

/-- VEC_SOFTMAX. -/
def State.runSoftmax (s : State) (x : Ctx) (r : Run) (d : Desc) : Option VecDone :=
  match s.maskedRows x d with
  | none => none
  | some (a, rows) =>
    let scale := if d.f 0 19 18 = 1 then some (l16Val d.scaleCode) else none
    let outs := rows.map (softmaxRow d.base2 a.tc scale)
    let flags := outs.map (fun o => o.2.byte)
    match s.storeVals x d.dst d.convW (x.draw r r.next) ⟨none⟩ (outs.flatMap (·.1)) with
    | none => none
    | some (y, st) => (s.storeFlags y d.flagH flags).map (fun z => ⟨z, st, flags, []⟩)

/-! ### The commands -/

/-- The conversions of a vector descriptor are counted (R67): an epilogue's on the vector engines that drained its tiles,
any other's by `countConv`. -/
def State.countDone (s : State) (ctx : Nat) (v : VecDone) : State :=
  if v.ves.isEmpty then s.countConv ctx v.st else v.ves.foldl (fun a e => a.countVe e.1 e.2.1 e.2.2) s

/-- A vector descriptor runs: rejected by its checks (R164), faulted by a gathered destination (R274) or a page
(R308), else its results are written and its record is formed; it runs whole, with no yield point inside it (R149; log
entry 132: DEDUCED). -/
def State.vecRun (s : State) (ctx : Nat) (r : Run) (d : Desc) (ok : Bool) (run : Ctx → Option VecDone) : State :=
  let s1 := s.beginDesc ctx r d
  match s.ctx? ctx, s1.ctx? ctx with
  | some x, some x1 =>
    if !ok then (s.rejectDesc ctx r).refresh ctx
    else if x.writesGathered d then s.faultAt ctx r 0x08
    else
      match run x1 with
      | none => s.faultAt ctx r 0x09
      | some v =>
        (((s1.setCtx ctx v.x).countDone ctx v).endDesc ctx r.ring r.tseq r.next (vecRecord v.st v.flags)).refresh ctx
  | _, _ => s

/-- The next descriptor of a context, when it is the vector function asked for and may run now. -/
def State.vec (s : State) (ctx op func : Nat) : State :=
  match s.dispatchable ctx op (some func) true with
  | none => s.wakeNext ctx
  | some (x, r, d) =>
    let v := s.seenBy r
    if op = 0x30 then s.vecRun ctx r d (s.mapOk x r d) (fun y => v.runMap y r d)
    else if op = 0x32 then s.vecRun ctx r d (s.rowOpOk x r d) (fun y => v.runReduce y r d)
    else s.vecRun ctx r d (s.rowOpOk x r d) (fun y => v.runSoftmax y r d)

/-- CONVERT: a (R49, R61 to R63, R141). -/
def execConvert (ctx : Nat) (s : State) : Out := .next (s.vec ctx 0x30 0x00)

/-- ADD: a + b. -/
def execAdd (ctx : Nat) (s : State) : Out := .next (s.vec ctx 0x30 0x01)

/-- SUB: a − b. -/
def execSub (ctx : Nat) (s : State) : Out := .next (s.vec ctx 0x30 0x02)

/-- MUL: a × b. -/
def execMul (ctx : Nat) (s : State) : Out := .next (s.vec ctx 0x30 0x03)

/-- DIV: a / b. -/
def execDiv (ctx : Nat) (s : State) : Out := .next (s.vec ctx 0x30 0x04)

/-- MUL_ADD: a × b + c. -/
def execMulAdd (ctx : Nat) (s : State) : Out := .next (s.vec ctx 0x30 0x05)

/-- MAX: the larger of a and b by R64. -/
def execMax (ctx : Nat) (s : State) : Out := .next (s.vec ctx 0x30 0x06)

/-- MIN: the smaller of a and b by R64. -/
def execMin (ctx : Nat) (s : State) : Out := .next (s.vec ctx 0x30 0x07)

/-- LADD: a + b by Gaussian logarithms (R92). -/
def execLadd (ctx : Nat) (s : State) : Out := .next (s.vec ctx 0x30 0x08)

/-- SQUARE: a × a. -/
def execSquare (ctx : Nat) (s : State) : Out := .next (s.vec ctx 0x30 0x09)

/-- SQRT. -/
def execSqrt (ctx : Nat) (s : State) : Out := .next (s.vec ctx 0x30 0x0A)

/-- RECIP: 1 / a. -/
def execRecip (ctx : Nat) (s : State) : Out := .next (s.vec ctx 0x30 0x0B)

/-- EXP: e^a, or 2^a under BASE. -/
def execExp (ctx : Nat) (s : State) : Out := .next (s.vec ctx 0x30 0x0C)

/-- LOG: ln a, or log2 a under BASE. -/
def execLog (ctx : Nat) (s : State) : Out := .next (s.vec ctx 0x30 0x0D)

/-- ACT: the activation named by ACT (R144, R145). -/
def execAct (ctx : Nat) (s : State) : Out := .next (s.vec ctx 0x30 0x0E)

/-- ABS. -/
def execAbs (ctx : Nat) (s : State) : Out := .next (s.vec ctx 0x30 0x0F)

/-- SUM of each row. -/
def execSum (ctx : Nat) (s : State) : Out := .next (s.vec ctx 0x32 0x00)

/-- SUMSQ of each row. -/
def execSumsq (ctx : Nat) (s : State) : Out := .next (s.vec ctx 0x32 0x01)

/-- The largest of each row. -/
def execReduceMax (ctx : Nat) (s : State) : Out := .next (s.vec ctx 0x32 0x02)

/-- The smallest of each row. -/
def execReduceMin (ctx : Nat) (s : State) : Out := .next (s.vec ctx 0x32 0x03)

/-- COUNT of the unmasked elements of each row. -/
def execCount (ctx : Nat) (s : State) : Out := .next (s.vec ctx 0x32 0x04)

/-- LSE: the log-sum-exp of each row (R156 to R158). -/
def execLse (ctx : Nat) (s : State) : Out := .next (s.vec ctx 0x32 0x05)

/-- MEANVAR: mean and population variance of each row (R152). -/
def execMeanvar (ctx : Nat) (s : State) : Out := .next (s.vec ctx 0x32 0x06)

/-- SOFTMAX of each row (R156, R159). -/
def execSoftmax (ctx : Nat) (s : State) : Out := .next (s.vec ctx 0x33 0x00)

end Sys2Proof.Machine
end

