-- ==== Sys2Proof/Machine/Matrix.lean ====
section
/-! DEFINITION. Matrix descriptors: checks, tile-tasks, placement, dispatch to engines, rounds, windows,
groups, parking, merging, drains, the epilogue, the result record (R99 to R133, R146, R147, R165 to R169,
R298, R299). -/

namespace Sys2Proof.Machine

/-! ### The chain area (R122, R126, R161, R212, R218, R289) -/

/-- Bytes of the states of an output tile as CHAIN words. -/
def MatDesc.tileBytes (d : MatDesc) : Nat := 8 * (d.mt * d.nt)

/-- Bytes of the chain area that an operation holds: parked chunks, received words that wait, the final states parked for a
maximum pass. (Log entry 100: DEDUCED.) -/
def MatOp.areaBytes (o : MatOp) : Nat :=
  (o.parked.length + (if o.maxPass then o.finals.length else 0)) * o.d.tileBytes + 8 * o.received.length

/-- Bytes of held CHAIN words, and of a held exchange message; winch messages and remote reads are not held there. -/
def ChainMsg.areaBytes (m : ChainMsg) : Nat := 8 * m.words.length
def HeldMsg.areaBytes (m : HeldMsg) : Nat := if m.msg.typeCode < 0x10 || m.msg.typeCode = 0x21 then 0 else m.msg.bytes

/-- The fill and the size of a job's chain area. -/
def Ctx.chainFill (x : Ctx) : Nat :=
  (x.ops.map MatOp.areaBytes).sum + (x.chains.map ChainMsg.areaBytes).sum + (x.waitingMsgs.map HeldMsg.areaBytes).sum
def Ctx.chainSize (x : Ctx) : Nat := x.params.chainArea * unitBytes

/-- Is there room for more bytes (R289)? -/
def Ctx.chainRoom (x : Ctx) (n : Nat) : Bool := x.chainFill + n ≤ x.chainSize

/-- May an operation change so in the area: it takes no more room than before, or there is room for the difference? -/
def Ctx.areaTakes (x : Ctx) (o p : MatOp) : Bool := p.areaBytes ≤ o.areaBytes || x.chainRoom (p.areaBytes - o.areaBytes)

/-- Is the task one of an operation? -/
def MatOp.owns (o : MatOp) (k : TaskId) : Bool := o.ring = k.ring && o.tseq = k.tseq && o.pos = k.pos

/-- The operation of a task. -/
def State.opOf (s : State) (k : TaskId) : Option MatOp := (s.ctx? k.ctx).bind (fun x => x.ops.find? (fun o => o.owns k))

/-- Replace an operation. -/
def State.setOp (s : State) (ctx : Nat) (o : MatOp) : State :=
  s.modCtx ctx (fun x => { x with ops := x.ops.map (fun p => if p.ring = o.ring ∧ p.tseq = o.tseq ∧ p.pos = o.pos then o else p) })

/-- Remove an operation. -/
def State.dropOp (s : State) (ctx : Nat) (o : MatOp) : State :=
  s.modCtx ctx (fun x => { x with ops := x.ops.filter (fun p => !(p.ring = o.ring && p.tseq = o.tseq && p.pos = o.pos)) })

/-! ### Operands (R103, R106, R128) -/

/-- Code and block scale of element e of a tensor. -/
def TData.elem (d : TData) (e : Nat) : Nat × Nat :=
  let n := rowLen d.dims
  ((d.codes.getD (e / n) []).getD (e % n) 0, if d.fmt.hasBlocks then (d.nibs.getD (e / n) []).getD (e % n / 32) 15 else 0)

/-- Linear index of A(b, i, k) and B(b, k, j) in their tensors. -/
def MatDesc.aIdx (d : MatDesc) (b i k : Nat) : Nat := b * d.m * d.k + (if d.transA then k * d.m + i else i * d.k + k)
def MatDesc.bIdx (d : MatDesc) (b k j : Nat) : Nat :=
  (if d.bcastB then 0 else b) * d.k * d.n + (if d.transB then j * d.k + k else k * d.n + j)

/-- The operands of a descriptor. -/
structure Operands where
  d : MatDesc
  a : TData
  b : TData
deriving DecidableEq, Repr

/-- The terms of an element of A or B; a pad reads as ZERO (R103, R109). -/
def Operands.aAt (o : Operands) (b i k c1 : Nat) : List Opnd :=
  if k < c1 then
    let (code, nib) := o.a.elem (o.d.aIdx b i k)
    opnds o.d.mode o.d.aFmt o.a.t nib code
  else List.replicate (if o.d.aFmt = .w8p2 then 2 else 1) .zero
def Operands.bAt (o : Operands) (b k j c1 : Nat) : List Opnd :=
  if k < c1 then
    let (code, nib) := o.b.elem (o.d.bIdx b k j)
    opnds o.d.mode o.d.bFmt o.b.t nib code
  else List.replicate (if o.d.bFmt = .w8p2 then 2 else 1) .zero

/-- The partials of a round that take a block, with the block's first k position (R104). -/
def MatDesc.spans (d : MatDesc) (chunk round : Nat) : List (Nat × Nat) :=
  let (c0, c1) := d.chunkRange chunk
  (List.range d.split).filterMap (fun q =>
    let k0 := c0 + 32 * (q + d.split * round)
    if k0 < c1 then some (q, k0) else none)

/-- A round of a task: where it stands. -/
structure RoundAt where
  b : Nat
  i0 : Nat
  j0 : Nat
  rows : Nat
  cols : Nat
  c1 : Nat
  spans : List (Nat × Nat)
deriving DecidableEq, Repr

def MatDesc.roundAt (d : MatDesc) (k : TaskId) (round : Nat) : RoundAt :=
  ⟨k.b, k.ti * d.mt, k.tj * d.nt, d.rowsIn k.ti, d.colsIn k.tj, (d.chunkRange k.chunk).2, d.spans k.chunk round⟩

/-- The k positions of a block within the chunk. -/
def RoundAt.block (r : RoundAt) (k0 : Nat) : List Nat := ((List.range 32).map (fun i => k0 + i)).filter (· < r.c1)

/-- Every term that a block of A, or of B, reads (R73, R109). -/
def Operands.aBlock (o : Operands) (r : RoundAt) (k0 : Nat) : List Opnd :=
  (List.range r.rows).flatMap (fun i => (r.block k0).flatMap (fun k => o.aAt r.b (r.i0 + i) k r.c1))
def Operands.bBlock (o : Operands) (r : RoundAt) (k0 : Nat) : List Opnd :=
  (List.range r.cols).flatMap (fun j => (r.block k0).flatMap (fun k => o.bAt r.b k (r.j0 + j) r.c1))

/-- Is a round skippable (R109)? -/
def Operands.skippable (o : Operands) (r : RoundAt) : Bool :=
  r.spans.all (fun q => (o.aBlock r q.2).all (· = .zero) || (o.bBlock r q.2).all (· = .zero))

/-- The demand of a round (R73); none in the popcount mode (R77). -/
def Operands.demand (o : Operands) (r : RoundAt) : Option Int :=
  if o.d.mode = .pop then none
  else demandOf o.d.mode (r.spans.flatMap (fun q => o.aBlock r q.2)) (r.spans.flatMap (fun q => o.bBlock r q.2))

/-- What the operand stage holds of a round: its demand, none when it is skippable, and the test for zero (R107,
R109, R110). -/
def Operands.staged (o : Operands) (r : RoundAt) (round : Nat) : Staged :=
  let z := o.skippable r
  ⟨round, if z then none else o.demand r, z⟩

/-- The k positions of the chunk that a round takes for one output, over all partials. -/
def RoundAt.positions (r : RoundAt) : Nat := (r.spans.map (fun q => (r.block q.2).length)).sum

/-- The products of a lane in a round, in order (R103). -/
def Operands.laneTerms (o : Operands) (r : RoundAt) (k0 i j : Nat) : List Opnd :=
  (List.range 32).flatMap (fun p => prods (o.aAt r.b (r.i0 + i) (k0 + p) r.c1) (o.bAt r.b (k0 + p) (r.j0 + j) r.c1))

/-- The lanes of a round with their products; lanes of outputs beyond C hold only discarded sums and are
left out (R100, R103). -/
def Operands.lanes (o : Operands) (r : RoundAt) : List (Nat × List Opnd) :=
  r.spans.flatMap (fun q => (List.range r.rows).flatMap (fun i => (List.range r.cols).map (fun j =>
    (q.1 * o.d.mt * o.d.nt + i * o.d.nt + j, o.laneTerms r q.2 i j))))

/-- The lanes that take products in a round: none of a skippable one, whose every product is an exact zero, so that
computing it under ZSKIP_DIS gives what skipping gives (R70, R110; log entry 44: DEDUCED). -/
def Operands.roundLanes (o : Operands) (r : RoundAt) (zero : Bool) : List (Nat × List Opnd) := if zero then [] else o.lanes r

/-! ### A group through a round (R73 to R78) -/

/-- The wide words of a group as a set. -/
def Group.wideSet (g : Group) : WideSet := ⟨g.e.getD 0, g.wides, false, false⟩

/-- The group after its words have been added to. -/
def Group.withSet (g : Group) (w : WideSet) : Group :=
  { g with
    wides := w.w
    e := if g.e.isSome then some w.e else g.e
    rises := g.rises + (w.e - g.e.getD 0).toNat
    rangeRaised := g.rangeRaised || w.raised
    eLimit := g.eLimit || w.limited }

/-- Specials take effect on the words of lanes (R78, Table 3.7). -/
def Group.special (g : Group) (marks : List (Nat × Wide)) : Group :=
  { g with wides := marks.foldl (fun w m =>
      match wideSpecial (laneW w m.1) m.2 with
      | some v => Tab.set w m.1 v
      | none => w) g.wides }

/-- E for a round: set by the first demand, raised by a larger one (R73, R75). -/
def Group.demand (g : Group) (r : Option Int) : Group :=
  match g.e, r with
  | _, none => g
  | none, some e => { g with e := some e }
  | some e0, some e =>
    if e0 < e then { g with e := some e, wides := Tab.mapVals g.wides (fun _ w => w.rise (e - e0)), rises := g.rises + 1 } else g

/-- The special of a product. -/
def Opnd.special? : Opnd → Option Wide
  | .nar => some .nar
  | .inf n => some (.inf n)
  | _ => none

/-- Window w of a round enters the narrow accumulators (R74, R78). -/
def Group.openWindow (g : Group) (lanes : List (Nat × List Opnd)) (w : Nat) : Group :=
  let e := g.e.getD 0
  let terms := lanes.map (fun l => (l.1, (l.2.drop (16 * w)).take 16))
  { g with
    window := w
    inRound := true
    narrows := terms.foldl (fun t l =>
      let n := l.2.foldl (fun acc o => match o with | .fin neg p => acc + narrowTerm e neg p | _ => acc) (0 : Int)
      if n = 0 then t else Tab.set t l.1 n) []
    marks := terms.foldl (fun t l =>
      l.2.foldl (fun t o =>
        match o.special? with
        | some v =>
          (match Tab.get t l.1 with
           | some old => Tab.set t l.1 ((wideSpecial old v).getD old)
           | none => Tab.set t l.1 v)
        | none => t) t) [] }

/-- A window closes: specials take effect, then each lane adds N × 2^16 (R74, R75, R78; log entry 36: DEDUCED). -/
def Group.closeWindow (g : Group) : Group :=
  let g1 := g.special g.marks
  let g2 := g1.withSet (wideAdd g1.wideSet (g.narrows.map (fun n => (n.1, n.2 * 65536))))
  { g2 with narrows := [], marks := [] }

/-- One cycle of the L16 mode: term n of every lane (R76, R78). -/
def Group.l16Cycle (g : Group) (lanes : List (Nat × List Opnd)) (n : Nat) : Group :=
  let e := g.e.getD 0
  let terms := lanes.filterMap (fun l => (l.2[n]?).map (fun o => (l.1, o)))
  let g1 := g.special (terms.filterMap (fun l => l.2.special?.map (fun v => (l.1, v))))
  g1.withSet (wideAdd g1.wideSet (terms.filterMap (fun l => match l.2 with
    | .fin neg p => some (l.1, l16Term e neg p)
    | _ => none)))

/-- One cycle of the popcount mode: eight sign pairs of every lane (R86). -/
def Group.popCycle (g : Group) (lanes : List (Nat × List Opnd)) (n : Nat) : Group :=
  g.withSet (wideAdd g.wideSet (lanes.map (fun l =>
    (l.1, ((l.2.drop (8 * n)).take 8).foldl (fun acc o => match o with | .fin neg _ => acc + (if neg then -1 else 1) | _ => acc) (0 : Int)))))

/-- Apply f for 0 up to n - 1. -/
def iterUp {α : Type} (f : α → Nat → α) : Nat → α → α
  | 0, a => a
  | n + 1, a => f (iterUp f n a) n

/-- The term counter of a group takes a round, skipped or not; above 65,536 terms of an output the bound is exceeded,
never in the popcount mode (R84, R112). -/
def Group.countTerms (g : Group) (d : MatDesc) (r : RoundAt) : Group :=
  let n := g.terms + r.positions * d.termsPer
  { g with terms := n, bound := g.bound || (d.mode != .pop && 65536 < n) }

/-- A round starts with what the operand stage holds of it: skipped, or E set and raised and its first terms taken. In
the L16 and popcount modes the whole round is taken (R104, R107, R109, R110). -/
def Operands.runRound (o : Operands) (r : RoundAt) (st : Staged) (g0 : Group) : Group :=
  let g := g0.countTerms o.d r
  if !o.d.zskipDis && st.zero then { g with skipped := g.skipped + 1, round := g.round + 1 }
  else
    let g1 := g.demand st.demand
    let ls := o.roundLanes r st.zero
    match o.d.mode with
    | .m8 => g1.openWindow ls 0
    | .m16 => { iterUp (fun g n => g.l16Cycle ls n) (32 * o.d.termsPer) g1 with round := g.round + 1 }
    | .pop => { iterUp (fun g n => g.popCycle ls n) 4 g1 with round := g.round + 1 }

/-- A round that is staged and started at once. -/
def Operands.startRound (o : Operands) (r : RoundAt) (g : Group) : Group := o.runRound r (o.staged r g.round) g

/-- A window of a round in the 8-bit mode closes; the next one opens, or the round is over. -/
def Operands.endWindow (o : Operands) (r : RoundAt) (g : Group) : Group :=
  let g1 := g.closeWindow
  if g.window + 1 < 2 * o.d.termsPer then g1.openWindow (o.roundLanes r (o.skippable r)) (g.window + 1)
  else { g1 with inRound := false, window := 0, round := g.round + 1 }

/-- The partial tree at the end of a task (R105). -/
def MatDesc.closeGroup (d : MatDesc) (g : Group) : Group :=
  let outs := d.mt * d.nt
  let g1 := g.withSet (partialTree outs d.split 64 1 g.wideSet)
  { g1 with wides := g1.wides.filter (fun e => e.1 < outs) }

/-- The states a closed group holds, one for each output of its tile (R81). -/
def Group.outputs (g : Group) (outs : Nat) : List Chain :=
  (List.range outs).map (fun i => ⟨laneW g.wides i, g.e⟩)

/-! ### Checks at dispatch (R128, R131) -/

/-- Does an operand exist with its format and shape? -/
def State.matTensorOk (s : State) (x : Ctx) (r : Run) (h : Nat) (f : Fmt) (full : Bool) (a b c : Nat) : Bool :=
  match x.operand r h with
  | some o => o.fmt = f && (!full || matchesShape (s.dimsOf o) a b c)
  | none => false

/-- A peer field is this system's and not this module's own (R131, R238). -/
def State.peerOk (s : State) (p : Nat) : Bool :=
  match s.ident with
  | some i => p != i && s.inSystem p
  | none => false

/-- The checks of a matrix descriptor that name tensors and modules (Table 4.10). -/
def State.matOk (s : State) (x : Ctx) (r : Run) (d : Desc) (m : MatDesc) : Bool :=
  let full := m.batch != 0 && m.m != 0 && m.n != 0
  (if m.transA then s.matTensorOk x r m.a m.aFmt full m.batch m.k m.m else s.matTensorOk x r m.a m.aFmt full m.batch m.m m.k)
  && (let bb := if m.bcastB then 1 else m.batch
      if m.transB then s.matTensorOk x r m.b m.bFmt full bb m.n m.k else s.matTensorOk x r m.b m.bFmt full bb m.k m.n)
  && (m.c = 0 || (match d.convW.dst with | some f => s.matTensorOk x r m.c f full m.batch m.m m.n | none => false))
  && (m.acc = 0 || (match x.sees r m.acc with
    | some t => t.obj.kind = .wide && (!full || matchesShape t.obj.dims m.batch m.m m.n)
    | none => false))
  && (!m.recvs || s.peerOk m.prev) && (!m.sends || s.peerOk m.nextPeer)

/-! ### Placement of tasks (R298, R442) -/

/-- Bytes of an extent that a tile's SRAM holds, as copies or pin units (R300). -/
def Ctx.sramBytes (x : Ctx) (tile : Nat) (i : ExtentId) (e : Ext) : Nat :=
  (((List.range 32).filter (fun p => e.sram.contains (p, tile) || x.pinTile ⟨i.pool, i.handle, 32 * i.index + p⟩ = some tile)).map
    (x.pieceBytes i)).sum

/-- Points of a tile for one extent: 4 a byte in its SRAM, 2 in a die-pool way of its die, 1 for a home on
its die; a sleeping tile holds nothing (R298, R300, R442). -/
def Ctx.tilePoints (x : Ctx) (awake : Bool) (tile : Nat) (i : ExtentId) (e : Ext) : Nat :=
  (if awake then 4 * x.sramBytes tile i e + (if (Tab.get e.pools (tileDie tile)).isSome then 2 * x.extBytes i else 0) else 0)
  + (if e.home.die = some (tileDie tile) then x.extBytes i else 0)

/-- The score of a tile over extents. -/
def Ctx.scoreOf (x : Ctx) (awake : Bool) (tile : Nat) (es : List ExtentId) : Nat :=
  (es.map (fun i => match x.ext? i with | some e => x.tilePoints awake tile i e | none => 0)).sum

/-- The elements of A and of B that k positions of a task read, in the order of its rounds: by position, then row or column. -/
def MatDesc.elemsA (d : MatDesc) (k : TaskId) (ps : List Nat) : List Nat :=
  ps.flatMap (fun p => (List.range (d.rowsIn k.ti)).map (fun i => d.aIdx k.b (k.ti * d.mt + i) p))
def MatDesc.elemsB (d : MatDesc) (k : TaskId) (ps : List Nat) : List Nat :=
  ps.flatMap (fun p => (List.range (d.colsIn k.tj)).map (fun j => d.bIdx k.b p (k.tj * d.nt + j)))

/-- The k positions of a task's chunk. -/
def MatDesc.chunkPos (d : MatDesc) (k : TaskId) : List Nat :=
  let (c0, c1) := d.chunkRange k.chunk
  (List.range (c1 - c0)).map (fun i => c0 + i)

/-- The pieces of A and B that a task reads, at some of its k positions; `room` limits the elements taken of each. -/
def State.taskPieces (s : State) (x : Ctx) (d : MatDesc) (k : TaskId) (ps : List Nat) (room : Fmt → Option Nat) : List PieceId :=
  let cut (f : Fmt) (l : List Nat) : List Nat := match room f with | some n => l.take n | none => l
  (s.elemPieces x d.a (cut d.aFmt (d.elemsA k ps)) ++ s.elemPieces x d.b (cut d.bFmt (d.elemsB k ps))).eraseDups

/-- Elements of a format in 32 KiB (R299). -/
def leadElems (f : Fmt) : Option Nat := some (262144 / max 1 f.width)

/-- The pieces that hold the first 32 KiB of each operand of a task, or all of an operand that is smaller (R299). -/
def State.leadPieces (s : State) (x : Ctx) (d : MatDesc) (k : TaskId) : List PieceId := s.taskPieces x d k (d.chunkPos k) leadElems

/-- The extents that a task reads (R298). -/
def State.taskExts (s : State) (x : Ctx) (d : MatDesc) (k : TaskId) : List ExtentId :=
  ((s.taskPieces x d k (d.chunkPos k) (fun _ => none)).map PieceId.ext).eraseDups

/-- Tasks on a tile's ready list, and placed on it with operands still to come (log entry 37: DEDUCED). -/
def State.tileLoad (s : State) (tile : Nat) : Nat :=
  (s.tile tile).ready.length + (s.ctxs.map (fun c => (c.2.ops.map (fun o => (o.placed.filter (fun q => q.2 = tile)).length)).sum)).sum

/-- The tile a task goes to: the highest score, then the fewest tasks, then the lowest number (R298). -/
def State.placeTask (s : State) (x : Ctx) (d : MatDesc) (k : TaskId) (placed : List (TaskId × Nat)) (tiles : List Nat) : Nat :=
  let es := s.taskExts x d k
  let score (t : Nat) : Nat := x.scoreOf (s.tileRuns t) t es
  let best := (tiles.map score).foldl max 0
  let load (t : Nat) : Nat := s.tileLoad t + (placed.filter (fun q => q.2 = t)).length
  (leastBy load (tiles.filter (fun t => score t = best))).getD 0

/-- All tasks of an operation in grid order, placed (R101, R166, R298). -/
def State.placeAll (s : State) (ctx : Nat) (x : Ctx) (o : MatOp) : List (TaskId × Nat) :=
  let tiles := ((Tab.get s.parts x.params.partition).map Part.tiles).getD []
  ((List.range o.d.tileCount).flatMap (fun t => (List.range o.d.chunkCount).map (fun c => o.task ctx t c))).foldl
    (fun acc k => acc ++ [(k, s.placeTask x o.d k acc tiles)]) []

/-- A tile is used: its cluster's idle time begins again (R441). -/
def State.touchTile (s : State) (tile : Nat) : State :=
  s.setCluster (tileCluster tile) { s.cluster (tileCluster tile) with idleSince := s.time.now }

/-! ### The end of an operation (R129, R130, R132) -/

/-- The state of output (b, i, j). -/
def MatOp.output (o : MatOp) (b i j : Nat) : Chain :=
  let ti := i / o.d.mt
  let tj := j / o.d.nt
  (Tab.getD o.finals (o.d.tileNo b ti tj) []).getD (i % o.d.mt * o.d.nt + j % o.d.nt) .empty

/-- The outputs of C in row-major order, the batch outermost. -/
def MatDesc.places (d : MatDesc) : List (Nat × Nat × Nat) :=
  (List.range d.batch).flatMap (fun b => (List.range d.m).flatMap (fun i => (List.range d.n).map (fun j => (b, i, j))))
def MatOp.outputs (o : MatOp) : List Chain := o.d.places.map (fun p => o.output p.1 p.2.1 p.2.2)

/-- Is a state special? -/
def Chain.isSpecial (c : Chain) : Bool := !c.w.isFin

/-- The record of a matrix descriptor (Table 4.11). -/
def MatOp.record (o : MatOp) (convStatus : Nat) : List Byte :=
  let flags := (if o.bound then 1 else 0) + (if o.rangeRaised then 2 else 0) + (if o.eLimit then 4 else 0)
    + (if o.outputs.any Chain.isSpecial then 8 else 0) + (if o.wideInvalid then 16 else 0)
  le 2 0 ++ le 1 convStatus ++ le 1 flags ++ le 4 (min 0xFFFFFFFF o.skipped)
    ++ le 2 (match o.eMax with | some e => twosOf e 16 | none => 0x8000) ++ le 2 0 ++ le 4 (min 0xFFFFFFFF o.risesMax)

/-- The CHAIN words of an output tile, in row-major order (R126). -/
def MatOp.tileWords (o : MatOp) (t : Nat) : List ChainWord :=
  let (b, ti, tj) := o.d.tileAt t
  (List.range (o.d.rowsIn ti)).flatMap (fun i => (List.range (o.d.colsIn tj)).map (fun j =>
    ⟨b, ti * o.d.mt + i, tj * o.d.nt + j, BitVec.ofNat 64 (chainBits (o.output b (ti * o.d.mt + i) (tj * o.d.nt + j)))⟩))

/-- Store the states of an ACC_OUT descriptor (R125). -/
def Ctx.storeAcc (x : Ctx) (o : MatOp) : Ctx :=
  match x.tensor? o.d.acc with
  | none => x
  | some t =>
    let t1 := (numbered o.outputs).foldl (fun t (e : Nat × Chain) => putWide t e.1 (chainBits e.2)) t
    (({ x with tensors := Tab.set x.tensors o.d.acc t1 }).wroteAll o.d.acc).countWrite o.d.acc

/-- The descriptor of an operation. -/
def Ctx.descOf (x : Ctx) (o : MatOp) : Option (Run × Desc) :=
  (findRun x.runs o.ring o.tseq).bind (fun r => (r.descs[o.pos]?).map (fun d => (r, d)))

/-- The conversions of an operation's outputs by the vector engines that drained their tiles: tile, elements that
overflowed, NaRs lost; `low` stands for a tile that none is noted of (R52, R67, R117, R129; log entry 35: DEDUCED). -/
def MatOp.veCounts (o : MatOp) (low : Nat) (marks : List (Bool × Bool)) : List (Nat × Nat × Nat) :=
  let ve (p : Nat × Nat × Nat) : Nat := Tab.getD o.ves (o.d.tileNo p.1 (p.2.1 / o.d.mt) (p.2.2 / o.d.nt)) low
  let at_ := (o.d.places.map ve).zip marks
  ((at_.map (·.1)).eraseDups).map (fun t =>
    (t, (at_.filter (fun e => e.1 = t && e.2.1)).length, (at_.filter (fun e => e.1 = t && e.2.2)).length))

/-- The drained values written into C by the CONV word (R129), or a page fault. -/
def State.drainMat (s : State) (ctx : Nat) (x : Ctx) (o : MatOp) (r : Run) (d : Desc) : State :=
  match x.tensor? o.d.c with
  | none => s.jobFault ctx 0x09 (some (o.ring, o.tseq, o.pos))
  | some t =>
    let v := s.seenBy r
    let m := v.discardOf x r o.pos o.d.c (s.dimsOf t.obj)
    let out := s.convInto t.obj d.convW (x.draw r o.pos) m (o.outputs.map Chain.drain)
    match v.storeOut x o.d.c m out with
    | none => s.jobFault ctx 0x09 (some (o.ring, o.tseq, o.pos))
    | some (y, st) =>
      let s1 := (o.veCounts ((s.lowTile ctx).getD 0) out.marks.flatten).foldl (fun a e => a.countVe e.1 e.2.1 e.2.2)
        (s.setCtx ctx (y.countDiscards m))
      ((s1.dropOp ctx o).endDesc ctx o.ring o.tseq o.pos (o.record st.byte)).refresh ctx

/-- An operation whose outputs are all final ends: sent, stored, handed to its epilogue, or drained into C
(R121, R126). One with no output writes nothing (R130); a sending link with none sends its shape alone (R126; log entry
124: DEDUCED). -/
def State.endMat (s : State) (ctx : Nat) (o : MatOp) : State :=
  match s.ctx? ctx with
  | none => s
  | some x =>
    match x.descOf o with
    | none => s
    | some (r, d) =>
      if !o.complete || o.drained then s.refresh ctx
      else if o.d.epiNext then
        (((s.setOp ctx { o with drained := true })).endDesc ctx o.ring o.tseq o.pos (o.record 0)).refresh ctx
      else if o.d.tileCount = 0 && !o.d.sends then ((s.dropOp ctx o).endDesc ctx o.ring o.tseq o.pos (o.record 0)).refresh ctx
      else if o.d.sends then
        let s1 := (List.range (max 1 o.d.tileCount)).foldl (fun a t =>
          a.send o.d.nextPeer (some x.params.partition)
            (.chain ⟨ctx, (s.ident).getD 0, o.d.tag, o.d.batch, o.d.m, o.d.n, o.tileWords t⟩)) s
        ((s1.dropOp ctx o).endDesc ctx o.ring o.tseq o.pos (o.record 0)).refresh ctx
      else if o.d.accOut then
        (((s.setCtx ctx (x.storeAcc o)).dropOp ctx o).endDesc ctx o.ring o.tseq o.pos (o.record 0)).refresh ctx
      else s.drainMat ctx x o r d

/-- An operation goes on. -/
def State.putOp (s : State) (ctx : Nat) (o : MatOp) : State := (s.setOp ctx o).endMat ctx o

/-! ### MATRIX -/

/-- A new operation; its maximum pass is asked for by its own drain word or by its epilogue's (R129, R161). -/
def newOp (r : Run) (m : MatDesc) (d : Desc) : MatOp :=
  let drain := if m.epiNext then ((r.descs[r.next + 1]?).map (fun e => e.convW.tAuto)).getD false else m.drains && d.convW.tAuto
  { ring := r.ring, tseq := r.tseq, pos := r.next, d := m, placed := [], maxPass := drain }

/-- CHAIN words that a receiving link waits for. -/
def MatDesc.wordCount (d : MatDesc) : Nat := d.batch * d.m * d.n

/-- CHAIN words of a message enter an operation that waits for them (R124, R126). -/
def MatOp.receive (o : MatOp) (m : ChainMsg) : MatOp :=
  m.words.foldl (fun p w =>
    let (c, bad) := chainLoad w.word.toNat
    { p with received := Tab.set p.received ((w.b * o.d.m + w.i) * o.d.n + w.j) c, wideInvalid := p.wideInvalid || bad })
    { o with got := o.got + max 1 m.words.length }

/-- Does an operation wait for CHAIN words of a sender and tag: more of its words, or the shape alone when it has none? -/
def MatOp.awaits (o : MatOp) (src tag : Nat) : Bool :=
  o.d.recvs && o.d.prev = src && o.d.tag = tag && o.got < max 1 o.d.wordCount

/-- Is the shape ahead of a message's words that of the descriptor (R126)? -/
def MatOp.sameShape (o : MatOp) (m : ChainMsg) : Bool := m.batch = o.d.batch && m.m = o.d.m && m.n = o.d.n

/-- The waiting messages that an operation takes, in the order they came and no more than it waits for: the operation, a
message whose shape differs, the messages that stay. -/
def MatOp.takeChains (o : MatOp) : List ChainMsg → MatOp × Option ChainMsg × List ChainMsg
  | [] => (o, none, [])
  | m :: l =>
    if !o.awaits m.src m.tag then
      let r := MatOp.takeChains o l
      (r.1, r.2.1, m :: r.2.2)
    else if o.sameShape m then MatOp.takeChains (o.receive m) l
    else (o, some m, l)

/-- What an empty receiving link, which ends at once, still owes: the comparison with its sender's shape (R126, R130; log
entry 124: DEDUCED). -/
def MatOp.owes (o : MatOp) (ctx : Nat) : List ChainMsg :=
  if o.d.wordCount = 0 ∧ o.awaits o.d.prev o.d.tag then [⟨ctx, o.d.prev, o.d.tag, o.d.batch, o.d.m, o.d.n, []⟩] else []

/-- CHAIN words that wait in the chain area enter the operation that waits for them; a shape that differs
faults the job (R126). -/
def State.feedChains (s : State) (ctx : Nat) (o : MatOp) (r : Run) : State :=
  match s.ctx? ctx with
  | none => s
  | some x =>
    match o.takeChains x.chains with
    | (_, some _, rest) => (s.setCtx ctx { x with chains := rest }).jobFault ctx 0x04 (some (r.ring, r.tseq, o.pos))
    | (o1, none, rest) => (s.setCtx ctx { x with chains := rest, chainOwed := x.chainOwed ++ o1.owes ctx }).putOp ctx o1

/-- The operation begins: its tasks are placed and wake their tiles (R101, R298, R442). -/
def State.startMat (s : State) (ctx : Nat) (r : Run) (d : Desc) (m : MatDesc) : State :=
  let s1 := s.beginDesc ctx r d
  match s1.ctx? ctx with
  | none => s
  | some x =>
    let o0 := newOp r m d
    let o := { o0 with placed := (s1.seenBy r).placeAll ctx x o0 }
    let s2 := s1.setCtx ctx { x with ops := x.ops ++ [o] }
    let s3 := ((o.placed.map (fun q => tileCluster q.2)).eraseDups).foldl State.wakeCluster s2
    let s4 := ((o.placed.map (·.2)).eraseDups).foldl State.touchTile s3
    (s4.feedChains ctx o r).refresh ctx

/-- The tensors of a matrix descriptor can be read and written: no page of theirs faults (R308). -/
def State.pagesOk (s : State) (x : Ctx) (hs : List Nat) : Bool :=
  hs.all (fun h => match x.tensor? h with
    | some t => t.obj.kind != .kvView || (s.readTensor x h).isSome
    | none => true)

/-- MATRIX (R100, R127 to R131, R165, R298). -/
def execMatrix (ctx : Nat) (s : State) : Out :=
  .next (match s.dispatchable ctx 0x20 none true with
    | none => s
    | some (x, r, d) =>
      match d.mat with
      | none => (s.rejectDesc ctx r).refresh ctx
      | some m =>
        if !s.matOk x r d m then (s.rejectDesc ctx r).refresh ctx
        else if m.tileCount != 0 && x.writesGathered d then s.faultAt ctx r 0x08
        else if m.tileCount != 0 && !(s.seenBy r).pagesOk x (handles [m.a, m.b, if m.epiNext then 0 else m.c]) then s.faultAt ctx r 0x09
        else s.startMat ctx r d m)

/-! ### Tasks on a tile (R166 to R169, R299) -/

/-- The module as the run of a task sees it. -/
def State.seenByTask (s : State) (x : Ctx) (k : TaskId) : State := s.seenFor x k.ring k.tseq

/-- Copies of pieces are made in the SRAM of a tile, or pass through its operand windows (R295, R299). -/
def State.bringIn (s : State) (ctx tile : Nat) (ps : List PieceId) : State := ps.foldl (fun a p => a.copyTo ctx tile p) s

/-- The cluster of a tile has read pieces (R295). -/
def Ctx.readBy (x : Ctx) (tile : Nat) (ps : List PieceId) : Ctx :=
  x.modPieces ps (fun _ e =>
    { e with byCluster := Tab.set e.byCluster (tileCluster tile) (Tab.getD e.byCluster (tileCluster tile) 0 + 1) })

/-- OPERANDS_READY (R166, R299): the first 32 KiB of each operand of a placed task are in the SRAM of its tile, which runs, the
stacks of their homes being reachable; it joins the ready list. -/
def execOperandsReady (tile : Nat) (task : TaskId) (s : State) : Out :=
  withUnit (tile < 320) (match s.opOf task, s.ctx? task.ctx with
    | some o, some x =>
      let v := s.seenByTask x task
      let lead := v.leadPieces x o.d task
      if s.live && o.placed.contains (task, tile) && s.tileRuns tile then
        if (x.homeDies lead).all s.stacksUp then
          let s1 := s.setOp task.ctx { o with placed := o.placed.filter (· != (task, tile)) }
          let all := v.taskPieces x o.d task (o.d.chunkPos task) (fun _ => none)
          let s2 := (s1.modCtx task.ctx (fun y => y.readBy tile all)).bringIn task.ctx tile lead
          (s2.setTile tile { s2.tile tile with ready := (s2.tile tile).ready ++ [task] }).touchTile tile
        else s.wake ⟨[], x.homeDies lead⟩
      else s
    | _, _ => s)

/-- May work of a context run on its partition's engines: it holds the slice, and no yield point has been
asked for (R118, R369, R371)? -/
def State.mayRun (s : State) (ctx : Nat) : Bool :=
  s.live && s.holdsSlice ctx
  && (match Tab.get s.parts (s.partOf ctx) with | some p => p.yield.isNone | none => false)

/-- The order of tasks on a ready list: acceptance of their tickets, position, grid order (R166). -/
def State.taskKey (s : State) (k : TaskId) : List Nat :=
  let acc := match (s.ctx? k.ctx).bind (fun x => findRun x.runs k.ring k.tseq) with | some r => r.accSeq | none => 0
  [acc, k.pos, k.b, k.ti, k.tj, k.chunk]

/-- Lexicographic order of keys. -/
def keyLt : List Nat → List Nat → Bool
  | a :: as, b :: bs => if a < b then true else if b < a then false else keyLt as bs
  | [], _ :: _ => true
  | _, [] => false

/-- The first ready task of a class by R166. -/
def State.firstReady (s : State) (ready : List TaskId) (cls : Nat) : Option TaskId :=
  let mine := ready.filter (fun k => s.mayRun k.ctx && (match s.opOf k with | some o => o.d.cls = cls | none => false))
  mine.foldl (fun best k => match best with
    | none => some k
    | some b => if keyLt (s.taskKey k) (s.taskKey b) then some k else some b) none

/-- The class an engine is typed for (R99, R165). -/
def engineClass (e : Nat) : Nat := if e = 0 then 0 else 1

/-- The index of a FREE group of an engine (R116). -/
def Engine.freeGroup (g : Engine) : Option Nat :=
  (List.range 8).find? (fun i => (Tab.getD g.groups i {}).state = .free)

/-- An engine takes a task and opens a group for it; a GATED engine waits for a start slot (R113, R115, R439). In the
popcount mode E is set at once, unless the task has no round (R77, R130; log entry 43: DEDUCED). -/
def Tile.take (t : Tile) (e : Nat) (k : TaskId) (d : MatDesc) (ta tb : Int) : Tile :=
  let g := t.engine e
  match g.freeGroup with
  | none => t
  | some i =>
    let grp : Group := { state := .opened, owner := some k
                         e := if d.mode = .pop ∧ d.rounds k.chunk ≠ 0 then some (ta + tb + 33) else none }
    { t.setEngine e { g with groups := Tab.set g.groups i grp, current := some i, stage := [], starting := g.gated } with
      ready := t.ready.filter (· != k), dispatchPtr := (e + 1) % 3 }

/-- The coarse scale of a tensor. -/
def Ctx.scaleOf (x : Ctx) (h : Nat) : Int := ((x.tensor? h).map (fun t => t.obj.t)).getD 0

/-- Is an engine at a dispatch point with a FREE group (R116, R167)? -/
def Tile.atDispatch (t : Tile) (e : Nat) : Bool := (t.engine e).current.isNone && (t.engine e).freeGroup.isSome

/-- One pass of the dispatch arbiter over engines in order: each takes the first ready task of its own class,
or of the other (R169). -/
def State.dispatchPass (s : State) (own : Bool) : Tile → List Nat → Tile
  | t, [] => t
  | t, e :: es =>
    let cls := if own then engineClass e else 1 - engineClass e
    match (if t.atDispatch e then s.firstReady t.ready cls else none) with
    | some k =>
      (match s.opOf k, s.ctx? k.ctx with
       | some o, some x => State.dispatchPass s own (t.take e k o.d (x.scaleOf o.d.a) (x.scaleOf o.d.b)) es
       | _, _ => State.dispatchPass s own t es)
    | none => State.dispatchPass s own t es

/-- The engines in round-robin order from a pointer. -/
def enginesFrom (p : Nat) : List Nat := (List.range 3).map (fun i => (p + i) % 3)

/-! ### Rounds and windows -/

/-- The OPEN group that an engine of a tile runs, with its operation and operands. -/
structure Running2 where
  idx : Nat
  g : Group
  k : TaskId
  o : MatOp
  ops : Operands
deriving DecidableEq, Repr

/-- The group that an engine has open, started or waiting for a start slot. -/
def State.opened (s : State) (tile eng : Nat) : Option Running2 :=
  let en := (s.tile tile).engine eng
  match en.current with
  | none => none
  | some i =>
    let g := Tab.getD en.groups i {}
    match g.owner with
    | none => none
    | some k =>
      match s.opOf k, s.ctx? k.ctx with
      | some o, some x =>
        (match (s.seenByTask x k).readTensor x o.d.a, (s.seenByTask x k).readTensor x o.d.b with
         | some a, some b => if g.state = .opened then some ⟨i, g, k, o, ⟨o.d, a, b⟩⟩ else none
         | _, _ => none)
      | _, _ => none

/-- The group that an engine runs: its start slot has come (R439). -/
def State.running (s : State) (tile eng : Nat) : Option Running2 :=
  if ((s.tile tile).engine eng).starting then none else s.opened tile eng

/-- The two rounds that the operand stage of an engine holds: the one its group is at and the next; what it holds of them
already stays (R107). -/
def Running2.stage (r : Running2) (held : List Staged) : List Staged :=
  ([r.g.round, r.g.round + 1].filter (· < r.o.d.rounds r.k.chunk)).map (fun n =>
    (held.find? (fun q => q.round = n)).getD (r.ops.staged (r.o.d.roundAt r.k n) n))

/-- The k positions of a round. -/
def Running2.positions (r : Running2) (round : Nat) : List Nat :=
  let at_ := r.o.d.roundAt r.k round
  at_.spans.flatMap (fun q => at_.block q.2)

/-- The rounds that the operand stage of an engine holds; the module brings their blocks into the tile (R107, R299).
(Log entry 125: DEDUCED.) -/
def State.fillStage (s : State) (tile eng : Nat) : State :=
  match s.opened tile eng with
  | none => s
  | some r =>
    let t := s.tile tile
    let e := t.engine eng
    let st := r.stage e.stage
    let new := st.filter (fun q => !e.stage.contains q)
    let s1 := s.setTile tile (t.setEngine eng { e with stage := st })
    match s.ctx? r.k.ctx with
    | some x => s1.bringIn r.k.ctx tile
        ((s.seenByTask x r.k).taskPieces x r.o.d r.k (new.flatMap (fun q => r.positions q.round)) (fun _ => none))
    | none => s1

/-- Put a group back into its engine. -/
def State.putGroup (s : State) (tile eng i : Nat) (g : Group) : State :=
  let t := s.tile tile
  let e := t.engine eng
  (s.setTile tile (t.setEngine eng { e with groups := Tab.set e.groups i g })).touchTile tile

/-- TASK_DISPATCH (R167 to R169): own-class claims, then borrowing; the engines fetch the first rounds (R107). -/
def execTaskDispatch (tile : Nat) (s : State) : Out :=
  withUnit (tile < 320) (if s.live && s.tileRuns tile then
      let t0 := s.tile tile
      let t1 := s.dispatchPass true t0 (enginesFrom t0.dispatchPtr)
      let t2 := s.dispatchPass false t1 (enginesFrom t1.dispatchPtr)
      ([0, 1, 2].foldl (fun a e => a.fillStage tile e) (s.setTile tile t2)).touchTile tile
    else s)

/-- What the operand stage of an engine holds of a round. -/
def State.stagedRound (s : State) (tile eng round : Nat) : Option Staged :=
  ((s.tile tile).engine eng).stage.find? (fun q => q.round = round)

/-- ROUND_START (R104, R107, R109, R110): a round whose operands are in the stage starts, or is skipped; the engine
fetches the next into the stage. -/
def execRoundStart (tile eng : Nat) (s : State) : Out :=
  withUnit (tile < 320 && eng < 3) (match s.running tile eng with
    | some r =>
      (match s.stagedRound tile eng r.g.round with
       | some st =>
         if s.mayRun r.k.ctx && s.tileRuns tile && !r.g.inRound && r.g.round < r.o.d.rounds r.k.chunk then
           (s.putGroup tile eng r.idx (r.ops.runRound (r.o.d.roundAt r.k r.g.round) st r.g)).fillStage tile eng
         else s
       | none => s)
    | none => s)

/-- WINDOW_CLOSE (R74). -/
def execWindowClose (tile eng : Nat) (s : State) : Out :=
  withUnit (tile < 320 && eng < 3) (match s.running tile eng with
    | some r =>
      if s.live && s.tileRuns tile && r.g.inRound then
        (s.putGroup tile eng r.idx (r.ops.endWindow (r.o.d.roundAt r.k r.g.round) r.g)).fillStage tile eng
      else s
    | none => s)

/-- The figures of a group enter its operation (R132). -/
def MatOp.countGroup (o : MatOp) (g : Group) : MatOp :=
  { o with
    skipped := o.skipped + g.skipped
    eMax := optMax o.eMax g.e
    risesMax := max o.risesMax g.rises
    bound := o.bound || g.bound
    rangeRaised := o.rangeRaised || g.rangeRaised
    eLimit := o.eLimit || g.eLimit }

/-- GROUP_CLOSE (R105, R115): after the last round, the partial tree completes and the group is CLOSED. -/
def execGroupClose (tile eng : Nat) (s : State) : Out :=
  withUnit (tile < 320 && eng < 3) (match s.running tile eng with
    | some r =>
      if s.live && s.tileRuns tile && !r.g.inRound && r.g.round = r.o.d.rounds r.k.chunk then
        let t := s.tile tile
        let g := { r.o.d.closeGroup r.g with state := .closed, closedAt := t.closeCtr }
        let e := t.engine eng
        let s1 := s.setTile tile { t.setEngine eng { e with groups := Tab.set e.groups r.idx g, current := none, stage := [] } with closeCtr := t.closeCtr + 1 }
        (s1.setOp r.k.ctx { r.o.countGroup g with ves := Tab.set r.o.ves (r.o.d.tileNo r.k.b r.k.ti r.k.tj) tile }).touchTile tile
      else s
    | none => s)

/-! ### Parking and merging (R121, R122) -/

/-- A task's tile number, and the key of its chunk's state. -/
def MatOp.tileOf (o : MatOp) (k : TaskId) : Nat := o.d.tileNo k.b k.ti k.tj
def MatOp.chunkKey (o : MatOp) (k : TaskId) : Nat := o.tileOf k * (o.d.chunkCount + 1) + k.chunk

/-- Outputs drain straight from a group: one chunk, no sum before it, none received (R121). -/
def MatOp.direct (o : MatOp) : Bool := o.d.chunkCount = 1 && !o.d.accIn && !o.d.recvs && o.d.drains

/-- The group of a tile with an index, when it is CLOSED. -/
def State.closedGroup (s : State) (tile eng i : Nat) : Option (Group × TaskId) :=
  let g := Tab.getD ((s.tile tile).engine eng).groups i {}
  match g.state, g.owner with
  | .closed, some k => some (g, k)
  | _, _ => none

/-- A group becomes FREE. -/
def State.freeAt (s : State) (tile eng i : Nat) : State := s.putGroup tile eng i {}

/-- What parking the states of a CLOSED group changes in its operation: its chunk is parked when the running sum before it
is not yet complete (R122), or its states are final and are parked for the maximum pass (R161); none when its route
parks nothing. -/
def MatOp.park (o : MatOp) (k : TaskId) (ws : List Chain) : Option MatOp :=
  if o.direct then (if o.maxPass then some { o with finals := Tab.set o.finals (o.tileOf k) ws } else none)
  else if o.nextChunk (o.tileOf k) < k.chunk then some { o with parked := Tab.set o.parked (o.chunkKey k) ws }
  else none

/-- GROUP_PARK (R122, R161): a CLOSED group is written to the chain area, and is FREE. While the area is full it stays
CLOSED (R289). -/
def execGroupPark (tile eng group : Nat) (s : State) : Out :=
  withUnit (tile < 320 && eng < 3 && group < 8) (match s.closedGroup tile eng group with
    | some (g, k) =>
      match s.opOf k, s.ctx? k.ctx with
      | some o, some x =>
        (match o.park k (g.outputs (o.d.mt * o.d.nt)) with
         | some p => if s.live && x.areaTakes o p then (s.freeAt tile eng group).putOp k.ctx p else s
         | none => s)
      | _, _ => s
    | none => s)

/-- Combine two lists of states in place; whether the range rule and the limit of E acted. -/
def combineAll (a b : List Chain) : List Chain × Bool × Bool :=
  let cs := (a.zip b).map (fun p => p.1.combine p.2)
  (cs.map (·.1), cs.any (·.2.1), cs.any (·.2.2))

/-- The tile, engine and index of the CLOSED group of a task. -/
def State.groupOf (s : State) (k : TaskId) : Option (Nat × Nat × Nat) :=
  (s.tiles.flatMap (fun t => t.2.engines.flatMap (fun e => e.2.groups.filterMap (fun g =>
    if g.2.state = .closed && g.2.owner = some k then some (t.1, e.1, g.1) else none)))).head?

/-- The state of a chunk whose group was saved in the spill area, and the module without it (R118). -/
def State.takeSaved (s : State) (o : MatOp) (k : TaskId) : Option (List Chain × State) :=
  let here (v : SavedAt) : Bool := v.group.state = .closed && v.group.owner = some k
  (((s.ctx? k.ctx).map (fun x => x.saved)).getD [] |>.find? here).map (fun v =>
    (v.group.outputs (o.d.mt * o.d.nt), s.modCtx k.ctx (fun x => { x with saved := x.saved.filter (fun w => !here w) })))

/-- The state of a chunk: parked, in a CLOSED group, or in one saved in the spill area (R118), and the state of
the module without it. -/
def State.takeChunk (s : State) (o : MatOp) (k : TaskId) : Option (List Chain × MatOp × State) :=
  match Tab.get o.parked (o.chunkKey k) with
  | some ws => some (ws, { o with parked := Tab.erase o.parked (o.chunkKey k) }, s)
  | none =>
    match s.groupOf k with
    | some (t, e, i) => some ((Tab.getD ((s.tile t).engine e).groups i {}).outputs (o.d.mt * o.d.nt), o, s.freeAt t e i)
    | none => (s.takeSaved o k).map (fun r => (r.1, o, r.2))

/-- The states that ACC_IN loads for a tile, and whether a word was invalid (R124, R125). -/
def Ctx.loadAcc (x : Ctx) (o : MatOp) (k : TaskId) : List Chain × Bool :=
  match x.tensor? o.d.acc with
  | none => ([], false)
  | some t =>
    let ws := (o.d.tileIdx k).map (fun p => match p with | some e => chainLoad (wideAt t e) | none => (.empty, false))
    (ws.map (·.1), ws.any (·.2))

/-- A tile's running sum after a chunk (or the received state); final when nothing more comes. -/
def MatOp.setSum (o : MatOp) (k : TaskId) (ws : List Chain) : MatOp :=
  let n := k.chunk + 1
  if n = o.d.chunkCount + (if o.d.recvs then 1 else 0) then
    { o with finals := Tab.set o.finals (o.tileOf k) ws, sums := Tab.erase o.sums (o.tileOf k) }
  else { o with sums := Tab.set o.sums (o.tileOf k) ⟨n, some ws⟩ }

/-- Two states are combined for a task. A combination stands outside every group: a range rise or the limit of E met in
it sets RANGE_RAISED or E_LIMIT and leaves E_MAX and RISES_MAX as they are (R132; log entry 126: DESIGN CHOICE). -/
def MatOp.merge (o : MatOp) (k : TaskId) (a b : List Chain) : MatOp :=
  let (ws, raised, limited) := combineAll a b
  { o.setSum k ws with rangeRaised := o.rangeRaised || raised, eLimit := o.eLimit || limited }

/-- The received states of a tile leave the chain area once they are combined. -/
def MatOp.dropRecv (o : MatOp) (k : TaskId) : MatOp :=
  { o with received := (o.d.tileIdx k).foldl (fun t p => match p with | some e => Tab.erase t e | none => t) o.received }

/-- A combination's result is taken when the chain area has room for what it parks there (R161, R289). -/
def State.putMerged (s : State) (x : Ctx) (ctx : Nat) (old new : MatOp) (s1 : State) : State :=
  if x.areaTakes old new then s1.putOp ctx new else s

/-- MERGE_COMBINE (R121): the merge path takes a chunk's state into the running sum of its tile once the sum
of the chunks before it stands; chunk number `chunkCount` stands for the received state. A final state that was saved
while it waited to be parked for a maximum pass is parked from the spill area (R118, R161). (Log entry 110: DEDUCED.) -/
def execMergeCombine (task : TaskId) (s : State) : Out :=
  .next (match s.opOf task, s.ctx? task.ctx with
    | some o, some x =>
      let tile := o.tileOf task
      if !s.live || Tab.has o.finals tile then s
      else if o.direct then
        (match (if o.maxPass then s.takeSaved o task else none) with
         | some (ws, s1) => s.putMerged x task.ctx o { o with finals := Tab.set o.finals tile ws } s1
         | none => s)
      else if o.nextChunk tile != task.chunk then s
      else if task.chunk = o.d.chunkCount then
        match o.recvTile task, (Tab.get o.sums tile).bind (·.words) with
        | some got, some run => s.putMerged x task.ctx o ((o.dropRecv task).merge task got run) s
        | _, _ => s
      else
        match s.takeChunk o task with
        | none => s
        | some (ws, o1, s1) =>
          if task.chunk = 0 then
            if o.d.accIn then
              let (acc, bad) := x.loadAcc o task
              s.putMerged x task.ctx o { o1.merge task acc ws with wideInvalid := o1.wideInvalid || bad } s1
            else s.putMerged x task.ctx o (o1.setSum task ws) s1
          else
            match (Tab.get o.sums tile).bind (·.words) with
            | some run => s.putMerged x task.ctx o (o1.merge task run ws) s1
            | none => s
    | _, _ => s)

/-! ### Drains (R117, R148) -/

/-- The CLOSED group of an engine that awaits the vector engine: the one that closed first. -/
def State.awaitsDrain (s : State) (t : Tile) (e : Nat) : Option (Nat × Group × TaskId) :=
  (t.engine e).groups.foldl (fun best g =>
    match g.2.state, g.2.owner with
    | .closed, some k =>
      (match s.opOf k with
       | some o =>
         if o.direct && !o.maxPass then
           (match best with
            | some (i, b, q) => if g.2.closedAt < b.closedAt then some (g.1, g.2, k) else some (i, b, q)
            | none => some (g.1, g.2, k))
         else best
       | none => best)
    | _, _ => best) none

/-- GROUP_DRAIN_START (R117, R148): the vector engine reads a CLOSED group into a free stage, by round robin
among the engines. -/
def execGroupDrainStart (tile : Nat) (s : State) : Out :=
  withUnit (tile < 320) (
    let t := s.tile tile
    match (enginesFrom t.drainPtr).find? (fun e => (s.awaitsDrain t e).isSome) with
    | some e =>
      (match s.awaitsDrain t e with
       | some (i, g, k) =>
         if s.live && s.tileRuns tile && t.stages.length < 2 then
           let outs := match s.opOf k with | some o => o.d.mt * o.d.nt | none => 0
           let en := t.engine e
           (s.setTile tile { t.setEngine e { en with groups := Tab.set en.groups i { g with state := .draining } } with
             stages := t.stages ++ [(e, i, false, k, g.outputs outs)]
             drainPtr := (e + 1) % 3 }).touchTile tile
         else s
       | none => s)
    | none => s)

/-- Apply a function to the first element that satisfies a predicate. -/
def modFirst {α : Type} (p : α → Bool) (f : α → α) : List α → List α
  | [] => []
  | a :: l => if p a then f a :: l else a :: modFirst p f l

/-- GROUP_DRAIN_READ_DONE (R148): a group has been read, and is FREE. -/
def execGroupDrainReadDone (tile : Nat) (s : State) : Out :=
  withUnit (tile < 320) (
    let t := s.tile tile
    match t.stages.find? (fun g => !g.2.2.1) with
    | some (e, i, _, _, _) =>
      (s.setTile tile { t with stages := modFirst (fun g => !g.2.2.1) (fun g => (g.1, g.2.1, true, g.2.2.2)) t.stages }).freeAt tile e i
    | none => s)

/-- DRAIN_STAGE_DONE (R129, R146, R148): the vector engine has finished a stage; its outputs are final. The
tensor is written when the last of them is. -/
def execDrainStageDone (tile : Nat) (s : State) : Out :=
  withUnit (tile < 320) (
    let t := s.tile tile
    match t.stages.find? (fun g => g.2.2.1) with
    | some st =>
      let s1 := (s.setTile tile { t with stages := t.stages.erase st }).touchTile tile
      (match s1.opOf st.2.2.2.1 with
       | some o => s1.putOp st.2.2.2.1.ctx { o with finals := Tab.set o.finals (o.tileOf st.2.2.2.1) st.2.2.2.2 }
       | none => s1)
    | none => s)

/-! ### CHAIN_WORDS (R126) -/

/-- Does an operation need the words of a message now: does the running sum of every tile they lie in stand? -/
def MatOp.needsNow (o : MatOp) (m : ChainMsg) : Bool :=
  m.words.all (fun w => o.nextChunk (o.d.tileNo w.b (w.i / o.d.mt) (w.j / o.d.nt)) = o.d.chunkCount)

/-- CHAIN words arrive: into the operation that waits for them, or into the job's chain area; a shape that differs faults
the job. Words for which the area has no room stay in the buffer of the port they came by (R289), and so do those for a job
not yet created here (log entry 52: DEDUCED). -/
def execChainWords (src : Nat) (s : State) : Out :=
  .next (match takeFrom src 2 s.net.inbox with
    | some (⟨_, _, _, .chain m, _, slots⟩, rest) =>
      let s1 := s.takeMsg 2 slots rest
      if !s.live then s
      else
        (match s.ctx? m.ctx with
         | none => s
         | some x =>
           if x.state = .faulted then s1
           else
             match x.chainOwed.find? (fun o => o.src = src && o.tag = m.tag) with
             | some o =>
               let s2 := s1.setCtx m.ctx { x with chainOwed := x.chainOwed.erase o }
               if o.batch = m.batch ∧ o.m = m.m ∧ o.n = m.n then s2 else s2.jobFault m.ctx 0x04 none
             | none =>
               match x.ops.find? (fun o => o.awaits src m.tag) with
               | none => if x.chainRoom m.areaBytes then s1.setCtx m.ctx { x with chains := x.chains ++ [{ m with src := src }] } else s
               | some o =>
                 if !o.sameShape m then s1.jobFault m.ctx 0x04 (some (o.ring, o.tseq, o.pos))
                 else if o.needsNow m || x.chainRoom m.areaBytes then s1.putOp m.ctx (o.receive m)
                 else s)
    | _ => s)

/-! ### EPILOGUE (R146, R147) -/

/-- The matrix operation before the next descriptor. -/
def Ctx.opBefore (x : Ctx) (r : Run) : Option MatOp :=
  x.ops.find? (fun o => o.ring = r.ring && o.tseq = r.tseq && o.pos + 1 = r.next)

/-- Is a scale or bias vector a tensor of the given length (log entry 48: DEDUCED), in any format but an integer one, B1
among them (log entry 127: DESIGN CHOICE)? -/
def State.epiVecOk (s : State) (x : Ctx) (r : Run) (h len : Nat) : Bool :=
  match x.operand r h with
  | some o => !o.fmt.isInt && elemCount (s.dimsOf o) = len && rowLen (s.dimsOf o) = len
  | none => false

/-- The checks of a VEC_EPI that name tensors (R147, R164). -/
def State.epiOk (s : State) (x : Ctx) (r : Run) (d : Desc) (m : MatDesc) : Bool :=
  let empty := m.tileCount = 0
  match x.operand r d.dst with
  | none => false
  | some o =>
    d.convW.dst = some o.fmt && (empty || matchesShape (s.dimsOf o) m.batch m.m m.n)
    && (d.f 0 19 18 < 2 || s.epiVecOk x r d.srcA (if d.f 0 19 18 = 2 then m.n else m.m))
    && (d.f 0 21 20 = 0 || s.epiVecOk x r d.srcB (if d.f 0 21 20 = 1 then m.n else m.m))
    && (empty && (d.flagH = 0 || (x.operand r d.flagH).any (fun f => f.fmt = .int8)) || s.flagOk x r d.flagH (rowsOf (s.dimsOf o)))

/-- The stages of R146 on one drained value. -/
def epiElem (d : Desc) (tc : Int) (sa : Src) (sb : Src) (v : Val) : VeVal :=
  let v0 := veEnter v tc
  let code := l16Val d.scaleCode
  let v1 := match d.f 0 19 18 with
    | 0 => v0
    | 1 => veRound (mulVal v0.x code) v0.tc v0.range
    | _ => veRound (mulVal v0.x (mulVal code (sa.v.scale (-sa.tc)))) (v0.tc + sa.tc) v0.range
  let v2 := if d.f 0 21 20 = 0 then v1 else veAdd v1 sb.enter
  veActOpt d.actOf v2

/-- The value and range mark of each output after the stages. -/
def epiVals (d : Desc) (o : MatOp) (tc : Int) (a b : TData) : List (Val × Bool) :=
  let va := a.flat
  let vb := b.flat
  let pick (byCol : Bool) (t : TData) (l : List Val) (i j : Nat) : Src := ⟨t.fmt, t.t, l.getD (if byCol then j else i) (.zero false)⟩
  o.d.places.map (fun p => ofPair (epiElem d tc (pick (d.f 0 19 18 = 2) a va p.2.1 p.2.2)
    (pick (d.f 0 21 20 = 1) b vb p.2.1 p.2.2) (o.output p.1 p.2.1 p.2.2).drain))

/-- Run the epilogue of an operation; none when a page faults. -/
def State.runEpi (s : State) (x : Ctx) (r : Run) (d : Desc) (o : MatOp) : Option VecDone :=
  match x.tensor? d.dst with
  | none => none
  | some t =>
    if o.d.tileCount = 0 then some { x := x, st := .clear, flags := [] }
    else
      match s.readOpt x d.srcA, s.readOpt x d.srcB with
      | some a, some b =>
        let vs := epiVals d o (x.scaleOf o.d.a + x.scaleOf o.d.b) a b
        let dims := s.dimsOf t.obj
        let m := s.discardOf x r r.next d.dst dims
        let marks := (numbered (chunksOf (rowLen dims) vs.length (vs.map (·.2)))).flatMap
          (fun row => (numbered row.2).map (fun (e : Nat × Bool) => e.2 && !m.at row.1 e.1))
        let flags := rangeFlags (rowLen dims) marks
        let out := s.convInto t.obj d.convW (x.draw r r.next) m (vs.map (·.1))
        let low := (((Tab.get s.parts x.params.partition).map Part.tiles).bind List.head?).getD 0
        (match s.storeOut x d.dst m out with
         | none => none
         | some (y, st) => (s.storeFlags (y.countDiscards m) d.flagH flags).map (fun z =>
             { x := z, st := st, flags := flags, ves := o.veCounts low out.marks.flatten }))
      | _, _ => none

/-- EPILOGUE (R146, R147): the drained values of the matrix descriptor before it are scaled, biased, activated
and written. (Log entry 98: DEDUCED.) -/
def execEpilogue (ctx : Nat) (s : State) : Out :=
  .next (match s.dispatchable ctx 0x31 (some 0) true with
    | none => s.wakeNext ctx
    | some (x, r, d) =>
      match x.opBefore r with
      | none => s
      | some o =>
        let s1 := s.dropOp ctx o
        s1.vecRun ctx r d (s.epiOk x r d o.d) (fun y => (s.seenBy r).runEpi y r d o))

end Sys2Proof.Machine
end

