-- ==== Sys2Proof/Machine/LowRank.lean ====
section
/-! DEFINITION. The steps of low-rank thinning (R214 to R216). The engines' work on them is evaluated whole, in
the order that R100 to R121 and R150 fix. -/

namespace Sys2Proof.Machine

/-- The CONV word of an internal write: L16 nearest-even; T and OVF_INF are not named (log entries 3: DEDUCED and 38: UNVERIFIED). -/
def lowConv : Conv :=
  { src := none, dst := some .l16, rnd := some .nearestEven, ovfInf := Config.internalOvfInf, tAuto := false
    tValue := Config.internalT.toInt, zeroPoint := 0, intMode := false, reserved := false }

/-- Values written as an L16 tensor of a shape. -/
def lowWrite (dims : List Nat) (vals : List Val) : TData × ConvStatus :=
  let o := convValues lowConv .l16 ⟨0, 0, 0⟩ (chunksOf (rowLen dims) vals.length vals)
  (⟨.l16, o.t, dims, o.codes, o.scales⟩, o.st)

/-- Step 1: G′ = G + E. -/
def lowG (g e : TData) : TData × ConvStatus :=
  lowWrite g.dims ((g.flat.zip e.flat).map (fun p => (veAdd (veEnter p.1 g.tc) (veEnter p.2 e.tc)).full))

/-- The product of steps 2, 5 and 7. -/
def lowMat (m n k : Nat) (transA transB : Bool) : MatDesc :=
  { shape := 0, transA := transA, transB := transB, cls := 0, epiNext := false, zskipDis := false, aFmt := .l16, bFmt := .l16
    accIn := false, accOut := false, link := 0, bcastB := false, conv := 0#32, a := 0, b := 0, c := 0, acc := 0
    m := m, n := n, batch := 1, k := k, kChunk := 65536, prev := 0, nextPeer := 0, tag := 0 }

/-- The states of a closed group after a chunk of an output tile (R104, R105). -/
def Operands.chunkStates (o : Operands) (tile chunk : Nat) : List Chain :=
  let (b, ti, tj) := o.d.tileAt tile
  let k : TaskId := ⟨0, 0, 0, 0, b, ti, tj, chunk⟩
  (o.d.closeGroup (iterUp (fun g n => o.startRound (o.d.roundAt k n) g) (o.d.rounds chunk) {})).outputs (o.d.mt * o.d.nt)

/-- The states of an output tile: its chunks combined in order (R121). -/
def Operands.tileStates (o : Operands) (tile : Nat) : List Chain :=
  (List.range (o.d.chunkCount - 1)).foldl (fun acc c => (combineAll acc (o.chunkStates tile (c + 1))).1) (o.chunkStates tile 0)

/-- The drained values of a product, row by row. -/
def Operands.product (o : Operands) : List Val :=
  let tiles := (List.range o.d.tileCount).map o.tileStates
  o.d.places.map (fun p =>
    ((tiles.getD (o.d.tileNo p.1 (p.2.1 / o.d.mt) (p.2.2 / o.d.nt)) []).getD
      (p.2.1 % o.d.mt * o.d.nt + p.2.2 % o.d.nt) .empty).drain)

/-- Rows and columns of a rank-2 tensor. -/
def TData.rows (d : TData) : Nat := d.dims.headD 0
def TData.cols (d : TData) : Nat := rowLen d.dims

/-- Steps 2 and 5: P = G′ · Qs and Q = G′ᵀ · P̂. -/
def lowP (g q : TData) : TData × ConvStatus :=
  lowWrite [g.rows, q.cols] (Operands.product ⟨lowMat g.rows q.cols g.cols false false, g, q⟩)
def lowQ (g p : TData) : TData × ConvStatus :=
  lowWrite [g.cols, p.cols] (Operands.product ⟨lowMat g.cols p.cols g.rows true false, g, p⟩)

/-- Step 7: A = P̂ · Qᵀ, as drained. -/
def lowA (p q : TData) : List Val := Operands.product ⟨lowMat p.rows q.rows p.cols false true, p, q⟩

/-! ### Orthonormalisation (R215) -/

/-- A SUM over the products of two columns, in the tree of R150. -/
def dotCols (a b : List VeVal) : VeVal := (treeFold veAdd a.length ((a.zip b).map (fun e => veMul e.1 e.2))).getD veZero

/-- A column freed of the columns before it. -/
def subtractCols (before : List (List VeVal)) (p : List VeVal) : List VeVal :=
  before.foldl (fun p c =>
    let t := dotCols c p
    (p.zip c).map (fun e => veSub e.1 (veMul t e.2))) p

/-- A column brought to norm 1, and whether it was ZERO. -/
def normCol (p : List VeVal) : List VeVal × Bool :=
  let q := dotCols p p
  match q.x with
  | .zero _ => (p.map (fun _ => veZero), true)
  | _ =>
    let k := veDiv ⟨oneVal, 0, false⟩ (veSqrt q)
    (p.map (fun e => veMul e k), false)

/-- The columns in ascending order; whether any became ZERO. -/
def gramSchmidt (cols : List (List VeVal)) : List (List VeVal) × Bool :=
  cols.foldl (fun acc p =>
    let (c, z) := normCol (subtractCols acc.1 p)
    (acc.1 ++ [c], acc.2 || z)) ([], false)

/-- Step 4: P̂ from the summed P, and RANK_DEFICIENT. -/
def lowOrtho (p : TData) : TData × ConvStatus × Bool :=
  let vals := p.flat
  let col (j : Nat) : List VeVal := (List.range p.rows).map (fun i => veEnter (vals.getD (i * p.cols + j) (.zero false)) p.tc)
  let (cols, z) := gramSchmidt ((List.range p.cols).map col)
  let out := (List.range p.rows).flatMap (fun i => cols.map (fun c => (c.getD i veZero).full))
  let (d, st) := lowWrite p.dims out
  (d, st, z)

/-- Step 9: E = G′ − s × A. -/
def lowE (g : TData) (s : Val) (tc : Int) (a : List Val) : TData × ConvStatus :=
  lowWrite g.dims ((g.flat.zip a).map (fun e => (veMulAdd (veEnter (negVal s) 0) (veEnter e.2 tc) (veEnter e.1 g.tc)).full))

end Sys2Proof.Machine
end

