-- ==== Sys2Proof/Machine/Colls.lean ====
section
/-! DEFINITION. Collectives: their checks, their phases, the messages of the exchange (R194 to R222, R270,
R274). -/

namespace Sys2Proof.Machine

/-! ### Fields (Table 7.2) -/

def Desc.collAll (d : Desc) : Bool := d.f 0 8 8 = 1
def Desc.collQ32 (d : Desc) : Bool := d.f 0 9 9 = 1
def Desc.collLow (d : Desc) : Bool := d.f 0 10 10 = 1
def Desc.collRank (d : Desc) : Nat := 2 ^ (d.f 0 13 11 + 2)
def Desc.epoch (d : Desc) : Nat := d.f 0 31 16
def Desc.groupId (d : Desc) : Nat := d.f 2 15 0
def Desc.shardChunks (d : Desc) : Nat := d.f 2 63 32
def Desc.collScale (d : Desc) : Nat := d.f 3 15 0
def Desc.efH (d : Desc) : Nat := d.f 3 63 32
def Desc.qstateH (d : Desc) : Nat := d.f 4 31 0
def Desc.newGroup (d : Desc) : Nat := d.f 5 31 16
def Desc.newShard (d : Desc) : Nat := d.f 5 63 32
def Desc.logical (d : Desc) : Nat := d.f 6 47 0

/-! ### Checks that name objects (Table 7.11) -/

/-- Is a handle the shard tensor of a shard of the given length; 0 for an empty one? -/
def State.isShard (s : State) (x : Ctx) (r : Run) (h len : Nat) : Bool :=
  if len = 0 then h = 0
  else match x.operand r h with
    | some o => s.dimsOf o = [len]
    | none => false

/-- Is a handle an L16 tensor of a shape? -/
def State.isL16 (s : State) (x : Ctx) (r : Run) (h : Nat) (dims : List Nat) : Bool :=
  match x.operand r h with
  | some o => o.fmt = .l16 && s.dimsOf o = dims
  | none => false

/-- Formats that XREDUCE sums. -/
def reducible (f : Fmt) : Bool := f = .l8 || f = .lg8 || f = .l16 || f = .l32 || f = .fp32 || f = .bf16

/-- The checks of XREDUCE for a member of rank k. -/
def State.xreduceOk (s : State) (x : Ctx) (r : Run) (d : Desc) (n k : Nat) : Bool :=
  match x.operand r d.srcA with
  | none => false
  | some o =>
    let dims := s.dimsOf o
    let len := (shardSpan (elemCount dims) d.shardChunks k).2
    reducible o.fmt && chunkNo (elemCount dims) ≤ n * d.shardChunks
    && (if d.collAll then (match x.operand r d.srcB with | some t => s.dimsOf t = dims | none => false)
        else s.isShard x r d.srcB len)
    && (match x.operand r d.srcB with | some t => d.convW.dst = some t.fmt | none => true)
    && (!d.collLow || (o.fmt = .l16 && dims.length = 2 && s.isL16 x r d.efH dims
      && s.isL16 x r d.qstateH [rowLen dims, d.collRank]))

/-- The checks of XGATHER. -/
def State.xgatherOk (s : State) (x : Ctx) (r : Run) (d : Desc) (n k : Nat) : Bool :=
  match x.operand r d.srcB with
  | none => false
  | some o =>
    let elems := elemCount (s.dimsOf o)
    chunkNo elems ≤ n * d.shardChunks && s.isShard x r d.srcA (shardSpan elems d.shardChunks k).2

/-- The checks of PERMUTE; both groups hold the same members. (Log entry 53: DEDUCED.) -/
def State.permuteOk (s : State) (x : Ctx) (r : Run) (d : Desc) (old new : List Nat) (me : Nat) : Bool :=
  old.length = new.length && old.all new.contains
  && chunkNo d.logical ≤ old.length * d.shardChunks && chunkNo d.logical ≤ new.length * d.newShard
  && s.isShard x r d.srcA (shardSpan d.logical d.shardChunks (rankOf old me)).2
  && s.isShard x r d.srcB (shardSpan d.logical d.newShard (rankOf new me)).2

/-! ### A new collective -/

/-- Format and T as a digest covers them. -/
def TObj.face (o : TObj) : Fmt × Int := (o.fmt, if o.fmt.hasT then o.t else 0)

/-- The face of a named shard. -/
def Ctx.face (x : Ctx) (h : Nat) : Option (Fmt × Int) := if h = 0 then none else (x.tensor? h).map (fun t => t.obj.face)

/-- The digest, with a face or none. -/
def Desc.digest (d : Desc) (elems : Nat) (face : Option (Fmt × Int)) : Digest :=
  { opcode := d.opcode, all := d.collAll, q32 := d.collQ32, lowRank := d.collLow, rank := d.f 0 13 11, scale := d.collScale
    elems := elems, shardChunks := d.shardChunks, newGroup := d.newGroup, newShardChunks := d.newShard
    fmt := face.map (·.1), t := (face.map (·.2)).getD 0 }

/-- Digests agree: all but the faces, and the faces where both name one (R210, R217, R219). -/
def Digest.agrees (a b : Digest) : Bool :=
  decide ({ a with fmt := none, t := 0 } = { b with fmt := none, t := 0 })
  && (a.fmt.isNone || b.fmt.isNone || (a.fmt = b.fmt && a.t = b.t))

/-- A face that this member did not know is kept for the later comparisons. -/
def Digest.learn (a b : Digest) : Digest := if a.fmt.isNone then { a with fmt := b.fmt, t := b.t } else a

/-- The collective of a descriptor as it begins on this member. -/
def newColl (r : Run) (d : Desc) (ctx me : Nat) (kind : CollKind) (g : XGroup) (newMembers : List Nat) (dg : Digest) : Coll :=
  { ring := r.ring, tseq := r.tseq, pos := r.next, kind := kind
    head := ⟨ctx, d.groupId, d.epoch, g.obj.nextNumber, 0, 0⟩
    members := g.obj.members, nodes := g.nodes, digest := dg, newMembers := newMembers, newEpoch := d.f 5 15 0
    src := d.srcA, dst := d.srcB, ef := d.efH, qstate := d.qstateH, conv := BitVec.ofNat 32 (d.f 0 63 32)
    covered := [rankOf g.obj.members me] }

/-- A round over values begins: figures of this member, nothing summed. -/
def Coll.startRound (me round : Nat) (vals : List Val) (c : Coll) : Coll :=
  { c with
    head := { c.head with round := round, run := 0 }, phase := .scale, work := vals, figures := figuresOf vals
    covered := [rankOf c.members me], near := [], far := [], sums := [], bad := [], failed := [], verifyCovered := [] }

/-- G′ and Qs of a low-rank reduction; none when a page faults. -/
def State.lowInputs (s : State) (x : Ctx) (c : Coll) : Option (TData × ConvStatus × TData) :=
  let v := s.seenFor x c.ring c.tseq
  match v.readTensor x c.src, v.readTensor x c.ef, v.readTensor x c.qstate with
  | some g, some e, some q => let (g1, st) := lowG g e; some (g1, st, q)
  | _, _, _ => none

/-- The values of an XREDUCE's first round, with the status of the internal writes. -/
def State.firstRound (s : State) (x : Ctx) (c : Coll) : Option (List Val × ConvStatus) :=
  if c.digest.lowRank then
    (s.lowInputs x c).map (fun e => let (p, st) := lowP e.1 e.2.2; (p.flat, e.2.1.join st))
  else ((s.seenFor x c.ring c.tseq).readTensor x c.src).map (fun t => (t.flat, .clear))

/-! ### Keeping and sending -/

def Coll.is (c : Coll) (k : Coll) : Bool := c.ring = k.ring && c.tseq = k.tseq && c.pos = k.pos

def Ctx.putColl (x : Ctx) (c : Coll) : Ctx := { x with colls := x.colls.map (fun k => if k.is c then c else k) }
def Ctx.dropColl (x : Ctx) (c : Coll) : Ctx := { x with colls := x.colls.filter (fun k => !k.is c) }

/-- The members but this one. -/
def Coll.others (c : Coll) (me : Nat) : List Nat := c.members.filter (· != me)

/-- This member's figures and digest go to every other member (R209). -/
def State.sendScale (s : State) (ctx me : Nat) (c : Coll) (dg : Digest) : State :=
  s.sendAll (c.others me) (some (s.partOf ctx)) (.xs ⟨c.head, [rankOf c.members me], dg, c.figures, c.nodes⟩)

/-- A hallmark mismatch: the logbook's count and the record of the window (R207, R429). -/
def State.hallmarkMiss (s : State) (ctx : Nat) (c : Coll) (unit : Nat) : State :=
  (s.countEvent 7).coalesce ⟨0x06, 0x09, unit, ctx, s.partOf ctx, 1, s.msStart, 0, 0, c.tseq, c.ring, c.head.group, c.head.number,
    if c.head.run = 2 then 4 else 6⟩

/-- A collective goes on: it is kept, its messages are sent, its mismatches recorded. -/
def State.putOut (s : State) (ctx : Nat) (o : CollOut) : State :=
  let s1 := s.modCtx ctx (fun x => x.putColl o.c)
  let s2 := o.out.foldl (fun a m => a.send m.1 (some (s.partOf ctx)) m.2) s1
  o.miss.foldl (fun a m => (List.range m.2).foldl (fun b _ => b.hallmarkMiss ctx o.c m.1) a) s2

/-- A collective retires with its record; the tensors it wrote are counted by then (R212, R293). -/
def State.retire (s : State) (ctx : Nat) (y : Ctx) (c : Coll) (st : ConvStatus) : State :=
  ((s.setCtx ctx (y.dropColl c)).endDesc ctx c.ring c.tseq c.pos (c.record st.byte)).refresh ctx

def State.faultColl (s : State) (ctx : Nat) (c : Coll) (cause : Nat) : State := s.jobFault ctx cause (some (c.ring, c.tseq, c.pos))

/-- What DST's stochastic rounding draws from. -/
def Ctx.collDraw (x : Ctx) (c : Coll) : Draw := ⟨x.params.seed.toNat, c.tseq, c.pos⟩

/-- DST's elements of the whole tensor: first and length. -/
def Coll.dstSpan (c : Coll) (me : Nat) : Nat × Nat :=
  if c.digest.all then (0, c.digest.elems) else shardSpan c.digest.elems c.digest.shardChunks (rankOf c.members me)

/-- Values times SCALE_CODE written into DST (R204); an empty shard writes nothing. (Log entry 56: DEDUCED.) -/
def State.writeDst (s : State) (x : Ctx) (c : Coll) (vals : List Val) : Option (Ctx × ConvStatus) :=
  if c.dst = 0 then some (x, .clear)
  else s.storeVals x c.dst (Conv.ofNat c.conv.toNat) (x.collDraw c) ⟨none⟩ (vals.map (fun v => mulVal v (l16Val c.digest.scale)))

/-- An L16 tensor written whole; its write count rises. -/
def State.writeL16 (s : State) (x : Ctx) (h : Nat) (d : TData) : Option Ctx :=
  (s.writeTensor x h d.t (allOf d.codes) []).map (fun y => y.countWrite h)

/-! ### The end of a round -/

/-- After the first round of a low-rank reduction: P̂, Q of this member, the second round (R214, R215).
(Log entry 59: DEDUCED.) -/
def State.lowMiddle (s : State) (ctx me : Nat) (x : Ctx) (c : Coll) : State :=
  match s.lowInputs x c with
  | none => s.faultColl ctx c 0x09
  | some (g, _, q) =>
    let (p, st1) := lowWrite [g.rows, q.cols] (c.sumVals 0 (g.rows * q.cols))
    let (ph, st2, z) := lowOrtho p
    let (qm, st3) := lowQ g ph
    let c1 := ({ c with factor := (ph.codes, ph.nibs), deficient := z }).startRound me 1 qm.flat
    ((s.putOut ctx ⟨c1, [], []⟩).countConv ctx (st1.join (st2.join st3))).sendScale ctx me c1 c1.digest

/-- After the second round: QSTATE, DST and E (R214). -/
def State.lowEnd (s : State) (ctx me : Nat) (x : Ctx) (c : Coll) : State :=
  match s.lowInputs x c with
  | none => s.faultColl ctx c 0x09
  | some (g, _, q) =>
    let (qs, st1) := lowWrite [g.cols, q.cols] (c.sumVals 0 (g.cols * q.cols))
    let ph : TData := ⟨.l16, Config.internalT.toInt, [g.rows, q.cols], c.factor.1, c.factor.2⟩
    let a := lowA ph qs
    let (e, st2) := lowE g (l16Val c.digest.scale) (ph.tc + qs.tc) a
    let (first, n) := c.dstSpan me
    let v := s.seenFor x c.ring c.tseq
    match ((v.writeL16 x c.qstate qs).bind (fun y => v.writeDst y c ((a.drop first).take n))) with
    | none => s.faultColl ctx c 0x09
    | some (y, st) =>
      match v.writeL16 y c.ef e with
      | none => s.faultColl ctx c 0x09
      | some z => (s.countConv ctx (st1.join st2)).retire ctx z c st

/-- Phase 3 has found no failed shard (R211, R212). -/
def State.endRound (s : State) (ctx me : Nat) (x : Ctx) (c : Coll) : State :=
  if c.digest.lowRank then
    if c.head.round = 0 then s.lowMiddle ctx me x c else s.lowEnd ctx me x c
  else
    let (first, n) := c.dstSpan me
    match (s.seenFor x c.ring c.tseq).writeDst x c (c.sumVals first n) with
    | none => s.faultColl ctx c 0x09
    | some (y, st) => s.retire ctx y c st

/-! ### Copies (R217, R219) -/

/-- Elements with their nibbles enter a copy. -/
def putElems (t : Tab Nat) (first : Nat) (vs : List Nat) : Tab Nat := (numbered vs).foldl (fun t (e : Nat × Nat) => Tab.set t (first + e.1) e.2) t

def Coll.putCopy (c : Coll) (first : Nat) (codes nibs : List Nat) : Coll :=
  { c with copied := putElems c.copied first codes, copiedNibs := putElems c.copiedNibs (first / 32) nibs }

/-- The pieces of this member's shard: destination rank, first element, length. -/
def Coll.pieces (me : Nat) (c : Coll) : List (Nat × Nat × Nat) :=
  let (a, n) := shardSpan c.digest.elems c.digest.shardChunks (rankOf c.members me)
  if n = 0 then []
  else
    match c.kind with
    | .permute => (numbered c.newMembers).filterMap (fun (e : Nat × Nat) =>
        let (b, m) := shardSpan c.digest.elems c.digest.newShardChunks e.1
        let lo := max a b
        let hi := min (a + n) (b + m)
        if lo < hi then some (rankOf c.members e.2, lo, hi - lo) else none)
    | _ => (List.range c.members.length).map (fun k => (k, a, n))

/-- Elements that this member awaits. -/
def Coll.wanted (me : Nat) (c : Coll) : Nat :=
  match c.kind with
  | .permute => (shardSpan c.digest.elems c.digest.newShardChunks (rankOf c.newMembers me)).2
  | _ => c.digest.elems

/-- The copy messages of one kind. -/
def Coll.copyMsg (c : Coll) (m : CopyMsg) : Msg := match c.kind with | .permute => .permuteData m | _ => .gatherData m

/-- Phase 2 of a copy: each piece sets out for its member; the member's own is at hand. -/
def State.startCopies (s : State) (ctx me : Nat) (x : Ctx) (c : Coll) : State :=
  match (s.seenFor x c.ring c.tseq).readOpt x c.src with
  | none => s.faultColl ctx c 0x09
  | some t =>
    let codes := t.codes.flatten
    let nibs := t.nibs.flatten
    let rank := rankOf c.members me
    let base := (shardSpan c.digest.elems c.digest.shardChunks rank).1
    let msg (p : Nat × Nat × Nat) : CopyMsg :=
      ⟨c.head, c.nodes, rank, p.1, c.src, p.2.1, (codes.drop (p.2.1 - base)).take p.2.2,
        (nibs.drop ((p.2.1 - base) / 32)).take (ceilDiv p.2.2 32), x.writesOf c.src⟩
    let own := (c.pieces me).filter (fun p => p.1 = rank)
    let c1 := own.foldl (fun k p => { k.putCopy p.2.1 (msg p).codes (msg p).nibbles with got := Tab.set k.got rank (x.writesOf c.src, c.src) })
      { c with phase := .data }
    s.putOut ctx ⟨c1, ((c.pieces me).filter (fun p => p.1 != rank)).filterMap (fun p =>
      (copyHop c.nodes me (c.members.getD p.1 0)).map (fun m => (m, c.copyMsg (msg p)))), []⟩

/-- The nibbles of a whole tensor from those of its flat blocks. Where a row is no multiple of 32 elements and
a block of it meets source blocks that differ, the spec names no nibble: it is free, one for each gather.
(Log entry 55: UNVERIFIED.) -/
def gatherNibs (group number : Nat) (dims : List Nat) (nibs : Tab Nat) : List (List Nat) :=
  let n := rowLen dims
  (List.range (rowsOf dims)).map (fun r => (List.range (ceilDiv n 32)).map (fun j =>
    let e0 := r * n + 32 * j
    let e1 := min (e0 + 32) ((r + 1) * n)
    let b0 := e0 / 32
    let v := Tab.getD nibs b0 0
    if ((List.range ((e1 - 1) / 32 + 1 - b0)).map (fun i => Tab.getD nibs (b0 + i) 0)).all (· == v) then v
    else Config.freeValue 4 (2 ^ 200 + ((group * 2 ^ 64 + number) * 2 ^ 40 + e0)) % 16))

/-- Copied elements written over a tensor. -/
def State.writeCopied (s : State) (x : Ctx) (h group number first : Nat) (codes nibs : Tab Nat) : Option Ctx :=
  match x.tensor? h with
  | none => some x
  | some t =>
    let dims := s.dimsOf t.obj
    let flat := (List.range (elemCount dims)).map (fun i => Tab.getD codes (first + i) 0)
    let rows := chunksOf (rowLen dims) flat.length flat
    let shifted := nibs.map (fun e => (e.1 - first / 32, e.2))
    s.writeTensor x h t.obj.t (allOf rows) (if t.obj.fmt.hasBlocks then allOf (gatherNibs group number dims shifted) else [])

/-- This member's share of DST at level NODE: chunks [⌊jC/n⌋, ⌊(j+1)C/n⌋) (R271). -/
def nodeSpan (elems j n : Nat) : Nat × Nat :=
  let ch := chunkNo elems
  let a := min elems (4096 * (j * ch / n))
  (a, min elems (4096 * ((j + 1) * ch / n)) - a)

/-- The gathered tensor knows its sources; a tensor that is not kept takes its level from the collective's nodes (R270). -/
def Gathered.filled (g : Gathered) (me : Nat) (c : Coll) : Gathered :=
  let node := c.members.filter (fun m => (nodeOf c.nodes me).contains m)
  let level : GatherLevel := if g.level = .kept then .kept else if 2 ≤ node.length then .node else .group
  { g with
    counts := c.got, node := node, level := level, flatNibs := c.copiedNibs
    shard := if level = .node then some (nodeSpan c.digest.elems (rankOf node me) node.length) else none }

/-- The node shard of a gathered tensor is placed as an ordinary tensor (R271); an empty one needs no place. -/
def State.placeShard (s : State) (x : Ctx) (h : Nat) (span : Nat × Nat) (codes nibs : Tab Nat) : Ctx :=
  match x.tensor? h with
  | none => x
  | some t =>
    if span.2 = 0 then x
    else
      let o : TObj := { t.obj with kind := .ordinary, dims := [span.2], persistent := false, pin := false, writes := 0 }
      let img := writeImage o [] (allOf [(List.range span.2).map (fun i => Tab.getD codes (span.1 + i) 0)])
        (allOf [(List.range (ceilDiv span.2 32)).map (fun i => Tab.getD nibs (span.1 / 32 + i) 15)])
      { x with tensors := Tab.set x.tensors (nodeKey h) { obj := o, img := img, exts := s.newExts x o.bytes false } }

/-- What an XGATHER leaves of its DST in the ledger (R270, R271). -/
def State.fillGathered (s : State) (x : Ctx) (me : Nat) (c : Coll) : Ctx :=
  match Tab.get x.gathered c.dst with
  | none => x
  | some g =>
    if g.number != c.head.number || g.group != c.head.group then x
    else
      let g1 := g.filled me c
      let y := { x with gathered := Tab.set x.gathered c.dst g1 }
      match g1.shard with
      | some span => s.placeShard y c.dst span c.copied c.copiedNibs
      | none => y

/-- Every element has come: DST is written and the collective retires. -/
def State.finishCopy (s : State) (ctx me : Nat) (x : Ctx) (c : Coll) : State :=
  let first := match c.kind with
    | .permute => (shardSpan c.digest.elems c.digest.newShardChunks (rankOf c.newMembers me)).1
    | _ => 0
  match (s.seenFor x c.ring c.tseq).writeCopied x c.dst c.head.group c.head.number first c.copied c.copiedNibs with
  | none => s.faultColl ctx c 0x09
  | some y =>
    let z := y.countWrite c.dst
    s.retire ctx (if c.kind = .xgather then s.fillGathered z me c else z) c .clear

/-! ### Phases -/

/-- A collective takes the next step of its phases, if it can (R209 to R212). -/
def State.stepColl (s : State) (ctx : Nat) (c : Coll) : State :=
  match s.ctx? ctx, s.ident with
  | some x, some me =>
    let n := c.members.length
    match c.phase with
    | .scale =>
      if c.covered.length < n then s
      else match c.kind with
        | .xreduce => s.putOut ctx (({ c.countRound with shards := List.range n }).startData me)
        | _ => s.startCopies ctx me x c
    | .data =>
      (match c.kind with
       | .xreduce =>
         if c.dataDone me then
           let rank := rankOf c.members me
           let c1 := { c with phase := .verify, verifyCovered := (c.verifyCovered ++ [rank]).eraseDups, failed := (c.failed ++ c.bad).eraseDups }
           (s.putOut ctx ⟨c1, [], []⟩).sendAll (c.others me) (some (s.partOf ctx)) (.xv ⟨c.head, [rank], c.bad⟩)
         else s
       | _ => if c.copied.length < c.wanted me then s else s.finishCopy ctx me x c)
    | .verify =>
      if c.verifyCovered.length < n then s
      else if c.failed.isEmpty then s.endRound ctx me x c
      else if 2 ≤ c.head.run then s.faultColl ctx c 0x05
      else s.putOut ctx (c.rerun.startData me)
    | .done => s
  | _, _ => s

/-- The exchange messages and what they are for. -/
def Msg.collHead : Msg → Option CollHead
  | .xs m => some m.head
  | .xd m => some m.head
  | .xv m => some m.head
  | .gatherData m => some m.head
  | .permuteData m => some m.head
  | _ => none

/-- The copy a message carries. -/
def Msg.copy? : Msg → Option CopyMsg
  | .gatherData m => some m
  | .permuteData m => some m
  | _ => none

/-- How a message meets the job (R209, R212, R218): of an older epoch; for work that is over; not yet; now. -/
inductive Fit where
  | stale | past | early
  /-- for a group that was destroyed (R356) -/
  | gone
  | now (c : Coll)
deriving DecidableEq, Repr

def Ctx.fit (x : Ctx) (h : CollHead) : Fit :=
  let d := (h.epoch + 2 ^ 16 - x.epoch) % 2 ^ 16
  if x.goneGroups.contains h.group then .gone
  else if 2 ^ 15 ≤ d then .stale
  else if d != 0 then .early
  else
    match x.colls.find? (fun c => c.head.group = h.group && c.head.number = h.number) with
    | some c =>
      if h.round = c.head.round ∧ h.run = c.head.run then .now c
      else if h.round < c.head.round ∨ (h.round = c.head.round ∧ h.run < c.head.run) then .past
      else .early
    | none =>
      match Tab.get x.groups h.group with
      | some g => if h.number < g.obj.nextNumber then .past else .early
      | none => .early

/-- A message waits in the chain area (R212). -/
def State.holdMsg (s : State) (ctx : Nat) (m : HeldMsg) : State := s.modCtx ctx (fun x => { x with waitingMsgs := x.waitingMsgs ++ [m] })

/-- XS (R209, R210); with rank 0's come the nodes of the collective (R259, R268). -/
def State.takeXs (s : State) (ctx : Nat) (c : Coll) (m : XsMsg) : State :=
  if c.phase != .scale then s
  else if !c.digest.agrees m.digest then s.faultColl ctx c 0x04
  else s.putOut ctx ⟨{ c with
    covered := (c.covered ++ m.covers).eraseDups, figures := (c.figures.zip m.figures).map (fun e => e.1.join e.2)
    digest := c.digest.learn m.digest, nodes := if m.covers.contains 0 then m.nodes else c.nodes }, [], []⟩

/-- XD (R206, R207). -/
def State.takeXd (s : State) (ctx me port : Nat) (c : Coll) (m : XdMsg) : State :=
  if c.liveChunks.contains m.chunk && (c.dests m.chunk).contains m.dest then
    s.putOut ctx (c.enter me m.dest m.chunk m.across ⟨m.covers, m.words, [port], false⟩)
  else s

/-- XV (R211). -/
def State.takeXv (s : State) (ctx : Nat) (c : Coll) (m : XvMsg) : State :=
  s.putOut ctx ⟨{ c with verifyCovered := (c.verifyCovered ++ m.covers).eraseDups, failed := (c.failed ++ m.failed).eraseDups }, [], []⟩

/-- Copy data for this member (R217, R219). -/
def State.takeCopy (s : State) (ctx : Nat) (c : Coll) (m : CopyMsg) : State :=
  s.putOut ctx ⟨{ c.putCopy m.first m.codes m.nibbles with got := Tab.set c.got m.rank (m.writes, m.handle) }, [], []⟩

/-- Copy data for another member goes on toward it, on the route it set out on (R266, R268). (Log entry 51: DEDUCED.) -/
def State.relay (s : State) (ctx me : Nat) (g : XGroup) (msg : Msg) (m : CopyMsg) : State :=
  match copyHop m.nodes me (g.obj.members.getD m.dest 0) with
  | some next => s.send next (some (s.partOf ctx)) msg
  | none => s

/-- Would a message that meets the job wait in the chain area: for a collective not yet reached, or words before their scales
(R212, R218)? -/
def Ctx.wouldHold (x : Ctx) (me : Nat) (m : Msg) : Bool :=
  match m.collHead with
  | none => false
  | some h =>
    let mine := match Tab.get x.groups h.group, m.copy? with
      | some g, some cm => cm.dest = rankOf g.obj.members me
      | _, _ => true
    mine && (match x.fit h with
      | .early => true
      | .now c => c.phase = .scale && (match m with | .xd _ | .xv _ => true | _ => false)
      | _ => false)

/-- A message meets its job: a job that has faulted drops it (R377). -/
def State.deliverColl (s : State) (ctx : Nat) (m : HeldMsg) : State :=
  match s.ctx? ctx, m.msg.collHead, s.ident with
  | some x, some h, some me =>
    if x.state = .faulted then s
    else
      let far : Option (XGroup × CopyMsg) :=
        match Tab.get x.groups h.group, m.msg.copy? with
        | some g, some cm => if cm.dest != rankOf g.obj.members me then some (g, cm) else none
        | _, _ => none
      match far with
      | some (g, cm) => s.relay ctx me g m.msg cm
      | none =>
        match x.fit h with
        | .gone => s.misroutedMsg m.port
        | .stale => s.jobFault ctx 0x06 none
        | .past => s
        | .early => s.holdMsg ctx m
        | .now c =>
          match m.msg with
          | .xs q => s.takeXs ctx c q
          | .xd q => if c.phase = .scale then s.holdMsg ctx m else s.takeXd ctx me m.port c q
          | .xv q => if c.phase = .scale then s.holdMsg ctx m else s.takeXv ctx c q
          | .gatherData q => s.takeCopy ctx c q
          | .permuteData q => s.takeCopy ctx c q
          | _ => s
  | _, _, _ => s

/-- Every collective of a job takes a step it can take; waiting messages are tried again. -/
def State.pumpOnce (s : State) (ctx : Nat) : State :=
  match s.ctx? ctx with
  | none => s
  | some x =>
    let s1 := x.colls.foldl (fun a k => match (a.ctx? ctx).bind (fun y => y.colls.find? (fun c => c.is k)) with
      | some c => a.stepColl ctx c
      | none => a) s
    match s1.ctx? ctx with
    | none => s1
    | some y =>
      let mine := y.waitingMsgs.filter (fun m => m.msg.collHead.isSome)
      mine.foldl (fun a m => a.deliverColl ctx m) (s1.setCtx ctx { y with waitingMsgs := y.waitingMsgs.filter (fun m => m.msg.collHead.isNone) })

/-- The exchange of a job goes on as far as it can. -/
def State.pumpColls (s : State) (ctx : Nat) : State :=
  ((iterUp (fun a _ => a.pumpOnce ctx) ((((s.ctx? ctx).map (fun x => x.waitingMsgs.length)).getD 0) + 20) s).serveReads ctx).refresh ctx

/-! ### XREDUCE, XGATHER, PERMUTE -/

/-- The epoch rules for a collective that is next in its job's stream (R218): none is EPOCH_MISMATCH, else the
job's epoch and whether a PERMUTE to the next one stands before what follows. -/
def Ctx.epochFor (x : Ctx) (d : Desc) (permute : Bool) : Option (Nat × Bool) :=
  let next := (x.epoch + 1) % 2 ^ 16
  if d.epoch = x.epoch then
    if permute then some (x.epoch, true) else if x.pendingEpoch then none else some (x.epoch, false)
  else if d.epoch = next ∧ x.pendingEpoch then some (next, permute)
  else none

/-- A collective begins: its descriptor runs, its number is taken, its figures set out. -/
def State.startColl (s : State) (ctx me : Nat) (r : Run) (d : Desc) (ep : Nat × Bool) (c : Coll) (dg : Digest) : State :=
  let s1 := (s.beginDesc ctx r d).modCtx ctx (fun x => { x with
    colls := x.colls ++ [c], epoch := ep.1, pendingEpoch := ep.2
    groups := Tab.modify x.groups d.groupId (fun g => { g with obj := { g.obj with nextNumber := g.obj.nextNumber + 1 } }) })
  (s1.sendScale ctx me c dg).pumpColls ctx

/-- XREDUCE (R209, R213). (Log entry 54: DEDUCED.) -/
def execXreduce (ctx : Nat) (s : State) : Out :=
  .next (match s.dispatchable ctx 0x50 none false, s.ident with
    | some (x, r, d), some me =>
      (match Tab.get x.groups d.groupId with
       | none => (s.rejectDesc ctx r).refresh ctx
       | some g =>
         if !s.xreduceOk x r d g.obj.members.length (rankOf g.obj.members me) then (s.rejectDesc ctx r).refresh ctx
         else if x.writesGathered d then s.faultAt ctx r 0x08
         else
           match x.epochFor d false with
           | none => s.faultAt ctx r 0x06
           | some ep =>
             let dg := d.digest (elemCount (((x.tensor? d.srcA).map (fun t => s.dimsOf t.obj)).getD [])) none
             let c := newColl r d ctx me .xreduce g [] dg
             match s.firstRound x c with
             | none => s.faultAt ctx r 0x09
             | some (vals, st) => (s.countConv ctx st).startColl ctx me r d ep (c.startRound me 0 vals) dg)
    | _, _ => s.wakeNext ctx)

/-- A gathered DST enters the ledger (R270, R274); what it was before ends, with its charge and node shard. -/
def Ctx.enterLedger (x : Ctx) (r : Run) (c : Coll) (me charge : Nat) : Ctx :=
  let rest := Tab.erase x.gathered c.dst
  let used := (rest.map (fun e => e.2.charge)).sum
  let node := c.members.filter (fun m => (nodeOf c.nodes me).contains m)
  let kept := charge + used ≤ r.gatherHbm * unitBytes
  let level : GatherLevel := if kept then .kept else if 2 ≤ node.length then .node else .group
  let g : Gathered :=
    { level := level, charge := if kept then charge else 0, group := c.head.group, number := c.head.number
      shardChunks := c.digest.shardChunks, src := c.src, node := node, held := true
      first := some (r.ring, r.tseq), holders := [], counts := [], shard := none, awaiting := [], back := [], backNibs := [], flatNibs := [] }
  { x with gathered := Tab.set rest c.dst g, tensors := Tab.erase x.tensors (nodeKey c.dst) }

/-- XGATHER (R217, R270). (Log entry 170: DEDUCED.) -/
def execXgather (ctx : Nat) (s : State) : Out :=
  .next (match s.dispatchable ctx 0x51 none false, s.ident with
    | some (x, r, d), some me =>
      (match Tab.get x.groups d.groupId, x.tensor? d.srcB with
       | some g, some t =>
         if !s.xgatherOk x r d g.obj.members.length (rankOf g.obj.members me) then (s.rejectDesc ctx r).refresh ctx
         else
           (match x.epochFor d false with
            | none => s.faultAt ctx r 0x06
            | some ep =>
              if d.srcA != 0 && x.face d.srcA != x.face d.srcB then s.faultAt ctx r 0x04
              else
                let elems := elemCount (s.dimsOf t.obj)
                let c := newColl r d ctx me .xgather g [] (d.digest elems (x.face d.srcB))
                (s.modCtx ctx (fun y => y.enterLedger r c me t.obj.charge)).startColl ctx me r d ep c (d.digest elems (x.face d.srcA)))
       | _, _ => (s.rejectDesc ctx r).refresh ctx)
    | _, _ => s.wakeNext ctx)

/-- PERMUTE (R218, R219). (Log entry 170: DEDUCED.) -/
def execPermute (ctx : Nat) (s : State) : Out :=
  .next (match s.dispatchable ctx 0x52 none false, s.ident with
    | some (x, r, d), some me =>
      (match Tab.get x.groups d.groupId, Tab.get x.groups d.newGroup with
       | some g, some g2 =>
         if !s.permuteOk x r d g.obj.members g2.obj.members me then (s.rejectDesc ctx r).refresh ctx
         else if x.writesGathered d then s.faultAt ctx r 0x08
         else
           (match x.epochFor d true with
            | none => s.faultAt ctx r 0x06
            | some ep =>
              let a := x.face d.srcA
              let b := x.face d.srcB
              if a.isSome && b.isSome && a != b then s.faultAt ctx r 0x04
              else
                let dg := d.digest d.logical (if a.isSome then a else b)
                s.startColl ctx me r d ep (newColl r d ctx me .permute g g2.obj.members dg) dg)
       | _, _ => (s.rejectDesc ctx r).refresh ctx)
    | _, _ => s.wakeNext ctx)

/-! ### The exchange messages -/

/-- The first message of a sender on the collective channel, when it is one asked for: it meets its job. A
message for a job not yet created here waits (log entry 52: DEDUCED), and one for which the chain area has no room stays in the
buffer of its port (R289). -/
def State.onColl (s : State) (src : Nat) (mine : Msg → Bool) : State :=
  match takeFrom src 2 s.net.inbox with
  | some (a, rest) =>
    if !s.live || !mine a.msg then s
    else
      match a.msg.collHead with
      | some h =>
        match s.ctx? h.ctx with
        | none => s
        | some x =>
        let held : HeldMsg := ⟨src, a.port, a.msg⟩
        if x.state != .faulted && x.wouldHold (s.ident.getD 0) a.msg && !x.chainRoom held.areaBytes then s
        else ((s.takeMsg 2 a.slots rest).deliverColl h.ctx ⟨src, a.port, a.msg⟩).pumpColls h.ctx
      | none => s
  | none => s

/-- XS (R210). -/
def execXs (src : Nat) (s : State) : Out := .next (s.onColl src (fun m => match m with | .xs _ => true | _ => false))

/-- XD (R207). -/
def execXd (src : Nat) (s : State) : Out := .next (s.onColl src (fun m => match m with | .xd _ => true | _ => false))

/-- XV (R211). -/
def execXv (src : Nat) (s : State) : Out := .next (s.onColl src (fun m => match m with | .xv _ => true | _ => false))

/-- XGATHER_DATA (R217). -/
def execXgatherData (src : Nat) (s : State) : Out := .next (s.onColl src (fun m => match m with | .gatherData _ => true | _ => false))

/-- PERMUTE_DATA (R219). -/
def execPermuteData (src : Nat) (s : State) : Out := .next (s.onColl src (fun m => match m with | .permuteData _ => true | _ => false))

end Sys2Proof.Machine
end

