-- ==== Sys2Proof/Machine/Faults.lean ====
section
/-! DEFINITION. Detected errors: classes, containment, rollback of the owning job, corrected-error counts, the
patrol scrub, coalesced records (R418 to R429, R433, R436). -/

namespace Sys2Proof.Machine

/-! ### Records -/

/-- The record of a report (Table 14.4). -/
def ErrorReport.base (r : ErrorReport) (now cls ctx part action : Nat) : ErrRec :=
  { time := now, cls := cls, source := r.source, unit := r.unit, ctx := ctx, part := part, action := action
    address := r.address, syndrome := r.syndrome
    tseq := (r.reader.map (fun d => d.2.1)).getD 0, ring := (r.reader.map (·.1)).getD 0xFFFF }

/-- Write the record of a report for no context. -/
def State.noteError (s : State) (r : ErrorReport) (cls action : Nat) : State :=
  s.putError (r.base s.time.now cls 0xFFFF 0xFF action)

/-- Write the record of a report for a context. -/
def State.noteCtx (s : State) (r : ErrorReport) (cls ctx action : Nat) : State :=
  s.putError (r.base s.time.now cls ctx (((s.ctx? ctx).map (fun x => x.params.partition)).getD 0xFF) action)

/-! ### UE_JOB (R423, R424, R436) -/

/-- The kept commit that an error rolls a job back to: the one a rollback or replay in progress goes to, else the
latest (R423, R436). (Log entry 72: DEDUCED.) -/
def Ctx.backTo (x : Ctx) : Option Kept :=
  match (match x.rollbackDue with | some (.image n) => some n | _ => x.replay.bind (·.commit)) with
  | some n => match x.kept.find? (fun k => k.id = n) with
    | some k => some k
    | none => x.kept.getLast?
  | none => x.kept.getLast?

/-- An error in data or state of one job: its record, then the rollback at once, or the job fault. The third
error that would roll the job back to one commit faults it, and so does one for which there is no commit to replay from (R322)
or no room for the ROLLBACK record (log entry 153: DESIGN CHOICE). -/
def State.ueJob (s : State) (r : ErrorReport) (cls ctx : Nat) : State :=
  match s.ctx? ctx with
  | none => s
  | some x =>
    if x.state = .faulted then s.noteCtx r cls ctx 4
    else
      match (if s.twin.state = .paired && s.journalRoom 1 then x.backTo.filter x.replaysFrom else none) with
      | none => (s.noteCtx r cls ctx 4).jobFault ctx 0x0B r.reader
      | some k =>
        let k1 := { k with rollbacks := min 3 (k.rollbacks + 1) }
        let s1 := s.modCtx ctx (fun y => { y with kept := y.kept.map (fun q => if q.id = k.id then k1 else q) })
        if 3 ≤ k1.rollbacks then (s1.noteCtx r cls ctx 4).jobFault ctx 0x0B r.reader
        else
          let s2 := (s1.noteCtx r cls ctx 3).teardown ctx 0x0B ((r.reader.map (fun d => d.2.1)).getD 0)
          match s2.ctx? ctx with
          | some y => (s2.rollback ctx y k1).refresh ctx
          | none => s2

/-- The error as a context meets it: the descriptor that was reading is one of its own, or none (R377, R425). -/
def State.readBy (s : State) (r : ErrorReport) (ctx : Nat) : ErrorReport :=
  { r with reader := r.reader.filter (fun d => (Tab.get s.rings d.1).map (fun g => g.params.ctx) = some ctx) }

/-- The first commit that keeps frozen contents in the copy-on-write area, and those after it, are abandoned: what they were to
send counts as written since (R348, Table 14.3). -/
def Ctx.abandonCow (x : Ctx) : Ctx :=
  { x with
    commits := x.commits.takeWhile (fun c => c.cow.isEmpty)
    dirty := (x.commits.dropWhile (fun c => c.cow.isEmpty)).foldl (fun d c => addExts d c.dirty) x.dirty }

/-- UE_PARTITION (R425): as UE_JOB for every context of the partition, in ascending number. -/
def State.uePart (s : State) (r : ErrorReport) (part : Nat) : State :=
  match Tab.keys (s.ctxsOf part) with
  | [] => s.putError (r.base s.time.now 0x04 0xFFFF part 0)
  | cs => cs.foldl (fun a c => a.ueJob (a.readBy r c) 0x04 c) s

/-! ### Journals and mirror (R322, R349, R428) -/

/-- An uncorrectable record of the own journal: read back from the twin, or the job runs on UNREPLAYABLE. -/
def State.ueOwnRecord (s : State) (r : ErrorReport) (seq : Nat) : State :=
  match s.jr.own.find? (fun q => q.seq = seq) with
  | none => s.noteError r 0x02 0
  | some q =>
    match s.twin.state, s.twin.twinId with
    | .paired, some t => (s.noteCtx r 0x02 q.ctx 2).send t none (.winch (.recordRequest true seq))
    | _, _ => (s.noteCtx r 0x02 q.ctx 9).modCtx q.ctx (fun x => x.lostRecord seq)

/-- A partner record is lost: its job, or every job when it is a module record or cannot be told.
(Log entry 75: DEDUCED.) -/
def State.losePartner (s : State) (ctx : Nat) : State :=
  { s with jr := { s.jr with
      partnerLost := if s.jr.partnerLost.contains ctx then s.jr.partnerLost else s.jr.partnerLost ++ [ctx]
      images := s.jr.images.map (fun i => if ctx = 0xFFFF || i.ctx = ctx then { i with lost := true } else i) } }

/-- An uncorrectable record of the partner journal (R428). -/
def State.uePartnerRecord (s : State) (r : ErrorReport) (seq : Nat) : State :=
  match s.twin.state, s.twin.twinId with
  | .paired, some t => (s.noteError r 0x02 2).send t none (.winch (.recordRequest false seq))
  | _, _ =>
    if s.twin.holdsPartner then
      (s.putError { r.base s.time.now 0x07 0xFFFF 0xFF 4 with detail := 1 }).losePartner
        (((s.jr.partner.find? (fun q => q.seq = seq)).map (·.ctx)).getD 0xFFFF)
    else s.noteError r 0x02 0

/-- The job, commit and extent of a slot map that names a mirror slot: a sealed one, else that of a transfer from the twin
(log entry 74: DEDUCED). -/
def State.slotOwner (s : State) (slot : Nat) : Option (Nat × Nat × ExtentId) :=
  let at_ (ctx commit : Nat) (m : List (ExtentId × Nat)) : Option (Nat × Nat × ExtentId) :=
    (m.find? (fun e => e.2 = slot)).map (fun e => (ctx, commit, e.1))
  (s.jr.images.findSome? (fun i => at_ i.ctx i.commit i.map)).or
    (if s.twin.state = .paired then s.jr.incoming.findSome? (fun i => at_ i.ctx i.commit i.map) else none)

/-- An uncorrectable mirror slot (R349, R428). A slot that no image and no transfer uses holds no state. (Log entry 74: DEDUCED.) -/
def State.ueMirrorSlot (s : State) (r : ErrorReport) (slot : Nat) : State :=
  let clear : State := { s with jr := { s.jr with slots := Tab.erase s.jr.slots slot } }
  match s.slotOwner slot with
  | none => clear.noteError r 0x02 0
  | some (ctx, commit, e) =>
    match s.twin.state, s.twin.twinId with
    | .paired, some t =>
      (s.putError { r.base s.time.now 0x07 ctx 0xFF 7 with detail := 1, detail2 := commit }).send t none
        (.winch (.mirrorFault ctx commit e s.time.now))
    | _, _ =>
      if s.twin.holdsPartner then
        (s.putError { r.base s.time.now 0x07 ctx 0xFF 4 with detail := 1, detail2 := commit }).losePartner ctx
      else clear.noteError r 0x02 0

/-! ### Corrected errors (R421, R433) -/

/-- A corrected word is counted; the 4,096th of a unit in a 1 s window makes the window's CE_STORM record.
(Log entry 76: DEDUCED.) -/
def State.countCe (s : State) (r : ErrorReport) : State :=
  let start := s.time.now / 1000000000 * 1000000000
  let win := if s.errs.ceStart = start then s.errs.ceWindow else []
  let key := r.source * 65536 + r.unit
  let n := Tab.getD win key 0 + 1
  let s1 := { s with
    logbook := s.logbook.countUnit false r.source r.unit
    errs := { s.errs with ceWindow := Tab.set win key n, ceStart := start } }
  if n = 4096 then s1.putError (r.base s.time.now 0x01 0xFFFF 0xFF 0) else s1

/-! ### The commands -/

/-- An error by the structure that holds the failing word (Table 14.3), a blocked request among them (R410). -/
def State.detect (s : State) (r : ErrorReport) : State :=
  if r.corrected then s.countCe r
  else
    match r.place with
    | .cleanCopy ctx => s.noteCtx r 0x02 ctx 1
    | .secureWay => s.noteError r 0x02 1
    | .jobState ctx => s.ueJob r 0x03 ctx
    | .jobHome ctx _ => s.ueJob r 0x03 ctx
    | .cowArea ctx => (s.ueJob r 0x03 ctx).modCtx ctx Ctx.abandonCow
    | .moduleArea part => s.uePart r part
    | .ownRecord seq => s.ueOwnRecord r seq
    | .partnerRecord seq => s.uePartnerRecord r seq
    | .mirrorSlot slot => s.ueMirrorSlot r slot
    | .moduleState => s.haltModule (r.base s.time.now 0x05 0xFFFF 0xFF 5)
    | .blocked ctx => (s.countEvent 12).ueJob r 0x08 ctx
    | .datapath (some ctx) => s.ueJob r 0x03 ctx
    | .datapath none => s.haltModule (r.base s.time.now 0x05 0xFFFF 0xFF 5)

/-- ERROR_DETECTED (R421 to R428). (Log entry 73: DEDUCED.) (Log entry 118: DEDUCED.) -/
def execErrorDetected (report : ErrorReport) (s : State) : Out :=
  .next (if s.live then s.detect report else s)

/-- PATROL_SCRUB (R419, R442): a die in OFF whose stacks are scrubbed is brought to NAP; what the scrub finds is handled as if
its owner had read it then. -/
def execPatrolScrub (pass : ScrubPass) (s : State) : Out :=
  withUnit (pass.die.all (fun d => d < 10))
    (if !s.live then s
     else
       let s1 := match pass.die with | some d => s.wakeDie d false | none => s
       match pass.found with
       | some r => s1.detect { r with reader := none }
       | none => s1)

/-- The record of a window's occurrences. -/
def Coalesced.record (c : Coalesced) : ErrRec :=
  { time := c.start, cls := c.cls, source := c.source, unit := c.unit, ctx := c.ctx, part := c.part, action := c.action
    address := c.address, count := c.count, syndrome := c.syndrome, tseq := c.tseq, ring := c.ring
    detail := c.detail, detail2 := c.detail2 }

/-- ERROR_WINDOW_CLOSE (R429): the records of the windows that are over are written. -/
def execErrorWindowClose (s : State) : Out :=
  .next (if s.live then
    let past (c : Coalesced) : Bool := c.start + 1000000 ≤ s.time.now
    let s1 := (s.errs.window.filter past).foldl (fun a c => a.putError c.record) s
    { s1 with errs := { s1.errs with window := s1.errs.window.filter (fun c => !past c) } }
  else s)

end Sys2Proof.Machine
end

