-- ==== Sys2Proof/Machine/Gather.lean ====
section
/-! DEFINITION. Re-gathering of released gathered tensors and the remote reads it makes (R271 to R275). -/

namespace Sys2Proof.Machine

def Ctx.setGathered (x : Ctx) (h : Nat) (g : Gathered) : Ctx := { x with gathered := Tab.set x.gathered h g }

/-- Elements of a re-gather, with their nibbles. -/
def Gathered.put (g : Gathered) (first : Nat) (codes nibs : List Nat) : Gathered :=
  { g with back := putElems g.back first codes, backNibs := putElems g.backNibs (first / 32) nibs }

/-- A re-gather that awaits nothing more writes DST, which has its place again, and holds it (R273). (Log entry 62: DEDUCED.) -/
def State.settleGather (s : State) (ctx h : Nat) (g : Gathered) : State :=
  match s.ctx? ctx with
  | none => s
  | some x =>
    if !g.awaiting.isEmpty then s.setCtx ctx (x.setGathered h g)
    else
      match s.writeCopied (s.house x h) h g.group g.number 0 g.back g.backNibs with
      | none => s.jobFault ctx 0x09 ((x.nextDesc).map (fun n => (n.1.ring, n.1.tseq, n.1.next)))
      | some y => (((s.setCtx ctx (y.setGathered h { g with held := true, back := [], backNibs := [], flatNibs := g.backNibs })).serveReads
          ctx)).refresh ctx

/-- The write count of a source shard is the one at the gather (R274). -/
def Gathered.unchanged (g : Gathered) (rank writes : Nat) : Bool := (Tab.get g.counts rank).any (fun e => e.1 = writes)

/-- The re-gather of a released tensor begins: from the node's shards, or from every member's source shard. -/
def State.regather (s : State) (ctx me h : Nat) (x : Ctx) (r : Run) (g : Gathered) (members : List Nat) : State :=
  let rank := rankOf members me
  let elems := match x.tensor? h with | some t => elemCount (s.dimsOf t.obj) | none => 0
  let ask (a : State) (k handle writes : Nat) (span : Nat × Nat) : State :=
    a.send (members.getD k 0) (some x.params.partition)
      (.readRequest ⟨ctx, g.group, g.number, handle, g.level == .node, h, span.1, span.2, writes⟩)
  if g.level = .node then
    let peers := (g.node.filter (· != me)).map (rankOf members)
    let own := match g.shard with
      | some (a, n) => if n = 0 then some g else (s.readTensor x (nodeKey h)).map (fun (t : TData) => g.put a t.codes.flatten t.nibs.flatten)
      | none => none
    match own with
    | some g1 => ((g.node.filter (· != me)).foldl (fun a m => ask a (rankOf members m) 0 0
        (nodeSpan elems (rankOf g.node m) g.node.length)) s).settleGather ctx h { g1 with awaiting := peers }
    | none => s.setCtx ctx (x.setGathered h { g with level := .group, node := [], shard := none })
  else if Tab.has g.counts rank && !((x.tensor? g.src).isSome && g.unchanged rank (x.writesOf g.src)) then s.faultAt ctx r 0x07
  else
    let own := if Tab.has g.counts rank then s.readTensor x g.src else none
    let g1 := match own with
      | some t => g.put (shardSpan elems g.shardChunks rank).1 t.codes.flatten t.nibs.flatten
      | none => g
    let peers := (Tab.keys g.counts).filter (· != rank)
    (peers.foldl (fun a k => let c := Tab.getD g.counts k (0, 0); ask a k c.2 c.1 (0, 0)) s).settleGather ctx h { g1 with awaiting := peers }

/-- REGATHER (R273): the next descriptor of the job reads a released tensor. -/
def execRegather (ctx handle : Nat) (s : State) : Out :=
  .next (match s.ctx? ctx, s.ident with
    | some x, some me =>
      (match x.nextDesc, Tab.get x.gathered handle with
       | some (r, d), some g =>
         if s.live && x.state != .faulted && d.reads.contains handle && !g.held && g.awaiting.isEmpty && x.rollbackDue.isNone then
           match Tab.get x.groups g.group with
           | some q => s.regather ctx me handle x r g q.obj.members
           | none => s
         else s
       | _, _ => s)
    | _, _ => s)

/-- MEMORY_READ_REQUEST (R273): served whether or not the job is resident; what cannot be served yet waits with the job, and what
a sender's earlier requests wait for is tried again. -/
def execMemoryReadRequest (src : Nat) (s : State) : Out :=
  .next (if !s.live then s
    else
      let s1 := s.ctxs.foldl (fun a c => a.serveReads c.1) s
      match takeFrom src 3 s1.net.inbox with
      | some (a, rest) =>
        (match a.msg with
         | .readRequest q => (s1.setInbox rest).serveRead src q
         | _ => s1)
      | none => s1)

/-- A node shard is no longer held by a peer: the tensor is gathered from the source shards instead (R275; log entry 61:
DEDUCED). -/
def Ctx.leaveNode (x : Ctx) (h : Nat) (g : Gathered) : Ctx :=
  { x.setGathered h { g with level := .group, node := [], shard := none, awaiting := [], back := [], backNibs := [] } with
    tensors := Tab.erase x.tensors (nodeKey h) }

/-- Read data meet the re-gather they are for (R273, R274): a source shard written since the gather, or freed, faults the
job. -/
def State.takeRead (s : State) (x : Ctx) (g : Gathered) (d : ReadData) : State :=
  if g.level = .node then
    if d.gone then (s.setCtx d.ctx (x.leaveNode d.handle g)).refresh d.ctx
    else s.settleGather d.ctx d.handle { g.put d.first d.codes d.nibbles with awaiting := g.awaiting.filter (· != d.rank) }
  else if d.gone || !g.unchanged d.rank d.writes then
    s.jobFault d.ctx 0x07 ((x.nextDesc).map (fun n => (n.1.ring, n.1.tseq, n.1.next)))
  else
    let elems := match x.tensor? d.handle with | some t => elemCount (s.dimsOf t.obj) | none => 0
    s.settleGather d.ctx d.handle { g.put (shardSpan elems g.shardChunks d.rank).1 d.codes d.nibbles with
      awaiting := g.awaiting.filter (· != d.rank) }

/-- MEMORY_READ_DATA (R273, R274): data of a re-gather arrive. -/
def execMemoryReadData (src : Nat) (s : State) : Out :=
  .next (match takeFrom src 3 s.net.inbox with
    | some (a, rest) =>
      (match a.msg with
       | .readData d =>
         if !s.live then s
         else
           let s1 := s.setInbox rest
           match (s.ctx? d.ctx).bind (fun x => (Tab.get x.gathered d.handle).map (fun g => (x, g))) with
           | some (x, g) =>
             if x.state = .faulted || g.number != d.tag || !g.awaiting.contains d.rank then s1 else s1.takeRead x g d
           | none => s1
       | _ => s)
    | none => s)

end Sys2Proof.Machine
end

