-- ==== Sys2Proof/Machine/Slices.lean ====
section
/-! DEFINITION. Slices and switches of a partition, saved groups, the 1 ms placement window, moves of extents
(R118, R295, R296, R300, R301, R370 to R375). -/

namespace Sys2Proof.Machine

/-! ### Slices (R370, R371) -/

/-- SLICE_END (R370): the slice's time is over, and the module asks for a partition yield point. -/
def execSliceEnd (part : Nat) (s : State) : Out :=
  .next (match (Tab.get s.parts part) with
    | some p =>
      (match p.slice with
       | some sl =>
         if s.live && sl.start + sl.length ≤ s.time.now && p.yield.isNone then
           s.modPart part (fun q => { q with yield := some .sliceEnd })
         else s
       | none => s)
    | none => s)

/-- Does a group belong to a context? -/
def Group.isOf (g : Group) (ctx : Nat) : Bool := (g.owner.map (fun k => k.ctx == ctx)).getD false

/-- Can the route of a CLOSED group go on at once (R118)? A direct drain can; a combination can, once the sum before it
stands; what is parked needs room in the chain area, for its chunk or for the maximum pass (R161, R289). Words for another
module leave with the whole descriptor, from the module's send queue (log entry 64: DEDUCED). -/
def State.routeProceeds (s : State) (k : TaskId) (o : MatOp) : Bool :=
  match s.ctx? k.ctx with
  | none => false
  | some x =>
    if o.direct then !o.maxPass || x.chainRoom o.d.tileBytes
    else if o.nextChunk (o.tileOf k) < k.chunk then x.chainRoom o.d.tileBytes
    else !(o.maxPass && k.chunk + 1 = o.d.chunkCount && !o.d.recvs) || x.chainRoom o.d.tileBytes

/-- A group that keeps the yield point from being reached: in a round, being drained, or CLOSED on a route that
can proceed (R118). -/
def State.holdsUp (s : State) (g : Group) : Bool :=
  g.inRound || g.state = .draining
  || (g.state = .closed && (match g.owner with
    | some k => (match s.opOf k with | some o => s.routeProceeds k o | none => false)
    | none => false))

/-- Have all engines that work for the holder of a partition reached a yield point (R371)? -/
def State.atYield (s : State) (p : Part) (holder : Nat) : Bool :=
  p.tiles.all (fun n =>
    (s.tile n).engines.all (fun e => e.2.groups.all (fun g => !g.2.isOf holder || !s.holdsUp g.2))
    && (s.tile n).stages.all (fun st => st.2.2.2.1.ctx != holder))

/-- The groups of a context on a partition's tiles. -/
def State.groupsOf (s : State) (p : Part) (ctx : Nat) : List SavedAt :=
  p.tiles.flatMap (fun n => (s.tile n).engines.flatMap (fun e => e.2.groups.filterMap (fun g =>
    if g.2.isOf ctx && g.2.state != .free then some ⟨n, e.1, g.2⟩ else none)))

/-- An engine without the groups of a context. -/
def Engine.without (e : Engine) (ctx : Nat) : Engine :=
  let gone := match e.current with
    | some i => (Tab.getD e.groups i {}).isOf ctx
    | none => false
  { e with groups := e.groups.filter (fun g => !g.2.isOf ctx), current := if gone then none else e.current, stage := if gone then [] else e.stage
           starting := e.starting && !gone }

/-- The OPEN and CLOSED groups of a context are saved into the spill area (R118). -/
def State.saveGroups (s : State) (part ctx : Nat) : State :=
  match Tab.get s.parts part with
  | none => s
  | some p =>
    let got := s.groupsOf p ctx
    let s1 := { s with tiles := Tab.mapVals s.tiles (fun n t =>
      if p.tiles.contains n then { t with engines := Tab.mapVals t.engines (fun _ e => e.without ctx) } else t) }
    s1.modCtx ctx (fun x => { x with saved := x.saved ++ got })

/-- L_out of a context on a die: its dirty copies, and the groups it saves there when it is the holder (R118, R301). -/
def State.lOut (s : State) (p : Part) (holder v die : Nat) : Nat :=
  ((s.ctx? v).map (fun x => x.dirtyOn (· = die))).getD 0
  + (if v = holder then ((s.groupsOf p v).filter (fun g => tileDie g.tile = die)).length * savedBytes else 0)

/-- Bytes that a pre-emption which swaps out a context writes: L_out over the partition's dies (R301, R375). -/
def State.spillNeed (s : State) (p : Part) (holder v : Nat) : Nat := (p.dies.map (s.lOut p holder v)).sum

/-- The pre-emption asked for takes place, or is refused for want of spill space (R374, R375). (Log entry 65: DEDUCED.) -/
def State.preemptNow (s : State) (part c : Nat) (p : Part) (sl : Slice) : State :=
  if !(s.canRun true c || s.canRun false c) then s.modPart part (fun q => { q with yield := none })
  else
    let out := s.preemptOut part c
    let need := match out with | some v => s.spillNeed p sl.ctx v | none => 0
    if out.isSome && s.spillFree part < need then
      (s.modPart part (fun q => { q with yield := none, retry := some c })).event (s.ownerOf c) 0x02 c part need
    else
      let left := sl.start + sl.length - s.time.now
      let s1 := (s.saveGroups part sl.ctx).beginSwitch part c (p.quantum * 1000) out
      s1.modPart part (fun q => { q with
        preempted := if left = 0 || out = some sl.ctx then q.preempted else (sl.ctx, left) :: q.preempted })

/-- Has a partition a switch in progress? -/
def State.switching (s : State) (part : Nat) : Bool := ((Tab.get s.parts part).map (fun p => p.switch.isSome)).getD false

/-- PARTITION_YIELD_POINT (R371, R373 to R375). -/
def execPartitionYieldPoint (part : Nat) (s : State) : Out :=
  .next (match Tab.get s.parts part with
    | none => s
    | some p =>
      match p.slice, p.yield with
      | some sl, some y =>
        if !s.live || !s.atYield p sl.ctx then s
        else
          (match y with
           | .preempt c => s.preemptNow part c p sl
           | .sliceEnd =>
             let s1 := s.saveGroups part sl.ctx
             let s2 := s1.passSlice part
             if s2.switching part then s2 else s.passSlice part)
      | _, _ => s)

/-! ### Switches (R372) -/

/-- A saved OPEN group goes back into a FREE group of its engine and runs on at its next round. -/
def State.restoreGroup (s : State) (v : SavedAt) : State :=
  let t := s.tile v.tile
  let e := t.engine v.eng
  match e.freeGroup with
  | none => s
  | some i =>
    ((s.setTile v.tile (t.setEngine v.eng { e with
      groups := Tab.set e.groups i v.group, current := some i, stage := [], starting := e.gated })).fillStage v.tile v.eng).touchTile v.tile

/-- The incoming context's groups, pinned extents and spilled copies are back, and its slice starts. -/
def State.enterSlice (s : State) (part ctx len : Nat) : State :=
  match s.ctx? ctx with
  | none => s
  | some x =>
    let opened := x.saved.filter (fun v => v.group.state = .opened)
    let tiles := (opened.map (·.tile) ++ x.ops.flatMap (fun o => o.placed.map (·.2))).eraseDups
    let s0 := if x.resident then s else s.swapIn ctx
    let s1 := s0.modCtx ctx (fun y => { y with saved := x.saved.filter (fun v => v.group.state != .opened) })
    let s2 := opened.foldl State.restoreGroup s1
    let s3 := ((tiles.map tileCluster).eraseDups).foldl State.wakeCluster s2
    s3.modPart part (fun p => { p with switch := none, slice := some ⟨ctx, s.time.now, len⟩ })

/-- SWITCH_DONE (R372). A context that left RUNNABLE while it was brought in ends its slice at once. -/
def execSwitchDone (part : Nat) (s : State) : Out :=
  .next (match Tab.get s.parts part with
    | none => s
    | some p =>
      match p.switch with
      | none => s
      | some w =>
        if !s.live then s
        else
          match w.incoming with
          | none => (s.modPart part (fun q => { q with switch := none })).passSlice part
          | some c =>
            if ((s.ctx? c).map (fun x => x.state == CState.faulted)).getD true then
              (s.modPart part (fun q => { q with switch := none })).passSlice part
            else
              let s1 := s.enterSlice part c w.length
              if s1.isState c .runnable then s1 else s1.passSlice part)

/-! ### The placement window (Table 10.7) -/

/-- An extent with its place in the order of moves. -/
structure ExtAt where
  ctx : Nat
  id : ExtentId
  e : Ext
deriving DecidableEq, Repr

/-- Insert by falling count, before those of an equal count: inserted from the last to the first, equal counts keep their
order. -/
def insertExt (a : ExtAt) : List ExtAt → List ExtAt
  | [] => [a]
  | b :: l => if a.e.count < b.e.count then b :: insertExt a l else a :: b :: l

/-- The extents of the resident contexts of a partition: higher counts first, then handle and extent, pools after tensors
(R295). -/
def State.extsOf (s : State) (part : Nat) : List ExtAt :=
  (((s.ctxsOf part).filter (fun c => c.2.resident)).flatMap (fun c => c.2.exts.map (fun e => (⟨c.1, e.1, e.2⟩ : ExtAt)))).foldr insertExt []

/-- Is an extent one of a tensor that the ledger holds in its stash regions (R180, R182)? -/
def State.inRegion (s : State) (a : ExtAt) : Bool := !a.id.pool && ((s.ctx? a.ctx).map (fun x => x.stashed a.id.handle)).getD false

/-- Bytes of a context that lie in HBM, or in ballast, once moves are done. -/
def Ctx.hbmAfter (x : Ctx) : Nat := x.bytesOf (fun i e => x.ordinary i && e.target.isHbm)
def Ctx.ballastAfter (x : Ctx) : Nat := x.bytesOf (fun i e => x.ordinary i && !e.target.isHbm)

/-- The state of a window's moves: the module, and moves begun by die. -/
structure Moves where
  s : State
  used : Tab Nat
deriving DecidableEq, Repr

/-- Begin a move that counts for a die: at most 64 in a window. (Log entry 70: DEDUCED.) -/
def Moves.move (m : Moves) (die : Nat) (a : ExtAt) (h : Home) : Moves :=
  if 64 ≤ Tab.getD m.used die 0 then m
  else ⟨m.s.modExt a.ctx a.id (fun e => if e.moving.isSome then e else { e with moving := some h }),
    Tab.set m.used die (Tab.getD m.used die 0 + 1)⟩

/-- Does an extent of the window stand where it was, its move not begun? -/
def State.still (s : State) (a : ExtAt) : Bool := (((s.ctx? a.ctx).bind (fun x => x.ext? a.id)).map (fun e => e.moving.isNone)).getD false

/-- The job's HBM extent of lowest count, a tensor's, none of it moving, outside the stash regions; ties go to the oldest tensor.
-/
def Moves.coldest (m : Moves) (all : List ExtAt) (ctx : Nat) : Option ExtAt :=
  (all.filter (fun b => b.ctx = ctx && !b.id.pool && b.e.home.isHbm && m.s.still b && !m.s.inRegion b)).foldl
    (fun best b => match best with | none => some b | some c => if b.e.count < c.e.count then some b else some c) none

/-- Accesses in the window by die. -/
def Ext.byDie (e : Ext) (d : Nat) : Nat := ((e.byCluster.filter (fun c => c.1 / 8 = d)).map (·.2)).sum

/-- The clusters of a die that read an extent in the window. -/
def Ext.clustersOn (e : Ext) (d : Nat) : Nat := (e.byCluster.filter (fun c => c.1 / 8 = d && c.2 != 0)).length

/-- The ballast channel that extent i takes. -/
def Part.channelOf (p : Part) (i : Nat) : Nat := p.channels.getD (i % max 1 p.channels.length) 0

/-- Ballast to HBM, and between stacks. What the ledger holds in ballast stays there (R182), and what lies in its HBM region moves
between stacks alone. -/
def Moves.home (p : Part) (all : List ExtAt) (m : Moves) (a : ExtAt) : Moves :=
  if !m.s.still a then m
  else match a.e.home with
  | .ballast ch =>
    if a.e.count < 8 || m.s.inRegion a then m
    else
      (match m.s.ctx? a.ctx with
       | none => m
       | some x =>
         if x.hbmAfter + x.extBytes a.id ≤ x.placementShare then
           let st := m.s.freeStack p.stacks
           m.move (st / 2) a (.hbm st)
         else
           match m.coldest all a.ctx with
           | some b =>
             (match b.e.home with
              | .hbm st =>
                if 4 * b.e.count ≤ a.e.count && Tab.getD m.used (st / 2) 0 + 2 ≤ 64
                    && x.hbmAfter + x.extBytes a.id ≤ x.placementShare + x.extBytes b.id then
                  (m.move (st / 2) b (.ballast ch)).move (st / 2) a (.hbm st)
                else m
              | .ballast _ => m)
           | none => m)
  | .hbm st =>
    let total := (a.e.byCluster.map (·.2)).sum
    match p.dies.find? (fun d => d != st / 2 && total != 0 && 3 * total ≤ 4 * a.e.byDie d) with
    | some d => m.move d a (.hbm (m.s.freeStack [2 * d, 2 * d + 1]))
    | none => m

/-- HBM to ballast, for each job whose placement share must make room: lowest count first, then oldest tensor. Pools and stash
entries stay, and no more goes than BALLAST_QUOTA has room for. -/
def Moves.makeRoom (p : Part) (all : List ExtAt) (m : Moves) : Moves :=
  (all.foldl (fun l a => insertCold a l) []).foldl (fun m a =>
    match m.s.ctx? a.ctx, a.e.home with
    | some x, .hbm st =>
      if x.placementShare < x.hbmAfter && !a.id.pool && m.s.still a && !m.s.inRegion a
          && x.ballastAfter + x.extBytes a.id ≤ x.params.ballastQuota * unitBytes then
        m.move (st / 2) a (.ballast (p.channelOf a.id.index))
      else m
    | _, _ => m) m
where
  /-- Insert by rising count, after those of an equal count. -/
  insertCold (a : ExtAt) : List ExtAt → List ExtAt
    | [] => [a]
    | b :: l => if a.e.count < b.e.count then a :: b :: l else b :: insertCold a l

/-- Copies in a die's pool. -/
def poolCopies (all : List ExtAt) (d : Nat) : List ExtAt := all.filter (fun a => (Tab.get a.e.pools d).isSome)

/-- The die-pool rule for one extent on one die: ways 0 to 13 (R283). -/
def State.poolRule (s : State) (part : Nat) (a : ExtAt) (d : Nat) : State :=
  if a.e.count < 32 || a.e.clustersOn d < 2 || (Tab.get a.e.pools d).isSome then s
  else
    let add (t : State) : State := match t.freeWay d with
      | some w => t.modExt a.ctx a.id (fun e => { e with pools := Tab.set e.pools d w })
      | none => t
    if (s.freeWay d).isSome then add s
    else
      match (poolCopies (s.extsOf part) d).foldl (fun best (b : ExtAt) =>
          match best with | none => some b | some (c : ExtAt) => if b.e.count < c.e.count then some b else some c) none with
      | some b => if 2 * b.e.count ≤ a.e.count then add (s.modExt b.ctx b.id (Ext.dropPool d)) else s
      | none => s

/-- The rules of a window for one partition. -/
def State.placePart (s : State) (part : Nat) : State :=
  match Tab.get s.parts part with
  | none => s
  | some p =>
    let all := s.extsOf part
    let m := (Moves.makeRoom p all ⟨s, []⟩)
    let m1 := all.foldl (Moves.home p all) m
    all.foldl (fun t a => p.dies.foldl (fun t d => t.poolRule part a d) t) m1.s

/-- The end of a window for an extent: counts halved, accesses by cluster begun again (R279). -/
def Ext.halve (e : Ext) : Ext := { e with count := e.count / 2, byCluster := [] }

/-- PLACEMENT_WINDOW (R279, R295). -/
def execPlacementWindow (s : State) : Out :=
  .next (if s.live then
    let s1 := (Tab.keys s.parts).foldl State.placePart s
    { s1 with ctxs := Tab.mapVals s1.ctxs (fun _ x => x.mapExts Ext.halve) }
  else s)

/-- An extent's copy is complete: it switches to its new place, which holds what was written last (R296). -/
def Ext.moved (e : Ext) : Ext := if e.moving.isSome then { e with home := e.target, moving := none, dirty := [] } else e

/-- EXTENT_MOVE_DONE (R296): the copy is complete and the extent switches to its new place. -/
def execExtentMoveDone (ctx : Nat) (ext : ExtentId) (s : State) : Out :=
  .next (if s.live then s.modExt ctx ext Ext.moved else s)

/-- SPILL_MERGE_DONE (R301): the spilled copies of an extent are merged into its home, and their space is free. -/
def execSpillMergeDone (ctx : Nat) (ext : ExtentId) (s : State) : Out :=
  .next (if s.live then s.modExt ctx ext (fun e => { e with spilled := [] }) else s)

end Sys2Proof.Machine
end

