-- ==== Sys2Proof/Machine/Tickets.lean ====
section
/-! DEFINITION. Tickets: fetch, acceptance, completion; serving slots set by a batch (R323 to R328, R343,
R344, R361 to R367, R378 to R380). -/

namespace Sys2Proof.Machine

/-! ### Fetch (R362, R364) -/

/-- Has a ring a ticket to fetch now? -/
def State.wantsFetch (s : State) (g : Nat) : Bool :=
  match Tab.get s.rings g with
  | some r =>
    let f := s.fn (s.ownerOf r.params.ctx)
    f.avail && !f.awaitResync && r.journaling.isNone && (!r.again.isEmpty || (!r.stopped && r.accepted < r.tail))
  | none => false

/-- The ring the winch fetches from next (R376). -/
def State.fetchWinner (s : State) : Option Nat :=
  leastBy (fun g => (g + 16384 - s.arb.ringFetch) % 16384) ((s.rings.map (·.1)).filter s.wantsFetch)

/-- A doorbell fetch that has been made is taken off the list. -/
def Ring.took (r : Ring) : Ring := { r with again := r.again.drop 1 }

/-- A ticket is rejected: the control block says so, and fetching stops (R362, R366). -/
def State.rejectTicket (s : State) (g : Nat) (t : Ticket) (status desc : Nat) : State :=
  (s.modRing g (fun r => { r with
    rejectSeq := t.tseq, rejectStatus := status, rejectDesc := desc, rejectCount := satAdd 32 r.rejectCount 1, stopped := true })).writeCtrl g 16 16

/-- A DUPLICATE is reported (R323, R366). -/
def State.duplicate (s : State) (g : Nat) (r : Ring) (t : Ticket) : State :=
  let s1 := (s.setRing g { r with dupSeq := t.tseq, dupCount := satAdd 32 r.dupCount 1 }).writeCtrl g 32 12
  if t.irqAccept then s1.jobVector (s.ownerOf r.params.ctx) r.params.vector else s1

/-- Check 3 of R364: the fields of the ticket (Table 12.8), reserved ones zero (R10). -/
def ticketFieldsOk (t : Ticket) : Bool :=
  !t.reserved
  && (if t.kind = 3 then t.descCount = 0 && t.descAddr = 0 && t.resultAddr = 0
      else (t.kind = 1 || t.kind = 2) && 1 ≤ t.descCount && t.descCount ≤ 4096 && t.descAddr % 64 = 0
        && t.resultAddr % 16 = 0 && t.commitId = 0)

/-- Is a COMMIT_ID not greater than every one that the job has used; and the job once it has used it (R329)? -/
def Ctx.usedCommit (x : Ctx) (id : Nat) : Bool := x.lastCommitId.any (fun n => id ≤ n)
def Ctx.useCommit (x : Ctx) (id : Nat) : Ctx := { x with lastCommitId := some (max (x.lastCommitId.getD 0) id) }

/-- The outcome of the checks on a ticket: a rejection with its status and descriptor, or none. (Log entry 33: DEDUCED.) -/
def ticketReject (x : Ctx) (t : Ticket) (ds : List Desc) : Option (Nat × Nat) :=
  if x.state = .faulted then some (0x102, 0xFFFF)
  else if !ticketFieldsOk t then some (0x100, 0xFFFF)
  else
    match firstBad ds with
    | some i => some (0x100, i)
    | none =>
      if (t.kind = 2 && !batchOk ds) || (t.kind = 1 && ds.any (fun d => d.opcode = 0x60)) then some (0x100, 0xFFFF)
      else if t.kind = 3 && x.usedCommit t.commitId then some (0x103, 0xFFFF)
      else none

/-- A ticket that has passed its checks is journaled, or waits: for its ring to be let go on by a replay
(R342), for room in the journal, which JOURNAL_WAIT shows (R324). -/
def State.journalTicket (s : State) (g : Nat) (r : Ring) (j : Journaling) : State :=
  let bodies := ticketBodies j.ticket j.descs
  if j.written || s.ringHeld g r || !s.journalRoom bodies.length then s
  else
    let n := s.jr.nextSeq
    let s1 := s.journal g r.params.ctx j.ticket.tseq bodies
    s1.setRing g { r with journaling := some { j with firstSeq := n, lastSeq := s1.jr.nextSeq, written := true } }

/-- A fetched ticket is judged (R364); a COMMIT that passes has used its COMMIT_ID (R329). -/
def State.judge (s : State) (g : Nat) (r : Ring) (x : Ctx) (got : Fetched) : State :=
  let t := ticketOf got.ticket
  let ds := (descsOf got.descs).take t.descCount
  if 1 ≤ t.tseq ∧ t.tseq ≤ r.accepted then s.duplicate g r t
  else if t.tseq != r.accepted + 1 then s.rejectTicket g t 0x101 0xFFFF
  else
    match ticketReject x t ds with
    | some (status, desc) =>
      let s1 := s.rejectTicket g t status desc
      if desc = 0xFFFF then s1 else s1.jobWrite x.owner (t.resultAddr + 16 * desc) (statusRecord 1)
    | none =>
      let j : Journaling := ⟨t, ds, 0, 0, false⟩
      let r1 := { r with journaling := some j }
      let s1 := if t.kind = 3 then s.setCtx r.params.ctx (x.useCommit t.commitId) else s
      (s1.setRing g r1).journalTicket g r1 j

/-- TICKET_FETCH (R362, R364, R390): the ring the arbiter grants; a failed read stops fetching until the
next doorbell write. (Log entry 96: DEDUCED.) -/
def execTicketFetch (ring : Nat) (got : Option Fetched) (s : State) : Out :=
  .next (if s.live && s.fetchWinner = some ring then
      match Tab.get s.rings ring with
      | some r =>
        let r1 := if r.again.isEmpty then r else r.took
        let s1 := { s.setRing ring r1 with arb := { s.arb with ringFetch := (ring + 1) % 16384 } }
        match got, s1.ctx? r.params.ctx with
        | some f, some x => s1.judge ring r1 x f
        | none, _ => s1.setRing ring { r1 with stopped := true }
        | _, none => s1
      | none => s
    else s)

/-! ### Acceptance (R324, R325) -/

/-- Add to a client's counts (R359). -/
def State.countClient (s : State) (client : Nat) (g : Counts → Counts) : State :=
  { s with clients := Tab.set s.clients client (g (Tab.getD s.clients client {})) }

/-- The run of an accepted ticket, accepted where the journal stands. -/
def newRun (x : Ctx) (ring : Nat) (j : Journaling) (at_ : Nat) : Run :=
  { ring := ring, tseq := j.ticket.tseq, ticket := j.ticket, descs := j.descs
    states := (List.range j.descs.length).map (fun _ => .waiting), gatherHbm := x.gatherHbm, accSeq := j.firstSeq, accAt := at_ }

/-- A ticket is accepted: A_g rises, the ring reports it, it becomes runnable. One whose context has been
torn down meanwhile completes at once with CONTEXT_FAULTED (R377). -/
def State.acceptTicket (s : State) (g : Nat) (r : Ring) (x : Ctx) (j : Journaling) : State :=
  let ctx := r.params.ctx
  let s1 := (s.setRing g { r with accepted := j.ticket.tseq, journaling := none }).writeCtrl g 0 8
  let s2 := if j.ticket.irqAccept then s1.jobVector x.owner r.params.vector else s1
  let run := newRun x g j s.jr.nextSeq
  let s3 := (s2.modCtx ctx (fun y => { y with runs := y.runs ++ [run] })).countClient
    x.params.client (fun c => { c with accepted := c.accepted + 1 })
  if x.state = .faulted then s3.stopRun ctx run 3 0 none else s3.refresh ctx

/-- TICKET_ACCEPT (R324, R342): once its records stand in every journal that acceptance needs, and no replay holds its ring. -/
def execTicketAccept (ring : Nat) (s : State) : Out :=
  .next (match Tab.get s.rings ring with
    | some r0 =>
      match r0.journaling with
      | some j0 =>
        if !s.live then s
        else
          let s1 := s.journalTicket ring r0 j0
          match Tab.get s1.rings ring with
          | some r =>
            match r.journaling, s1.ctx? r.params.ctx with
            | some j, some x => if j.written && s1.durable j.lastSeq && !s1.ringHeld ring r then s1.acceptTicket ring r x j else s1
            | _, _ => s1
          | none => s1
      | none => s
    | none => s)

/-! ### Completion (R326 to R328, R343, R367) -/

/-- A gathered tensor that a completed ticket held: at level NODE or GROUP it is released by the ticket of its XGATHER, or
after a re-gather with its last holder (R272, R273). -/
def Gathered.letGo (g : Gathered) (ring tseq : Nat) : Gathered :=
  if g.first = some (ring, tseq) then { g with first := none, held := g.level = .kept }
  else
    let hs := g.holders.filter (fun h => h != (ring, tseq))
    { g with holders := hs, held := g.held && (g.level = .kept || !hs.isEmpty || !g.holders.contains (ring, tseq)) }

/-- A ticket leaves its context: what it held is let go; a gathered tensor that is released loses its place (R271 to R273,
R294). -/
def Ctx.leave (x : Ctx) (ring tseq : Nat) : Ctx :=
  let gathered := Tab.mapVals x.gathered (fun _ g => g.letGo ring tseq)
  let freed (h : Nat) : Bool := ((Tab.get x.gathered h).map (·.held)).getD false && !((Tab.get gathered h).map (·.held)).getD true
  { x with
    runs := x.runs.filter (fun q => !(q.ring = ring && q.tseq = tseq))
    gathered := gathered
    tensors := Tab.mapVals x.tensors (fun h t => if freed h then { t with exts := [] } else t) }.sweepDeleted

/-- The completion entry of a ticket: its own; a rewritten one has the content that the journal holds, unless the batch names
a slot that restarts (R327, R343, R344; log entry 167: DEDUCED). -/
def State.completion (s : State) (q : Run) : List Byte :=
  if q.mode = .rewrite && q.status != some 4 then (s.journaledEnd q.ring q.tseq).getD q.entry else q.entry

/-- The completion entry is written at the position of its TSEQ, C_g follows, the vector is raised, the
client is counted. A ticket the host has consumed writes nothing; a replayed one counts nothing (R328; log entry 34:
DEDUCED). -/
def State.completeTicket (s : State) (ctx g : Nat) (r : Ring) (x : Ctx) (q : Run) : State :=
  let s1 := match q.mode with
    | .silent => s
    | _ => s.jobWrite x.owner (r.params.complAddr + 32 * ((q.tseq - 1) % r.params.depth)) (s.completion q)
  let s2 := match q.mode with
    | .silent => s1
    | _ => (s1.modRing g (fun k => k.completed q.tseq)).writeCtrl g 8 8
  let s3 := if q.mode != .silent && q.ticket.irqDone then s2.jobVector x.owner r.params.vector else s2
  let s4 := if q.mode = .normal then
      s3.countClient x.params.client (fun c => c.finish (q.status.getD 0))
    else s3
  ((s4.modCtx ctx (fun y => y.leave g q.tseq)).retryMaps ctx).refresh ctx

/-- TICKET_COMPLETE (R326): a ticket that is DONE, with its COMPLETE record in every journal; one whose record found no room
is tried again (R319). -/
def execTicketComplete (ring tseq : Nat) (s : State) : Out :=
  .next (match Tab.get s.rings ring with
    | some r =>
      match s.ctx? r.params.ctx with
      | some x =>
        match findRun x.runs ring tseq with
        | some q =>
          match q.doneSeq with
          | some n => if s.live && x.rollbackDue.isNone && s.durable n then s.completeTicket r.params.ctx ring r x q else s
          | none => if s.live then s.settle r.params.ctx ring tseq else s
        | none => s
      | none => s
    | none => s)

/-! ### Serving batches (R344, R379, R380) -/

/-- The slots a ticket's SLOT_SET descriptors name. -/
def Run.slots (r : Run) : List Nat :=
  ((r.descs.filter (fun d => d.opcode = 0x60)).flatMap slotEntries).map (fun e => e.1)

/-- Is a slot the context's? -/
def State.slotOf (s : State) (ctx slot : Nat) : Bool := ((Tab.get s.slots slot).map (fun l => l.ctx)) == some ctx

/-- SLOT_SET (R344, R379, R380): a batch that names a RESTART slot runs none of its descriptors; a slot of
another context rejects the descriptor; else each L is set. -/
def execSlotSet (ctx : Nat) (s : State) : Out :=
  .next (match s.dispatchable ctx 0x60 none false with
    | some (_, r, d) =>
      if r.next = 0 && r.slots.any (fun n => s.slotOf ctx n && ((Tab.get s.slots n).map (·.restart)).getD false) then
        (s.stopRun ctx r 4 0 none).refresh ctx
      else if (slotEntries d).any (fun e => !s.slotOf ctx e.1) then (s.rejectDesc ctx r).refresh ctx
      else
        let s1 := { s with slots := (slotEntries d).foldl (fun (t : Tab Slot) (e : Nat × Nat) =>
          Tab.modify t e.1 (fun l => { l with obj := { l.obj with length := e.2 } })) s.slots }
        ((s1.startDesc ctx r).endDesc ctx r.ring r.tseq r.next (statusRecord 0)).refresh ctx
    | none => s)

end Sys2Proof.Machine
end

