-- ==== Sys2Proof/Machine/Training.lean ====
section
/-! DEFINITION. Layer scopes, the activation stash, pipeline queues (R172 to R192). -/

namespace Sys2Proof.Machine

/-! ### LAYER (R172 to R175) -/

def Desc.stash0 (d : Desc) : Nat := d.f 1 31 0
def Desc.stash1 (d : Desc) : Nat := d.f 1 63 32
def Desc.scopeLen (d : Desc) : Nat := d.f 0 39 32
def Desc.isBackward (d : Desc) : Bool := d.f 0 8 8 = 1

/-- The shape of a gradient mask (R175). -/
def maskDims (dims : List Nat) : List Nat :=
  match dims.reverse with
  | [] => []
  | [c] => [ceilDiv c 64]
  | c :: r :: outer => outer.reverse ++ [ceilDiv r 64, ceilDiv c 64]

/-- Is a tensor a stash entry of the ledger? -/
def Ctx.inStash (x : Ctx) (h : Nat) : Bool := x.stash.any (fun e => e.handle = h)

/-- The ledger at a ticket's point of the order: an entry whose deletion was accepted before the ticket is no longer in it (R180,
R294). -/
def Ctx.prune (x : Ctx) (r : Run) : Ctx :=
  { x with stash := x.stash.filter (fun e => ((x.tensor? e.handle).map (fun t => !t.gone r)).getD false) }

/-- Is a dimension list that of the mask of a gradient? For a gradient of rank 1, which counts as R = 1, the spec does not say
whether the mask has rank 1 or 2: the model accepts both (R175; log entry 135: DESIGN CHOICE). -/
def maskFits (grad mask : List Nat) : Bool := mask = maskDims grad || (grad.length = 1 && mask = 1 :: maskDims grad)

/-- The checks of a LAYER that name tensors (Table 6.5). -/
def State.layerOk (s : State) (x : Ctx) (r : Run) (d : Desc) : Bool :=
  let scope := (r.descs.drop (r.next + 1)).take d.scopeLen
  if d.isBackward then
    (handles [d.stash0, d.stash1]).all x.inStash
    && (d.dst = 0 || (match x.sees r d.dst, x.operand r d.dst2 with
      | some g, some m => m.fmt = .b1 && maskFits (s.dimsOf g.obj) (s.dimsOf m)
      | _, _ => false))
  else
    (handles [d.stash0, d.stash1]).all (fun h =>
      (x.sees r h).isSome && !x.inStash h && scope.any (fun e => e.writes.contains h))

/-- LAYER (R172): opens a scope over the descriptors that follow. -/
def execLayer (ctx : Nat) (s : State) : Out :=
  .next (match s.dispatchable ctx 0x40 none false with
    | none => s
    | some (x0, r, d) =>
      let x := x0.prune r
      if !s.layerOk x r d then (s.rejectDesc ctx r).refresh ctx
      else
        let sc : Scope := { ring := r.ring, tseq := r.tseq, pos := r.next, len := d.scopeLen, backward := d.isBackward
                            layer := d.f 0 31 16, recomputable := d.f 0 9 9 = 1, recomputeFb := d.f 0 10 10 = 1
                            stash := handles [d.stash0, d.stash1], gradTarget := d.dst, gradMask := d.dst2
                            discarded := 0, recomputed := 0, redone := 0, inputs := [] }
        ((s.beginDesc ctx r d).modCtx ctx (fun y => { y.prune r with scope := some sc })).refresh ctx)

/-! ### The stash ledger (R178 to R183) -/

/-- Charges held in a tier. -/
def heldIn (t : StashTier) (l : List StashEntry) : Nat := ((l.filter (fun e => e.tier = t)).map (·.charge)).sum

/-- The first element that satisfies a predicate is changed. -/
def markEntry (h : Nat) (f : StashEntry → StashEntry) (l : List StashEntry) : List StashEntry :=
  l.map (fun e => if e.handle = h then f e else e)

/-- What placing an entry did: the ledger with the entry, entries spilled, entries dropped. -/
structure Placed where
  ledger : List StashEntry
  spilled : Nat
  dropped : Nat
deriving DecidableEq, Repr

/-- The loop of R181; none is STASH_EXHAUSTED. Each turn spills or drops an entry, or ends. -/
def placeLoop (hbm ballast : Nat) (fb : Bool) (e : StashEntry) : Nat → Placed → Option Placed
  | 0, _ => none
  | fuel + 1, p =>
    if e.charge ≤ hbm - heldIn .hbm p.ledger then some { p with ledger := p.ledger ++ [{ e with tier := .hbm }] }
    else
      let spillable := match p.ledger.find? (fun o => o.tier = .hbm) with
        | some o => if o.charge ≤ ballast - heldIn .ballast p.ledger then some o else none
        | none => none
      match spillable with
      | some o => placeLoop hbm ballast fb e fuel
          { p with ledger := markEntry o.handle (fun q => { q with tier := .ballast, moveDue := true }) p.ledger, spilled := p.spilled + 1 }
      | none =>
        if !fb then none
        else
          match p.ledger.reverse.find? (fun o => o.recomputable && o.tier != .dropped) with
          | some o => placeLoop hbm ballast fb e fuel
              { p with ledger := markEntry o.handle (fun q => { q with tier := .dropped, moveDue := false }) p.ledger, dropped := p.dropped + 1 }
          | none => if e.recomputable then some { p with ledger := p.ledger ++ [{ e with tier := .dropped }], dropped := p.dropped + 1 } else none

/-- The ledger places a new entry (R181). -/
def placeEntry (hbm ballast : Nat) (fb : Bool) (e : StashEntry) (p : Placed) : Option Placed :=
  if hbm < e.charge then none else placeLoop hbm ballast fb e (2 * p.ledger.length + 1) p

/-- The new entry of a forward scope. -/
def Ctx.newEntry (x : Ctx) (sc : Scope) (scope : List Desc) (h : Nat) : StashEntry :=
  { handle := h, charge := ((x.tensor? h).map (fun t => t.obj.charge)).getD 0, tier := .hbm
    recomputable := sc.recomputable, ring := sc.ring, tseq := sc.tseq, pos := sc.pos, scope := scope
    inputs := sc.inputs, moveDue := false, rebuilt := false
    first := if sc.recomputable then ((x.tensor? h).map (fun t => t.img)).getD [] else []
    firstT := ((x.tensor? h).map (fun t => t.obj.t)).getD 0 }

/-- Place the entries of a forward scope in turn. -/
def Ctx.placeAll (x : Ctx) (sc : Scope) (scope : List Desc) : Option Placed :=
  sc.stash.foldl (fun acc h => acc.bind (fun p =>
    placeEntry (x.params.stashHbm * unitBytes) (x.params.stashBallast * unitBytes) sc.recomputeFb (x.newEntry sc scope h) p))
    (some ⟨x.stash, 0, 0⟩)

/-- The LAYER record (Table 6.7). Table 6.7 gives a hold for DISCARDED_BLOCKS alone; the model holds the other counts at their
largest values too (R187; log entry 137: DESIGN CHOICE). -/
def layerRecord (sc : Scope) (spilled dropped : Nat) : List Byte :=
  let flags := (if !sc.backward && spilled != 0 then 1 else 0) + (if !sc.backward && dropped != 0 then 2 else 0)
    + (if sc.backward && dropped != 0 then 4 else 0)
  le 2 0 ++ le 1 0 ++ le 1 flags ++ le 4 (min 0xFFFFFFFF sc.discarded) ++ le 2 (min 0xFFFF spilled) ++ le 2 (min 0xFFFF dropped)
    ++ le 4 (min 0xFFFFFFFF sc.redone)

/-- Bytes that the spec leaves open, drawn for an image of n bytes. -/
def openImage (d : Nat → Byte) (n ctr : Nat) : Mem :=
  (List.range n).foldl (fun m i => Mem.put d m i (BitVec.ofNat 8 (Config.freeValue 8 (ctr + i)))) []

/-- A tensor is dropped (R181), or the recomputed copy of a released one is freed (R184): its extents go, and what its handle
then reads as is open (log entry 39: UNVERIFIED). -/
def State.forget (s : State) (ctx h : Nat) : State :=
  match (s.ctx? ctx).bind (fun x => x.tensor? h) with
  | some t =>
    let t1 := { t with img := openImage t.obj.dflt t.obj.bytes s.freeCtr, exts := [] }
    { s.modCtx ctx (fun x => { x with tensors := Tab.set x.tensors h t1 }) with freeCtr := s.freeCtr + t.obj.bytes }
  | none => s

/-- The entries of a ledger that are dropped and were not before. -/
def newDrops (before after : List StashEntry) : List Nat :=
  (after.filter (fun e => e.tier = .dropped && !before.any (fun o => o.handle = e.handle && o.tier = .dropped))).map (·.handle)

/-- An entry that the ledger holds in HBM lies there: its extents in ballast are moved into the stash region (R180, R181; log entry
136: DEDUCED). -/
def State.intoRegion (s : State) (x : Ctx) (h : Nat) : Ctx :=
  match Tab.get s.parts x.params.partition with
  | none => x
  | some p => { x with tensors := Tab.modify x.tensors h (fun t => { t with exts := Tab.mapVals t.exts (fun _ e =>
      if e.home.isHbm && e.target.isHbm then e else { e with home := .hbm (s.freeStack p.stacks), moving := none, dirty := [] }) }) }

/-- The ledger after a forward scope: what it holds in HBM lies there, what it dropped is gone. -/
def State.setLedger (s : State) (ctx : Nat) (x : Ctx) (before after : List StashEntry) : State :=
  let held := (after.filter (fun e => e.tier = .hbm && !before.any (fun o => o.handle = e.handle))).map (·.handle)
  (newDrops before after).foldl (fun a h => a.forget ctx h) (s.setCtx ctx { held.foldl s.intoRegion x with scope := none, stash := after })

/-- Is every descriptor of a scope over? (Log entry 49: DEDUCED.) -/
def Scope.over (sc : Scope) (r : Run) : Bool := ((r.states.take (sc.pos + sc.len + 1)).drop (sc.pos + 1)).all (· = .ended)

/-- SCOPE_COMPLETE (R179 to R181, R187): the descriptors of a scope have ended; a forward scope's entries are
placed, a backward scope's released. -/
def execScopeComplete (ctx : Nat) (s : State) : Out :=
  .next (match s.ctx? ctx with
    | none => s
    | some x0 =>
      match x0.scope with
      | none => s
      | some sc =>
        match findRun x0.runs sc.ring sc.tseq with
        | none => s
        | some r =>
          let x := x0.prune r
          if !s.live || !sc.over r then s
          else if sc.backward then
            let freed := (x.stash.filter (fun e => sc.stash.contains e.handle && e.tier = .dropped)).map (·.handle)
            let s1 := s.setCtx ctx { x with scope := none, stash := x.stash.filter (fun e => !sc.stash.contains e.handle) }
            ((freed.foldl (fun a h => a.forget ctx h) s1).endDesc ctx sc.ring sc.tseq sc.pos (layerRecord sc 0 sc.recomputed)).refresh ctx
          else
            match x.placeAll sc ((r.descs.drop (sc.pos + 1)).take sc.len) with
            | none => s.jobFault ctx 0x01 (some (sc.ring, sc.tseq, sc.pos))
            | some p =>
              ((s.setLedger ctx x x.stash p.ledger).endDesc ctx sc.ring sc.tseq sc.pos (layerRecord sc p.spilled p.dropped)).refresh ctx)

/-- STASH_MOVE (R180, R182): a spilled entry's extents are copied to the partition's ballast. -/
def execStashMove (ctx handle : Nat) (s : State) : Out :=
  .next (match s.ctx? ctx with
    | none => s
    | some x =>
      if s.live && x.stash.any (fun e => e.handle = handle && e.tier = .ballast && e.moveDue) then
        let chans := ((Tab.get s.parts x.params.partition).map (·.channels)).getD []
        s.setCtx ctx { x with
          stash := markEntry handle (fun e => { e with moveDue := false }) x.stash
          tensors := Tab.modify x.tensors handle (fun t => { t with
            exts := Tab.mapVals t.exts (fun i e => { e with home := .ballast (chans.getD (i % max 1 chans.length) 0), moving := none, dirty := [] }) }) }
      else s)

/-! ### Recomputation (R184, R185) -/

/-- An entry's tensor holds again what the scope first wrote (R185), placed as an ordinary tensor (R184); each write of it by the
scope counts (R293). -/
def State.rebuildEntry (s : State) (x : Ctx) (e : StashEntry) (writes : Nat) : Ctx :=
  let x1 := { x with
    stash := x.stash.map (fun q =>
      { (if q.handle = e.handle then { q with rebuilt := true } else q) with
        inputs := q.inputs.map (fun i => if i.1 = e.handle then (i.1, i.2 + writes) else i) })
    tensors := Tab.modify x.tensors e.handle (fun t => { t with img := e.first, obj := { t.obj with t := e.firstT } }) }
  (List.range writes).foldl (fun a _ => a.countWrite e.handle) ((s.house x1 e.handle).wroteAll e.handle)

/-- The ledger with an entry recomputed: entries rebuilt and descriptors run again, its dropped inputs first;
none when an input has been written since. A recomputation raises its tensor's write count (R293), which
counts as no change (log entry 40: DEDUCED). An input that the forward scope itself writes later, in place, counts as written
since; one that has been freed has write count 0 (R185; log entry 138: DEDUCED). -/
def State.recompute (s : State) : Nat → Ctx → Nat → Option (Ctx × Nat × Nat)
  | 0, x, _ => some (x, 0, 0)
  | fuel + 1, x, h =>
    match x.stash.find? (fun e => e.handle = h) with
    | none => some (x, 0, 0)
    | some e =>
      if e.tier != .dropped || e.rebuilt then some (x, 0, 0)
      else if e.inputs.any (fun i => x.writesOf i.1 != i.2) then none
      else
        match e.inputs.foldl (fun acc i => acc.bind (fun (a : Ctx × Nat × Nat) =>
            (State.recompute s fuel a.1 i.1).map (fun b => (b.1, a.2.1 + b.2.1, a.2.2 + b.2.2)))) (some (x, 0, 0)) with
        | none => none
        | some (y, n, ds) => some (s.rebuildEntry y e (e.scope.filter (fun d => d.writes.contains h)).length, n + 1, ds + e.scope.length)

/-- RECOMPUTE (R184, R185): the next descriptor of the job reads a dropped entry. R184 speaks of a backward descriptor; one outside
a backward scope has the entry recomputed too, and no record counts that (log entry 139: DESIGN CHOICE). -/
def execRecompute (ctx handle : Nat) (s : State) : Out :=
  .next (match s.ctx? ctx with
    | none => s
    | some x =>
      match x.nextDesc with
      | none => s
      | some (r, d) =>
        if s.live && s.holdsSlice ctx && x.state != .faulted && d.reads.contains handle && x.dropped handle then
          match s.recompute (x.stash.length + 1) x handle with
          | none => s.faultAt ctx r 0x02
          | some (y, n, ds) =>
            (s.setCtx ctx { y with scope := y.scope.map (fun sc =>
              if sc.covers r r.next && sc.backward then { sc with recomputed := sc.recomputed + n, redone := sc.redone + ds } else sc) }).refresh ctx
        else s)

/-! ### Pipeline queues (R188 to R192) -/

def Desc.queueId (d : Desc) : Nat := d.f 0 31 16

/-- The contents of a tensor as a slot holds them; none when a page faults. -/
def State.imageForSlot (s : State) (x : Ctx) (h : Nat) : Option SlotImage :=
  match x.tensor? h with
  | none => none
  | some t =>
    if t.obj.kind = .wide then
      let ws := (List.range (elemCount t.obj.dims)).map (wideAt t)
      some ⟨true, .l8, t.obj.dims, 0, chunksOf (rowLen t.obj.dims) ws.length ws, []⟩
    else (s.readTensor x h).map (fun a => ⟨false, a.fmt, a.dims, a.t, a.codes, a.nibs⟩)

/-- A slot copied into a tensor of its format and shape; none when a page faults. -/
def State.fromSlot (s : State) (x : Ctx) (h : Nat) (q : SlotImage) : Option Ctx :=
  match x.tensor? h with
  | none => none
  | some t =>
    if q.wide then
      let t1 := (numbered q.codes.flatten).foldl (fun t (e : Nat × Nat) => putWide t e.1 e.2) t
      some ({ x with tensors := Tab.set x.tensors h t1 }.wroteAll h)
    else s.writeTensor x h q.t (allOf q.codes) (allOf q.nibs)

/-- Are a slot's format and shape those of a tensor (R191)? -/
def State.slotFits (s : State) (o : TObj) (q : SlotImage) : Bool :=
  q.wide == (o.kind == .wide) && (q.wide || q.fmt = o.fmt) && q.dims = s.dimsOf o

/-- Bytes of a tensor with its scale plane, as a slot holds it. -/
def State.slotBytes (s : State) (o : TObj) : Nat := { o with kind := if o.kind = .wide then .wide else .ordinary, dims := s.dimsOf o : TObj }.bytes

/-- The checks of a queue descriptor that name objects (R189). -/
def State.queueOk (s : State) (x : Ctx) (r : Run) (d : Desc) (send : Bool) : Bool :=
  match Tab.get x.queues d.queueId, x.sees r d.srcA with
  | some q, some t => q.params.send == send && s.slotBytes t.obj ≤ q.params.entryBytes
  | _, _ => false

/-- The bulk virtual channel of a queue (Table 8.4). -/
def Queue.vc (q : Queue) : Nat := 4 + q.params.bulkVc % 4

/-- Change a queue of a context. -/
def State.modQueue (s : State) (ctx id : Nat) (f : Queue → Queue) : State :=
  s.modCtx ctx (fun x => { x with queues := Tab.modify x.queues id f })

/-- QSEND (R190). -/
def execQsend (ctx : Nat) (s : State) : Out :=
  .next (match s.dispatchable ctx 0x48 none false with
    | none => s.wakeNext ctx
    | some (x, r, d) =>
      match Tab.get x.queues d.queueId with
      | none => (s.rejectDesc ctx r).refresh ctx
      | some q =>
        if !s.queueOk x r d true then (s.rejectDesc ctx r).refresh ctx
        else
          match (s.seenBy r).imageForSlot x d.srcA with
          | none => s.faultAt ctx r 0x09
          | some slot =>
            let q1 := { q with credits := q.credits - 1, unacked := q.unacked ++ [(r.ring, r.tseq, r.next)] }
            (((s.beginDesc ctx r d).modQueue ctx d.queueId (fun _ => q1)).sendOn q.params.peer q.vc (some x.params.partition)
              (.queueSlot ctx d.queueId slot)).refresh ctx)

/-- QRECV (R190, R191). -/
def execQrecv (ctx : Nat) (s : State) : Out :=
  .next (match s.dispatchable ctx 0x49 none false with
    | none => s.wakeNext ctx
    | some (x, r, d) =>
      match Tab.get x.queues d.queueId, x.tensor? d.srcA with
      | some q, some t =>
        if !s.queueOk x r d false then (s.rejectDesc ctx r).refresh ctx
        else if x.writesGathered d then s.faultAt ctx r 0x08
        else
          match q.slots with
          | [] => s
          | slot :: rest =>
            if !s.slotFits t.obj slot then s.faultAt ctx r 0x03
            else
              let s1 := s.beginDesc ctx r d
              match s1.ctx? ctx with
              | none => s
              | some x1 =>
                match (s.seenBy r).fromSlot x1 d.srcA slot with
                | none => s.faultAt ctx r 0x09
                | some y =>
                  ((((s1.setCtx ctx { y.countWrite d.srcA with queues := Tab.set y.queues d.queueId { q with slots := rest } }).sendOn
                    q.params.peer q.vc (some x.params.partition) (.queueCredit ctx d.queueId)).endDesc
                      ctx r.ring r.tseq r.next (statusRecord 0)).refresh ctx)
      | _, _ => (s.rejectDesc ctx r).refresh ctx)

/-- The context with the named end of a queue, for a message of module `src` about its context `ctx`: the
same context on another module, another context on this one (R188; log entry 41: DEDUCED). -/
def State.queueEnd (s : State) (src ctx id : Nat) (send : Bool) : Option Nat :=
  let has (x : Ctx) : Bool := match Tab.get x.queues id with | some q => q.params.send == send && q.params.peer = src | none => false
  if s.ident = some src then (s.ctxs.find? (fun c => c.1 != ctx && has c.2)).map (·.1)
  else match s.ctx? ctx with
    | some x => if has x then some ctx else none
    | none => none

/-- Was a queue end destroyed here, and not made again (R356)? -/
def State.queueGone (s : State) (ctx id : Nat) : Bool := ((s.ctx? ctx).map (fun x => x.goneQueues.contains id)).getD false

/-- QUEUE_SLOT (R190): a slot arrives, is written and acknowledged; before this end exists it waits. -/
def execQueueSlot (src vc : Nat) (s : State) : Out :=
  .next (match takeFrom src vc s.net.inbox with
    | some (⟨_, _, port, .queueSlot ctx id slot, _, _⟩, rest) =>
      if !s.live then s
      else
        match s.queueEnd src ctx id false with
        | none => if s.queueGone ctx id then (s.setInbox rest).misroutedMsg port else s
        | some c =>
          let s1 := (s.setInbox rest).modQueue c id (fun q => { q with slots := q.slots ++ [slot] })
          (s1.sendOn src vc (some (s.partOf c)) (.slotWritten c id)).refresh c
    | _ => s)

/-- SLOT_WRITTEN_ACK (R190): the oldest unacknowledged QSEND of the queue completes. -/
def execSlotWrittenAck (src vc : Nat) (s : State) : Out :=
  .next (match takeFrom src vc s.net.inbox with
    | some (⟨_, _, port, .slotWritten ctx id, _, _⟩, rest) =>
      if !s.live then s
      else
        match s.queueEnd src ctx id true with
        | none => if s.queueGone ctx id then (s.setInbox rest).misroutedMsg port else s.setInbox rest
        | some c =>
          let s1 := s.setInbox rest
          match ((s1.ctx? c).bind (fun x => Tab.get x.queues id)).bind (fun q => q.unacked.head?) with
          | some (ring, tseq, pos) =>
            ((s1.modQueue c id (fun q => { q with unacked := q.unacked.drop 1 })).endDesc c ring tseq pos (statusRecord 0)).refresh c
          | none => s1
    | _ => s)

/-- QUEUE_CREDIT (R190): a credit returns; a waiting QSEND may go on. -/
def execQueueCredit (src vc : Nat) (s : State) : Out :=
  .next (match takeFrom src vc s.net.inbox with
    | some (⟨_, _, port, .queueCredit ctx id, _, _⟩, rest) =>
      if !s.live then s
      else
        match s.queueEnd src ctx id true with
        | none => if s.queueGone ctx id then (s.setInbox rest).misroutedMsg port else s.setInbox rest
        | some c =>
          ((s.setInbox rest).modQueue c id (fun q => { q with credits := min q.params.depth (q.credits + 1) })).refresh c
    | _ => s)

end Sys2Proof.Machine
end

