-- ==== Sys2Proof/Machine/Dispatch.lean ====
section
/-! DEFINITION. The dispatch of commands to their meanings, one arm per constructor. -/

namespace Sys2Proof.Machine

def exec (i : Instr) (s : State) : Host.Outcome State Fault Refusal :=
  match i with
  | .partitionCreate h p => Sys2Proof.Machine.execPartitionCreate h p s
  | .partitionDestroy h part => Sys2Proof.Machine.execPartitionDestroy h part s
  | .partitionQuantum h part quantum => Sys2Proof.Machine.execPartitionQuantum h part quantum s
  | .contextCreate h p => Sys2Proof.Machine.execContextCreate h p s
  | .contextDestroy h ctx => Sys2Proof.Machine.execContextDestroy h ctx s
  | .contextPriority h ctx prio => Sys2Proof.Machine.execContextPriority h ctx prio s
  | .contextQuery h ctx => Sys2Proof.Machine.execContextQuery h ctx s
  | .ringCreate h p => Sys2Proof.Machine.execRingCreate h p s
  | .ringDestroy h ring => Sys2Proof.Machine.execRingDestroy h ring s
  | .clientCounts h client => Sys2Proof.Machine.execClientCounts h client s
  | .tensorCreate h ctx p => Sys2Proof.Machine.execTensorCreate h ctx p s
  | .tensorDelete h ctx handle => Sys2Proof.Machine.execTensorDelete h ctx handle s
  | .tensorMap h ctx handle offset => Sys2Proof.Machine.execTensorMap h ctx handle offset s
  | .tensorUnmap h ctx handle => Sys2Proof.Machine.execTensorUnmap h ctx handle s
  | .tensorQuery h ctx handle => Sys2Proof.Machine.execTensorQuery h ctx handle s
  | .kvPoolCreate h ctx pages persistent => Sys2Proof.Machine.execKvPoolCreate h ctx pages persistent s
  | .kvMap h ctx slot first count entries => Sys2Proof.Machine.execKvMap h ctx slot first count entries s
  | .kvPoolDestroy h ctx pool => Sys2Proof.Machine.execKvPoolDestroy h ctx pool s
  | .slotAssign h ctx bytes prompt => Sys2Proof.Machine.execSlotAssign h ctx bytes prompt s
  | .slotRelease h ctx slot => Sys2Proof.Machine.execSlotRelease h ctx slot s
  | .slotQuery h ctx slot addr => Sys2Proof.Machine.execSlotQuery h ctx slot addr s
  | .queueCreate h ctx p => Sys2Proof.Machine.execQueueCreate h ctx p s
  | .xgroupCreate h ctx group count members => Sys2Proof.Machine.execXgroupCreate h ctx group count members s
  | .gatherBudget h ctx units => Sys2Proof.Machine.execGatherBudget h ctx units s
  | .mapPlan h ctx p readFails => Sys2Proof.Machine.execMapPlan h ctx p readFails s
  | .queueDestroy h ctx queue => Sys2Proof.Machine.execQueueDestroy h ctx queue s
  | .xgroupDestroy h ctx group => Sys2Proof.Machine.execXgroupDestroy h ctx group s
  | .mapPlanDrop h ctx plan => Sys2Proof.Machine.execMapPlanDrop h ctx plan s
  | .moduleIdSet h ident size => Sys2Proof.Machine.execModuleIdSet h ident size s
  | .fabricReserve h part share lend => Sys2Proof.Machine.execFabricReserve h part share lend s
  | .portReset h port => Sys2Proof.Machine.execPortReset h port s
  | .cartridgeRelease h cart => Sys2Proof.Machine.execCartridgeRelease h cart s
  | .twinPair h ident => Sys2Proof.Machine.execTwinPair h ident s
  | .twinUnpair h discard => Sys2Proof.Machine.execTwinUnpair h discard s
  | .twinSolo h => Sys2Proof.Machine.execTwinSolo h s
  | .twinRestore h survivor => Sys2Proof.Machine.execTwinRestore h survivor s
  | .jobRollback h ctx commit => Sys2Proof.Machine.execJobRollback h ctx commit s
  | .commitRelease h ctx commit => Sys2Proof.Machine.execCommitRelease h ctx commit s
  | .journalQuery h byRing number => Sys2Proof.Machine.execJournalQuery h byRing number s
  | .fwUpdate h addr len image => Sys2Proof.Machine.execFwUpdate h addr len image s
  | .moduleReset h => Sys2Proof.Machine.execModuleReset h s
  | .functionResync h discard => Sys2Proof.Machine.execFunctionResync h discard s
  | .certRead h addr => Sys2Proof.Machine.execCertRead h addr s
  | .attestQuote h nonce scope ctx addr => Sys2Proof.Machine.execAttestQuote h nonce scope ctx addr s
  | .regionQuery h addr => Sys2Proof.Machine.execRegionQuery h addr s
  | .winchMboxCfgWrite fn value => Sys2Proof.Machine.execWinchMboxCfgWrite fn value s
  | .winchEvqCfgWrite fn value => Sys2Proof.Machine.execWinchEvqCfgWrite fn value s
  | .ringDoorbell fn ring width tailSeq => Sys2Proof.Machine.execRingDoorbell fn ring width tailSeq s
  | .fabricTimeLoRead fn => Sys2Proof.Machine.execFabricTimeLoRead fn s
  | .logSnap fn value => Sys2Proof.Machine.execLogSnap fn value s
  | .logSnapDone => Sys2Proof.Machine.execLogSnapDone s
  | .logDataRead fn => Sys2Proof.Machine.execLogDataRead fn s
  | .xdTelemCfgWrite fn value => Sys2Proof.Machine.execXdTelemCfgWrite fn value s
  | .xdTelemPeriodWrite fn value => Sys2Proof.Machine.execXdTelemPeriodWrite fn value s
  | .keepAwakeWrite fn value => Sys2Proof.Machine.execKeepAwakeWrite fn value s
  | .recoveryGo fn value => Sys2Proof.Machine.execRecoveryGo fn value s
  | .registerWrite fn offset width value => Sys2Proof.Machine.execRegisterWrite fn offset width value s
  | .bar2Read fn offset len => Sys2Proof.Machine.execBar2Read fn offset len s
  | .bar2Write fn offset bytes => Sys2Proof.Machine.execBar2Write fn offset bytes s
  | .ticketFetch ring got => Sys2Proof.Machine.execTicketFetch ring got s
  | .ticketAccept ring => Sys2Proof.Machine.execTicketAccept ring s
  | .ticketComplete ring tseq => Sys2Proof.Machine.execTicketComplete ring tseq s
  | .journalRecords src => Sys2Proof.Machine.execJournalRecords src s
  | .matrix ctx => Sys2Proof.Machine.execMatrix ctx s
  | .operandsReady tile task => Sys2Proof.Machine.execOperandsReady tile task s
  | .taskDispatch tile => Sys2Proof.Machine.execTaskDispatch tile s
  | .roundStart tile eng => Sys2Proof.Machine.execRoundStart tile eng s
  | .windowClose tile eng => Sys2Proof.Machine.execWindowClose tile eng s
  | .groupClose tile eng => Sys2Proof.Machine.execGroupClose tile eng s
  | .groupPark tile eng group => Sys2Proof.Machine.execGroupPark tile eng group s
  | .mergeCombine task => Sys2Proof.Machine.execMergeCombine task s
  | .groupDrainStart tile => Sys2Proof.Machine.execGroupDrainStart tile s
  | .groupDrainReadDone tile => Sys2Proof.Machine.execGroupDrainReadDone tile s
  | .drainStageDone tile => Sys2Proof.Machine.execDrainStageDone tile s
  | .convert ctx => Sys2Proof.Machine.execConvert ctx s
  | .add ctx => Sys2Proof.Machine.execAdd ctx s
  | .sub ctx => Sys2Proof.Machine.execSub ctx s
  | .mul ctx => Sys2Proof.Machine.execMul ctx s
  | .div ctx => Sys2Proof.Machine.execDiv ctx s
  | .mulAdd ctx => Sys2Proof.Machine.execMulAdd ctx s
  | .max ctx => Sys2Proof.Machine.execMax ctx s
  | .min ctx => Sys2Proof.Machine.execMin ctx s
  | .ladd ctx => Sys2Proof.Machine.execLadd ctx s
  | .square ctx => Sys2Proof.Machine.execSquare ctx s
  | .sqrt ctx => Sys2Proof.Machine.execSqrt ctx s
  | .recip ctx => Sys2Proof.Machine.execRecip ctx s
  | .exp ctx => Sys2Proof.Machine.execExp ctx s
  | .log ctx => Sys2Proof.Machine.execLog ctx s
  | .act ctx => Sys2Proof.Machine.execAct ctx s
  | .abs ctx => Sys2Proof.Machine.execAbs ctx s
  | .epilogue ctx => Sys2Proof.Machine.execEpilogue ctx s
  | .sum ctx => Sys2Proof.Machine.execSum ctx s
  | .sumsq ctx => Sys2Proof.Machine.execSumsq ctx s
  | .reduceMax ctx => Sys2Proof.Machine.execReduceMax ctx s
  | .reduceMin ctx => Sys2Proof.Machine.execReduceMin ctx s
  | .count ctx => Sys2Proof.Machine.execCount ctx s
  | .lse ctx => Sys2Proof.Machine.execLse ctx s
  | .meanvar ctx => Sys2Proof.Machine.execMeanvar ctx s
  | .softmax ctx => Sys2Proof.Machine.execSoftmax ctx s
  | .layer ctx => Sys2Proof.Machine.execLayer ctx s
  | .scopeComplete ctx => Sys2Proof.Machine.execScopeComplete ctx s
  | .stashMove ctx handle => Sys2Proof.Machine.execStashMove ctx handle s
  | .recompute ctx handle => Sys2Proof.Machine.execRecompute ctx handle s
  | .qsend ctx => Sys2Proof.Machine.execQsend ctx s
  | .qrecv ctx => Sys2Proof.Machine.execQrecv ctx s
  | .queueSlot src vc => Sys2Proof.Machine.execQueueSlot src vc s
  | .slotWrittenAck src vc => Sys2Proof.Machine.execSlotWrittenAck src vc s
  | .queueCredit src vc => Sys2Proof.Machine.execQueueCredit src vc s
  | .xreduce ctx => Sys2Proof.Machine.execXreduce ctx s
  | .xgather ctx => Sys2Proof.Machine.execXgather ctx s
  | .permute ctx => Sys2Proof.Machine.execPermute ctx s
  | .xs src => Sys2Proof.Machine.execXs src s
  | .xd src => Sys2Proof.Machine.execXd src s
  | .xv src => Sys2Proof.Machine.execXv src s
  | .xgatherData src => Sys2Proof.Machine.execXgatherData src s
  | .permuteData src => Sys2Proof.Machine.execPermuteData src s
  | .chainWords src => Sys2Proof.Machine.execChainWords src s
  | .regather ctx handle => Sys2Proof.Machine.execRegather ctx handle s
  | .slotSet ctx => Sys2Proof.Machine.execSlotSet ctx s
  | .commitFreeze ctx => Sys2Proof.Machine.execCommitFreeze ctx s
  | .cowCopy ctx ext => Sys2Proof.Machine.execCowCopy ctx ext s
  | .commitTransfer ctx => Sys2Proof.Machine.execCommitTransfer ctx s
  | .memoryWrite src => Sys2Proof.Machine.execMemoryWrite src s
  | .mirrorExtentAck src => Sys2Proof.Machine.execMirrorExtentAck src s
  | .commitCoordination src => Sys2Proof.Machine.execCommitCoordination src s
  | .commitSealed src => Sys2Proof.Machine.execCommitSealed src s
  | .memoryReadRequest src => Sys2Proof.Machine.execMemoryReadRequest src s
  | .memoryReadData src => Sys2Proof.Machine.execMemoryReadData src s
  | .winchControl src => Sys2Proof.Machine.execWinchControl src s
  | .twinAuth src => Sys2Proof.Machine.execTwinAuth src s
  | .sessionRekey => Sys2Proof.Machine.execSessionRekey s
  | .twinPairRetry => Sys2Proof.Machine.execTwinPairRetry s
  | .twinLost => Sys2Proof.Machine.execTwinLost s
  | .restoreRequest src => Sys2Proof.Machine.execRestoreRequest src s
  | .twinRestoreTimeout => Sys2Proof.Machine.execTwinRestoreTimeout s
  | .restoreStepDone step => Sys2Proof.Machine.execRestoreStepDone step s
  | .jobReplay ctx consumed => Sys2Proof.Machine.execJobReplay ctx consumed s
  | .partitionYieldPoint part => Sys2Proof.Machine.execPartitionYieldPoint part s
  | .sliceEnd part => Sys2Proof.Machine.execSliceEnd part s
  | .switchDone part => Sys2Proof.Machine.execSwitchDone part s
  | .lightDetected port => Sys2Proof.Machine.execLightDetected port s
  | .lightLost port => Sys2Proof.Machine.execLightLost port s
  | .trainingStepTimeout port => Sys2Proof.Machine.execTrainingStepTimeout port s
  | .trainingTimeout port => Sys2Proof.Machine.execTrainingTimeout port s
  | .portRetry port => Sys2Proof.Machine.execPortRetry port s
  | .train port flit => Sys2Proof.Machine.execTrain port flit s
  | .fecGroupReceive port group => Sys2Proof.Machine.execFecGroupReceive port group s
  | .packetReceive port packet => Sys2Proof.Machine.execPacketReceive port packet s
  | .ack port seq nak => Sys2Proof.Machine.execAck port seq nak s
  | .replay port got => Sys2Proof.Machine.execReplay port got s
  | .nakResendTimeout port => Sys2Proof.Machine.execNakResendTimeout port s
  | .ackInterval port => Sys2Proof.Machine.execAckInterval port s
  | .credit port counts => Sys2Proof.Machine.execCredit port counts s
  | .packetTransmit port => Sys2Proof.Machine.execPacketTransmit port s
  | .down port => Sys2Proof.Machine.execDown port s
  | .timeSync port flit => Sys2Proof.Machine.execTimeSync port flit s
  | .timeReply port t2 t3 => Sys2Proof.Machine.execTimeReply port t2 t3 s
  | .timeSyncTimer port => Sys2Proof.Machine.execTimeSyncTimer port s
  | .rootTimeout => Sys2Proof.Machine.execRootTimeout s
  | .rootInSync => Sys2Proof.Machine.execRootInSync s
  | .portWindowEnd port => Sys2Proof.Machine.execPortWindowEnd port s
  | .laserBiasLimit laser bias => Sys2Proof.Machine.execLaserBiasLimit laser bias s
  | .cartridgeInsert cart serial factory => Sys2Proof.Machine.execCartridgeInsert cart serial factory s
  | .laserLock cart => Sys2Proof.Machine.execLaserLock cart s
  | .mapPlanTimeout ctx plan => Sys2Proof.Machine.execMapPlanTimeout ctx plan s
  | .placementWindow => Sys2Proof.Machine.execPlacementWindow s
  | .extentMoveDone ctx ext => Sys2Proof.Machine.execExtentMoveDone ctx ext s
  | .errorDetected report => Sys2Proof.Machine.execErrorDetected report s
  | .patrolScrub pass => Sys2Proof.Machine.execPatrolScrub pass s
  | .errorWindowClose => Sys2Proof.Machine.execErrorWindowClose s
  | .logbookCommit => Sys2Proof.Machine.execLogbookCommit s
  | .logbookSecondSample => Sys2Proof.Machine.execLogbookSecondSample s
  | .logbookHourlySample => Sys2Proof.Machine.execLogbookHourlySample s
  | .powerSample r => Sys2Proof.Machine.execPowerSample r s
  | .governorInterval => Sys2Proof.Machine.execGovernorInterval s
  | .stepUpCheck => Sys2Proof.Machine.execStepUpCheck s
  | .clockStepApply => Sys2Proof.Machine.execClockStepApply s
  | .engineGate tile eng => Sys2Proof.Machine.execEngineGate tile eng s
  | .engineStart tile eng => Sys2Proof.Machine.execEngineStart tile eng s
  | .clusterSleep cluster => Sys2Proof.Machine.execClusterSleep cluster s
  | .dieNap die => Sys2Proof.Machine.execDieNap die s
  | .dieOff die => Sys2Proof.Machine.execDieOff die s
  | .dieRailUp die => Sys2Proof.Machine.execDieRailUp die s
  | .dieWakeDone die => Sys2Proof.Machine.execDieWakeDone die s
  | .clusterWakeDone cluster => Sys2Proof.Machine.execClusterWakeDone cluster s
  | .thermalShutdown r => Sys2Proof.Machine.execThermalShutdown r s
  | .telemetryWindowEnd => Sys2Proof.Machine.execTelemetryWindowEnd s
  | .powerApplied => Sys2Proof.Machine.execPowerApplied s
  | .inputDisconnect vin micros => Sys2Proof.Machine.execInputDisconnect vin micros s
  | .bootHeaderRead => Sys2Proof.Machine.execBootHeaderRead s
  | .bootBodyVerified => Sys2Proof.Machine.execBootBodyVerified s
  | .firmwareReady => Sys2Proof.Machine.execFirmwareReady s
  | .recoveryHeader source header => Sys2Proof.Machine.execRecoveryHeader source header s
  | .recoveryImageReceived image => Sys2Proof.Machine.execRecoveryImageReceived image s
  | .recoveryImageRequest ident => Sys2Proof.Machine.execRecoveryImageRequest ident s
  | .warmReset => Sys2Proof.Machine.execWarmReset s
  | .linkReset => Sys2Proof.Machine.execLinkReset s
  | .functionLevelReset fn => Sys2Proof.Machine.execFunctionLevelReset fn s
  | .functionUnavailable fn => Sys2Proof.Machine.execFunctionUnavailable fn s
  | .functionAvailable fn => Sys2Proof.Machine.execFunctionAvailable fn s
  | .winchMboxTailWrite fn value readFails => Sys2Proof.Machine.execWinchMboxTailWrite fn value readFails s
  | .equaliserLocked port => Sys2Proof.Machine.execEqualiserLocked port s
  | .codewordBoundariesFound port => Sys2Proof.Machine.execCodewordBoundariesFound port s
  | .cartridgeReleaseTimeout cart => Sys2Proof.Machine.execCartridgeReleaseTimeout cart s
  | .spillMergeDone ctx ext => Sys2Proof.Machine.execSpillMergeDone ctx ext s

end Sys2Proof.Machine
end

