-- ==== Sys2Proof/Machine/Blocks.lean ====
section
/-! DEFINITION. The 256 bytes of a command block and the command they spell (R352, R354, R355, R416, R478). The layouts that
the rule leaves to a reader are log entry 160: DEDUCED. -/

namespace Sys2Proof.Machine

/-- One field of PARAMS: its width, and the width it is aligned to. -/
abbrev BlockField := Nat × Nat

/-- Fields of a width, each aligned to it. -/
def field (w : Nat) : BlockField := (w, w)

/-- An array of n entries of a width. -/
def array (n w : Nat) : List BlockField := List.replicate n (w, w)

/-- The place of each field, from an offset on (R478). -/
def layout : Nat → List BlockField → List (Nat × Nat)
  | _, [] => []
  | a, (w, al) :: l => (alignUp a al, w) :: layout (alignUp a al + w) l

/-- The places of the parameters of a block: PARAMS begins at byte 32. -/
def paramPlaces (fs : List BlockField) : List (Nat × Nat) := layout 32 fs

/-- Is a byte of the block reserved: bytes 12 to 15, and what the parameters leave of PARAMS (Table 12.3)? -/
def spareByte (places : List (Nat × Nat)) (i : Nat) : Bool :=
  (12 ≤ i && i < 16) || (32 ≤ i && places.all (fun p => i < p.1 || p.1 + p.2 ≤ i))

/-- The layout of an opcode's parameters (Tables 12.5, 13.19); none for an unknown opcode. -/
def blockLayout (opcode : Nat) : Option (List BlockField) :=
  let c := field 2
  match opcode with
  | 0x0101 => some [field 1, field 1, field 4, field 4, field 4, field 1, field 4, field 8]
  | 0x0102 => some [field 1]
  | 0x0103 => some [field 1, field 4]
  | 0x0110 => some [field 1, field 2, field 1, field 8, field 4, field 4, field 4, field 4, field 4]
  | 0x0111 => some [c]
  | 0x0112 => some [c, field 1]
  | 0x0113 => some [c]
  | 0x0118 => some [c, field 4, field 8, field 8, field 8, field 1]
  | 0x0119 => some [field 2]
  | 0x011A => some [field 2]
  | 0x0201 => some ([c, field 1, field 1, field 1] ++ array 6 4 ++ [field 1, field 1, field 1, field 2, field 2, field 2, field 4, field 4])
  | 0x0202 => some [c, field 4]
  | 0x0203 => some [c, field 4, field 8]
  | 0x0204 => some [c, field 4]
  | 0x0205 => some [c, field 4]
  | 0x0210 => some [c, field 4, field 1]
  | 0x0211 => some [c, field 2, field 2, field 8, field 4]
  | 0x0212 => some [c, field 2]
  | 0x0218 => some [c, field 8, field 4]
  | 0x0219 => some [c, field 2]
  | 0x021A => some [c, field 2, field 8]
  | 0x0301 => some [c, field 2, field 1, field 4, field 2, field 4, field 1]
  | 0x0302 => some [c, field 2, field 8, field 4]
  | 0x0303 => some [c, field 4]
  | 0x0304 => some ([c, field 2, field 8, field 4, field 1] ++ array 6 1 ++ array 6 4 ++ array 6 4 ++ [field 2, field 8])
  | 0x0305 => some [c, field 2]
  | 0x0306 => some [c, field 2]
  | 0x0307 => some [c, field 2]
  | 0x0401 => some [field 4, field 4]
  | 0x0402 => some [field 1, field 1, field 1]
  | 0x0403 => some [field 1]
  | 0x0404 => some [field 1]
  | 0x0501 => some [field 4]
  | 0x0502 => some [field 1]
  | 0x0503 => some []
  | 0x0504 => some [field 4]
  | 0x0508 => some [c, field 8]
  | 0x0509 => some [c, field 8]
  | 0x050A => some [c, field 1, field 2]
  | 0x0601 => some [field 8, field 4]
  | 0x0602 => some []
  | 0x0603 => some [field 1]
  | 0x0604 => some [field 8]
  | 0x0605 => some (array 32 1 ++ [field 1, field 2, field 8])
  | 0x0606 => some [field 8]
  | _ => none

/-- The parameters of a block, in order, as unsigned numbers. -/
def blockParams (b : List Byte) (fs : List BlockField) : List Nat := (paramPlaces fs).map (fun p => fieldAt b p.1 p.2)

/-- The head of a block with a layout (Table 12.3): IRQ, TAG, and whether a reserved bit or byte is not zero. -/
def blockHead (fn : Nat) (b : List Byte) (fs : List BlockField) : CmdHead :=
  let flags := fieldAt b 2 2
  { fn := fn, irq := bitOf flags 0, tag := BitVec.ofNat 32 (fieldAt b 4 4)
    reserved := 2 ≤ flags || (List.range 256).any (fun i => spareByte (paramPlaces fs) i && b.getD i 0 != 0) }

/-- Host memory as the module reads it: the bytes at an address, or none when the read fails (R390). -/
abbrev HostRead := Nat → Nat → Option (List Byte)

/-- n little-endian 32-bit entries of a buffer. -/
def entries32 (n : Nat) (bs : List Byte) : List Nat := (List.range n).map (fun i => fieldAt bs (4 * i) 4)

/-- The array of parameters i to i + n − 1, its first k entries; the rest must be zero (R478). -/
def arrayOf (ps : List Nat) (i n k : Nat) : List Nat := ((ps.drop i).take n).take k
def restZero (ps : List Nat) (i n k : Nat) : Bool := (((ps.drop i).take n).drop k).all (· = 0)

/-- A command whose block cannot be what its opcode asks: it completes MALFORMED, as an unknown opcode does (R354, R355). -/
def malformedBlock (h : CmdHead) : Instr := .moduleReset { h with reserved := true }

/-- TENSOR_CREATE: entries of DIMS beyond RANK are zero, and so are the parameters of a view where KIND is none; a view's shape
is that of R307, whatever RANK and DIMS say. -/
def tensorBlock (h : CmdHead) (ps : List Nat) : Instr :=
  let p (i : Nat) : Nat := ps.getD i 0
  let rank := p 3
  let bad := 1 < p 11 || 1 < p 12 || (p 1 != 2 && (rank = 0 || 6 < rank || !restZero ps 4 6 rank || !restZero ps 13 5 0))
  .tensorCreate { h with reserved := h.reserved || bad } (p 0)
    { kind := p 1, format := p 2, dims := arrayOf ps 4 6 rank, t := signedOf (p 10) 8, persistent := p 11 = 1, pin := p 12 = 1
      kv := ⟨p 13, p 14, p 15, p 16, p 17⟩ }

/-- MAP_PLAN: entries of the cut arrays beyond CUT_COUNT are zero; the module list is read from the host. -/
def planBlock (h : CmdHead) (ps : List Nat) (mem : HostRead) : Instr :=
  let p (i : Nat) : Nat := ps.getD i 0
  let n := p 4
  let list := mem (p 2) (4 * p 3)
  let bad := n = 0 || 6 < n || !restZero ps 5 6 n || !restZero ps 11 6 n || !restZero ps 17 6 n
  .mapPlan { h with reserved := h.reserved || bad } (p 0)
    { id := p 1, modules := entries32 (p 3) (list.getD [])
      cuts := (List.range (min 6 n)).map (fun i => ⟨p (5 + i), p (11 + i), p (17 + i)⟩), prior := p 23, resultAddr := p 24 } list.isNone

/-- The command of a block's opcode with its parameters: partitions, contexts, rings. -/
def schedBlock (op : Nat) (h : CmdHead) (ps : List Nat) : Option Instr :=
  let p (i : Nat) : Nat := ps.getD i 0
  match op with
  | 0x0101 => some (.partitionCreate h ⟨p 0, p 1, p 2, p 3, p 4, p 5, p 6, BitVec.ofNat 64 (p 7)⟩)
  | 0x0102 => some (.partitionDestroy h (p 0))
  | 0x0103 => some (.partitionQuantum h (p 0) (p 1))
  | 0x0110 => some (.contextCreate h ⟨p 0, p 1, p 2, BitVec.ofNat 64 (p 3), p 4, p 5, p 6, p 7, p 8⟩)
  | 0x0111 => some (.contextDestroy h (p 0))
  | 0x0112 => some (.contextPriority h (p 0) (p 1))
  | 0x0113 => some (.contextQuery h (p 0))
  | 0x0118 => some (.ringCreate h ⟨p 0, p 1, p 2, p 3, p 4, p 5⟩)
  | 0x0119 => some (.ringDestroy h (p 0))
  | 0x011A => some (.clientCounts h (p 0))
  | _ => none

/-- Tensors, pools, slots, queues, groups, plans. -/
def objectBlock (op : Nat) (h : CmdHead) (ps : List Nat) (mem : HostRead) : Option Instr :=
  let p (i : Nat) : Nat := ps.getD i 0
  match op with
  | 0x0201 => some (tensorBlock h ps)
  | 0x0202 => some (.tensorDelete h (p 0) (p 1))
  | 0x0203 => some (.tensorMap h (p 0) (p 1) (p 2))
  | 0x0204 => some (.tensorUnmap h (p 0) (p 1))
  | 0x0205 => some (.tensorQuery h (p 0) (p 1))
  | 0x0210 => some (.kvPoolCreate h (p 0) (p 1) (p 2))
  | 0x0211 => some (.kvMap h (p 0) (p 1) (p 2) (p 4) ((mem (p 3) (4 * p 4)).map (fun b => (entries32 (p 4) b).map (BitVec.ofNat 32))))
  | 0x0212 => some (.kvPoolDestroy h (p 0) (p 1))
  | 0x0218 => some (.slotAssign h (p 0) (p 2) (mem (p 1) (p 2)))
  | 0x0219 => some (.slotRelease h (p 0) (p 1))
  | 0x021A => some (.slotQuery h (p 0) (p 1) (p 2))
  | 0x0301 => some (.queueCreate { h with reserved := h.reserved || 1 < p 2 } (p 0) ⟨p 1, p 2 = 0, p 3, p 4, p 5, p 6⟩)
  | 0x0302 => some (.xgroupCreate h (p 0) (p 1) (p 3) ((mem (p 2) (4 * p 3)).map (entries32 (p 3))))
  | 0x0303 => some (.gatherBudget h (p 0) (p 1))
  | 0x0304 => some (planBlock h ps mem)
  | 0x0305 => some (.queueDestroy h (p 0) (p 1))
  | 0x0306 => some (.xgroupDestroy h (p 0) (p 1))
  | 0x0307 => some (.mapPlanDrop h (p 0) (p 1))
  | _ => none

/-- Ports, the twin, the host side. -/
def moduleBlock (op : Nat) (h : CmdHead) (ps : List Nat) (mem : HostRead) : Option Instr :=
  let p (i : Nat) : Nat := ps.getD i 0
  match op with
  | 0x0401 => some (.moduleIdSet h (p 0) (p 1))
  | 0x0402 => some (.fabricReserve h (p 0) (p 1) (p 2))
  | 0x0403 => some (.portReset h (p 0))
  | 0x0404 => some (.cartridgeRelease h (p 0))
  | 0x0501 => some (.twinPair h (p 0))
  | 0x0502 => some (.twinUnpair h (p 0))
  | 0x0503 => some (.twinSolo h)
  | 0x0504 => some (.twinRestore h (p 0))
  | 0x0508 => some (.jobRollback h (p 0) (p 1))
  | 0x0509 => some (.commitRelease h (p 0) (p 1))
  | 0x050A => some (.journalQuery { h with reserved := h.reserved || 1 < p 1 } (p 1 = 1) (if p 1 = 1 then p 2 else p 0))
  | 0x0601 => some (.fwUpdate h (p 0) (p 1) (mem (p 0) (p 1)))
  | 0x0602 => some (.moduleReset h)
  | 0x0603 => some (.functionResync h (p 0))
  | 0x0604 => some (.certRead h (p 0))
  | 0x0605 => some (.attestQuote h ((ps.take 32).map (BitVec.ofNat 8)) (p 32) (p 33) (p 34))
  | 0x0606 => some (.regionQuery h (p 0))
  | _ => none

/-- The command that a function's block of 256 bytes spells. -/
def blockInstr (fn : Nat) (b : List Byte) (mem : HostRead) : Instr :=
  let op := fieldAt b 0 2
  let fs := (blockLayout op).getD []
  let h := blockHead fn b fs
  let ps := blockParams b fs
  ((schedBlock op h ps).orElse (fun _ => (objectBlock op h ps mem).orElse (fun _ => moduleBlock op h ps mem))).getD (malformedBlock h)

end Sys2Proof.Machine
end

