-- ==== Sys2Proof/Safety.lean ====
section
/-! DEFINITION. What counts as a safe run, and the words the statements about the machine use. -/

namespace Sys2Proof.Machine

/-- A step is safe when it answers a next state: no fault, no refusal. -/
def stepSafe (s : State) : Bool :=
  match step s with
  | .next _ => true
  | .fault _ => false
  | .refused _ => false

/-- A run of `n` steps is safe when each of them is. -/
def runSafe : Nat → State → Bool
  | 0, _ => true
  | n + 1, s =>
    match step s with
    | .next t => runSafe n t
    | .fault _ => false
    | .refused _ => false

/-- The winch takes the block now (R353, R376): the function exists, its mailbox is the one whose turn it
is, no reserved byte of the block is set, and a command of the physical function comes from it. -/
def Taken (h : CmdHead) (pf : Bool) (s : State) : Prop :=
  h.fn ≤ 62 ∧ h.reserved = false ∧ s.canTake h.fn = true ∧ (pf = true → h.fn = 0)

/-- The context exists and the function may command it: its owner or the physical function (R355). -/
def Owned (h : CmdHead) (ctx : Nat) (x : Ctx) (s : State) : Prop :=
  s.ctx? ctx = some x ∧ (h.fn = x.owner ∨ h.fn = 0)

/-- The command completes OK with the values listed, `t` being what its effect leaves (R353, R478). -/
def ok (h : CmdHead) (values : List (Nat × Nat)) (t : State) : State := t.finishCmd h 0 0 (result values)

/-- The command waits in its mailbox, `t` being what its effect leaves so far (R353). -/
def waitsOn (h : CmdHead) (w : WaitCmd) (t : State) : State :=
  (t.modFn h.fn (fun g => { g with mbox := { g.mbox with
    waiting := some (h, w), block := some g.mbox.blockAddr, restarted := false } })).granted h.fn

/-- The jobs of a function are looked at again (R394). -/
def State.refreshOwned (s : State) (fn : Nat) : State :=
  s.ctxs.foldl (fun a c => if c.2.owner = fn then a.refresh c.1 else a) s

/-- The first message delivered from a sender on a VC is `m`; the module serves messages, and on the tether
its tag holds (R242, R314). -/
def Delivered (src vc : Nat) (a : Arrived) (rest : List Arrived) (s : State) : Prop :=
  s.live = true ∧ takeFrom src vc s.net.inbox = some (a, rest) ∧ (a.msg.onTether = true → a.authOk = true)

/-- The tensors of the handles exist and can be read, none of their pages missing (R307, R308); handle 0 names none. -/
def State.readable (s : State) (x : Ctx) (hs : List Nat) : Prop := ∀ h ∈ hs, h ≠ 0 → (s.readTensor x h).isSome = true

/-- What a vector descriptor leaves once its results are written: its conversions counted, its record formed, the
job's state brought up to date (R67, R160). -/
def State.vecLeaves (s : State) (ctx : Nat) (r : Run) (d : Desc) (v : VecDone) : State :=
  ((((s.beginDesc ctx r d).setCtx ctx v.x).countDone ctx v).endDesc ctx r.ring r.tseq r.next (vecRecord v.st v.flags)).refresh ctx

/-- What no command undoes: the order code and the fixed fuses are as before, MIN_SVN never falls and a revoked key stays
revoked (R396), the image in flash keeps its canonical form, and a module under 54 V that has halted stays halted
until the power goes (R426). -/
structure Lasting (s t : State) : Prop where
  order : t.order1536 = s.order1536
  fuses : t.fuses = { s.fuses with minSvn := t.fuses.minSvn, key0Revoked := t.fuses.key0Revoked }
  svn : s.fuses.minSvn ≤ t.fuses.minSvn
  key0 : s.fuses.key0Revoked = true → t.fuses.key0Revoked = true
  image : Mem.wf pageDflt s.flash.image = true → Mem.wf pageDflt t.flash.image = true
  halted : s.boot.powered = true → s.errs.halted = true → t.errs.halted = true ∨ t.boot.powered = false

end Sys2Proof.Machine
end

