-- ==== Sys2Proof/Certificates/Slice0/Obligations.lean ====
section
/-! DEFINITION. The statements about the module, for the provers. -/

open Sys2Proof Sys2Proof.Machine

/-- A step takes the command at the front of the queue and runs it with the queue's rest. -/
def Obligations.StepRunsFront : Prop :=
  ∀ (c : Instr) (rest : List Instr) (s : State), s.pending = c :: rest → step s = exec c { s with pending := rest }

/-- On an empty queue the step is one tick: while 54 V is present fabric time goes on by 1 ns, or by 0 to 2 ns
while a correction is being made by rate (log entries 8: UNVERIFIED and 9: DESIGN CHOICE), and nothing but fabric time changes. -/
def Obligations.IdleStepTicks : Prop :=
  ∀ s : State, s.pending = [] →
    ∃ t, step s = .next t ∧ t = { s with time := t.time }
      ∧ (s.boot.powered = false → t = s)
      ∧ (s.boot.powered = true → s.time.slew = 0 → t.time = { s.time with now := (s.time.now + 1) % 2 ^ 64 })
      ∧ (s.boot.powered = true → ∃ d ≤ 2, t.time.now = (s.time.now + d) % 2 ^ 64)

/-- The partition commands: the lowest free number, dies and channels; a partition without contexts goes; the
quantum changes and the slice under way does not (R286, R357). Each finds room in the journal, is journaled and completes OK. -/
def Obligations.PartitionCommandsComplete : Prop :=
  (∀ (h : CmdHead) (p : PartitionParams) (n : Nat) (s : State), Taken h true s → partitionBad s p = false →
      lowestFree 10 (Tab.keys s.parts) = some n → p.dies ≤ s.freeDies.length → p.channels ≤ s.freeChannels.length →
      p.spillHbm + p.cowHbm ≤ 32640 * (2 * p.dies) → (s.parts.map (fun q => q.2.params.seats)).sum + p.seats ≤ 256 →
      p.seats * p.dies * 18 ≤ p.spillHbm * 2 → s.journalRoom 1 = true →
      exec (.partitionCreate h p) s = .next (ok h [(1, n)]
        (State.journalOp { s with
          parts := Tab.set s.parts n
            { params := p, dies := s.freeDies.take p.dies, channels := s.freeChannels.take p.channels, quantum := p.quantum }
          regions := addRegions s.regions ((s.partRegions (s.freeDies.take p.dies) (s.freeChannels.take p.channels)).map
            (fun r => regionEntry r.1 r.2 n false)) } 0xFFFF (.partitionCreate p))))
  ∧ (∀ (h : CmdHead) (n : Nat) (s : State), Taken h true s → Tab.has s.parts n = true → s.ctxsOf n = [] →
      s.journalRoom 1 = true →
      ∃ t : State, exec (.partitionDestroy h n) s = .next (ok h [] (t.journalOp 0xFFFF (.partitionDestroy n)))
        ∧ t = { s with parts := Tab.erase s.parts n, regions := dropRegions s.regions n, power := t.power, tiles := t.tiles, dies := t.dies }
        ∧ t.power = { s.power with keepAwake := t.power.keepAwake } ∧ t.power.keepAwake.getLsbD n = false
        ∧ (∀ i, (t.tile i).counts = (s.tile i).counts))
  ∧ (∀ (h : CmdHead) (n q : Nat) (p : Part) (s : State), Taken h true s → 100 ≤ q → q ≤ 100000 → Tab.get s.parts n = some p →
      s.journalRoom 1 = true →
      exec (.partitionQuantum h n q) s = .next (ok h []
        (State.journalOp { s with parts := Tab.set s.parts n { p with quantum := q } } 0xFFFF (.partitionQuantum n q))))

/-- The context commands (R358): the lowest free number, owned by the issuer, the messages that came before it waiting with
it; a context without rings goes with its mappings, slots and journal records; the priority changes, and a job that
may run and has risen is weighed against the slice's holder; the query returns state, residency, priority and block time. -/
def Obligations.ContextCommandsComplete : Prop :=
  (∀ (h : CmdHead) (p : ContextParams) (part : Part) (n : Nat) (s : State), Taken h false s → p.client ≤ 4095 → p.priority ≤ 3 → 32 ≤ p.chainArea →
      Tab.get s.parts p.partition = some part → part.params.functions.getLsbD h.fn = true →
      lowestFree 1024 (Tab.keys s.ctxs) = some n → s.quotaExceeded part p = false → s.journalRoom 1 = true →
      exec (.contextCreate h p) s = .next (ok h [(2, n)] (State.journalOp
        { s with
          ctxs := Tab.set s.ctxs n { owner := h.fn, params := p, priority := p.priority
                                     waitingMsgs := (s.net.early.filter (fun e => e.1 = n)).map (·.2) }
          net := { s.net with early := s.net.early.filter (fun e => e.1 != n) } } n (.contextCreate h.fn p))))
  ∧ (∀ (h : CmdHead) (ctx : Nat) (x : Ctx) (s : State), Taken h false s → Owned h ctx x s → s.key ctx = none → s.journalRoom 1 = true →
      exec (.contextDestroy h ctx) s = .next (ok h [] (State.journalOp (State.endWaiters { s with
        ctxs := Tab.erase s.ctxs ctx
        slots := s.slots.filter (fun l => l.2.ctx != ctx)
        funs := Tab.mapVals s.funs (fun _ f => { f with maps := f.maps.filter (fun m => m.2.ctx != ctx) })
        jr := { s.jr with own := s.jr.own.filter (fun r => r.ctx != ctx) } } ctx) 0xFFFF (.contextDestroy ctx))))
  ∧ (∀ (h : CmdHead) (ctx prio : Nat) (x : Ctx) (s : State), Taken h false s → Owned h ctx x s → prio ≤ 3 → s.journalRoom 1 = true →
      ∃ t : State, t = State.journalOp { s with ctxs := Tab.set s.ctxs ctx { x with priority := prio } } ctx (.contextPriority ctx prio)
        ∧ ((prio ≤ x.priority ∨ x.state ≠ .runnable ∨ s.holdsSlice ctx = true) → exec (.contextPriority h ctx prio) s = .next (ok h [] t))
        ∧ (x.priority < prio → x.state = .runnable → s.holdsSlice ctx = false →
            exec (.contextPriority h ctx prio) s = .next (ok h [] (t.arrive ctx))))
  ∧ (∀ (h : CmdHead) (ctx : Nat) (x : Ctx) (s : State), Taken h false s → Owned h ctx x s →
      exec (.contextQuery h ctx) s = .next (ok h
        [(1, x.state.code), (1, if x.resident then 1 else 0), (1, x.priority), (8, x.blockTime)] s))

/-- The ring commands and the client's counts (R359, R360). -/
def Obligations.RingCommandsComplete : Prop :=
  (∀ (h : CmdHead) (p : RingParams) (x : Ctx) (g : Nat) (s : State), Taken h false s → Owned h p.ctx x s →
      ringDepthOk p.depth = true → p.ticketAddr % 128 = 0 → p.complAddr % 32 = 0 → p.ctrlAddr % 128 = 0 →
      p.ticketAddr < 2 ^ 64 → p.complAddr < 2 ^ 64 → p.ctrlAddr < 2 ^ 64 → vectorOk x.owner p.vector = true →
      lowestFree 16384 (Tab.keys s.rings) = some g → s.journalRoom 1 = true →
      exec (.ringCreate h p) s = .next (ok h [(2, g)]
        (State.journalOp { s with rings := Tab.set s.rings g { params := p } } p.ctx (.ringCreate p))))
  ∧ (∀ (h : CmdHead) (g : Nat) (r : Ring) (x : Ctx) (s : State), Taken h false s → Tab.get s.rings g = some r →
      Owned h r.params.ctx x s → r.journaling = none → (∀ q ∈ x.runs, q.ring ≠ g) → s.journalRoom 1 = true →
      exec (.ringDestroy h g) s = .next (ok h []
        (State.journalOp { s with rings := Tab.erase s.rings g } r.params.ctx (.ringDestroy g))))
  ∧ (∀ (h : CmdHead) (client : Nat) (s : State), Taken h true s → client ≤ 4095 →
      exec (.clientCounts h client) s = .next (ok h
        [(8, (Tab.getD s.clients client {}).accepted), (8, (Tab.getD s.clients client {}).completed),
         (8, (Tab.getD s.clients client {}).faulted)] s))

/-- The tensor commands (R290 to R294, R302 to R304): a new handle with the object described, in its pool and slot when it is
a KV view, its pin units dealt when it is pinned; a deleted tensor is no longer seen by what is accepted later; a
mapping is made, or ended; the query changes nothing. -/
def Obligations.TensorCommandsComplete : Prop :=
  (∀ (h : CmdHead) (ctx : Nat) (p : TensorParams) (x : Ctx) (s : State), Taken h false s → Owned h ctx x s → tensorBad p = false →
      (p.kind = 2 → Tab.has x.pools p.kv.pool = true ∧ (Tab.get s.slots p.kv.slot).map (·.ctx) = some ctx) →
      x.quotaOk p.obj.bytes = true →
      (p.pin = true → x.pinCount + pinUnits p.obj.bytes ≤ 124 * (((Tab.get s.parts x.params.partition).map (fun q => q.tiles.length)).getD 0)) →
      s.tensorCount < 4194304 → x.nextHandle < 2 ^ 32 →
      (p.persistent = true → s.persistentSlots + p.obj.extents ≤ s.mirrorSlots) → s.journalRoom 1 = true →
      ∃ (t : State) (y : Ctx) (k : _), exec (.tensorCreate h ctx p) s = .next (ok h [(4, x.nextHandle)] (t.journalOp ctx (.tensorCreate ctx p)))
        ∧ t = { s with ctxs := Tab.set s.ctxs ctx y } ∧ y.tensor? x.nextHandle = some k ∧ k.obj = p.obj ∧ k.img = []
        ∧ k.deletedAt = none ∧ y.nextHandle = x.nextHandle + 1
        ∧ k.pins = (if p.pin then dealPins (((Tab.get s.parts x.params.partition).map Part.tiles).getD []) x.lastPin (pinUnits p.obj.bytes) else [])
        ∧ (∀ n, n ≠ x.nextHandle → y.tensor? n = x.tensor? n))
  ∧ (∀ (h : CmdHead) (ctx handle : Nat) (x : Ctx) (k : Tensor) (s : State), Taken h false s → Owned h ctx x s →
      x.tensor? handle = some k → k.deletedAt = none → handle < 2 ^ 32 → s.journalRoom 1 = true →
      ∃ t : State, exec (.tensorDelete h ctx handle) s = .next (ok h [] t)
        ∧ (∀ y, t.ctx? ctx = some y → ∀ r : Run, s.jr.nextSeq < r.accAt → y.sees r handle = none)
        ∧ (∀ c, c ≠ ctx → t.ctx? c = s.ctx? c)
        ∧ t = { s with ctxs := t.ctxs, jr := t.jr, net := t.net })
  ∧ (∀ (h : CmdHead) (ctx handle offset : Nat) (x : Ctx) (k : Tensor) (s : State), Taken h false s → Owned h ctx x s →
      x.named? handle = some k → offset % 65536 = 0 → offset + mapSpan k.obj.bytes ≤ 2 ^ 36 →
      (s.fn h.fn).overlaps offset k.obj.bytes = false → (s.fn h.fn).maps.length < 4096 →
      (x.inUse handle = false → exec (.tensorMap h ctx handle offset) s = .next (ok h [] { s with
        funs := Tab.set s.funs h.fn { (s.fn h.fn) with maps := Tab.set (s.fn h.fn).maps offset ⟨ctx, handle, k.obj.bytes, []⟩ } }))
      ∧ (x.inUse handle = true → exec (.tensorMap h ctx handle offset) s = .next (waitsOn h (.map ctx handle offset) s)))
  ∧ (∀ (h : CmdHead) (ctx handle offset : Nat) (x : Ctx) (m : Mapping) (s : State), Taken h false s → Owned h ctx x s →
      (s.fn h.fn).maps.find? (fun m => m.2.ctx = ctx && m.2.handle = handle) = some (offset, m) →
      s.journalRoom (s.unmapBodies m).length = true →
      exec (.tensorUnmap h ctx handle) s = .next (ok h [] ((s.endMapping h.fn offset).refresh ctx))
        ∧ Tab.get ((s.endMapping h.fn offset).fn h.fn).maps offset = none)
  ∧ (∀ (h : CmdHead) (ctx handle : Nat) (x : Ctx) (k : Tensor) (s : State), Taken h false s → Owned h ctx x s →
      x.named? handle = some k →
      ∃ values, exec (.tensorQuery h ctx handle) s = .next (ok h
        ([(1, k.obj.kind.code), (1, fmtCode k.obj.fmt), (1, (s.dimsOf k.obj).length)] ++ values) s))

/-- KV pools, page tables and serving slots (R305, R306, R356, R378). -/
def Obligations.PoolAndSlotCommandsComplete : Prop :=
  (∀ (h : CmdHead) (ctx pages per n : Nat) (x : Ctx) (s : State), Taken h false s → Owned h ctx x s → 1 ≤ pages → pages ≤ 2 ^ 24 →
      per ≤ 1 → lowestFree 65536 (Tab.keys x.pools) = some n → x.poolBytes + pages * 65536 ≤ x.placementShare →
      x.hbmHeld + x.ballastHeld + pages * 65536 ≤ x.placementShare + x.params.ballastQuota * unitBytes → s.journalRoom 1 = true →
      (per = 1 → s.persistentSlots + ceilDiv (pages * 65536) unitBytes ≤ s.mirrorSlots) →
      ∃ (t : State) (y : Ctx) (k : _), exec (.kvPoolCreate h ctx pages per) s = .next (ok h [(2, n)] (t.journalOp ctx (.kvPoolCreate ctx pages (per = 1))))
        ∧ t = { s with ctxs := Tab.set s.ctxs ctx y } ∧ Tab.get y.pools n = some k ∧ k.obj = ⟨pages, per = 1⟩ ∧ k.img = [])
  ∧ (∀ (h : CmdHead) (ctx slot first count : Nat) (es : List Word32) (x : Ctx) (l : Slot) (s : State), Taken h false s →
      Owned h ctx x s → first + count ≤ 32768 → Tab.get s.slots slot = some l → l.ctx = ctx →
      (∀ e ∈ es.take count, fieldOf e.toNat 30 24 = 0) → s.journalRoom 1 = true →
      exec (.kvMap h ctx slot first count (some es)) s = .next (ok h [] (State.journalOp
        { s with slots := Tab.set s.slots slot { l with
          obj := { l.obj with table := putEntries l.obj.table first (es.take count) }, old := s.keptTables l s.jr.nextSeq } }
        ctx (.kvMap ctx slot first (es.take count)))))
  ∧ (∀ (h : CmdHead) (ctx pool : Nat) (x : Ctx) (s : State), Taken h false s → Owned h ctx x s → Tab.has x.pools pool = true →
      (∀ t ∈ x.tensors, t.2.obj.kind = .kvView → t.2.obj.kv.pool ≠ pool) → s.journalRoom 1 = true →
      ∃ y : Ctx, exec (.kvPoolDestroy h ctx pool) s = .next (ok h []
          (State.journalOp { s with ctxs := Tab.set s.ctxs ctx y } ctx (.kvPoolDestroy ctx pool)))
        ∧ Tab.get y.pools pool = none ∧ y = { x with pools := y.pools, dirty := y.dirty })
  ∧ (∀ (h : CmdHead) (ctx bytes n : Nat) (prompt : List Byte) (x : Ctx) (s : State), Taken h false s → Owned h ctx x s →
      bytes ≤ 262144 → lowestFree 8192 (Tab.keys s.slots) = some n →
      s.journalRoom (1 + (promptBodies n ((prompt.take bytes).length + 1) (prompt.take bytes)).length) = true →
      exec (.slotAssign h ctx bytes (some prompt)) s = .next (ok h [(2, n)] (State.journal
        { s with slots := Tab.set s.slots n ⟨ctx, false, ⟨0, [], prompt.take bytes⟩, []⟩ } 0xFFFF ctx 0
        (.config (.slotAssign ctx n) :: promptBodies n ((prompt.take bytes).length + 1) (prompt.take bytes)))))
  ∧ (∀ (h : CmdHead) (ctx slot : Nat) (x : Ctx) (l : Slot) (s : State), Taken h false s → Owned h ctx x s →
      Tab.get s.slots slot = some l → l.ctx = ctx → x.namesSlot slot = false → s.journalRoom 1 = true →
      exec (.slotRelease h ctx slot) s = .next (ok h []
        (State.journalOp { s with slots := Tab.erase s.slots slot } ctx (.slotRelease ctx slot))))
  ∧ (∀ (h : CmdHead) (ctx slot addr : Nat) (x : Ctx) (l : Slot) (s : State), Taken h false s → Owned h ctx x s →
      Tab.get s.slots slot = some l → l.ctx = ctx →
      exec (.slotQuery h ctx slot addr) s = .next (ok h [(1, if l.restart then 1 else 0), (4, l.obj.length)]
        (s.fnWrite h.fn addr l.obj.prompt)))

/-- Queues, groups, the gather budget and plans (R188, R196, R254, R256, R269, R356). -/
def Obligations.QueueGroupPlanCommandsComplete : Prop :=
  (∀ (h : CmdHead) (ctx : Nat) (p : QueueParams) (x : Ctx) (s : State), Taken h false s → Owned h ctx x s → queueBad p = false →
      Tab.has x.queues p.id = false → s.journalRoom 1 = true →
      (p.send = false → x.hbmHeld + x.queueBytes + p.depth * p.entryBytes
        + (x.params.stashHbm + x.params.chainArea + x.gatherHbm) * unitBytes ≤ x.params.hbmQuota * unitBytes) →
      exec (.queueCreate h ctx p) s = .next (ok h [] (State.journalOp { s with
        ctxs := Tab.set s.ctxs ctx { x with
          queues := Tab.set x.queues p.id { params := p, credits := if p.send then p.depth else 0, slots := [], unacked := [] }
          goneQueues := x.goneQueues.filter (· != p.id) } }
        ctx (.queueCreate ctx p))))
  ∧ (∀ (h : CmdHead) (ctx q : Nat) (x : Ctx) (s : State), Taken h false s → Owned h ctx x s → q < 2 ^ 16 → Tab.has x.queues q = true →
      x.namedBy (fun d => (d.opcode = 0x48 || d.opcode = 0x49) && d.f 0 31 16 = q) = false → s.journalRoom 1 = true →
      exec (.queueDestroy h ctx q) s = .next (ok h [] (State.journalOp { s with
        ctxs := Tab.set s.ctxs ctx { x with queues := Tab.erase x.queues q, goneQueues := insertNat q (x.goneQueues.filter (· != q)) } }
        ctx (.queueDestroy ctx q))))
  ∧ (∀ (h : CmdHead) (ctx g count : Nat) (l : List Nat) (x : Ctx) (s : State), Taken h false s → Owned h ctx x s → g < 2 ^ 16 →
      1 ≤ count → count ≤ 262144 → (∀ m ∈ l.take count, m < 2 ^ 18) → Tab.has x.groups g = false → s.membersOk (l.take count) = true →
      s.overfull ((s.makeGroup ctx g (l.take count)).journalOp ctx (.xgroupCreate ctx g (l.take count))) = false →
      exec (.xgroupCreate h ctx g count (some l)) s = .next (ok h [] ((s.makeGroup ctx g (l.take count)).journalOp ctx
        (.xgroupCreate ctx g (l.take count)))))
  ∧ (∀ (h : CmdHead) (ctx g : Nat) (x : Ctx) (s : State), Taken h false s → Owned h ctx x s → g < 2 ^ 16 → Tab.has x.groups g = true →
      x.namedBy (fun d => d.namesGroup g) = false → (∀ c ∈ x.colls, c.head.group ≠ g) → (∀ e ∈ x.gathered, e.2.group ≠ g) →
      s.journalRoom 1 = true →
      exec (.xgroupDestroy h ctx g) s = .next (ok h [] (State.journalOp { s with
        ctxs := Tab.set s.ctxs ctx { x with groups := Tab.erase x.groups g, goneGroups := insertNat g (x.goneGroups.filter (· != g)) } }
        ctx (.xgroupDestroy ctx g))))
  ∧ (∀ (h : CmdHead) (ctx u : Nat) (x : Ctx) (s : State), Taken h false s → Owned h ctx x s → u < 2 ^ 32 → u ≤ x.params.hbmQuota →
      x.hbmHeld + x.queueBytes + (x.params.stashHbm + x.params.chainArea + u) * unitBytes ≤ x.params.hbmQuota * unitBytes →
      s.journalRoom 1 = true →
      exec (.gatherBudget h ctx u) s = .next (ok h [] (State.journalOp { s with
        ctxs := Tab.set s.ctxs ctx { x with gatherHbm := u } } ctx (.gatherBudget ctx u))))
  ∧ (∀ (h : CmdHead) (ctx : Nat) (p : PlanParams) (x : Ctx) (s : State), Taken h false s → Owned h ctx x s → planBad p = false →
      s.planInvalid x p = false → Tab.has x.plans p.id = false →
      (x.refusedPlan p.id = none → exec (.mapPlan h ctx p false) s = .next (waitsOn h (.plan ctx p.id) (s.beginPlan ctx p)))
      ∧ (∀ b, x.refusedPlan p.id = some b → exec (.mapPlan h ctx p false) s = .next (State.finishCmd { s with
          ctxs := Tab.set s.ctxs ctx { x with waitingMsgs := x.waitingMsgs.filter (fun m => (m.msg.refuses p.id).isNone) } }
          h 1 (if b then 0x09 else 0x0A) (leBytes 8 0))))
  ∧ (∀ (h : CmdHead) (ctx i : Nat) (q : Plan) (x : Ctx) (s : State), Taken h false s → Owned h ctx x s → i < 2 ^ 16 →
      Tab.get x.plans i = some q → q.result.isSome = true → (∀ e ∈ x.plans, e.2.params.prior = i → e.2.result.isSome = true) →
      s.journalRoom 1 = true →
      exec (.mapPlanDrop h ctx i) s = .next (ok h [] (State.journalOp { s with
        ctxs := Tab.set s.ctxs ctx { x with plans := Tab.erase x.plans i, latestPlan := if x.latestPlan = some i then none else x.latestPlan } } ctx (.mapPlanDrop ctx i))))
  ∧ (∀ (ctx i : Nat) (x : Ctx) (q : Plan) (h : CmdHead) (s : State), s.live = true → s.ctx? ctx = some x → Tab.get x.plans i = some q →
      s.ident = some q.params.lead → q.result = none → s.planWaiter ctx i = some h →
      (∃ m ∈ q.params.modules, Tab.has q.reports m = false) →
      exec (.mapPlanTimeout ctx i) s = .next (s.sendAll (Tab.keys q.reports) none (.winch (.planRefused ctx i false))))

/-- Identity, reservations, PORT_RESET and CARTRIDGE_RELEASE (R237, R238, R248, R252). -/
def Obligations.LinkCommandsComplete : Prop :=
  (∀ (h : CmdHead) (ident size : Nat) (s : State), Taken h true s → 1 ≤ size → size ≤ 262144 → ident < size →
      (s.ident = some ident ∨ (s.parts = [] ∧ s.twin.state = .unpaired)) →
      ∃ t : State, exec (.moduleIdSet h ident size) s = .next (ok h [] t) ∧ t.flash = { s.flash with ident := some (ident, size) }
        ∧ t.ident = some ident ∧ t.sysSize = size ∧ (s.ident = some ident → t = { s with flash := t.flash }))
  ∧ (∀ (h : CmdHead) (n share lend : Nat) (p : Part) (s : State), Taken h true s → share ≤ 64 → lend ≤ 1 → Tab.get s.parts n = some p →
      ((s.parts.filter (fun p => p.1 != n)).map (fun p => p.2.share)).sum + share ≤ 64 → s.journalRoom 1 = true →
      ∃ t : State, exec (.fabricReserve h n share lend) s = .next (ok h [] (State.journalOp
        { t with parts := Tab.set s.parts n { p with share := share }, lend := lend = 1 } 0xFFFF (.fabricReserve n share (lend = 1))))
        ∧ t = (List.range 32).foldl (fun a i => a.countTokens i) s ∧ t = { s with ports := t.ports })
  ∧ (∀ (h : CmdHead) (i : Nat) (s : State), Taken h true s → i ≤ 35 →
      ((s.port i).state = .down → exec (.portReset h i) s = .next (ok h []
        ((s.setPort i { (s.port i) with needReset := false, failures := [] }).beginTraining i)))
      ∧ ((s.port i).state ≠ .down → exec (.portReset h i) s = .next (ok h [] s)))
  ∧ (∀ (h : CmdHead) (c : Nat) (s : State), Taken h true s → c ≤ 3 →
      ∃ t : State, exec (.cartridgeRelease h c) s = .next (ok h [] t)
        ∧ ((t.cart c).releasing = true ∨ (t.cart c).released = true)
        ∧ (∀ i ∈ cartPorts c, (s.port i).unacked = [] → (t.port i).state ≠ .inService)
        ∧ ((∀ i ∈ cartPorts c, (s.port i).unacked = []) → (t.cart c).released = true ∧ (t.cart c).locked = false))

/-- The pairing commands (R310, R318, R337, R340). -/
def Obligations.TwinCommandsComplete : Prop :=
  (∀ (h : CmdHead) (ident : Nat) (s : State), Taken h true s → ident < 2 ^ 18 → s.twin.state = .unpaired →
      ∃ t : State, exec (.twinPair h ident) s = .next (ok h [] t) ∧ t.twin.state = .pairing ∧ t.twin.twinId = some ident
        ∧ t.flash = { s.flash with twinId := some ident })
  ∧ (∀ (h : CmdHead) (discard : Nat) (s : State), Taken h true s → discard ≤ 1 → s.twin.state ≠ .restoring →
      s.overfull (s.unpair (discard = 1)) = false →
      ∃ t : State, exec (.twinUnpair h discard) s = .next (ok h [] t) ∧ t.twin.state = .unpaired ∧ t.twin.twinId = none
        ∧ t.flash = { s.flash with twinId := none }
        ∧ (discard = 1 → t.jr.partner = [] ∧ t.jr.images = [] ∧ t.jr.slots = [] ∧ t.twin.holdsPartner = false ∧ t.twin.partnerOf = none))
  ∧ (∀ (h : CmdHead) (s : State), Taken h true s → s.twin.state = .twinLost →
      s.overfull (s.ctxs.foldl (fun a c => a.endCommits c.1 0x12) (s.setTwin .solo)) = false →
      exec (.twinSolo h) s = .next (ok h [] (s.ctxs.foldl (fun a c => a.endCommits c.1 0x12) (s.setTwin .solo))))
  ∧ (∀ (h : CmdHead) (survivor me : Nat) (s : State), Taken h true s → survivor < 2 ^ 18 → s.jr.own = [] → s.parts = [] →
      s.twin.state = .unpaired → 0 < s.tetherUp → s.ident = some me →
      exec (.twinRestore h survivor) s = .next (waitsOn h (.restore survivor)
        (s.send survivor none (.restoreRequest ⟨me, survivor, 0x0A, s.ballastCode⟩))))
  ∧ (∀ (h : CmdHead) (survivor : Nat) (s : State), Taken h true s → survivor < 2 ^ 18 → (s.jr.own ≠ [] ∨ s.parts ≠ []) →
      exec (.twinRestore h survivor) s
        = .next ({ s with twin := { s.twin with refuse := 7, refusePeer := survivor } }.finishCmd h 1 0x0C (leBytes 8 0)))

/-- The commands on a job's commits and journal (R317, R334, R348). -/
def Obligations.JobCommandsComplete : Prop :=
  (∀ (h : CmdHead) (ctx commit : Nat) (x : Ctx) (k : Kept) (s : State), Taken h false s → Owned h ctx x s → commit < 2 ^ 64 →
      x.kept.find? (fun k => k.id = commit) = some k → s.twin.state = .paired →
      s.overfull (((s.journal 0xFFFF ctx 0 [.rollback k.id]).returnTo ctx x k).refresh ctx) = false →
      exec (.jobRollback h ctx commit) s = .next (ok h [] (((s.journal 0xFFFF ctx 0 [.rollback k.id]).returnTo ctx x k).refresh ctx)))
  ∧ (∀ (h : CmdHead) (ctx commit : Nat) (x : Ctx) (k : Kept) (s : State), Taken h false s → Owned h ctx x s → commit < 2 ^ 64 →
      x.kept.find? (fun k => k.id = commit) = some k → s.journalRoom 1 = true →
      ∃ (t : State) (y : Ctx), exec (.commitRelease h ctx commit) s = .next (ok h [] t) ∧ t.ctx? ctx = some y
        ∧ y = { x with kept := x.kept.filter (fun c => k.id ≤ c.id) }
        ∧ (∀ r ∈ t.jr.own, freedBy ctx k.freezeSeq (some k.header) r = false)
        ∧ (∀ r ∈ s.jr.own, freedBy ctx k.freezeSeq (some k.header) r = false → r ∈ t.jr.own)
        ∧ t = { s with ctxs := t.ctxs, jr := t.jr, net := t.net })
  ∧ (∀ (h : CmdHead) (ctx : Nat) (x : Ctx) (s : State), Taken h false s → Owned h ctx x s →
      exec (.journalQuery h false ctx) s = .next ((s.finishCmd h 0 0 (s.journalFacts (s.ringsOf ctx) x))))
  ∧ (∀ (h : CmdHead) (g : Nat) (r : Ring) (x : Ctx) (s : State), Taken h false s → Tab.get s.rings g = some r → Owned h r.params.ctx x s →
      exec (.journalQuery h true g) s = .next (ok h [(8, r.accepted), (8, r.complete), (8, x.sealedId),
        (8, ((x.kept.head?).map (·.id)).getD 0), (8, s.journalCap - s.jr.own.length)] s))

/-- Firmware update, module reset, resynchronisation, certificates, quotes, the region table (R394, R402, R407, R411, R413,
R415). FW_UPDATE: an image that passes every check is written to the image area, the update is pending and the logbook is
committed; one that fails a check is refused with 0x11 and the check. MODULE_RESET completes and the reset is due.
FUNCTION_RESYNC: with nothing held the function is available again; else the held items go to the host, or are given up,
and their number is the result. CERT_READ, ATTEST_QUOTE and REGION_QUERY write the chain, the signed quote and the
table to host memory. -/
def Obligations.SystemCommandsComplete : Prop :=
  (∀ (h : CmdHead) (addr len : Nat) (image : List Byte) (s : State), Taken h true s → len ≤ 67108864 → addr < 2 ^ 64 →
      ∃ u : State, exec (.fwUpdate h addr len (some image)) s = .next (if s.imageFail (image.take len) = 0 then ok h [] u
          else State.finishCmd { s with boot := { s.boot with fail := s.imageFail (image.take len) } } h 1 0x11
            (leBytes 8 (s.imageFail (image.take len))))
        ∧ u = { s with boot := u.boot, flash := u.flash, logbook := u.logbook } ∧ u.boot = { s.boot with updatePending := true }
        ∧ u.flash = { s.flash with image := u.flash.image, bank0 := u.flash.bank0, bank1 := u.flash.bank1 }
        ∧ u.flash.image = Mem.putAll pageDflt s.flash.image 0 ((image.take len).take (fieldAt (image.take len) 0x14 4))
        ∧ (u.flash.bank0 = some u.logbook ∨ u.flash.bank1 = some u.logbook))
  ∧ (∀ (h : CmdHead) (addr len : Nat) (s : State), Taken h true s → len ≤ 67108864 → addr < 2 ^ 64 →
      exec (.fwUpdate h addr len none) s = .next (s.finishCmd h 1 0x10 (leBytes 8 0)))
  ∧ (∀ (h : CmdHead) (s : State), Taken h true s →
      ∃ t : State, exec (.moduleReset h) s = .next (ok h [] t) ∧ t = { s with boot := t.boot, flash := t.flash, logbook := t.logbook }
        ∧ t.boot = { s.boot with resetDue := true } ∧ t.logbook = { s.logbook with generation := s.logbook.generation + 1 }
        ∧ t.flash = { s.flash with bank0 := t.flash.bank0, bank1 := t.flash.bank1 }
        ∧ (t.flash.bank0 = some t.logbook ∨ t.flash.bank1 = some t.logbook))
  ∧ (∀ (h : CmdHead) (discard : Nat) (s : State), Taken h false s → discard ≤ 1 → (s.fn h.fn).hold = [] →
      exec (.functionResync h discard) s = .next (ok h [] (State.refreshOwned
        (s.setFn h.fn { (s.fn h.fn) with awaitResync := false, holdFullAt := none }) h.fn)))
  ∧ (∀ (h : CmdHead) (s : State), Taken h false s → (s.fn h.fn).hold ≠ [] →
      exec (.functionResync h 1) s = .next (ok h [(8, 0)] (State.refreshOwned
        (s.setFn h.fn { (s.fn h.fn) with hold := [], holdFullAt := none, awaitResync := false }) h.fn)))
  ∧ (∀ (h : CmdHead) (s : State), Taken h false s → (s.fn h.fn).hold ≠ [] →
      ∃ (t : State) (more : List HostItem),
        exec (.functionResync h 0) s = .next (ok h [(8, (s.fn h.fn).hold.length)] (t.refreshOwned h.fn))
        ∧ t = { s with funs := t.funs, hostOut := t.hostOut, rings := t.rings } ∧ t.hostOut = s.hostOut ++ (s.fn h.fn).hold ++ more
        ∧ (t.fn h.fn).hold = [] ∧ (t.fn h.fn).awaitResync = false ∧ (t.fn h.fn).holdFullAt = none)
  ∧ (∀ (h : CmdHead) (addr : Nat) (s : State), Taken h false s → addr < 2 ^ 64 →
      exec (.certRead h addr) s = .next (ok h [] (s.fnWrite h.fn addr
        (s.flash.rootCert.bytes 1 s.flash.rootCert.serial 0 0 0 s.flash.rootCert.key
          ++ s.flash.makerCert.bytes 2 s.flash.makerCert.serial 0 0 0 s.flash.rootCert.key
          ++ s.flash.deviceCert.bytes 3 s.fuses.serial 0x2001 0x0A s.ballastCode s.flash.makerCert.key))))
  ∧ (∀ (h : CmdHead) (nonce : List Byte) (scope ctx addr : Nat) (s : State), Taken h false s → addr % 64 = 0 → addr < 2 ^ 64 →
      (scope = 0 ∨ (scope = 1 ∧ ∃ x, Owned h ctx x s)) →
      exec (.attestQuote h nonce scope ctx addr) s = .next (ok h [] (State.fnWrite { s with freeCtr := s.freeCtr + 1 } h.fn addr
        (s.quote nonce scope ctx).1)))
  ∧ (∀ (h : CmdHead) (addr : Nat) (s : State), Taken h true s → addr < 2 ^ 64 →
      exec (.regionQuery h addr) s = .next (ok h [] (s.fnWrite h.fn addr
        ((List.range 4096).flatMap (fun i => leBytes 8 (Tab.getD s.regions i 0).toNat)))))

/-- The mailbox and event-queue registers of a function, its doorbells (R351, R362): ENABLE set from 0 takes the
depth and vector and zeroes the positions; TAIL moves while ENABLE is 1 and is counted while it is 0; a
doorbell raises the ring's TAIL_SEQ, and one that is no 8-byte write of the ring's function is only counted. -/
def Obligations.FunctionRegisterRowsComplete : Prop :=
  (∀ (fn : Nat) (v : Word32) (s : State), fn ≤ 62 → s.live = true → (s.fn fn).mbox.enable = false → bitOf v.toNat 31 = true →
      4 ≤ fieldOf v.toNat 3 0 → fieldOf v.toNat 3 0 ≤ 10 → vectorOk fn (fieldOf v.toNat 26 16) = true →
      exec (.winchMboxCfgWrite fn v) s = .next (s.setFn fn { (s.fn fn) with mbox := { (s.fn fn).mbox with
        logDepth := fieldOf v.toNat 3 0, vector := fieldOf v.toNat 26 16, enable := true, head := 0, tail := 0, stopped := false, badBlock := none, restarted := true } }))
  ∧ (∀ (fn : Nat) (v : Word32) (s : State), fn ≤ 62 → s.live = true → (s.fn fn).evq.enable = false → bitOf v.toNat 31 = true →
      4 ≤ fieldOf v.toNat 3 0 → fieldOf v.toNat 3 0 ≤ 12 → vectorOk fn (fieldOf v.toNat 26 16) = true →
      exec (.winchEvqCfgWrite fn v) s = .next (s.setFn fn { (s.fn fn) with evq := { (s.fn fn).evq with
        logDepth := fieldOf v.toNat 3 0, vector := fieldOf v.toNat 26 16, enable := true, head := 0, tail := 0 } }))
  ∧ (∀ (fn : Nat) (v : Word32) (s : State), fn ≤ 62 → s.live = true →
      ((s.fn fn).mbox.badBlock = none ∨ (s.fn fn).mbox.badBlock ≠ some (s.fn fn).mbox.head) →
      exec (.winchMboxTailWrite fn v false) s = .next (s.setFn fn { (s.fn fn) with mbox :=
        if (s.fn fn).mbox.enable then { (s.fn fn).mbox with
          tail := fieldOf v.toNat 9 0 % 2 ^ (s.fn fn).mbox.logDepth }
        else { (s.fn fn).mbox with dropped := min 65535 ((s.fn fn).mbox.dropped + 1) } }))
  ∧ (∀ (fn : Nat) (v : Word32) (s : State), fn ≤ 62 → s.live = true → (s.fn fn).mbox.enable = true → (s.fn fn).mbox.badBlock = none →
      (s.fn fn).mbox.waiting = none → (s.fn fn).mbox.head = (s.fn fn).mbox.tail →
      fieldOf v.toNat 9 0 % 2 ^ (s.fn fn).mbox.logDepth ≠ (s.fn fn).mbox.tail →
      exec (.winchMboxTailWrite fn v true) s = .next (s.setFn fn { (s.fn fn) with mbox := { (s.fn fn).mbox with
        tail := fieldOf v.toNat 9 0 % 2 ^ (s.fn fn).mbox.logDepth, badBlock := some (s.fn fn).mbox.tail, stopped := true } }))
  ∧ (∀ (fn g tail : Nat) (r : Ring) (s : State), fn ≤ 62 → s.live = true → Tab.get s.rings g = some r → s.ownerOf r.params.ctx = fn →
      r.accepted < tail → tail < 2 ^ 64 →
      exec (.ringDoorbell fn g 8 tail) s = .next (s.setRing g { r with tail := max r.tail tail, stopped := false }))
  ∧ (∀ (fn g width tail : Nat) (s : State), fn ≤ 62 → s.live = true →
      (Tab.get s.rings g = none ∨ (∃ r, Tab.get s.rings g = some r ∧ (width ≠ 8 ∨ s.ownerOf r.params.ctx ≠ fn))) →
      exec (.ringDoorbell fn g width tail) s = .next (s.setFn fn { (s.fn fn) with
        badDoorbells := min (2 ^ 32 - 1) ((s.fn fn).badDoorbells + 1) }))

/-- The module registers with rows of their own (R245, R435, R442, R451) and the write of any register
(R386). -/
def Obligations.ModuleRegisterRowsComplete : Prop :=
  (∀ (fn : Nat) (s : State), fn ≤ 62 → s.live = true →
      exec (.fabricTimeLoRead fn) s = .next (State.emit (s.setFn fn { (s.fn fn) with timeHi := BitVec.ofNat 32 (s.time.now / 2 ^ 32) })
        [.readData fn (leBytes 4 (s.time.now % 2 ^ 32))]))
  ∧ (∀ (v : Word32) (s : State), s.boot.powered = true → (s.live = true ∨ s.errs.halted = true) → bitOf v.toNat 0 = true →
      exec (.logSnap 0 v) s = .next { s with logRegs := { s.logRegs with busy := true, buffer := s.logbook } })
  ∧ (∀ s : State, exec .logSnapDone s = .next { s with logRegs := { s.logRegs with busy := false } })
  ∧ (∀ s : State, s.boot.powered = true → (s.live = true ∨ s.errs.halted = true) →
      exec (.logDataRead 0) s = .next (State.emit { s with logRegs := { s.logRegs with addr := (s.logRegs.addr + 4) % 2 ^ 18 } }
        [.readData 0 (leBytes 4 (fieldAt (s.logRegs.buffer.bytes s.fuses.serial) s.logRegs.addr 4))]))
  ∧ (∀ (fn : Nat) (s : State), 1 ≤ fn → fn ≤ 62 → s.boot.powered = true →
      exec (.logDataRead fn) s = .next (s.emit [.readData fn (leBytes 4 0)]))
  ∧ (∀ (v : Word32) (s : State), s.live = true → s.telem.enable = false → bitOf v.toNat 31 = true → 2 ≤ fieldOf v.toNat 3 0 →
      fieldOf v.toNat 3 0 ≤ 10 → fieldOf v.toNat 26 16 < 64 →
      ∃ t : State, exec (.xdTelemCfgWrite 0 v) s = .next t ∧ t = { s with telem := t.telem } ∧ t.telem.enable = true
        ∧ t.telem.logDepth = fieldOf v.toNat 3 0 ∧ t.telem.vector = fieldOf v.toNat 26 16 ∧ t.telem.head = 0 ∧ t.telem.tail = 0
        ∧ t.telem.seq = 0 ∧ t.telem.start = some (alignUp s.time.now s.telem.span) ∧ t.telem.energy = 0 ∧ t.telem.lost = s.telem.lost)
  ∧ (∀ (v : Word32) (s : State), s.live = true → s.telem.enable = false → 1 ≤ fieldOf v.toNat 13 0 → fieldOf v.toNat 13 0 ≤ 10000 →
      exec (.xdTelemPeriodWrite 0 v) s = .next { s with telem := { s.telem with period := fieldOf v.toNat 13 0 } })
  ∧ (∀ (v : Word32) (s : State), s.live = true →
      ∃ t : State, exec (.keepAwakeWrite 0 v) s = .next t ∧ t.power = { s.power with keepAwake := v &&& 0x3FF }
        ∧ t = { s with power := t.power, dies := t.dies, clusters := t.clusters }
        ∧ ((∀ p ∈ s.parts, s.power.keepAwake.getLsbD p.1 = (v &&& 0x3FF).getLsbD p.1) → t.dies = s.dies ∧ t.clusters = s.clusters))

/-- A write to any register of BAR0 (R9, R386, R430, R451): a read and write field takes the value, at its reset
field width; 8 bytes act on two registers, the lower first; any other size, a misaligned write and a write by a
virtual function to a module register change nothing. -/
def Obligations.RegisterWriteCompletes : Prop :=
  (∀ (v : Nat) (s : State), s.live = true →
      exec (.registerWrite 0 0x88 4 v) s = .next { s with errs := { s.errs with select := BitVec.ofNat 32 v } })
  ∧ (∀ (v : Nat) (s : State), s.live = true →
      exec (.registerWrite 0 0x110 4 v) s = .next { s with power := { s.power with
        policy := BitVec.ofNat 32 v &&& 0x00FFFFFF, policies := (s.time.now, BitVec.ofNat 32 v &&& 0x00FFFFFF) :: s.power.policies } })
  ∧ (∀ (v : Nat) (s : State), s.live = true → s.telem.enable = false →
      exec (.registerWrite 0 0x140 8 v) s = .next { s with telem := { s.telem with
        baseLo := BitVec.ofNat 32 v &&& 0xFFFFF000, baseHi := BitVec.ofNat 32 (v / 2 ^ 32) } })
  ∧ (∀ (fn v : Nat) (s : State), fn ≤ 62 → s.live = true → (s.fn fn).mbox.enable = false →
      exec (.registerWrite fn 0x1000 4 v) s = .next (s.setFn fn { (s.fn fn) with mbox := { (s.fn fn).mbox with
        baseLo := BitVec.ofNat 32 v &&& 0xFFFFFF00 } }))
  ∧ (∀ (fn v : Nat) (s : State), fn ≤ 62 → s.live = true →
      exec (.registerWrite fn 0x102C 4 v) s = .next (s.setFn fn { (s.fn fn) with evq := { (s.fn fn).evq with
        head := fieldOf (BitVec.ofNat 32 v).toNat 11 0 } }))
  ∧ (∀ (fn off v : Nat) (s : State), fn ≤ 62 → off < 67108864 → off % 8 = 0 → doorbellAt off = none →
      exec (.registerWrite fn off 8 v) s = .next ((s.writeReg fn off (BitVec.ofNat 32 v)).writeReg fn (off + 4) (BitVec.ofNat 32 (v / 2 ^ 32))))
  ∧ (∀ (fn off width v : Nat) (s : State), fn ≤ 62 →
      ((width ≠ 4 ∧ width ≠ 8) ∨ off % width ≠ 0 ∨ 67108864 ≤ off ∨ s.boot.powered = false ∨ (1 ≤ fn ∧ isModuleOff off = true ∧ width = 4)) →
      exec (.registerWrite fn off width v) s = .next s)

/-- Every function's reads through BAR2 (R304, R387): with the tensor mapped, the image's bytes; where no mapping
is, 0xFF; the access of a stray byte is counted, and the stacks reached are asked for (R442). A write changes the bytes
of the image it falls in. -/
def Obligations.Bar2RowsComplete : Prop :=
  (∀ (fn off len : Nat) (s : State), fn ≤ 62 → s.live = true → len ≤ 512 →
      ∃ t : State, exec (.bar2Read fn off len) s = .next t
        ∧ t.hostOut = s.hostOut ++ [.readData fn ((List.range len).map (fun i => s.bar2Byte (s.fn fn) (off + i)))]
        ∧ t = { s with funs := t.funs, hostOut := t.hostOut, dies := t.dies }
        ∧ ((∀ d, (s.die d).state = .run) → t.dies = s.dies)
        ∧ ((s.fn fn).strays off len = false → t.funs = s.funs)
        ∧ ((s.fn fn).strays off len = true → t.fn fn = { (s.fn fn) with bar2Unmapped := min (2 ^ 32 - 1) ((s.fn fn).bar2Unmapped + 1) }))
  ∧ (∀ (fn off ctx : Nat) (bytes : List Byte) (m : Nat × Mapping) (x : Ctx) (k : Tensor) (s : State), fn ≤ 62 → s.live = true →
      bytes.length ≤ 512 → (∀ i < bytes.length, (s.fn fn).mapAt (off + i) = some m) → m.2.ctx = ctx → s.ctx? ctx = some x →
      x.tensor? m.2.handle = some k → off + bytes.length ≤ m.1 + k.obj.bytes → m.1 ≤ off → m.2.size = k.obj.bytes →
      ∃ (t : State) (y : Ctx) (k2 : Tensor), exec (.bar2Write fn off bytes) s = .next t ∧ t.ctx? ctx = some y ∧ y.tensor? m.2.handle = some k2
        ∧ k2.obj = k.obj ∧ k2.img = Mem.putAll k.obj.dflt k.img (off - m.1) bytes
        ∧ (∀ c, c ≠ ctx → t.ctx? c = s.ctx? c) ∧ (∀ n, n ≠ m.2.handle → y.tensor? n = x.tensor? n)
        ∧ t = { s with ctxs := t.ctxs, funs := t.funs, dies := t.dies } ∧ ((∀ d, (s.die d).state = .run) → t.dies = s.dies))

/-- Dies, clusters and engines wake and go down (R439 to R443): a ramped rail leads to waking, waking to RUN or
NAP; a cluster sleeps, a die naps, a die goes off once idle for the time of the policy in force; an idle engine
is gated, and a gated one that waits starts when fewer than 16 started in the last microsecond. -/
def Obligations.WakeAndSleepRowsComplete : Prop :=
  (∀ (d : Nat) (s : State), d < 10 → (s.die d).state = .ramping →
      exec (.dieRailUp d) s = .next (s.setDie d { (s.die d) with state := .waking }).rampNext)
  ∧ (∀ (d : Nat) (s : State), d < 10 → (s.die d).state = .waking →
      exec (.dieWakeDone d) s = .next (s.setDie d { (s.die d) with
        state := if (s.die d).wantRun then .run else .nap, wantRun := false, idleSince := s.time.now }))
  ∧ (∀ (c : Nat) (s : State), c < 80 → (s.cluster c).state = .waking → (s.die (c / 8)).state = .run →
      exec (.clusterWakeDone c) s = .next (s.setCluster c { state := .run, idleSince := s.time.now }))
  ∧ (∀ (c : Nat) (s : State), c < 80 → (s.cluster c).state = .run → s.keptAwake (c / 8) = false →
      0 < fieldOf (s.power.policyAt (s.cluster c).idleSince) 7 0 →
      (s.cluster c).idleSince + 100000 * fieldOf (s.power.policyAt (s.cluster c).idleSince) 7 0 ≤ s.time.now →
      (∀ i < 4, s.tileBusy (4 * c + i) = false) →
      ∃ t : State, exec (.clusterSleep c) s = .next t ∧ (t.cluster c).state = .sleep
        ∧ (∀ i < 4, ∀ x ∈ t.ctxs, ∀ e ∈ x.2.exts, ∀ q ∈ e.2.sram, q.2 ≠ 4 * c + i)
        ∧ (∀ i < 4, ∀ y, Tab.get t.tiles (4 * c + i) = some y → ∀ e ∈ y.engines, e.2.groups = [] ∧ e.2.gated = true)
        ∧ (∀ j, j / 4 ≠ c → t.tile j = s.tile j) ∧ (t.die (c / 8)).idleSince = s.time.now
        ∧ t = { s with clusters := t.clusters, ctxs := t.ctxs, tiles := t.tiles, dies := t.dies })
  ∧ (∀ (d : Nat) (s : State), d < 10 → (s.die d).state = .run → s.keptAwake d = false →
      0 < fieldOf (s.power.policyAt (s.die d).idleSince) 15 8 →
      (s.die d).idleSince + 1000000 * fieldOf (s.power.policyAt (s.die d).idleSince) 15 8 ≤ s.time.now →
      (∀ i < 8, (s.cluster (8 * d + i)).state = .sleep) → s.poolDirty d = false →
      ∃ t : State, exec (.dieNap d) s = .next t ∧ (t.die d).state = .nap
        ∧ (∀ x ∈ t.ctxs, ∀ e ∈ x.2.exts, Tab.get e.2.pools d = none) ∧ (∀ j, j ≠ d → t.die j = s.die j)
        ∧ t = { s with dies := t.dies, ctxs := t.ctxs })
  ∧ (∀ (d : Nat) (s : State), d < 10 → (s.die d).state = .nap → s.keptAwake d = false →
      0 < fieldOf (s.power.policyAt (s.die d).idleSince) 23 16 →
      (s.die d).idleSince + 100000000 * fieldOf (s.power.policyAt (s.die d).idleSince) 23 16 ≤ s.time.now →
      exec (.dieOff d) s = .next (s.setDie d { (s.die d) with state := .off, idleSince := s.time.now }))
  ∧ (∀ (i e : Nat) (s : State), i < 320 → e < 3 → ((s.tile i).engine e).current = none → ((s.tile i).engine e).starting = false →
      exec (.engineGate i e) s = .next (s.setTile i ((s.tile i).setEngine e { ((s.tile i).engine e) with gated := true })))
  ∧ (∀ (i e : Nat) (s : State), i < 320 → e < 3 → ((s.tile i).engine e).starting = true → s.recentStarts.length < 16 →
      s.firstStarter i e = true →
      ∃ t : State, exec (.engineStart i e) s = .next t
        ∧ (t.tile i).engine e = { ((s.tile i).engine e) with gated := false, starting := false }
        ∧ t.power.lastStart = s.recentStarts ++ [s.time.now] ∧ (∀ j, j ≠ i → t.tile j = s.tile j)
        ∧ t = { s with tiles := t.tiles, power := { s.power with lastStart := t.power.lastStart } })

/-- The governor (R438, R445, R446): a sample pays for its draw from the budget, which is capped at 1,200 J; a
downward rule moves k by at most one step a sample; k falls by one at a quiet millisecond; the step decided
takes effect at CLOCK_STEP_APPLY. -/
def Obligations.GovernorRowsComplete : Prop :=
  (∀ (r : Sensors) (s : State), s.boot.powered = true →
      ∃ t : State, exec (.powerSample r) s = .next t ∧ t.power.budget = min 120000000 (s.power.budget + 2600 - r.watts)
        ∧ s.power.kNext ≤ t.power.kNext ∧ t.power.kNext ≤ s.power.kNext + 1 ∧ t.power.k = s.power.k
        ∧ (s.power.kNext < 16 → 3300 < r.watts → t.power.kNext = s.power.kNext + 1)
        ∧ (s.power.kNext < 24 → 105 ≤ maxTemp r.dieTemps → t.power.kNext = s.power.kNext + 1)
        ∧ (24 ≤ s.power.kNext → t.power.kNext = s.power.kNext)
        ∧ t = { s with power := t.power, telem := t.telem, logbook := t.logbook, funs := t.funs, hostOut := t.hostOut })
  ∧ (∀ s : State, s.boot.powered = true →
      ∃ t : State, exec .governorInterval s = .next t ∧ t = { s with power := t.power }
        ∧ s.power.kNext ≤ t.power.kNext ∧ t.power.kNext ≤ s.power.kNext + 1 ∧ t.power.budget = s.power.budget
        ∧ (10 ≤ s.power.warmCount → s.power.warmHeld = true → s.power.acted = false → s.power.kNext < 24 →
            t.power.kNext = s.power.kNext + 1)
        ∧ (s.power.emptyActing = true → 10 ≤ s.power.emptyCount → 2600 * s.power.emptyCount < s.power.emptySum →
            s.power.acted = false → s.power.kNext < 16 → t.power.kNext = s.power.kNext + 1))
  ∧ (∀ s : State, s.boot.powered = true →
      ∃ t : State, exec .stepUpCheck s = .next t ∧ t.power.budget = s.power.budget
        ∧ t.power.kNext = (if 0 < s.power.kNext ∧ s.power.acted = false ∧ 0 < s.power.msCount
            ∧ s.power.msSum ≤ 2600 * s.power.msCount ∧ s.power.msOk = true then s.power.kNext - 1 else s.power.kNext)
        ∧ t.power.msSum = 0 ∧ t.power.msCount = 0 ∧ t.power.msOk = true
        ∧ t = { s with power := t.power, funs := t.funs, hostOut := t.hostOut })
  ∧ (∀ s : State, s.boot.powered = true → exec .clockStepApply s = .next { s with power := { s.power with k := s.power.kNext } })

/-- Thermal shutdown (R450): at 115 °C on a die or 100 °C on a stack the module halts, its logbook is committed,
its ports are down and its jobs are gone. -/
def Obligations.ThermalShutdownHalts : Prop :=
  ∀ (r : Sensors) (s : State), s.boot.powered = true → s.errs.halted = false → (115 ≤ maxTemp r.dieTemps ∨ 100 ≤ maxTemp r.stackTemps) →
    ∃ t : State, exec (.thermalShutdown r) s = .next t ∧ t.errs = { s.errs with halted := true }
      ∧ t.parts = [] ∧ t.ctxs = [] ∧ t.rings = [] ∧ t.slots = [] ∧ t.jr = {} ∧ t.tiles = [] ∧ t.dies = [] ∧ t.clusters = []
      ∧ (∀ i < 36, (t.port i).state = .down) ∧ t.fuses = s.fuses ∧ t.pending = s.pending
      ∧ ∃ l : Logbook, (t.flash.bank0 = some l ∨ t.flash.bank1 = some l)
        ∧ l = { s.logbook with generation := s.logbook.generation + 1, events := l.events }
        ∧ Tab.getD l.events 6 0 = min (2 ^ 64 - 1) (Tab.getD s.logbook.events 6 0 + 1)
        ∧ t.logbook = { l with portDowns := t.logbook.portDowns, portRetrains := t.logbook.portRetrains, failovers := t.logbook.failovers }

/-- The logbook's samples and commits, and the telemetry window (R432, R434, R444, R452, R453). -/
def Obligations.LogbookAndTelemetryRowsComplete : Prop :=
  (∀ s : State, s.boot.powered = true →
      ∃ t : State, exec .logbookSecondSample s = .next t ∧ t = { s with logbook := t.logbook }
        ∧ t.logbook.liveSeconds = min (2 ^ 64 - 1) (s.logbook.liveSeconds + 1)
        ∧ Tab.getD t.logbook.stateSeconds s.stateCode 0 = min (2 ^ 64 - 1) (Tab.getD s.logbook.stateSeconds s.stateCode 0 + 1)
        ∧ Tab.getD t.logbook.vinHist (vinBin s.power.vin) 0 = min (2 ^ 32 - 1) (Tab.getD s.logbook.vinHist (vinBin s.power.vin) 0 + 1)
        ∧ (∀ i, i ≠ s.stateCode → Tab.getD t.logbook.stateSeconds i 0 = Tab.getD s.logbook.stateSeconds i 0)
        ∧ (s.power.k = 0 → t.logbook.events = s.logbook.events))
  ∧ (∀ s : State, s.boot.powered = true →
      ∃ t : State, exec .logbookHourlySample s = .next t ∧ t = { s with logbook := t.logbook }
        ∧ t.logbook = { s.logbook with biasHist := t.logbook.biasHist, peakPermille := t.logbook.peakPermille }
        ∧ (∀ l < 48, (s.laser l).lit = true → 0 < (s.laser l).factory → Tab.getD t.logbook.peakPermille l 0
            = max (Tab.getD s.logbook.peakPermille l 0) (min 65535 ((s.laser l).bias * 1000 / (s.laser l).factory)))
        ∧ (∀ l, (s.laser l).lit = false → Tab.get t.logbook.peakPermille l = Tab.get s.logbook.peakPermille l))
  ∧ (∀ s : State, s.boot.powered = true →
      ∃ t : State, exec .logbookCommit s = .next t ∧ t = { s with logbook := t.logbook, flash := t.flash }
        ∧ t.logbook = { s.logbook with generation := s.logbook.generation + 1 }
        ∧ t.flash = { s.flash with bank0 := t.flash.bank0, bank1 := t.flash.bank1 }
        ∧ (∀ a b, s.flash.bank0 = some a → s.flash.bank1 = some b →
            (a.generation ≤ b.generation → t.flash.bank0 = some t.logbook ∧ t.flash.bank1 = some b)
            ∧ (b.generation < a.generation → t.flash.bank1 = some t.logbook ∧ t.flash.bank0 = some a)))
  ∧ (∀ (start : Nat) (s : State), s.live = true → s.telem.start = some start → 0 < s.telem.period → s.windowEnd start ≤ s.time.now →
      ∃ t : State, exec .telemetryWindowEnd s = .next t ∧ t = { s with telem := t.telem, hostOut := t.hostOut }
        ∧ t.telem.start = some (s.windowEnd start) ∧ t.telem.seq = s.telem.seq + 1 ∧ t.telem.energy = 0
        ∧ (s.telem.enable = true → (s.telem.tail + 1) % 2 ^ s.telem.logDepth ≠ s.telem.head % 2 ^ s.telem.logDepth → (s.fn 0).avail = true →
            t.telem.tail = (s.telem.tail + 1) % 2 ^ s.telem.logDepth
            ∧ t.hostOut = s.hostOut ++ [.write 0 (s.telem.baseLo.toNat + 2 ^ 32 * s.telem.baseHi.toNat + 12288 * s.telem.tail)
                (s.telemRecord start (s.windowEnd start)), .vector 0 s.telem.vector])
        ∧ (s.telem.enable = false → t.hostOut = s.hostOut ∧ t.telem.lost = min (2 ^ 32 - 1) (s.telem.lost + 1) ∧ t.telem.lostFlag = true))

/-- 54 V and resets (R402, R459, R460): a removal leaves flash, the fuses and what else the model keeps (log entry 30: DEDUCED); power
applied begins a cold boot; a warm reset begins a warm boot and keeps memory, journals, hold logs and, as the model reads it (log
entry 175: DEDUCED), the engines' counters. -/
def Obligations.PowerAndResetRowsComplete : Prop :=
  (∀ (vin micros : Nat) (s : State), s.boot.powered = true → (vin < 4500 ∨ 6300 < vin) → 50 ≤ micros →
      ∃ t : State, exec (.inputDisconnect vin micros) s = .next t ∧ t.boot.powered = false ∧ t.fuses = s.fuses ∧ t.flash = s.flash
        ∧ t.ctxs = [] ∧ t.parts = [] ∧ t.rings = [] ∧ t.jr = {} ∧ t.funs = [] ∧ t.errs = {} ∧ t.pending = s.pending)
  ∧ (∀ s : State, s.boot.powered = false →
      ∃ t : State, exec .powerApplied s = .next t ∧ t.boot = {} ∧ t.boot.powered = true ∧ t.boot.stage = .rom ∧ t.boot.cold = true
        ∧ t.fuses = s.fuses ∧ t.flash = s.flash ∧ t.ctxs = [] ∧ t.parts = [] ∧ t.power = {} ∧ t.pending = s.pending)
  ∧ (∀ s : State, s.boot.powered = true → s.boot.resetDue = true → s.errs.halted = false →
      ∃ t : State, exec .warmReset s = .next t ∧ t.boot.powered = true ∧ t.boot.stage = .rom ∧ t.boot.cold = false ∧ t.boot.rebuildDue = true
        ∧ t.boot.resetDue = false ∧ t.power.k = 0 ∧ t.power.budget = s.power.budget ∧ t.fuses = s.fuses ∧ t.flash = s.flash
        ∧ t.jr.partner = s.jr.partner ∧ t.jr.images = s.jr.images ∧ t.jr.slots = s.jr.slots
        ∧ t.lasers = s.lasers ∧ t.carts = s.carts ∧ t.tiles = Tab.mapVals s.tiles (fun _ e => e.cleared) ∧ t.dies = [] ∧ t.linkUp = false ∧ t.numVfs = 0
        ∧ (∀ p ∈ t.parts, p.2.slice = none) ∧ (∀ r ∈ t.rings, r.2.journaling = none ∧ r.2.stopped = true)
        ∧ (∀ f ≤ 62, (t.fn f).avail = false ∧ (t.fn f).maps = [] ∧ (t.fn f).hold = (s.fn f).hold))

/-- Functions come and go (R391, R392, R402): an unavailable function's mailbox and event queue are off, its
mappings ended, its rings stopped; a reset of the physical function, or of the link, resets every function. -/
def Obligations.FunctionRowsComplete : Prop :=
  (∀ (fn : Nat) (s : State), fn ≤ 62 → s.boot.powered = true → (s.fn fn).avail = true →
      ∃ t : State, exec (.functionUnavailable fn) s = .next t ∧ (t.fn fn).avail = false ∧ (t.fn fn).awaitResync = true
        ∧ (t.fn fn).mbox.enable = false ∧ (t.fn fn).evq.enable = false ∧ (t.fn fn).maps = []
        ∧ (∀ f, f ≠ fn → (s.fn f).mbox.waiting = none → t.fn f = s.fn f))
  ∧ (∀ (fn : Nat) (s : State), fn ≤ 62 → s.boot.powered = true →
      exec (.functionAvailable fn) s = .next { s with
        funs := Tab.set s.funs fn { (s.fn fn) with avail := true }, linkUp := true, numVfs := max s.numVfs fn })
  ∧ (∀ (fn : Nat) (s : State), 1 ≤ fn → fn ≤ 62 → s.boot.powered = true →
      ∃ t : State, exec (.functionLevelReset fn) s = .next t ∧ (t.fn fn).avail = false ∧ (t.fn fn).maps = [] ∧ (t.fn fn).hold = (s.fn fn).hold
        ∧ ((s.fn fn).mbox.waiting = none → (t.fn fn).mbox = { restarted := true }) ∧ (t.fn fn).evq = {} ∧ (t.fn fn).msix = []
        ∧ (∀ f, f ≠ fn → (s.fn f).mbox.waiting = none → t.fn f = s.fn f) ∧ t.numVfs = s.numVfs)
  ∧ (∀ s : State, s.boot.powered = true →
      ∃ t : State, exec (.functionLevelReset 0) s = .next t ∧ t.numVfs = 0 ∧ (∀ f ≤ 62, (t.fn f).avail = false ∧ (t.fn f).maps = []))
  ∧ (∀ s : State, s.boot.powered = true →
      ∃ t : State, exec .linkReset s = .next t ∧ t.numVfs = 0 ∧ t.linkUp = false ∧ (∀ f ≤ 62, (t.fn f).avail = false ∧ (t.fn f).maps = [])
        ∧ t.boot = s.boot ∧ (∀ n, Tab.has t.parts n = Tab.has s.parts n))

/-- Boot (R398, R401): checks 1 to 5 on the header, check 6 on the body, then firmware start; each first failure
leads to recovery with its cause. -/
def Obligations.BootRowsComplete : Prop :=
  (∀ s : State, s.boot.powered = true → s.errs.halted = false → s.boot.stage = .rom →
      exec .bootHeaderRead s = .next (if s.headerFail s.flashHeader = 0 then { s with boot := { s.boot with stage := .verify } }
        else { s with boot := { s.boot with stage := .recovery, fail := s.headerFail s.flashHeader } }))
  ∧ (∀ s : State, s.boot.powered = true → s.errs.halted = false → s.boot.stage = .verify →
      (bodyOk s.flashImage = true → exec .bootBodyVerified s = .next { s with boot := { s.boot with
        stage := .firmwareStart, keyLocked := true, running := some (s.runningOf s.flashImage) } })
      ∧ (bodyOk s.flashImage = false → exec .bootBodyVerified s = .next { s with boot := { s.boot with stage := .recovery, fail := 6 } }))
  ∧ (∀ (r : Running) (s : State), s.boot.running = some r → s.boot.powered = true → s.errs.halted = false → s.boot.stage = .firmwareStart →
      ∃ t : State, exec .firmwareReady s = .next t ∧ t.boot.stage = .ready ∧ t.boot.updatePending = false ∧ t.boot.running = some r
        ∧ t.fuses = s.fuses.afterReady r ∧ t.flash = s.flash ∧ t.errs = s.errs)

/-- Recovery (R404 to R406): GO marks the host's image offered; the first offered source whose header passes is
taken; an image whose body passes boots from flash; the twin serves the image it runs. -/
def Obligations.RecoveryRowsComplete : Prop :=
  (∀ (v : Word32) (s : State), s.boot.powered = true → s.errs.halted = false → s.boot.stage = .recovery → bitOf v.toNat 0 = true →
      s.boot.recSource = none →
      exec (.recoveryGo 0 v) s = .next { s with boot := { s.boot with recBusy := true } })
  ∧ (∀ (src : RecSource) (hd : List Byte) (s : State), s.boot.powered = true → s.errs.halted = false → s.boot.stage = .recovery →
      s.boot.recSource = none → s.offered src = true →
      ∃ t : State, exec (.recoveryHeader src hd) s = .next t ∧ t.boot.stage = .recovery ∧ t = { s with boot := t.boot, net := t.net }
        ∧ (s.headerFail (hd.take 4096) = 0 → t.net = s.net ∧ t.boot = { s.boot with
            recSource := some src, recHeader := hd.take 4096, recBusy := s.boot.recBusy && src = .host })
        ∧ (s.headerFail (hd.take 4096) ≠ 0 → t.boot.fail = s.headerFail (hd.take 4096) ∧ t.boot.recSource = none))
  ∧ (∀ (src : RecSource) (body img : List Byte) (s : State), s.boot.powered = true → s.errs.halted = false → s.boot.stage = .recovery →
      s.boot.recSource = some src → img = (s.boot.recHeader ++ body.drop 4096).take (fieldAt s.boot.recHeader 0x14 4) →
      ∃ t : State, exec (.recoveryImageReceived (some body)) s = .next t
        ∧ t.flash = { s.flash with image := Mem.putAll pageDflt s.flash.image 0 img } ∧ t = { s with flash := t.flash, boot := t.boot, net := t.net }
        ∧ t.boot.recSource = none ∧ t.boot.recHeader = [] ∧ t.boot.recBusy = false
        ∧ (bodyOk img = true → t.boot.stage = .rom ∧ t.boot.source = src.code)
        ∧ (bodyOk img = false → t.boot.stage = .recovery ∧ t.boot.fail = 6))
  ∧ (∀ (ident : Nat) (r : Running) (s : State), s.live = true → s.boot.running = some r →
      (s.twin.twinId = some ident ∨ (s.twin.holdsPartner = true ∧ s.twin.partnerOf = some ident)) →
      exec (.recoveryImageRequest ident) s = .next (s.send ident none (.winch (.recoveryImage r.image))))

/-- Training a port (R231, R232, R243, R247, R248): light, the equaliser and the codeword boundaries end steps 1 to
3; a TRAIN flit is refused by R232 or begins the time exchanges; the 64th exchange sets the class. -/
def Obligations.TrainingRowsComplete : Prop :=
  (∀ (i : Nat) (s : State), i < 36 → (s.port i).state = .training → (s.port i).step = 1 →
      ∃ t : State, exec (.lightDetected i) s = .next t ∧ t.port i = { (s.port i) with light := true, step := 2 }
        ∧ (∀ j, j ≠ i → t.port j = s.port j) ∧ t = { s with ports := t.ports })
  ∧ (∀ (i : Nat) (s : State), i < 36 → (s.port i).state = .down →
      exec (.lightDetected i) s = .next ((s.setPort i { (s.port i) with light := true }).beginTraining i))
  ∧ (∀ (i : Nat) (s : State), i < 36 → (s.port i).state = .inService →
      ∃ t : State, exec (.lightLost i) s = .next t ∧ (t.port i).state = .down ∧ (t.port i).light = false ∧ (t.port i).unacked = []
        ∧ t.net.resend = s.net.resend ++ (s.port i).unacked ∧ (∀ j, j ≠ i → t.port j = s.port j))
  ∧ (∀ (i : Nat) (s : State), i < 36 → (s.port i).state = .training →
      ∃ t : State, exec (.lightLost i) s = .next t ∧ t.port i = { (s.port i) with light := false, step := 1 } ∧ t = { s with ports := t.ports })
  ∧ (∀ (i : Nat) (s : State), i < 36 → (s.port i).state = .training → (s.port i).step = 2 →
      exec (.equaliserLocked i) s = .next (s.setPort i { (s.port i) with step := 3 }))
  ∧ (∀ (i : Nat) (s : State), i < 36 → (s.port i).state = .training → (s.port i).step = 3 →
      exec (.codewordBoundariesFound i) s = .next (s.setPort i { (s.port i) with
        step := 4, ctl := (s.port i).ctl ++ [.train (s.trainFlit i)] }))
  ∧ (∀ (i : Nat) (s : State), i < 36 → (s.port i).state = .training →
      exec (.trainingStepTimeout i) s = .next (s.setPort i { (s.port i) with step := 1, samples := [], peer := none, ctl := [] }))
  ∧ (∀ (i : Nat) (s : State), i < 36 → (s.port i).state = .training →
      ∃ t : State, exec (.trainingTimeout i) s = .next t ∧ (t.port i).state = .down
        ∧ (t.port i).failures = (s.time.now :: (s.port i).failures).filter (fun u => s.time.now < u + 10000000000)
        ∧ ((t.port i).needReset = true ↔ 3 ≤ (t.port i).failures.length))
  ∧ (∀ (i : Nat) (s : State), i < 36 → ((s.port i).state = .down ∨ (s.port i).state = .refused) → s.mayTrain i = true →
      ∃ t : State, exec (.portRetry i) s = .next t ∧ (t.port i).state = .training ∧ (t.port i).step = (if (s.port i).light then 2 else 1)
        ∧ (t.port i).cause = 0 ∧ (t.port i).samples = [] ∧ (∀ j, j ≠ i → t.port j = s.port j))
  ∧ (∀ (i : Nat) (f : TrainFlit) (s : State), i < 36 → (s.port i).state = .training → (s.port i).step = 4 →
      (∀ c, s.refusal i f = some c →
        ∃ t : State, exec (.train i f) s = .next t ∧ (t.port i).state = .refused ∧ (t.port i).cause = c)
      ∧ (s.refusal i f = none →
        ∃ t : State, exec (.train i f) s = .next t ∧ (t.port i).state = .training ∧ (t.port i).step = 5 ∧ (t.port i).peer = some f
          ∧ (t.port i).samples = [] ∧ (t.port i).syncDue = true))
  ∧ (∀ (i : Nat) (t1 t2 t3 : Int) (s : State), i < 36 → (s.port i).state = .training → (s.port i).step = 5 → (s.port i).syncT1 = some t1 →
      ∃ t : State, exec (.timeReply i t2 t3) s = .next t
        ∧ ((s.port i).samples.length < 63 → (t.port i).state = .training
            ∧ (t.port i).samples = ((s.time.now - t1) - (t3 - t2)) :: (s.port i).samples)
        ∧ (63 ≤ (s.port i).samples.length → (medianOf (((s.time.now - t1) - (t3 - t2)) :: (s.port i).samples)).toNat < 12000 →
            (t.port i).state = .inService ∧ (t.port i).rtt = some (medianOf (((s.time.now - t1) - (t3 - t2)) :: (s.port i).samples)).toNat
            ∧ (t.port i).txGroup = 0 ∧ (t.port i).rxGroup = 0 ∧ (t.port i).window = [] ∧ (t.port i).inFlight = [])
        ∧ (63 ≤ (s.port i).samples.length → 12000 ≤ (medianOf (((s.time.now - t1) - (t3 - t2)) :: (s.port i).samples)).toNat →
            (t.port i).state = .refused ∧ (t.port i).cause = 4))

/-- The link layer of a port in service (R230, R233, R235, R236, R239, R242): groups counted and NAKed, acknowledged,
replayed; credit returned; a packet placed, or counted as misrouted or duplicate; a packet started. -/
def Obligations.LinkLayerRowsComplete : Prop :=
  (∀ (i : Nat) (g : FecGroup) (s : State), i < 36 → (s.port i).state = .inService →
      ∃ (t : State) (p : Port), exec (.fecGroupReceive i g) s = .next t
        ∧ p = { (s.port i) with symErr := min (2 ^ 32 - 1) ((s.port i).symErr + g.symErrors) }
        ∧ (g.isReplay = true → t.port i = p)
        ∧ (g.isReplay = false → (s.port i).rxPending = true →
            t.port i = { p with rxDiscard := p.rxDiscard + 1
                                badGroups := if g.flits = none then min (2 ^ 32 - 1) (p.badGroups + 1) else p.badGroups })
        ∧ (g.isReplay = false → (s.port i).rxPending = false → ∀ b, (p.scan g).bad = some b →
            t.port i = { p with
              badGroups := min (2 ^ 32 - 1) (p.badGroups + 1), rxPending := true, rxDiscard := groupDist b p.rxGroup + 1
              rxOpen := (if b = p.rxGroup then p.rxOpen else p.rxBefore), rxGroup := b
              naks := min (2 ^ 32 - 1) (p.naks + 1), ctl := p.ctl ++ [.nak b] })
        ∧ (g.isReplay = false → (s.port i).rxPending = false → (p.scan g).bad = none → (p.scan g).done.all (fun h => !h.ackValid) = true →
            t.port i = { p with
              rxGroup := (p.rxGroup + 1) % 4096, sinceAck := p.sinceAck + 1, rxReplayed := decide (0 < p.rxReplayLeft)
              rxReplayLeft := p.rxReplayLeft - 1, rxOpen := (p.scan g).open_
              rxBefore := (if (p.scan g).fresh then p.rxOpen else p.rxBefore) })
        ∧ (g.flits = none → (p.scan g).bad = some p.rxGroup)
        ∧ ((g.isReplay = true ∨ (s.port i).rxPending = true ∨ (p.scan g).bad.isSome = true ∨ (p.scan g).done.all (fun h => !h.ackValid) = true) →
            t = { s with ports := t.ports } ∧ ∀ j, j ≠ i → t.port j = s.port j))
  ∧ (∀ (i : Nat) (s : State), i < 36 → (s.port i).state = .inService → (s.port i).rxPending = true →
      exec (.nakResendTimeout i) s = .next (s.setPort i { (s.port i) with
        naks := min (2 ^ 32 - 1) ((s.port i).naks + 1), ctl := (s.port i).ctl ++ [.nak (s.port i).rxGroup] }))
  ∧ (∀ (i : Nat) (s : State), i < 36 → (s.port i).state = .inService → 16 ≤ (s.port i).sinceAck →
      exec (.ackInterval i) s = .next (s.setPort i { (s.port i) with
        sinceAck := 0, ctl := (s.port i).ctl ++ [.ack (((s.port i).rxGroup + 4095) % 4096)] }))
  ∧ (∀ (i g : Nat) (s : State), i < 36 → (s.port i).state = .inService → (s.cart (portCart i)).releasing = false →
      exec (.ack i g false) s = .next (s.setPort i { ((s.port i).acked ((g + 1) % 4096)) with lastNak := none, nakRun := 0 }))
  ∧ (∀ (i g : Nat) (s : State), i < 36 → (s.port i).state = .inService → ((s.port i).lastNak ≠ some g ∨ (s.port i).nakRun < 7) →
      ∃ t : State, exec (.ack i g true) s = .next t ∧ (t.port i).replayDue = some (g % 4096) ∧ (t.port i).replayNext = none
        ∧ (t.port i).state = .inService
        ∧ (t.port i).replays = min (2 ^ 32 - 1) ((s.port i).replays + 1) ∧ t = { s with ports := t.ports })
  ∧ (∀ (i n : Nat) (g : FecGroup) (s : State), i < 36 → (s.port i).state = .inService → (s.port i).rxPending = true → (s.port i).rxGroup = n →
      g.isReplay = true →
      exec (.replay i ⟨n, g⟩) s = .next (s.setPort i { (s.port i) with
        symErr := min (2 ^ 32 - 1) ((s.port i).symErr + g.symErrors), rxPending := false
        rxReplayLeft := (s.port i).rxDiscard, rxDiscard := 0 }))
  ∧ (∀ (i : Nat) (counts : List Nat) (s : State), i < 36 → (s.port i).state = .inService →
      ∃ t : State, exec (.credit i counts) s = .next t ∧ t = { s with ports := t.ports }
        ∧ (t.port i) = { (s.port i) with inFlight := (t.port i).inFlight }
        ∧ ∀ v < 8, Tab.getD (t.port i).inFlight v 0 = Tab.getD (s.port i).inFlight v 0 - counts.getD v 0)
  ∧ (∀ (i : Nat) (s : State), i < 36 → (s.port i).state = .inService →
      ∃ t : State, exec (.down i) s = .next t ∧ (t.port i).state = .down ∧ (t.port i).unacked = []
        ∧ t.net.resend = s.net.resend ++ (s.port i).unacked)
  ∧ (∀ (i : Nat) (p : Packet) (s : State), i < 36 → (s.port i).state = .inService → (s.port i).rxPending = false →
      s.ident = some p.dest → typeOnVc p.msgType p.vc = true → p.msgType = p.msg.typeCode →
      (s.net.holds p = false →
        ∃ t : State, exec (.packetReceive i p) s = .next t ∧ t = { s with ports := t.ports, net := t.net }
          ∧ t.net = (s.net.place i p).deliver s.tagOk p.src p.vc (s.net.partials.length + 1)
          ∧ (∀ j, j ≠ i → t.port j = s.port j)
          ∧ t.port i = { (s.port i) with rxHeld := (t.port i).rxHeld, freed := (t.port i).freed }
          ∧ Tab.getD (t.port i).rxHeld p.vc 0 = Tab.getD (s.port i).rxHeld p.vc 0 + p.len
          ∧ (heldInPort p.msgType = true → (t.port i).freed = (s.port i).freed)
          ∧ (heldInPort p.msgType = false → Tab.getD (t.port i).freed p.vc 0
              = min (Tab.getD (s.port i).rxHeld p.vc 0 + p.len) (Tab.getD (s.port i).freed p.vc 0 + p.len)))
      ∧ (s.net.holds p = true →
        ∃ t : State, exec (.packetReceive i p) s = .next t ∧ t = { s with ports := t.ports }
          ∧ (t.port i).duplicates = min (2 ^ 32 - 1) ((s.port i).duplicates + 1)))
  ∧ (∀ (i : Nat) (p : Packet) (s : State), i < 36 → (s.port i).state = .inService → (s.port i).rxPending = false →
      (s.ident ≠ some p.dest ∨ typeOnVc p.msgType p.vc = false) →
      ∃ t : State, exec (.packetReceive i p) s = .next t ∧ (t.port i).misrouted = min (2 ^ 32 - 1) ((s.port i).misrouted + 1)
        ∧ t.net = s.net ∧ t = { s with ports := t.ports, errs := { s.errs with window := t.errs.window } })
  ∧ (∀ (i : Nat) (s : State), i < 36 → (s.port i).state = .inService →
      (∀ g, (s.port i).replayDue = some g →
        exec (.packetTransmit i) s = .next (s.setPort i { (s.port i) with
          wire := .control (.replay g) :: List.replicate 9 .idle, replayDue := none
          replayNext := if g = (s.port i).txGroup then none else some g }))
      ∧ (∀ g slots, (s.port i).replayDue = none → (s.port i).replayNext = some g → (s.port i).kept.find? (fun k => k.1 = g) = some (g, slots) →
        exec (.packetTransmit i) s = .next (s.setPort i { (s.port i) with
          wire := slots, replayNext := if (g + 1) % 4096 = (s.port i).txGroup then none else some ((g + 1) % 4096) }))
      ∧ ((s.port i).replayDue = none → (s.port i).replayNext = none → groupDist (s.port i).txAcked (s.port i).txGroup < 511 →
        ∃ t : State, exec (.packetTransmit i) s = .next t ∧ t = { s with ports := t.ports, net := t.net }
          ∧ (t.port i).txGroup = ((s.port i).txGroup + 1) % 4096 ∧ (t.port i).wire.length = 10
          ∧ (t.port i).kept.getLast? = some ((s.port i).txGroup, (t.port i).wire)
          ∧ (∀ j, j ≠ i → t.port j = s.port j)
          ∧ (∀ c, (s.port i).replyDue = false → (s.port i).syncDue = false → (s.port i).ctl = [] → (s.port i).nextCtl = none →
              (s.port i).txOpen = none → (s.cart (portCart i)).releasing = false → s.choosePacket i = some c →
              (t.port i).wire.head? = some (.head c.ready.packet none))))

/-- Fabric time (R245, R246): SYNC and REPLY between the ends of a port, the choice of the root, IN_SYNC. -/
def Obligations.FabricTimeRowsComplete : Prop :=
  (∀ (i : Nat) (f : SyncFlit) (s : State), i < 36 → (s.port i).state = .inService →
      ∃ t : State, exec (.timeSync i f) s = .next t ∧ (t.port i).replyDue = true
        ∧ (t.port i).rxT1 = (if (s.port i).rxReplayed then none else some f.t1) ∧ (t.port i).rxT2 = some (s.time.now : Int)
        ∧ (t.port i).rxT3 = none ∧ (i < 32 → (t.port i).heardRoot = some (f.rootId, f.hops, f.inSync))
        ∧ ((s.time.inSync = true ∨ s.time.stepped = true) → ∀ j, j ≠ i → t.port j = s.port j))
  ∧ (∀ (i : Nat) (t1 t2 t3 : Int) (s : State), i < 36 → (s.port i).state = .inService → (s.port i).syncT1 = some t1 →
      exec (.timeReply i t2 t3) s = .next (s.setPort i { (s.port i) with
        replyT4 := (if (s.port i).rxReplayed then none else some (s.time.now : Int)), syncT1 := none }))
  ∧ (∀ (i : Nat) (s : State), i < 36 → (s.port i).state = .inService →
      exec (.timeSyncTimer i) s = .next (s.setPort i { (s.port i) with syncDue := true }))
  ∧ (∀ (me : Nat) (s : State), s.live = true → s.ident = some me →
      ∃ t : State, exec .rootTimeout s = .next t ∧ t = { s with time := t.time } ∧ t.time.now = s.time.now
        ∧ t.time.root ≤ me ∧ (∀ e ∈ s.heard, t.time.root ≤ e.2.1)
        ∧ (t.time.root = me ∨ ∃ e ∈ s.heard, t.time.root = e.2.1) ∧ (t.time.isRoot = true ↔ t.time.root = me)
        ∧ (t.time.isRoot = true → t.time.hops = 0 ∧ t.time.upstream = none))
  ∧ (∀ (since : Nat) (s : State), s.live = true → s.time.rootSince = some since → since + 1000000000 ≤ s.time.now →
      exec .rootInSync s = .next { s with time := { s.time with inSync := true } })

/-- A window of a port ends, a laser reaches its bias limit, a cartridge goes in, locks, and is released (R247 to R252,
R434, R466, R467). -/
def Obligations.PortHealthRowsComplete : Prop :=
  (∀ (i : Nat) (s : State), i < 36 → s.boot.powered = true →
      ∃ t : State, exec (.portWindowEnd i) s = .next t ∧ (t.port i).lastSymErr = (s.port i).symErr
        ∧ (t.port i).lastBad = (s.port i).badGroups ∧ (t.port i).lastNaks = (s.port i).naks ∧ (t.port i).lastReplays = (s.port i).replays
        ∧ (t.port i).lastMisrouted = (s.port i).misrouted ∧ (t.port i).lastDuplicates = (s.port i).duplicates
        ∧ (t.port i).symErr = 0 ∧ (t.port i).badGroups = 0 ∧ (t.port i).misrouted = 0
        ∧ Tab.getD t.logbook.portBad i 0 = min (2 ^ 64 - 1) (Tab.getD s.logbook.portBad i 0 + (s.port i).badGroups)
        ∧ ((s.port i).state = .inService → 8500 < (s.port i).symErr → (s.port i).badGroups ≤ 16 → (t.port i).degraded = true
            ∧ ((s.port i).degraded = false → (s.time.now, .degraded i) ∈ t.net.notes))
        ∧ ((s.port i).state = .inService → 16 < (s.port i).badGroups → (t.port i).state = .training))
  ∧ (∀ (l bias : Nat) (s : State), l < 48 → 0 < (s.laser l).factory →
      ∃ t : State, exec (.laserBiasLimit l bias) s = .next t ∧ (t.laser l).bias = bias
        ∧ ((t.laser l).aged = true ↔ ((s.laser l).aged = true ∨ 130 * (s.laser l).factory ≤ 100 * bias))
        ∧ ((s.laser l).factory * 160 ≤ bias * 100 → ∀ i ∈ laserPorts l, (t.port i).state = .down ∧ (t.port i).laserOk = false)
        ∧ (bias * 100 < (s.laser l).factory * 160 → t = { s with lasers := t.lasers, net := { s.net with notes := t.net.notes } })
        ∧ ((s.laser l).aged = false → 130 * (s.laser l).factory ≤ 100 * bias → (s.time.now, .laserAgeing l) ∈ t.net.notes))
  ∧ (∀ (c serial : Nat) (factory : List Nat) (s : State), c < 4 →
      ∃ t : State, exec (.cartridgeInsert c serial factory) s = .next t ∧ t.cart c = { present := true, serial := serial }
        ∧ (∀ i < 12, t.laser (12 * c + i) = { factory := factory.getD i 0 }) ∧ (∀ i ∈ cartPorts c, (t.port i).laserOk = true)
        ∧ Tab.getD t.logbook.cartSerial c 0 = serial
        ∧ Tab.getD t.logbook.cartChanges c 0 = min (2 ^ 32 - 1) (Tab.getD s.logbook.cartChanges c 0 + 1)
        ∧ t = { s with carts := t.carts, lasers := t.lasers, ports := t.ports, logbook := t.logbook })
  ∧ (∀ (c : Nat) (s : State), c < 4 → (s.cart c).present = true →
      ∃ t : State, exec (.laserLock c) s = .next t ∧ (t.cart c).locked = true ∧ (t.cart c).released = false ∧ (t.cart c).releasing = false
        ∧ (∀ i < 12, (t.laser (12 * c + i)).lit = true)
        ∧ (s.live = true → ∀ i ∈ cartPorts c, (s.port i).state = .down → (s.port i).laserOk = true → (s.port i).needReset = false →
            (t.port i).state = .training))
  ∧ (∀ (c : Nat) (s : State), c < 4 → (s.cart c).releasing = true →
      ∃ t : State, exec (.cartridgeReleaseTimeout c) s = .next t ∧ (t.cart c).releasing = false ∧ (t.cart c).released = true
        ∧ (t.cart c).locked = false ∧ (∀ i ∈ cartPorts c, (t.port i).state ≠ .inService) ∧ (∀ i < 12, (t.laser (12 * c + i)).lit = false))

/-- Tickets (R323 to R328, R362, R364, R367): a good next ticket is journaled, is accepted once its records stand in
every journal that acceptance needs, and completes into the ring once its COMPLETE record does. -/
def Obligations.TicketRowsComplete : Prop :=
  (∀ (g : Nat) (f : Fetched) (tk : Ticket) (ds : List Desc) (r : Ring) (x : Ctx) (s : State), s.live = true → s.fetchWinner = some g →
      Tab.get s.rings g = some r → s.ctx? r.params.ctx = some x → tk = ticketOf f.ticket → ds = (descsOf f.descs).take tk.descCount →
      tk.tseq = r.accepted + 1 → ticketReject x tk ds = none → x.ringHeld g = false → s.journalRoom (ticketBodies tk ds).length = true →
      ∃ t : State, exec (.ticketFetch g (some f)) s = .next t
        ∧ Tab.get t.rings g = some { (if r.again = [] then r else r.took) with
            journaling := some ⟨tk, ds, s.jr.nextSeq, t.jr.nextSeq, true⟩ }
        ∧ t.jr.nextSeq = s.jr.nextSeq + (ticketBodies tk ds).length
        ∧ (∃ recs, t.jr = { s.jr with own := s.jr.own ++ recs, nextSeq := t.jr.nextSeq } ∧ recs.map (·.body) = ticketBodies tk ds)
        ∧ t.arb = { s.arb with ringFetch := (g + 1) % 16384 }
        ∧ t.ctxs = (if tk.kind = 3 then Tab.set s.ctxs r.params.ctx { x with lastCommitId := some (max (x.lastCommitId.getD 0) tk.commitId) } else s.ctxs)
        ∧ t = { s with rings := t.rings, ctxs := t.ctxs, jr := t.jr, net := t.net, arb := t.arb })
  ∧ (∀ (g : Nat) (j : Journaling) (r : Ring) (x : Ctx) (s : State), s.live = true → Tab.get s.rings g = some r → r.journaling = some j →
      j.written = true → s.ctx? r.params.ctx = some x → x.state ≠ .faulted → x.ringHeld g = false → s.durable j.lastSeq = true →
      ∃ (t : State) (r2 : Ring) (x2 : Ctx) (q : Run), exec (.ticketAccept g) s = .next t ∧ Tab.get t.rings g = some r2
        ∧ r2 = { r with accepted := j.ticket.tseq, journaling := none } ∧ t.ctx? r.params.ctx = some x2 ∧ q ∈ x2.runs
        ∧ q.ring = g ∧ q.tseq = j.ticket.tseq ∧ q.ticket = j.ticket ∧ q.descs = j.descs ∧ q.next = 0 ∧ q.status = none
        ∧ (Tab.getD t.clients x.params.client {}).accepted = (Tab.getD s.clients x.params.client {}).accepted + 1
        ∧ (∀ c, c ≠ x.params.client → Tab.get t.clients c = Tab.get s.clients c))
  ∧ (∀ (g tseq n : Nat) (r : Ring) (x : Ctx) (q : Run) (s : State), s.live = true → Tab.get s.rings g = some r →
      s.ctx? r.params.ctx = some x → findRun x.runs g tseq = some q → q.doneSeq = some n → q.mode = .normal → x.rollbackDue = none →
      s.durable n = true → (s.fn x.owner).avail = true → (s.fn x.owner).awaitResync = false → q.ticket.irqDone = false →
      ∃ (t : State) (r2 : Ring), exec (.ticketComplete g tseq) s = .next t ∧ Tab.get t.rings g = some r2 ∧ r2 = r.completed q.tseq
        ∧ (∃ more, t.hostOut = s.hostOut ++ [.write x.owner (r.params.complAddr + 32 * ((q.tseq - 1) % r.params.depth)) q.entry,
            .write x.owner (r.params.ctrlAddr + 8) (slice r2.ctrl 8 8)] ++ more)
        ∧ (∀ x2, t.ctx? r.params.ctx = some x2 → findRun x2.runs g q.tseq = none)
        ∧ (Tab.getD t.clients x.params.client {}) = (if q.status = some 2 ∨ q.status = some 3
            then { (Tab.getD s.clients x.params.client {}) with faulted := (Tab.getD s.clients x.params.client {}).faulted + 1 }
            else { (Tab.getD s.clients x.params.client {}) with completed := (Tab.getD s.clients x.params.client {}).completed + 1 }))

/-- Journal messages, and a SLOT_SET (R320, R321, R324, R334, R340, R348, R379, R380): records that the twin does not hold are
written into the partner journal and acknowledged, or turned away for want of room; RELEASE frees, ROLLBACK asks for the
image; what the twin answers counts on the module that sent them. A batch that names a RESTART slot runs nothing, one that
names another context's slot is rejected, else each length is set. -/
def Obligations.JournalAndSlotSetRowsComplete : Prop :=
  (∀ (src : Nat) (a : Arrived) (rest : List Arrived) (recs new : List JRec) (s : State), Delivered src 0 a rest s → a.msg = .journal recs →
      s.isTwin src = true → s.jr.refusedAt = none → (recs.map (·.seq)).Nodup →
      (∀ r ∈ recs, (∀ k, r.body ≠ .release k) ∧ (∀ k, r.body ≠ .rollback k) ∧ (∀ n, r.body ≠ .config (.contextDestroy n))) →
      new = recs.filter (fun r => !s.jr.partner.any (fun q => q.seq = r.seq)) →
      (s.jr.partner.length + new.length ≤ s.journalCap →
        ∃ t : State, exec (.journalRecords src) s = .next t ∧ (∀ r, r ∈ t.jr.partner ↔ r ∈ s.jr.partner ∨ r ∈ new)
          ∧ t.jr = { s.jr with partner := t.jr.partner, partnerTables := s.jr.partnerTables.map (fun b => new.foldl ModTables.take b) }
          ∧ t = State.send ({ s with jr := t.jr }.setInbox rest) src none (.journalAck (recs.foldl (fun n r => max n (r.seq + 1)) 0)))
      ∧ (s.journalCap < s.jr.partner.length + new.length →
        exec (.journalRecords src) s = .next (State.send
          { s.setInbox rest with jr := { s.jr with refusedAt := some (((recs.head?).map (·.seq)).getD 0) } } src none .journalFull)))
  ∧ (∀ (src : Nat) (a : Arrived) (rest : List Arrived) (r : JRec) (s : State), Delivered src 0 a rest s → a.msg = .journal [r] →
      s.isTwin src = true → s.jr.refusedAt = none → (∀ q ∈ s.jr.partner, q.seq ≠ r.seq) → s.jr.partner.length < s.journalCap →
      (∀ k, r.body = .release k →
        ∃ u v : State, u = (s.setInbox rest).releaseHere r.ctx k ∧ v = { u with jr := { u.jr with
            partner := putRec u.jr.partner r, partnerTables := u.jr.partnerTables.map (fun b => b.take r) } }
          ∧ (exec (.journalRecords src) s = .next (v.send src none (.journalAck (r.seq + 1)))))
      ∧ (∀ k, r.body = .rollback k →
        ∃ u : State, u = { s.setInbox rest with jr := Journals.sweep { s.jr with
            partner := putRec s.jr.partner r, partnerTables := s.jr.partnerTables.map (fun b => b.take r)
            incoming := s.jr.incoming.filter (fun i => i.ctx != r.ctx) } }
          ∧ exec (.journalRecords src) s = .next ((u.returnImage src r.ctx k).send src none (.journalAck (r.seq + 1)))))
  ∧ (∀ (src : Nat) (a : Arrived) (rest : List Arrived) (s : State), Delivered src 0 a rest s → s.isTwin src = true →
      (∀ n, a.msg = .journalAck n →
        exec (.journalRecords src) s = .next { s.setInbox rest with jr := { s.jr with acked := max s.jr.acked n } })
      ∧ (a.msg = .journalFull → exec (.journalRecords src) s = .next { s.setInbox rest with jr := { s.jr with twinFull := true } })
      ∧ (a.msg = .journalRoom → exec (.journalRecords src) s
          = .next (State.resendRecords { s.setInbox rest with jr := { s.jr with twinFull := false } } src))
      ∧ (∀ b, a.msg = .tables b → exec (.journalRecords src) s = .next { s.setInbox rest with jr := { s.jr with partnerTables := some b } }))
  ∧ (∀ (src : Nat) (a : Arrived) (rest : List Arrived) (b : RestoreTables) (r : Restoring) (s : State), Delivered src 0 a rest s →
      a.msg = .restoreTables b → s.twin.restoring = some r → r.survivor = src → r.step = 2 →
      exec (.journalRecords src) s = .next { s.setInbox rest with twin := { s.twin with restoring := some { r with tables := some b } } })
  ∧ (∀ (ctx : Nat) (x : Ctx) (r : Run) (d : Desc) (s : State), s.dispatchable ctx 0x60 none false = some (x, r, d) →
      ((r.next ≠ 0 ∨ ∀ n ∈ r.slots, s.slotOf ctx n = true → ∀ l, Tab.get s.slots n = some l → l.restart = false) →
        ((∀ e ∈ slotEntries d, s.slotOf ctx e.1 = true) →
          ∃ t : State, exec (.slotSet ctx) s = .next t
            ∧ t.slots = (slotEntries d).foldl (fun l e => Tab.modify l e.1 (fun y => { y with obj := { y.obj with length := e.2 } })) s.slots
            ∧ t.fuses = s.fuses ∧ t.flash = s.flash ∧ t.boot = s.boot ∧ t.ports = s.ports)
        ∧ ((∃ e ∈ slotEntries d, s.slotOf ctx e.1 = false) → exec (.slotSet ctx) s = .next ((s.rejectDesc ctx r).refresh ctx)))
      ∧ ((r.next = 0 ∧ ∃ n ∈ r.slots, s.slotOf ctx n = true ∧ ∃ l, Tab.get s.slots n = some l ∧ l.restart = true) →
          exec (.slotSet ctx) s = .next ((s.stopRun ctx r 4 0 none).refresh ctx)))

/-- A job's replay (R342, R343): a ticket is taken up at once; with no earlier work to wait for, the next journaled command is
applied and the next host write made; when every entry and ticket has been taken up, replay is over. -/
def Obligations.JobReplayCompletes : Prop :=
  (∀ (ctx : Nat) (consumed : Tab Nat) (x : Ctx) (p : Replay) (s : State), s.live = true → s.ctx? ctx = some x → x.replay = some p →
      x.rollbackDue = none → p.records = [] → (∀ r ∈ x.runs, r.takenUp = true) →
      exec (.jobReplay ctx consumed) s = .next (((s.setCtx ctx { x with replay := none }).serveReads ctx).refresh ctx))
  ∧ (∀ (ctx n : Nat) (consumed : Tab Nat) (x y : Ctx) (p q : Replay) (r : JRec) (rest : List JRec) (s : State), s.live = true →
      s.ctx? ctx = some x → x.replay = some p → x.rollbackDue = none → p.records = r :: rest → n = max 1 (r.count - r.part) →
      q = { p with hostRead := some (p.hostRead.getD consumed) } →
      y = { x with replay := some { q with records := (r :: rest).drop n } } →
      (∀ tk, r.body = .accept tk → exec (.jobReplay ctx consumed) s = .next (((s.setCtx ctx y).addReplayed ctx
        ((s.setCtx ctx y).replayRun y q r tk ((rest.take (n - 1)).flatMap (fun k => match k.body with | .desc l => l | _ => [])))).refresh ctx))
      ∧ (x.state ≠ .faulted → (∀ k ∈ x.runs, k.over = true ∨ (k.ticket.kind = 3 ∧ k.frozen = true)) →
        (∀ op, r.body = .config op → exec (.jobReplay ctx consumed) s = .next (((s.setCtx ctx y).applyOp ctx y r.seq op
          ((rest.take (n - 1)).flatMap (fun k => match k.body with | .prompt _ b => b | _ => []))).refresh ctx))
        ∧ (∀ h off bs, r.body = .hostWrite h off bs →
          exec (.jobReplay ctx consumed) s = .next (((s.setCtx ctx y).replayWrites ctx (r :: rest.take (n - 1))).refresh ctx)))
      ∧ (x.state ≠ .faulted → (∃ k ∈ x.runs, k.over = false ∧ ¬(k.ticket.kind = 3 ∧ k.frozen = true)) → (∃ op, r.body = .config op) →
        exec (.jobReplay ctx consumed) s = .next (s.setCtx ctx { x with replay := some q })))

/-- Commits (R330 to R334, R336, R340, R348): the freeze notes the job's persistent extents and journals FREEZE; a copied extent
is noted; with room the transfer is sent, and else MIRROR_WAIT shows; the twin stores and seals it; the seal keeps the
commit and completes its ticket. An image that comes back is put in its place, its end acknowledged. -/
def Obligations.CommitRowsComplete : Prop :=
  (∀ (ctx : Nat) (x : Ctx) (r : Run) (s : State), s.live = true → s.ctx? ctx = some x → commitNext x.runs = some r → x.commits.length < 2 →
      x.rollbackDue = none → x.state ≠ .faulted → s.journalRoom 1 = true →
      exec (.commitFreeze ctx) s = .next ((s.freeze ctx x r).refresh ctx)
        ∧ (x.kept.any (fun k => k.id = r.ticket.commitId) = false → x.stash = [] → s.twin.state = .paired →
            s.mirrorSlots ≥ x.dirty.length + ((Tab.set s.ctxs ctx x).map (fun c => c.2.latestMap.length)).sum →
            ∃ (y : Ctx) (c : Commit), (s.freeze ctx x r).ctx? ctx = some y ∧ y.commits = x.commits ++ [c] ∧ y.dirty = []
              ∧ c.id = r.ticket.commitId ∧ c.ring = r.ring ∧ c.tseq = r.tseq ∧ c.transferring = false
              ∧ c.dirty = sortBy extentKey x.dirty ∧ c.image = c.dirty.map (fun e => (e, x.extentBytes e))))
  ∧ (∀ (ctx : Nat) (e : ExtentId) (x : Ctx) (p : Part) (s : State), s.live = true → s.ctx? ctx = some x →
      Tab.get s.parts x.params.partition = some p →
      ((s.ctxsOf x.params.partition).map (fun c => (c.2.commits.map (fun k => (k.cow.filter (fun e => !k.sent.contains e)).length)).sum)).sum
        < p.params.cowHbm →
      x.commits.any (fun c => c.dirty.contains e && !c.sent.contains e && !c.cow.contains e) = true →
      exec (.cowCopy ctx e) s = .next ((s.setCtx ctx { x with commits := x.commits.map (fun c =>
        if c.dirty.contains e && !c.sent.contains e && !c.cow.contains e then { c with cow := c.cow ++ [e] } else c) }).refresh ctx))
  ∧ (∀ (ctx tw : Nat) (x : Ctx) (c : Commit) (rest : List Commit) (s : State), s.live = true → s.ctx? ctx = some x → s.twin.twinId = some tw →
      s.twin.state = .paired → x.commits = c :: rest → c.transferring = false →
      (s.slotsUsed + c.dirty.length ≤ s.mirrorSlots →
        ∃ u : State, u = (s.sendCommit tw ctx c).setCtx ctx { x with commits := { c with transferring := true, sent := c.dirty, cow := [] } :: rest }
          ∧ exec (.commitTransfer ctx) s = .next (u.refresh ctx))
      ∧ (s.mirrorSlots < s.slotsUsed + c.dirty.length → exec (.commitTransfer ctx) s = .next s ∧ s.mirrorWaits = true))
  ∧ (∀ (src : Nat) (a : Arrived) (rest : List Arrived) (m : MirrorMsg) (s : State), Delivered src 3 a rest s → a.msg = .mirror m →
      s.isTwin src = true →
      (m.image = false → (m.extent = none ∨ (lowestFree s.mirrorSlots s.jr.named).isSome = true
          ∨ ∃ e n, m.extent = some e ∧ (e, n) ∈ (s.jr.incomingOf m.ctx m.commit).map) →
        ∃ u : State, (s.setInbox rest).mirrorWrite m = some u
          ∧ (∀ e, m.extent = some e → ∃ i n, (u.jr.incoming.find? (fun k => k.ctx = m.ctx && k.commit = m.commit)) = some i
              ∧ (e, n) ∈ i.map ∧ Tab.get u.jr.slots n = some m.bytes)
          ∧ exec (.memoryWrite src) s = .next (u.send src none (.mirrorAck false m.ctx m.commit m.extent)))
      ∧ (∀ e, m.image = false → m.extent = some e → lowestFree s.mirrorSlots s.jr.named = none →
          (∀ n, (e, n) ∉ (s.jr.incomingOf m.ctx m.commit).map) → exec (.memoryWrite src) s = .next s)
      ∧ (∀ (x : Ctx), m.image = true → s.ctx? m.ctx = some x → x.rollbackDue = some (.image m.commit) →
        (∀ e, m.extent = some e → exec (.memoryWrite src) s = .next ((s.setInbox rest).setCtx m.ctx (x.putExtents [(e, m.bytes)])))
        ∧ (m.extent = none → exec (.memoryWrite src) s = .next (State.send
            (((((s.setInbox rest).setCtx m.ctx { x with rollbackDue := none }).serveReads m.ctx)).refresh m.ctx)
            src none (.mirrorAck true m.ctx m.commit none)))))
  ∧ (∀ (src ctx commit : Nat) (ext : Option ExtentId) (a : Arrived) (rest : List Arrived) (x : Ctx) (c : Commit) (more : List Commit) (s : State),
      Delivered src 3 a rest s → a.msg = .mirrorAck false ctx commit ext → s.isTwin src = true → s.ctx? ctx = some x → x.commits = c :: more →
      c.id = commit → c.transferring = true →
      ∃ (t : State) (y : Ctx) (c2 : Commit), exec (.mirrorExtentAck src) s = .next t ∧ t.ctx? ctx = some y ∧ y = { x with commits := c2 :: more }
        ∧ (∀ e, e ∈ c2.acked ↔ e ∈ c.acked ∨ ext = some e) ∧ (c2.headerAcked = true ↔ c.headerAcked = true ∨ ext = none)
        ∧ (c2.requested.isSome = true ↔ c.requested.isSome = true ∨ (c2.headerAcked = true ∧ ∀ e ∈ c.dirty, e ∈ c2.acked))
        ∧ (c.requested = none → ∀ r, c2.requested = some r → r.seq = s.jr.nextSeq ∧ r.body = .sealed commit ∧ r.ctx = ctx
            ∧ t.jr.nextSeq = s.jr.nextSeq + 1))
  ∧ (∀ (src ctx commit : Nat) (ext : Option ExtentId) (a : Arrived) (rest : List Arrived) (s : State), Delivered src 3 a rest s →
      a.msg = .mirrorAck true ctx commit ext → s.isTwin src = true →
      exec (.mirrorExtentAck src) s = .next { s.setInbox rest with jr := { s.jr with returning := s.jr.returning.filter (· != (ctx, commit)) } })
  ∧ (∀ (src ctx commit : Nat) (rc : JRec) (a : Arrived) (rest : List Arrived) (i : Incoming) (hd : JobHeader) (s : State), Delivered src 0 a rest s →
      a.msg = .sealRequest ctx commit rc → s.isTwin src = true →
      s.jr.images.any (fun g => g.ctx = ctx && g.commit = commit) = false → s.jr.partner.length < s.journalCap →
      s.jr.incoming.find? (fun i => i.ctx = ctx && i.commit = commit) = some i → i.header = some hd →
      ∃ (t : State) (g : SealedImage), exec (.commitCoordination src) s = .next t ∧ t.jr.images = s.jr.images ++ [g]
        ∧ g.ctx = ctx ∧ g.commit = commit ∧ g.header = hd ∧ g.lost = false ∧ (∀ e ∈ i.map, e ∈ g.map)
        ∧ t.jr.slots = s.jr.slots ∧ t.jr.partner = putRec s.jr.partner rc ∧ (∀ k ∈ t.jr.incoming, ¬(k.ctx = ctx ∧ k.commit = commit)))
  ∧ (∀ (src ctx commit : Nat) (a : Arrived) (rest : List Arrived) (x : Ctx) (c : Commit) (rq : JRec) (more : List Commit) (s : State),
      Delivered src 0 a rest s → a.msg = .sealAck ctx commit → s.isTwin src = true → s.ctx? ctx = some x → x.commits = c :: more →
      c.id = commit → c.requested = some rq → s.journalRoom 1 = true →
      exec (.commitSealed src) s = .next (((s.setInbox rest).seal ctx x c more).refresh ctx)
        ∧ (∃ (y : Ctx) (k : Kept), ((s.setInbox rest).seal ctx x c more).ctx? ctx = some y ∧ y.kept = x.kept ++ [k] ∧ k.id = commit
          ∧ y.commits = more ∧ y.damaged = false)
        ∧ rq ∈ ((s.setInbox rest).seal ctx x c more).jr.own)

/-- Authentication of twins, pairing retries and the loss of the twin (R310, R312, R313, R338): each message of the
exchange is taken in turn; a peer that holds no session key any more ends this end's; the module enters TWIN_LOST 200 ms
after the last tether port left service, and answers a restore request that it has withheld. -/
def Obligations.TwinAuthRowsComplete : Prop :=
  (∀ (src : Nat) (a : Arrived) (rest : List Arrived) (fresh : Bool) (certs key : List Byte) (s : State), Delivered src 1 a rest s →
      a.msg = .auth (.hello fresh certs key) → s.authPeer = some src →
      ∃ (t : State) (n : Nat), exec (.twinAuth src) s = .next t
        ∧ n = (if s.twin.auth.keyDraw.isSome = true ∧ s.twin.auth.peerCerts = none then s.freeCtr else s.freeCtr + 1)
        ∧ t.twin.auth.peerCerts = some certs ∧ t.twin.auth.peerKey = some key
        ∧ t.twin.auth.encDraw = some n ∧ t.freeCtr = n + 1
        ∧ t.twin.auth.keyDraw = (if n = s.freeCtr then s.twin.auth.keyDraw else some s.freeCtr)
        ∧ t.twin.auth.sessionKey = (if fresh then none else s.twin.auth.sessionKey)
        ∧ t = { s with net := t.net, twin := { s.twin with auth := t.twin.auth }, freeCtr := t.freeCtr })
  ∧ (∀ (src : Nat) (a : Arrived) (rest : List Arrived) (c : List Byte) (s : State), Delivered src 1 a rest s →
      a.msg = .auth (.cipher c) → s.authPeer = some src → s.twin.auth.encDraw.isSome = true →
      ∃ t : State, exec (.twinAuth src) s = .next t ∧ t.twin.auth = { s.twin.auth with cipher := some c } ∧ t.freeCtr = s.freeCtr + 1
        ∧ t = { s with net := t.net, twin := { s.twin with auth := t.twin.auth }, freeCtr := t.freeCtr })
  ∧ (∀ (src : Nat) (a : Arrived) (rest : List Arrived) (sig : List Byte) (s : State), Delivered src 1 a rest s →
      a.msg = .auth (.signed sig) → s.authPeer = some src →
      exec (.twinAuth src) s = .next (if (s.setInbox rest).authVerified src sig = true then (s.setInbox rest).authDone src
        else (s.setInbox rest).authFailed src)
      ∧ ((s.setInbox rest).authVerified src sig = false →
        (s.twin.restoring = none → s.twin.serving = none →
          exec (.twinAuth src) s = .next { s.setInbox rest with twin := { s.twin with
            auth := {}
            refuse := if s.twin.state = .pairing then 4 else s.twin.refuse
            refusePeer := if s.twin.state = .pairing then src else s.twin.refusePeer } })
        ∧ (∀ v, s.twin.restoring = none → s.twin.serving = some v →
          exec (.twinAuth src) s = .next (State.send { s.setInbox rest with twin := { s.twin with
            auth := {}, serving := none, refuse := 4, refusePeer := src } } src none (.winch (.restoreChecked false))))
        ∧ (∀ r h sv, s.twin.restoring = some r → r.step = 1 → s.restoreWaiter = some (h, sv) →
          exec (.twinAuth src) s = .next (State.finishCmd { s.setInbox rest with twin := { s.twin with
            auth := {}, restoring := none, refuse := 4, refusePeer := sv } } h 1 0x13 (leBytes 8 0)))))
  ∧ (∀ (p : Nat) (s : State), s.live = true → (s.twin.state = .paired ∨ s.twin.state = .restoring) → s.twin.auth.sessionKey.isSome = true →
      s.authPeer = some p →
      ∃ t : State, exec .sessionRekey s = .next t ∧ t.twin.auth.sessionKey = s.twin.auth.sessionKey ∧ t.twin.auth.keyDraw = some s.freeCtr
        ∧ t.freeCtr = s.freeCtr + 1 ∧ t.twin.rekeys = s.twin.rekeys + 1)
  ∧ (∀ s : State, s.live = true → s.twin.state = .pairing → exec .twinPairRetry s = .next s.tellPair.pairStep)
  ∧ (∀ (since : Nat) (s : State), s.live = true → s.twin.state = .paired → s.twin.tetherDownAt = some since →
      since + 200000000 ≤ s.time.now →
      ∃ u : State, u.twin = { s.twin with
          state := .twinLost, exposed := true, holdsPartner := true, partnerOf := s.twin.twinId, auth := {}, peerInfo := none }
        ∧ Tab.getD u.logbook.events 9 0 = min (2 ^ 64 - 1) (Tab.getD s.logbook.events 9 0 + 1)
        ∧ u = { s with twin := u.twin, logbook := { s.logbook with events := u.logbook.events }, funs := u.funs, hostOut := u.hostOut }
        ∧ (s.twin.withheld = none → exec .twinLost s = .next u)
        ∧ (∀ r, s.twin.withheld = some r → exec .twinLost s = .next (u.answerRestore r)))

/-- Restores (R5, R318, R340): the survivor's answer, the time limit, the steps of Table 11.13; the event that ends a step
other than the one under way changes nothing (log entry 109: DEDUCED). -/
def Obligations.RestoreRowsComplete : Prop :=
  (∀ (src : Nat) (a : Arrived) (rest : List Arrived) (r : RestoreReq) (s : State), Delivered src 1 a rest s → a.msg = .restoreRequest r →
      (s.twin.state = .restoring → exec (.restoreRequest src) s = .next (s.setInbox rest))
      ∧ ((s.twin.state = .paired ∨ s.twin.state = .pairing) →
        exec (.restoreRequest src) s = .next ((s.setInbox rest).modTwin (fun t => { t with withheld := some r })))
      ∧ ((s.twin.state = .twinLost ∨ s.twin.state = .solo ∨ s.twin.state = .unpaired) →
        (¬(s.twin.holdsPartner = true ∧ s.twin.partnerOf = some r.ident) →
          exec (.restoreRequest src) s = .next (((s.setInbox rest).modTwin (fun t => { t with withheld := none })).send r.ident none
            (.winch (.restoreAnswer none))))
        ∧ (s.twin.holdsPartner = true → s.twin.partnerOf = some r.ident → r.revision = 0x0A → r.ballast = s.ballastCode →
          s.ident = some r.survivor →
          ∃ t : State, exec (.restoreRequest src) s = .next t
            ∧ t = { s with net := t.net, twin := { s.twin with withheld := none, serving := some ⟨r, 1, false⟩, auth := {} } })
        ∧ (s.twin.holdsPartner = true → s.twin.partnerOf = some r.ident → (r.revision ≠ 0x0A ∨ r.ballast ≠ s.ballastCode) →
          s.ident = some r.survivor →
          ∃ t : State, exec (.restoreRequest src) s = .next t
            ∧ t = { s with net := t.net, twin := { s.twin with withheld := none, refuse := 3, refusePeer := r.ident } })))
  ∧ (∀ (h : CmdHead) (sv : Nat) (s : State), s.live = true → s.restoreWaiter = some (h, sv) →
      exec .twinRestoreTimeout s = .next ((s.modTwin (fun t => { t with restoring := none, auth := {} })).finishCmd h 1 0x0F (leBytes 8 0)))
  ∧ (∀ (src : Nat) (a : Arrived) (rest : List Arrived) (h : CmdHead) (s : State), Delivered src 1 a rest s → s.restoreWaiter = some (h, src) →
      (a.msg = .winch (.restoreAnswer none) →
        exec (.winchControl src) s = .next (((s.setInbox rest).modTwin (fun t => { t with
          restoring := none, auth := {}, refuse := 6, refusePeer := src })).finishCmd h 1 0x0D (leBytes 8 0)))
      ∧ (∀ f, a.msg = .winch (.restoreAnswer (some f)) → (f.1 ≠ 0x0A ∨ f.2 ≠ s.ballastCode) →
        exec (.winchControl src) s = .next (((s.setInbox rest).modTwin (fun t => { t with
          restoring := none, auth := {}, refuse := 3, refusePeer := src })).finishCmd h 1 0x13 (leBytes 8 0)))
      ∧ (a.msg = .winch (.restoreAnswer (some (0x0A, s.ballastCode))) →
        ∃ t : State, exec (.winchControl src) s = .next t ∧ t.twin.restoring = some ⟨src, 1, false, false, none⟩
          ∧ t.twin.auth.keyDraw = some s.freeCtr ∧ t.freeCtr = s.freeCtr + 1)
      ∧ (∀ r, a.msg = .winch (.restoreChecked true) → s.twin.restoring = some r → r.survivor = src → r.step = 1 → r.ownOk = true →
        ∃ t : State, exec (.winchControl src) s = .next t ∧ t.twin.state = .restoring
          ∧ t.twin.twinId = some src ∧ t.flash = { s.flash with twinId := some src }
          ∧ t.twin.restoring = some { r with peerOk := true, step := 2 })
      ∧ (∀ r, a.msg = .winch (.restoreChecked false) → s.twin.restoring = some r → r.survivor = src → r.step = 1 →
        exec (.winchControl src) s = .next (((s.setInbox rest).modTwin (fun t => { t with
          restoring := none, auth := {}, refuse := 4, refusePeer := src })).finishCmd h 1 0x13 (leBytes 8 0))))
  ∧ (∀ (r : Restoring) (s : State), s.live = true → s.twin.restoring = some r →
      (∀ n, n ≠ r.step → exec (.restoreStepDone n) s = .next s)
      ∧ (∀ tb, r.step = 2 → r.tables = some tb → exec (.restoreStepDone r.step) s
        = .next ((s.rebuild tb).modTwin (fun t => { t with restoring := t.restoring.map (fun q => { q with step := 3 }) })))
      ∧ (r.step = 2 → r.tables = none → exec (.restoreStepDone r.step) s = .next s)
      ∧ (r.step = 3 → exec (.restoreStepDone r.step) s = .next ((s.wakeDies (s.parts.flatMap (fun p => p.2.dies))).modTwin
        (fun t => { t with restoring := t.restoring.map (fun q => { q with step := 4 }) })))
      ∧ (r.step = 4 → s.jr.partnerTables.isSome = true →
        exec (.restoreStepDone r.step) s = .next { s with twin := { s.twin with restoring := some { r with step := 5 } } })
      ∧ (r.step = 5 → (∀ c ∈ s.ctxs, c.2.rollbackDue = none) → s.twin.state = .restoring →
        ∃ u : State, exec (.restoreStepDone r.step) s = .next (u.resume r.survivor)
          ∧ u.twin = { s.twin with state := .paired, restoring := none, partnerOf := some r.survivor, holdsPartner := false }
          ∧ Tab.getD u.logbook.events 11 0 = min (2 ^ 64 - 1) (Tab.getD s.logbook.events 11 0 + 1) ∧ u.ctxs = s.ctxs ∧ u.jr = s.jr))
  ∧ (∀ (v : Serving) (s : State), s.live = true → s.twin.restoring = none → s.twin.serving = some v → v.checked = true →
      (v.step = 1 → ∃ t : State, exec (.restoreStepDone v.step) s = .next t
        ∧ t = { s with net := t.net, twin := { s.twin with serving := some { v with step := 2 } } }
        ∧ t = State.send { s with twin := t.twin } v.req.ident none (.restoreTables s.restoreData))
      ∧ (v.step = 2 → ∃ t : State, exec (.restoreStepDone v.step) s = .next t ∧ t.twin.state = .paired ∧ t.twin.twinId = some v.req.ident
        ∧ t.twin.serving = none ∧ t.twin.partnerOf = some v.req.ident ∧ t.flash.twinId = some v.req.ident))

/-- Winch-to-winch messages (R240, R256, R259, R268, R310, R318, R340, R349, R356, R405, R428): each kind acts on its own state. -/
def Obligations.WinchControlCompletes : Prop :=
  ∀ (src : Nat) (a : Arrived) (rest : List Arrived) (m : WinchMsg) (s u : State), Delivered src 1 a rest s → a.msg = .winch m →
    u = s.setInbox rest →
    (∀ i x, m = .discovery i false x → a.port < 32 → i < 2 ^ 18 →
      ∃ t : State, exec (.winchControl src) s = .next t ∧ (t.routeMask i).getLsbD a.port = true)
    ∧ (∀ i x, m = .discovery i true x → a.port < 32 → i < 2 ^ 18 → Tab.has s.net.direct i = false →
      ∃ t : State, exec (.winchControl src) s = .next t ∧ (t.routeMask i).getLsbD a.port = true)
    ∧ (∀ ctx p classes, m = .planReport ctx p classes → exec (.winchControl src) s = .next (u.planReport src ctx p classes))
    ∧ (∀ ctx r, m = .planResult ctx r → exec (.winchControl src) s = .next (u.planDone ctx r))
    ∧ (∀ ctx i e, m = .planRefused ctx i e → exec (.winchControl src) s = .next (u.planRefused src ctx i e))
    ∧ (∀ ctx i classes, m = .planClasses ctx i classes → exec (.winchControl src) s = .next (u.planClasses src ctx i classes))
    ∧ (∀ ctx g, (∀ x, s.ctx? ctx = some x → g ∉ x.goneGroups) →
        (∀ ns, m = .groupNeighbours ctx g ns → exec (.winchControl src) s = .next (u.groupReport src ctx g ns))
        ∧ (∀ nodes, m = .groupNodes ctx g nodes → exec (.winchControl src) s = .next (u.groupNodes src ctx g nodes))
        ∧ (m = .groupAsk ctx g → exec (.winchControl src) s = .next (u.groupAsked src ctx g)))
    ∧ (∀ ctx g x, s.ctx? ctx = some x → g ∈ x.goneGroups →
        ((∃ ns, m = .groupNeighbours ctx g ns) ∨ (∃ nodes, m = .groupNodes ctx g nodes) ∨ m = .groupAsk ctx g) →
        exec (.winchControl src) s = .next (u.misroutedMsg a.port))
    ∧ (∀ i, m = .pairInfo i →
      (s.twin.twinId = some src → i.asks = false →
        exec (.winchControl src) s = .next { u with twin := { s.twin with peerInfo := some i } })
      ∧ (s.twin.twinId = some src → i.asks = true → 0 < s.tetherUp →
        ∃ v : State, v = { u with twin := { s.twin with peerInfo := some i } }
          ∧ exec (.winchControl src) s = .next (v.send src none (.winch (.pairInfo (v.pairInfo false))))))
    ∧ (m = .unpaired → s.isTwin src = true → s.twin.withheld = none →
      ∃ t : State, exec (.winchControl src) s = .next t ∧ t.twin.state = .twinLost ∧ t.twin.holdsPartner = true)
    ∧ (∀ partner seq q, m = .recordRequest partner seq → s.isTwin src = true →
      (if partner then s.jr.partner else s.jr.own).find? (fun r => r.seq = seq) = some q →
      exec (.winchControl src) s = .next (u.send src none (.winch (.recordAnswer partner q))))
    ∧ (∀ partner q, m = .recordAnswer partner q → s.isTwin src = true →
      ∃ t : State, exec (.winchControl src) s = .next t ∧ t = { s with net := u.net, jr := t.jr }
        ∧ (partner = true → q ∈ t.jr.own) ∧ (partner = false → q ∈ t.jr.partner))
    ∧ (∀ ctx commit e time x, m = .mirrorFault ctx commit e time → s.isTwin src = true → s.ctx? ctx = some x →
      ∃ (t : State) (y : Ctx), exec (.winchControl src) s = .next t ∧ t.ctx? ctx = some y ∧ y.damaged = true ∧ e ∈ y.dirty)
    ∧ (∀ ident r, m = .imageRequest ident → s.boot.running = some r →
      (s.twin.twinId = some ident ∨ (s.twin.holdsPartner = true ∧ s.twin.partnerOf = some ident)) →
      exec (.winchControl src) s = .next (u.send ident none (.winch (.recoveryImage r.image))))
    ∧ ((∃ i, m = .faultNotice i) ∨ (∃ b, m = .recoveryImage b) → exec (.winchControl src) s = .next u)

/-- Detected errors (R419, R421 to R428): a corrected word is counted; a clean copy is read again; an error in a
job's state rolls the job back to its latest commit, and faults the job with cause 0x0B when there is none, or at
the third error of one commit; one in a partition's area does so for each of its contexts; an error in the module's state halts
it; a journal record or mirror slot is asked for from the twin; one in the copy-on-write area is an error in the job's state and
gives up its unsealed commits. The patrol scrub acts as the reader would. -/
def Obligations.ErrorRowsComplete : Prop :=
  (∀ (r : ErrorReport) (s : State), s.live = true → r.corrected = true →
      ∃ t : State, exec (.errorDetected r) s = .next t ∧ t.ctxs = s.ctxs ∧ t.errs.halted = s.errs.halted ∧ t.jr = s.jr
        ∧ Tab.getD t.errs.ceWindow (r.source * 65536 + r.unit) 0
          = (if s.errs.ceStart = s.time.now / 1000000000 * 1000000000 then Tab.getD s.errs.ceWindow (r.source * 65536 + r.unit) 0 else 0) + 1)
  ∧ (∀ (r : ErrorReport) (s : State), s.live = true → r.corrected = false →
      (∀ ctx, r.place = .cleanCopy ctx →
        exec (.errorDetected r) s = .next (s.noteCtx r 0x02 ctx 1) ∧ (s.noteCtx r 0x02 ctx 1).ctxs = s.ctxs)
      ∧ (r.place = .secureWay → exec (.errorDetected r) s = .next (s.noteError r 0x02 1) ∧ (s.noteError r 0x02 1).ctxs = s.ctxs))
  ∧ (∀ (r : ErrorReport) (ctx : Nat) (x : Ctx) (s : State), s.live = true → r.corrected = false →
      (r.place = .jobState ctx ∨ (∃ e, r.place = .jobHome ctx e) ∨ r.place = .datapath (some ctx)) →
      s.ctx? ctx = some x → x.state ≠ .faulted →
      ((s.twin.state ≠ .paired ∨ s.journalRoom 1 = false ∨ ∀ k, x.backTo = some k → x.replaysFrom k = false) →
        exec (.errorDetected r) s = .next ((s.noteCtx r 0x03 ctx 4).jobFault ctx 0x0B r.reader))
      ∧ (∀ k, s.twin.state = .paired → s.journalRoom 1 = true → x.backTo = some k → x.replaysFrom k = true → 2 ≤ k.rollbacks →
        ∃ (t : State) (y : Ctx), exec (.errorDetected r) s = .next t ∧ t.ctx? ctx = some y ∧ y.state = .faulted ∧ y.faultCause = 0x0B)
      ∧ (∀ k, s.twin.state = .paired → s.journalRoom 1 = true → x.backTo = some k → x.replaysFrom k = true → k.rollbacks < 2 →
        ∃ (u : State) (y : Ctx), exec (.errorDetected r) s
            = .next ((u.rollback ctx y { k with rollbacks := k.rollbacks + 1 }).refresh ctx)
          ∧ u.ctx? ctx = some y ∧ y.state = .faulted ∧ y.ops = [] ∧ y.colls = []))
  ∧ (∀ (r : ErrorReport) (part : Nat) (s : State), s.live = true → r.corrected = false → r.place = .moduleArea part →
      (s.ctxsOf part ≠ [] → exec (.errorDetected r) s = .next ((Tab.keys (s.ctxsOf part)).foldl (fun a c => a.ueJob (a.readBy r c) 0x04 c) s))
      ∧ (s.ctxsOf part = [] → ∃ t : State, exec (.errorDetected r) s = .next t ∧ t.ctxs = s.ctxs ∧ t.errs.seq = s.errs.seq + 1))
  ∧ (∀ (r : ErrorReport) (s : State), s.live = true → r.corrected = false → (r.place = .moduleState ∨ r.place = .datapath none) →
      ∃ t : State, exec (.errorDetected r) s = .next t ∧ t.errs.halted = true ∧ t.tiles = [] ∧ t.live = false
        ∧ (∀ i < 36, (t.port i).state = .down))
  ∧ (∀ (r : ErrorReport) (seq : Nat) (q : JRec) (s : State), s.live = true → r.corrected = false → r.place = .ownRecord seq →
      s.jr.own.find? (fun q => q.seq = seq) = some q →
      (∀ tw, s.twin.state = .paired → s.twin.twinId = some tw →
        exec (.errorDetected r) s = .next ((s.noteCtx r 0x02 q.ctx 2).send tw none (.winch (.recordRequest true seq))))
      ∧ (s.twin.state ≠ .paired →
        exec (.errorDetected r) s = .next ((s.noteCtx r 0x02 q.ctx 9).modCtx q.ctx (fun x => x.lostRecord seq))))
  ∧ (∀ (r : ErrorReport) (seq tw : Nat) (s : State), s.live = true → r.corrected = false → r.place = .partnerRecord seq →
      s.twin.state = .paired → s.twin.twinId = some tw →
      exec (.errorDetected r) s = .next ((s.noteError r 0x02 2).send tw none (.winch (.recordRequest false seq))))
  ∧ (∀ (r : ErrorReport) (slot tw ctx commit : Nat) (e : ExtentId) (s : State), s.live = true → r.corrected = false →
      r.place = .mirrorSlot slot → s.slotOwner slot = some (ctx, commit, e) → s.twin.state = .paired → s.twin.twinId = some tw →
      ∃ u : State, exec (.errorDetected r) s = .next (u.send tw none (.winch (.mirrorFault ctx commit e s.time.now)))
        ∧ u.errs.seq = s.errs.seq + 1 ∧ u.jr = s.jr ∧ u.ctxs = s.ctxs)
  ∧ (∀ (r : ErrorReport) (s : State), s.live = true →
      exec (.patrolScrub ⟨none, some r⟩) s = exec (.errorDetected { r with reader := none }) s)
  ∧ (∀ (d : Nat) (s : State), d < 10 → s.live = true →
      exec (.patrolScrub ⟨some d, none⟩) s = .next (s.wakeDie d false)
      ∧ (∀ r : ErrorReport, (s.wakeDie d false).live = true →
          exec (.patrolScrub ⟨some d, some r⟩) s = exec (.errorDetected { r with reader := none }) (s.wakeDie d false)))
  ∧ (∀ s : State, exec (.patrolScrub ⟨none, none⟩) s = .next s)
  ∧ (∀ s : State, s.live = true → ∃ t : State, exec .errorWindowClose s = .next t
      ∧ t.errs.window = s.errs.window.filter (fun c => !decide (c.start + 1000000 ≤ s.time.now))
      ∧ t.errs.seq = s.errs.seq + (s.errs.window.filter (fun c => decide (c.start + 1000000 ≤ s.time.now))).length)
  ∧ (∀ (r : ErrorReport) (ctx : Nat) (s : State), s.live = true → r.corrected = false → r.place = .cowArea ctx →
      ∃ t : State, exec (.errorDetected { r with place := .jobState ctx }) s = .next t
        ∧ exec (.errorDetected r) s = .next (t.modCtx ctx Ctx.abandonCow))

/-- Slices, switches, placement (R279, R296, R301, R370 to R375): the end of a slice asks for a yield point; at one
the slice passes, or a pre-emption takes place, or is refused for want of spill space and told; a switch done starts the
incoming context's slice; a window halves the access counts; an extent whose copy is complete lies at its new place, with what
was written last; a merged spill copy is gone. -/
def Obligations.SliceAndPlacementRowsComplete : Prop :=
  (∀ (n : Nat) (p : Part) (sl : Slice) (s : State), s.live = true → Tab.get s.parts n = some p → p.slice = some sl →
      sl.start + sl.length ≤ s.time.now → p.yield = none →
      exec (.sliceEnd n) s = .next { s with parts := Tab.modify s.parts n (fun q => { q with yield := some .sliceEnd }) })
  ∧ (∀ (n : Nat) (p : Part) (sl : Slice) (s : State), s.live = true → Tab.get s.parts n = some p → p.slice = some sl →
      p.yield = some .sliceEnd → s.atYield p sl.ctx = true →
      ((((s.saveGroups n sl.ctx).passSlice n).switching n = true →
          exec (.partitionYieldPoint n) s = .next ((s.saveGroups n sl.ctx).passSlice n))
      ∧ (((s.saveGroups n sl.ctx).passSlice n).switching n = false →
          exec (.partitionYieldPoint n) s = .next (s.passSlice n))))
  ∧ (∀ (n c : Nat) (p : Part) (sl : Slice) (s : State), s.live = true → Tab.get s.parts n = some p → p.slice = some sl →
      p.yield = some (.preempt c) → s.atYield p sl.ctx = true → (s.canRun true c || s.canRun false c) = true →
      (s.preemptOut n c = none →
        ∃ (t : State) (q : Part), exec (.partitionYieldPoint n) s = .next t ∧ Tab.get t.parts n = some q
          ∧ q.switch = some ⟨some c, p.quantum * 1000, none⟩ ∧ q.slice = none
          ∧ (s.time.now < sl.start + sl.length → (sl.ctx, sl.start + sl.length - s.time.now) ∈ q.preempted))
      ∧ (∀ v, s.preemptOut n c = some v → s.spillNeed p sl.ctx v ≤ s.spillFree n →
        ∃ (t : State) (q : Part), exec (.partitionYieldPoint n) s = .next t ∧ Tab.get t.parts n = some q
          ∧ q.switch = some ⟨some c, p.quantum * 1000, some v⟩ ∧ q.slice = none
          ∧ (s.time.now < sl.start + sl.length → v ≠ sl.ctx → (sl.ctx, sl.start + sl.length - s.time.now) ∈ q.preempted))
      ∧ (∀ v, s.preemptOut n c = some v → s.spillFree n < s.spillNeed p sl.ctx v →
        exec (.partitionYieldPoint n) s = .next (State.event
          { s with parts := Tab.modify s.parts n (fun q => { q with yield := none, retry := some c }) } (s.ownerOf c) 0x02 c n
          (s.spillNeed p sl.ctx v))))
  ∧ (∀ (n len : Nat) (inc out : Option Nat) (p : Part) (s : State), s.live = true → Tab.get s.parts n = some p →
      p.switch = some ⟨inc, len, out⟩ →
      (∀ c x, inc = some c → s.ctx? c = some x → x.state = .runnable →
        ∃ (t : State) (q : Part) (y : Ctx), exec (.switchDone n) s = .next t ∧ Tab.get t.parts n = some q
          ∧ q = { p with switch := none, slice := some ⟨c, s.time.now, len⟩ } ∧ t.ctx? c = some y ∧ y.resident = true)
      ∧ ((inc = none ∨ ∃ c x, inc = some c ∧ s.ctx? c = some x ∧ x.state = .faulted) →
        exec (.switchDone n) s = .next (State.passSlice { s with parts := Tab.modify s.parts n (fun q => { q with switch := none }) } n)))
  ∧ (∀ s : State, s.live = true → ∃ t u : State, exec .placementWindow s = .next t
      ∧ t = { u with ctxs := Tab.mapVals u.ctxs (fun _ x => x.mapExts Ext.halve) }
      ∧ u = (Tab.keys s.parts).foldl State.placePart s)
  ∧ (∀ (ctx : Nat) (e : ExtentId) (x : Ctx) (a : Ext) (nh : Home) (s : State), s.live = true →
      s.ctx? ctx = some x → x.ext? e = some a → a.moving = some nh →
      ∃ (t : State) (y : Ctx), exec (.extentMoveDone ctx e) s = .next t ∧ t = { s with ctxs := Tab.set s.ctxs ctx y }
        ∧ y.ext? e = some { a with home := nh, moving := none, dirty := [] }
        ∧ (∀ f, f ≠ e → y.ext? f = x.ext? f) ∧ (∀ h, (y.tensor? h).map (·.img) = (x.tensor? h).map (·.img)))
  ∧ (∀ (ctx : Nat) (e : ExtentId) (x : Ctx) (a : Ext) (s : State), s.live = true →
      s.ctx? ctx = some x → x.ext? e = some a →
      ∃ (t : State) (y : Ctx), exec (.spillMergeDone ctx e) s = .next t ∧ t = { s with ctxs := Tab.set s.ctxs ctx y }
        ∧ y.ext? e = some { a with spilled := [] }
        ∧ (∀ f, f ≠ e → y.ext? f = x.ext? f) ∧ (∀ h, (y.tensor? h).map (·.img) = (x.tensor? h).map (·.img)))

/-- Matrix descriptors, their epilogues, CHAIN words (R101, R126, R131, R146, R165, R289, R308): a descriptor whose checks hold
becomes an operation with a task for each output tile and chunk, in grid order; one that fails them is rejected, one that
would write a gathered tensor or meets a missing page faults; an epilogue whose checks hold writes its results; CHAIN words
enter the operation that awaits them, wait in the chain area, stay in their port while it is full, or fault a job whose shape
differs. -/
def Obligations.MatrixDescriptorsComplete : Prop :=
  (∀ (ctx : Nat) (x : Ctx) (r : Run) (d : Desc) (m : MatDesc) (s : State), s.dispatchable ctx 0x20 none true = some (x, r, d) →
      d.mat = some m →
      (s.matOk x r d m = true →
        (m.tileCount ≠ 0 → x.writesGathered d = false
          ∧ (s.seenBy r).pagesOk x (handles [m.a, m.b, if m.epiNext then 0 else m.c]) = true) →
        exec (.matrix ctx) s = .next (s.startMat ctx r d m)
          ∧ (m.tileCount ≠ 0 → x.chains = [] → ∃ (u : State) (y : Ctx), s.startMat ctx r d m = u.refresh ctx ∧ u.ctx? ctx = some y
              ∧ ∃ o ∈ y.ops, o.d = m ∧ o.ring = r.ring ∧ o.tseq = r.tseq ∧ o.pos = r.next ∧ o.finals = []
                ∧ o.placed.map (·.1) = (List.range m.tileCount).flatMap (fun t => (List.range m.chunkCount).map (fun c => o.task ctx t c))))
      ∧ (s.matOk x r d m = false → exec (.matrix ctx) s = .next ((s.rejectDesc ctx r).refresh ctx))
      ∧ (s.matOk x r d m = true → m.tileCount ≠ 0 → x.writesGathered d = true → exec (.matrix ctx) s = .next (s.faultAt ctx r 0x08))
      ∧ (s.matOk x r d m = true → m.tileCount ≠ 0 → x.writesGathered d = false →
          (s.seenBy r).pagesOk x (handles [m.a, m.b, if m.epiNext then 0 else m.c]) = false →
          exec (.matrix ctx) s = .next (s.faultAt ctx r 0x09)))
  ∧ (∀ (ctx : Nat) (x x1 : Ctx) (r : Run) (d : Desc) (o : MatOp) (s : State),
      s.dispatchable ctx 0x31 (some 0) true = some (x, r, d) → x.opBefore r = some o → s.epiOk x r d o.d = true →
      x.writesGathered d = false →
      ((s.dropOp ctx o).beginDesc ctx r d).ctx? ctx = some x1 →
      ((s.seenBy r).readTensor x1 d.dst).isSome = true → (s.seenBy r).readable x1 [d.srcA, d.srcB, d.flagH] →
      ∃ v : VecDone, (s.seenBy r).runEpi x1 r d o = some v ∧ exec (.epilogue ctx) s = .next ((s.dropOp ctx o).vecLeaves ctx r d v))
  ∧ (∀ (src : Nat) (a : Arrived) (rest : List Arrived) (m : ChainMsg) (x : Ctx) (s u : State), s.live = true →
      takeFrom src 2 s.net.inbox = some (a, rest) → a.msg = .chain m → s.ctx? m.ctx = some x → u = s.takeMsg 2 a.slots rest →
      (x.state = .faulted → exec (.chainWords src) s = .next u)
      ∧ (x.state ≠ .faulted → (∀ o ∈ x.chainOwed, ¬(o.src = src ∧ o.tag = m.tag)) →
        (x.ops.find? (fun o => o.awaits src m.tag) = none → x.chainRoom m.areaBytes = true → exec (.chainWords src) s
          = .next (u.setCtx m.ctx { x with chains := x.chains ++ [{ m with src := src }] }))
        ∧ (x.ops.find? (fun o => o.awaits src m.tag) = none → x.chainRoom m.areaBytes = false → exec (.chainWords src) s = .next s)
        ∧ (∀ o, x.ops.find? (fun o => o.awaits src m.tag) = some o → o.sameShape m = true →
          (o.needsNow m = true ∨ x.chainRoom m.areaBytes = true) →
          exec (.chainWords src) s = .next (u.putOp m.ctx (o.receive m)))
        ∧ (∀ o, x.ops.find? (fun o => o.awaits src m.tag) = some o → o.sameShape m = true → o.needsNow m = false →
          x.chainRoom m.areaBytes = false → exec (.chainWords src) s = .next s)
        ∧ (∀ o, x.ops.find? (fun o => o.awaits src m.tag) = some o → o.sameShape m = false →
          exec (.chainWords src) s = .next (u.jobFault m.ctx 0x04 (some (o.ring, o.tseq, o.pos)))))
      ∧ (∀ o, x.state ≠ .faulted → x.chainOwed.find? (fun o => o.src = src && o.tag = m.tag) = some o →
        (o.batch = m.batch ∧ o.m = m.m ∧ o.n = m.n →
          exec (.chainWords src) s = .next (u.setCtx m.ctx { x with chainOwed := x.chainOwed.erase o }))
        ∧ (¬(o.batch = m.batch ∧ o.m = m.m ∧ o.n = m.n) → exec (.chainWords src) s
          = .next ((u.setCtx m.ctx { x with chainOwed := x.chainOwed.erase o }).jobFault m.ctx 0x04 none))))

/-- Work on a tile (R104, R105, R107, R110, R115 to R122, R148, R161, R166 to R169, R289, R299): a task whose operands have come joins
the ready list; the engine whose turn it is takes the first ready task of its class into a FREE group; a round that its
operand stage holds starts, a window closes, a group closes, parks while the chain area has room, is merged, is drained; a
drained stage's outputs are final. -/
def Obligations.TileRowsComplete : Prop :=
  (∀ (n : Nat) (k : TaskId) (o : MatOp) (x : Ctx) (s : State), n < 320 → s.live = true → s.opOf k = some o → s.ctx? k.ctx = some x →
      o.placed.contains (k, n) = true → s.tileRuns n = true →
      ((x.homeDies ((s.seenByTask x k).leadPieces x o.d k)).all s.stacksUp = true →
        ∃ (t : State) (p : MatOp), exec (.operandsReady n k) s = .next t ∧ (t.tile n).ready = (s.tile n).ready ++ [k]
          ∧ (t.tile n).engines = (s.tile n).engines ∧ t.opOf k = some p
          ∧ p = { o with placed := o.placed.filter (· != (k, n)) })
      ∧ ((x.homeDies ((s.seenByTask x k).leadPieces x o.d k)).all s.stacksUp = false →
        exec (.operandsReady n k) s = .next (s.wake ⟨[], x.homeDies ((s.seenByTask x k).leadPieces x o.d k)⟩)))
  ∧ (∀ (n e : Nat) (k : TaskId) (o : MatOp) (x : Ctx) (s : State), n < 320 → s.live = true → s.tileRuns n = true → e < 3 →
      (s.tile n).dispatchPtr = e → (s.tile n).atDispatch e = true →
      s.firstReady (s.tile n).ready (engineClass e) = some k → s.opOf k = some o → s.ctx? k.ctx = some x →
      ∃ (t : State) (i : Nat) (g : Group), exec (.taskDispatch n) s = .next t ∧ ((t.tile n).engine e).current = some i
        ∧ Tab.get ((t.tile n).engine e).groups i = some g ∧ g.owner = some k ∧ g.state = .opened ∧ g.round = 0 ∧ k ∉ (t.tile n).ready)
  ∧ (∀ (n e : Nat) (r : Running2) (st : Staged) (s : State), n < 320 → e < 3 → s.running n e = some r →
      s.stagedRound n e r.g.round = some st → s.mayRun r.k.ctx = true →
      s.tileRuns n = true → r.g.inRound = false → r.g.round < r.o.d.rounds r.k.chunk →
      ∃ g : Group, g = r.ops.runRound (r.o.d.roundAt r.k r.g.round) st r.g
        ∧ exec (.roundStart n e) s = .next ((s.putGroup n e r.idx g).fillStage n e)
        ∧ (r.o.d.zskipDis = false → st.zero = true →
            g.skipped = r.g.skipped + 1 ∧ g.round = r.g.round + 1 ∧ g.wides = r.g.wides ∧ g.e = r.g.e ∧ g.inRound = false))
  ∧ (∀ (n e : Nat) (r : Running2) (s : State), n < 320 → e < 3 → s.running n e = some r → s.live = true → s.tileRuns n = true →
      r.g.inRound = true →
      ∃ g : Group, exec (.windowClose n e) s = .next ((s.putGroup n e r.idx g).fillStage n e)
        ∧ g = r.ops.endWindow (r.o.d.roundAt r.k r.g.round) r.g
        ∧ (2 * r.o.d.termsPer ≤ r.g.window + 1 → g.inRound = false ∧ g.round = r.g.round + 1 ∧ g.narrows = [])
        ∧ (r.g.window + 1 < 2 * r.o.d.termsPer → g.inRound = true ∧ g.window = r.g.window + 1 ∧ g.round = r.g.round))
  ∧ (∀ (n e : Nat) (r : Running2) (s : State), n < 320 → e < 3 → s.running n e = some r → s.live = true → s.tileRuns n = true →
      r.g.inRound = false → r.g.round = r.o.d.rounds r.k.chunk →
      ∃ (t : State) (g : Group) (p : MatOp), exec (.groupClose n e) s = .next t ∧ ((t.tile n).engine e).current = none
        ∧ Tab.get ((t.tile n).engine e).groups r.idx = some g ∧ g = { r.o.d.closeGroup r.g with state := .closed, closedAt := (s.tile n).closeCtr }
        ∧ (∀ w ∈ g.wides, w.1 < r.o.d.mt * r.o.d.nt) ∧ t.opOf r.k = some p
        ∧ p = { r.o.countGroup g with ves := Tab.set r.o.ves (r.o.d.tileNo r.k.b r.k.ti r.k.tj) n })
  ∧ (∀ (n e i : Nat) (g : Group) (k : TaskId) (o p : MatOp) (x : Ctx) (s : State), n < 320 → e < 3 → i < 8 → s.live = true →
      s.closedGroup n e i = some (g, k) → s.opOf k = some o → s.ctx? k.ctx = some x → o.park k (g.outputs (o.d.mt * o.d.nt)) = some p →
      (x.areaTakes o p = true → exec (.groupPark n e i) s = .next ((s.freeAt n e i).putOp k.ctx p)
        ∧ (Tab.getD (((s.freeAt n e i).tile n).engine e).groups i {}).state = .free)
      ∧ (x.areaTakes o p = false → exec (.groupPark n e i) s = .next s)
      ∧ (o.direct = false → o.nextChunk (o.tileOf k) < k.chunk ∧ Tab.get p.parked (o.chunkKey k) = some (g.outputs (o.d.mt * o.d.nt))
          ∧ (x.chainRoom o.d.tileBytes = true → x.areaTakes o p = true))
      ∧ (o.direct = true → o.maxPass = true ∧ Tab.get p.finals (o.tileOf k) = some (g.outputs (o.d.mt * o.d.nt))))
  ∧ (∀ (k : TaskId) (o o1 : MatOp) (x : Ctx) (ws : List Chain) (s s1 : State), s.live = true → s.opOf k = some o → s.ctx? k.ctx = some x →
      o.direct = false → o.nextChunk (o.tileOf k) = k.chunk → Tab.has o.finals (o.tileOf k) = false → k.chunk ≠ o.d.chunkCount →
      s.takeChunk o k = some (ws, o1, s1) →
      (k.chunk = 0 → o.d.accIn = false → x.areaTakes o (o1.setSum k ws) = true →
          exec (.mergeCombine k) s = .next (s1.putOp k.ctx (o1.setSum k ws)))
      ∧ (∀ run, k.chunk ≠ 0 → (Tab.get o.sums (o.tileOf k)).bind (·.words) = some run → x.areaTakes o (o1.merge k run ws) = true →
          exec (.mergeCombine k) s = .next (s1.putOp k.ctx (o1.merge k run ws)))
      ∧ (∀ run, k.chunk ≠ 0 → (Tab.get o.sums (o.tileOf k)).bind (·.words) = some run → x.areaTakes o (o1.merge k run ws) = false →
          exec (.mergeCombine k) s = .next s))
  ∧ (∀ (k : TaskId) (o : MatOp) (x : Ctx) (got run : List Chain) (s : State), s.live = true → s.opOf k = some o → s.ctx? k.ctx = some x →
      o.direct = false → o.nextChunk (o.tileOf k) = k.chunk → Tab.has o.finals (o.tileOf k) = false → k.chunk = o.d.chunkCount →
      o.recvTile k = some got → (Tab.get o.sums (o.tileOf k)).bind (·.words) = some run → x.areaTakes o ((o.dropRecv k).merge k got run) = true →
      exec (.mergeCombine k) s = .next (s.putOp k.ctx ((o.dropRecv k).merge k got run)))
  ∧ (∀ (n e i : Nat) (g : Group) (k : TaskId) (o : MatOp) (s : State), n < 320 → s.live = true → s.tileRuns n = true →
      (s.tile n).stages.length < 2 → (enginesFrom (s.tile n).drainPtr).find? (fun e => (s.awaitsDrain (s.tile n) e).isSome) = some e →
      s.awaitsDrain (s.tile n) e = some (i, g, k) → s.opOf k = some o →
      ∃ t : State, exec (.groupDrainStart n) s = .next t
        ∧ (t.tile n).stages = (s.tile n).stages ++ [(e, i, false, k, g.outputs (o.d.mt * o.d.nt))] ∧ (t.tile n).drainPtr = (e + 1) % 3
        ∧ Tab.get ((t.tile n).engine e).groups i = some { g with state := .draining } ∧ t.ctxs = s.ctxs)
  ∧ (∀ (n e i : Nat) (k : TaskId) (ws : List Chain) (s : State), n < 320 →
      (s.tile n).stages.find? (fun g => !g.2.2.1) = some (e, i, false, k, ws) →
      ∃ t : State, exec (.groupDrainReadDone n) s = .next t ∧ (Tab.getD ((t.tile n).engine e).groups i {}).state = .free
        ∧ (e, i, true, k, ws) ∈ (t.tile n).stages ∧ (t.tile n).stages.length = (s.tile n).stages.length ∧ t.ctxs = s.ctxs)
  ∧ (∀ (n e i : Nat) (k : TaskId) (ws : List Chain) (o : MatOp) (s : State), n < 320 →
      (s.tile n).stages.find? (fun g => g.2.2.1) = some (e, i, true, k, ws) → s.opOf k = some o →
      ∃ u : State, exec (.drainStageDone n) s = .next (u.putOp k.ctx { o with finals := Tab.set o.finals (o.tileOf k) ws })
        ∧ (u.tile n).stages = (s.tile n).stages.erase (e, i, true, k, ws) ∧ u.ctxs = s.ctxs)

/-- The rows that run a vector descriptor of OPCODE 0x30 (Table 5.3), with their FUNC codes. -/
def mapRows (ctx : Nat) : List (Instr × Nat) :=
  [(.convert ctx, 0x00), (.add ctx, 0x01), (.sub ctx, 0x02), (.mul ctx, 0x03), (.div ctx, 0x04), (.mulAdd ctx, 0x05), (.max ctx, 0x06),
   (.min ctx, 0x07), (.ladd ctx, 0x08), (.square ctx, 0x09), (.sqrt ctx, 0x0A), (.recip ctx, 0x0B), (.exp ctx, 0x0C), (.log ctx, 0x0D),
   (.act ctx, 0x0E), (.abs ctx, 0x0F)]

/-- The rows that run a VEC_REDUCE descriptor (Table 5.3), with their FUNC codes. -/
def reduceRows (ctx : Nat) : List (Instr × Nat) :=
  [(.sum ctx, 0), (.sumsq ctx, 1), (.reduceMax ctx, 2), (.reduceMin ctx, 3), (.count ctx, 4), (.lse ctx, 5), (.meanvar ctx, 6)]

/-- Vector descriptors (R134 to R164, R274, R308): CONVERT, ADD, SUB, MUL, DIV, MUL_ADD, MAX, MIN, LADD, SQUARE, SQRT, RECIP, EXP,
LOG, ACT, ABS; SUM, SUMSQ, MAX, MIN, COUNT, LSE, MEANVAR of rows; SOFTMAX. The next descriptor of a context, when it is
the function asked for, passes its checks, writes no gathered tensor and names tensors that can be read, writes its results
and its record. One that fails its checks is rejected (R164), one that would write a gathered tensor faults with 0x08. -/
def Obligations.VectorRowsComplete : Prop :=
  (∀ (ctx : Nat) (e : Instr × Nat) (x x1 : Ctx) (r : Run) (d : Desc) (s : State), e ∈ mapRows ctx →
      s.dispatchable ctx 0x30 (some e.2) true = some (x, r, d) → s.mapOk x r d = true → x.writesGathered d = false →
      (s.beginDesc ctx r d).ctx? ctx = some x1 →
      ((s.seenBy r).readTensor x1 d.dst).isSome = true → (s.seenBy r).readable x1 [d.srcA, d.srcB, d.srcC, d.flagH] →
      ∃ v : VecDone, (s.seenBy r).runMap x1 r d = some v ∧ exec e.1 s = .next (s.vecLeaves ctx r d v))
  ∧ (∀ (ctx : Nat) (e : Instr × Nat) (x x1 : Ctx) (r : Run) (d : Desc) (s : State), e ∈ reduceRows ctx →
      s.dispatchable ctx 0x32 (some e.2) true = some (x, r, d) → s.rowOpOk x r d = true → x.writesGathered d = false →
      (s.beginDesc ctx r d).ctx? ctx = some x1 →
      ((s.seenBy r).readTensor x1 d.dst).isSome = true → (s.seenBy r).readable x1 [d.srcA, d.maskH, d.dst2, d.flagH] →
      ∃ v : VecDone, (s.seenBy r).runReduce x1 r d = some v ∧ exec e.1 s = .next (s.vecLeaves ctx r d v))
  ∧ (∀ (ctx : Nat) (x x1 : Ctx) (r : Run) (d : Desc) (s : State),
      s.dispatchable ctx 0x33 (some 0) true = some (x, r, d) → s.rowOpOk x r d = true → x.writesGathered d = false →
      (s.beginDesc ctx r d).ctx? ctx = some x1 →
      ((s.seenBy r).readTensor x1 d.dst).isSome = true → (s.seenBy r).readable x1 [d.srcA, d.maskH, d.flagH] →
      ∃ v : VecDone, (s.seenBy r).runSoftmax x1 r d = some v ∧ exec (.softmax ctx) s = .next (s.vecLeaves ctx r d v))
  ∧ (∀ (ctx : Nat) (e : Instr × Nat) (x : Ctx) (r : Run) (d : Desc) (s : State), e ∈ mapRows ctx →
      s.dispatchable ctx 0x30 (some e.2) true = some (x, r, d) →
      (s.mapOk x r d = false → exec e.1 s = .next ((s.rejectDesc ctx r).refresh ctx))
      ∧ (s.mapOk x r d = true → x.writesGathered d = true → exec e.1 s = .next (s.faultAt ctx r 0x08)))
  ∧ (∀ (ctx : Nat) (e : Instr × Nat) (x : Ctx) (r : Run) (d : Desc) (s : State), e ∈ reduceRows ctx →
      s.dispatchable ctx 0x32 (some e.2) true = some (x, r, d) →
      (s.rowOpOk x r d = false → exec e.1 s = .next ((s.rejectDesc ctx r).refresh ctx))
      ∧ (s.rowOpOk x r d = true → x.writesGathered d = true → exec e.1 s = .next (s.faultAt ctx r 0x08)))

/-- Layer scopes and the stash (R172, R179 to R185): a LAYER whose checks hold opens its scope; a scope whose
descriptors are over closes, a forward one placing its entries (or faulting with STASH_EXHAUSTED), a backward one
releasing them; a spilled entry's extents move to the partition's ballast; a dropped entry is recomputed, or its job
faults when an input has changed. -/
def Obligations.ScopeAndStashRowsComplete : Prop :=
  (∀ (ctx : Nat) (x : Ctx) (r : Run) (d : Desc) (s : State), s.dispatchable ctx 0x40 none false = some (x, r, d) → s.layerOk (x.prune r) r d = true →
      ∃ (u : State) (y : Ctx) (sc : Scope), exec (.layer ctx) s = .next (u.refresh ctx) ∧ u.ctx? ctx = some y ∧ y.scope = some sc
        ∧ sc.ring = r.ring ∧ sc.tseq = r.tseq ∧ sc.pos = r.next ∧ sc.len = d.scopeLen ∧ sc.backward = d.isBackward
        ∧ sc.stash = handles [d.stash0, d.stash1] ∧ y.stash = (x.prune r).stash ∧ y.ops = x.ops)
  ∧ (∀ (ctx : Nat) (x : Ctx) (sc : Scope) (r : Run) (s : State), s.live = true → s.ctx? ctx = some x → x.scope = some sc →
      findRun x.runs sc.ring sc.tseq = some r → sc.over r = true → sc.backward = false →
      (∀ p, (x.prune r).placeAll sc ((r.descs.drop (sc.pos + 1)).take sc.len) = some p →
        ∃ (u : State) (y : Ctx), exec (.scopeComplete ctx) s = .next ((u.endDesc ctx sc.ring sc.tseq sc.pos
            (layerRecord sc p.spilled p.dropped)).refresh ctx)
          ∧ u = s.setLedger ctx (x.prune r) (x.prune r).stash p.ledger ∧ u.ctx? ctx = some y ∧ y.scope = none ∧ y.stash = p.ledger)
      ∧ ((x.prune r).placeAll sc ((r.descs.drop (sc.pos + 1)).take sc.len) = none →
        exec (.scopeComplete ctx) s = .next (s.jobFault ctx 0x01 (some (sc.ring, sc.tseq, sc.pos)))))
  ∧ (∀ (ctx : Nat) (x y : Ctx) (sc : Scope) (r : Run) (s : State), s.live = true → s.ctx? ctx = some x → x.scope = some sc →
      findRun x.runs sc.ring sc.tseq = some r → sc.over r = true → sc.backward = true → y = x.prune r →
      exec (.scopeComplete ctx) s = .next ((((((y.stash.filter (fun e => sc.stash.contains e.handle && e.tier = .dropped)).map (·.handle)).foldl
          (fun a h => a.forget ctx h)
          (s.setCtx ctx { y with scope := none, stash := y.stash.filter (fun e => !sc.stash.contains e.handle) })).endDesc ctx
            sc.ring sc.tseq sc.pos (layerRecord sc 0 sc.recomputed)).refresh ctx)))
  ∧ (∀ (ctx h : Nat) (x : Ctx) (p : Part) (k : Tensor) (s : State), s.live = true → s.ctx? ctx = some x →
      x.stash.any (fun e => e.handle = h && e.tier = .ballast && e.moveDue) = true → Tab.get s.parts x.params.partition = some p →
      p.channels ≠ [] → x.tensor? h = some k →
      ∃ (t : State) (y : Ctx) (l : Tensor), exec (.stashMove ctx h) s = .next t ∧ t = { s with ctxs := t.ctxs } ∧ t.ctx? ctx = some y
        ∧ (∀ e ∈ y.stash, e.handle = h → e.moveDue = false) ∧ y.tensor? h = some l ∧ l.img = k.img
        ∧ (∀ e ∈ l.exts, ∃ c ∈ p.channels, e.2.home = .ballast c ∧ e.2.moving = none))
  ∧ (∀ (ctx h : Nat) (x : Ctx) (r : Run) (d : Desc) (s : State), s.live = true → s.ctx? ctx = some x → x.nextDesc = some (r, d) →
      s.holdsSlice ctx = true → x.state ≠ .faulted → d.reads.contains h = true → x.dropped h = true →
      (s.recompute (x.stash.length + 1) x h = none → exec (.recompute ctx h) s = .next (s.faultAt ctx r 0x02))
      ∧ (∀ y n k, s.recompute (x.stash.length + 1) x h = some (y, n, k) → exec (.recompute ctx h) s
          = .next ((s.setCtx ctx { y with scope := y.scope.map (fun sc =>
              if sc.covers r r.next && sc.backward then { sc with recomputed := sc.recomputed + n, redone := sc.redone + k } else sc) }).refresh ctx)))

/-- Pipeline queues (R190, R191, R356): a QSEND with a credit spends it and sends its slot; a QRECV copies the oldest slot,
returns the credit and ends, or faults when the slot's format or shape is another; a slot that arrives is kept and
acknowledged; an acknowledgement ends the oldest QSEND; a credit returns, never beyond the queue's depth; what comes for a
queue end that was destroyed counts as MISROUTED. -/
def Obligations.QueueRowsComplete : Prop :=
  (∀ (ctx : Nat) (x : Ctx) (r : Run) (d : Desc) (q : Queue) (slot : SlotImage) (s : State),
      s.dispatchable ctx 0x48 none false = some (x, r, d) → Tab.get x.queues d.queueId = some q → s.queueOk x r d true = true →
      (s.seenBy r).imageForSlot x d.srcA = some slot →
      ∃ u : State, exec (.qsend ctx) s
          = .next ((u.sendOn q.params.peer q.vc (some x.params.partition) (.queueSlot ctx d.queueId slot)).refresh ctx)
        ∧ ∃ y : Ctx, u.ctx? ctx = some y ∧ Tab.get y.queues d.queueId
            = some { q with credits := q.credits - 1, unacked := q.unacked ++ [(r.ring, r.tseq, r.next)] })
  ∧ (∀ (ctx : Nat) (x x1 y : Ctx) (r : Run) (d : Desc) (q : Queue) (k : Tensor) (slot : SlotImage) (rest : List SlotImage) (s : State),
      s.dispatchable ctx 0x49 none false = some (x, r, d) → Tab.get x.queues d.queueId = some q → x.tensor? d.srcA = some k →
      s.queueOk x r d false = true → x.writesGathered d = false → q.slots = slot :: rest →
      (s.slotFits k.obj slot = true → (s.beginDesc ctx r d).ctx? ctx = some x1 → (s.seenBy r).fromSlot x1 d.srcA slot = some y →
        ∃ u : State, exec (.qrecv ctx) s = .next (((u.sendOn q.params.peer q.vc (some x.params.partition) (.queueCredit ctx d.queueId)).endDesc
              ctx r.ring r.tseq r.next (statusRecord 0)).refresh ctx)
          ∧ ∃ z : Ctx, u.ctx? ctx = some z ∧ Tab.get z.queues d.queueId = some { q with slots := rest })
      ∧ (s.slotFits k.obj slot = false → exec (.qrecv ctx) s = .next (s.faultAt ctx r 0x03)))
  ∧ (∀ (src vc ctx id c : Nat) (slot : SlotImage) (a : Arrived) (rest : List Arrived) (x : Ctx) (q : Queue) (s : State), Delivered src vc a rest s →
      a.msg = .queueSlot ctx id slot → s.queueEnd src ctx id false = some c → s.ctx? c = some x → Tab.get x.queues id = some q →
      ∃ u : State, exec (.queueSlot src vc) s = .next ((u.sendOn src vc (some (s.partOf c)) (.slotWritten c id)).refresh c)
        ∧ ∃ y : Ctx, u.ctx? c = some y ∧ Tab.get y.queues id = some { q with slots := q.slots ++ [slot] })
  ∧ (∀ (src vc ctx id c ring tseq pos : Nat) (more : List (Nat × Nat × Nat)) (a : Arrived) (rest : List Arrived) (x : Ctx) (q : Queue) (s : State),
      Delivered src vc a rest s → a.msg = .slotWritten ctx id → s.queueEnd src ctx id true = some c → s.ctx? c = some x →
      Tab.get x.queues id = some q → q.unacked = (ring, tseq, pos) :: more →
      ∃ u : State, exec (.slotWrittenAck src vc) s = .next ((u.endDesc c ring tseq pos (statusRecord 0)).refresh c)
        ∧ ∃ y : Ctx, u.ctx? c = some y ∧ Tab.get y.queues id = some { q with unacked := more })
  ∧ (∀ (src vc ctx id c : Nat) (a : Arrived) (rest : List Arrived) (x : Ctx) (q : Queue) (s : State), Delivered src vc a rest s →
      a.msg = .queueCredit ctx id → s.queueEnd src ctx id true = some c → s.ctx? c = some x → Tab.get x.queues id = some q →
      ∃ u : State, exec (.queueCredit src vc) s = .next (u.refresh c)
        ∧ ∃ y : Ctx, u.ctx? c = some y ∧ Tab.get y.queues id = some { q with credits := min q.params.depth (q.credits + 1) })
  ∧ (∀ (src vc ctx id : Nat) (a : Arrived) (rest : List Arrived) (s : State), Delivered src vc a rest s → s.queueGone ctx id = true →
      (∀ slot, a.msg = .queueSlot ctx id slot → s.queueEnd src ctx id false = none →
        exec (.queueSlot src vc) s = .next ((s.setInbox rest).misroutedMsg a.port))
      ∧ (a.msg = .slotWritten ctx id → s.queueEnd src ctx id true = none →
        exec (.slotWrittenAck src vc) s = .next ((s.setInbox rest).misroutedMsg a.port))
      ∧ (a.msg = .queueCredit ctx id → s.queueEnd src ctx id true = none →
        exec (.queueCredit src vc) s = .next ((s.setInbox rest).misroutedMsg a.port)))

/-- The rows that take a message of the exchange, with the messages they take (Table 7.7). -/
def exchangeRows (src : Nat) : List (Instr × (Msg → Bool)) :=
  [(.xs src, fun m => match m with | .xs _ => true | _ => false), (.xd src, fun m => match m with | .xd _ => true | _ => false),
   (.xv src, fun m => match m with | .xv _ => true | _ => false),
   (.xgatherData src, fun m => match m with | .gatherData _ => true | _ => false),
   (.permuteData src, fun m => match m with | .permuteData _ => true | _ => false)]

/-- Collectives (R209 to R219): XREDUCE, XGATHER and PERMUTE whose checks hold in their epoch take the group's next
number and set out their figures to every member; an XS, XD, XV, XGATHER_DATA or PERMUTE_DATA message meets its job,
whose collectives go on as far as they can; one of an older epoch faults the job, one for a group that was destroyed counts as
MISROUTED; one not yet due waits, in the port it came by while the chain area is full (R289, R356). -/
def Obligations.CollectiveRowsComplete : Prop :=
  (∀ (ctx me : Nat) (x : Ctx) (r : Run) (d : Desc) (g : XGroup) (ep : Nat × Bool) (vals : List Val) (st : ConvStatus) (s : State),
      s.dispatchable ctx 0x50 none false = some (x, r, d) → s.ident = some me → Tab.get x.groups d.groupId = some g →
      s.xreduceOk x r d g.obj.members.length (rankOf g.obj.members me) = true → x.writesGathered d = false → x.epochFor d false = some ep →
      s.firstRound x (newColl r d ctx me .xreduce g []
        (d.digest (elemCount (((x.tensor? d.srcA).map (fun t => s.dimsOf t.obj)).getD [])) none)) = some (vals, st) →
      ∃ (u : State) (y : Ctx) (c : Coll) (dg : Digest) (g2 : XGroup), exec (.xreduce ctx) s = .next ((u.sendScale ctx me c dg).pumpColls ctx)
        ∧ u.ctx? ctx = some y ∧ y.colls = x.colls ++ [c] ∧ y.epoch = ep.1 ∧ y.pendingEpoch = ep.2 ∧ Tab.get y.groups d.groupId = some g2
        ∧ g2.obj.nextNumber = g.obj.nextNumber + 1 ∧ c.head.number = g.obj.nextNumber ∧ c.figures = figuresOf vals ∧ c.phase = .scale)
  ∧ (∀ (ctx me : Nat) (x : Ctx) (r : Run) (d : Desc) (g : XGroup) (k : Tensor) (ep : Nat × Bool) (s : State),
      s.dispatchable ctx 0x51 none false = some (x, r, d) → s.ident = some me → Tab.get x.groups d.groupId = some g →
      x.tensor? d.srcB = some k → s.xgatherOk x r d g.obj.members.length (rankOf g.obj.members me) = true → x.epochFor d false = some ep →
      (d.srcA = 0 ∨ x.face d.srcA = x.face d.srcB) →
      ∃ (u : State) (y : Ctx) (c : Coll) (dg : Digest) (h : Gathered), exec (.xgather ctx) s = .next ((u.sendScale ctx me c dg).pumpColls ctx)
        ∧ u.ctx? ctx = some y ∧ y.colls = x.colls ++ [c] ∧ c.head.number = g.obj.nextNumber ∧ c.dst = d.srcB ∧ c.src = d.srcA
        ∧ Tab.get y.gathered d.srcB = some h ∧ h.held = true ∧ h.number = g.obj.nextNumber ∧ h.group = d.groupId)
  ∧ (∀ (ctx me : Nat) (x : Ctx) (r : Run) (d : Desc) (g g2 : XGroup) (ep : Nat × Bool) (s : State),
      s.dispatchable ctx 0x52 none false = some (x, r, d) → s.ident = some me → Tab.get x.groups d.groupId = some g →
      Tab.get x.groups d.newGroup = some g2 → s.permuteOk x r d g.obj.members g2.obj.members me = true → x.writesGathered d = false →
      x.epochFor d true = some ep → (x.face d.srcA = none ∨ x.face d.srcB = none ∨ x.face d.srcA = x.face d.srcB) →
      ∃ (u : State) (y : Ctx) (c : Coll) (dg : Digest), exec (.permute ctx) s = .next ((u.sendScale ctx me c dg).pumpColls ctx)
        ∧ u.ctx? ctx = some y ∧ y.colls = x.colls ++ [c] ∧ c.newMembers = g2.obj.members ∧ c.kind = .permute ∧ y.pendingEpoch = true)
  ∧ (∀ (src me : Nat) (e : Instr × (Msg → Bool)) (a : Arrived) (rest : List Arrived) (h : CollHead) (x : Ctx) (s : State), e ∈ exchangeRows src →
      Delivered src 2 a rest s → e.2 a.msg = true → a.msg.collHead = some h → s.ctx? h.ctx = some x → s.ident = some me → x.state ≠ .faulted →
      ((x.wouldHold me a.msg = false ∨ x.chainRoom (HeldMsg.areaBytes ⟨src, a.port, a.msg⟩) = true) →
        ∃ t u : State, exec e.1 s = .next (t.pumpColls h.ctx) ∧ u = s.takeMsg 2 a.slots rest ∧ t = u.deliverColl h.ctx ⟨src, a.port, a.msg⟩
          ∧ (a.msg.copy? = none → x.fit h = .gone → t = u.misroutedMsg a.port)
          ∧ (a.msg.copy? = none → x.fit h = .stale → t = u.jobFault h.ctx 0x06 none)
          ∧ (a.msg.copy? = none → x.fit h = .past → t = u)
          ∧ (a.msg.copy? = none → x.fit h = .early → t = u.setCtx h.ctx { x with waitingMsgs := x.waitingMsgs ++ [⟨src, a.port, a.msg⟩] })
          ∧ (∀ c m, a.msg = .xs m → x.fit h = .now c → c.phase = .scale → c.digest.agrees m.digest = false →
              t = u.jobFault h.ctx 0x04 (some (c.ring, c.tseq, c.pos))))
      ∧ (x.wouldHold me a.msg = true → x.chainRoom (HeldMsg.areaBytes ⟨src, a.port, a.msg⟩) = false → exec e.1 s = .next s))

/-- Re-gathering (R273, R274, R275): the reader of a released tensor asks its holders; a member answers with its shard and
the shard's write count, or keeps the request until it can; data whose source is unchanged enter the re-gather, a changed or
freed source faults the job; a node shard that is gone makes the tensor one of level GROUP. -/
def Obligations.RegatherRowsComplete : Prop :=
  (∀ (ctx h me : Nat) (x : Ctx) (r : Run) (d : Desc) (g : Gathered) (q : XGroup) (s : State), s.live = true → s.ctx? ctx = some x →
      s.ident = some me → x.nextDesc = some (r, d) → Tab.get x.gathered h = some g → x.state ≠ .faulted → d.reads.contains h = true →
      g.held = false → g.awaiting = [] → x.rollbackDue = none → Tab.get x.groups g.group = some q →
      exec (.regather ctx h) s = .next (s.regather ctx me h x r g q.obj.members)
        ∧ (g.level ≠ .node → Tab.has g.counts (rankOf q.obj.members me) = true →
            (x.tensor? g.src = none ∨ g.unchanged (rankOf q.obj.members me) (x.writesOf g.src) = false) →
            exec (.regather ctx h) s = .next (s.faultAt ctx r 0x07)))
  ∧ (∀ (src me rank : Nat) (a : Arrived) (rest : List Arrived) (q : ReadReq) (x : Ctx) (g : XGroup) (s u : State), s.live = true →
      u = s.ctxs.foldl (fun b c => b.serveReads c.1) s → Delivered src 3 a rest u →
      a.msg = .readRequest q → u.ctx? q.ctx = some x → u.ident = some me → Tab.get x.groups q.group = some g → rank = rankOf g.obj.members me →
      (∀ d, u.readFor x rank q = some d →
        exec (.memoryReadRequest src) s = .next ((u.setInbox rest).send src (some x.params.partition) (.readData d)))
      ∧ (u.readFor x rank q = none →
        exec (.memoryReadRequest src) s = .next ((u.setInbox rest).setCtx q.ctx { x with waitingMsgs := x.waitingMsgs ++ [⟨src, 36, .readRequest q⟩] }))
      ∧ (∀ t, q.node = false → x.state ≠ .faulted → x.rollbackDue = none → q.writes ≤ x.writesOf q.handle → u.readTensor x q.handle = some t →
        u.readFor x rank q = some (q.data rank (x.writesOf q.handle) (t.codes.flatten, t.nibs.flatten))))
  ∧ (∀ (src : Nat) (a : Arrived) (rest : List Arrived) (d : ReadData) (x : Ctx) (g : Gathered) (s : State), Delivered src 3 a rest s →
      a.msg = .readData d → s.ctx? d.ctx = some x → Tab.get x.gathered d.handle = some g → x.state ≠ .faulted → g.number = d.tag →
      g.awaiting.contains d.rank = true →
      (d.gone = false → (g.level = .node ∨ g.unchanged d.rank d.writes = true) →
        ∃ g2 : Gathered, exec (.memoryReadData src) s = .next ((s.setInbox rest).settleGather d.ctx d.handle g2)
          ∧ g2.awaiting = g.awaiting.filter (· != d.rank) ∧ g2 = { g with back := g2.back, backNibs := g2.backNibs, awaiting := g2.awaiting })
      ∧ (g.level ≠ .node → (d.gone = true ∨ g.unchanged d.rank d.writes = false) →
        exec (.memoryReadData src) s = .next ((s.setInbox rest).jobFault d.ctx 0x07
          ((x.nextDesc).map (fun n => (n.1.ring, n.1.tseq, n.1.next)))))
      ∧ (g.level = .node → d.gone = true →
        exec (.memoryReadData src) s = .next (((s.setInbox rest).setCtx d.ctx (x.leaveNode d.handle g)).refresh d.ctx)))

/-- No command stops on operands it can hold (R15, R16, R22): every well-formed command answers a next state in every
state; the one fault is a unit that the module does not have, and no command is refused. -/
def Obligations.EveryCommandCompletes : Prop :=
  (∀ (c : Instr) (s : State), c.wf = true → ∃ t : State, exec c s = .next t)
  ∧ (∀ (c : Instr) (s : State) (r : Refusal), exec c s ≠ .refused r)
  ∧ (∀ (fn off width v : Nat) (s : State), 62 < fn → exec (.registerWrite fn off width v) s = .fault .noSuchUnit)
  ∧ (∀ (p : Nat) (s : State), 35 < p → exec (.lightDetected p) s = .fault .noSuchUnit)
  ∧ (∀ (n e : Nat) (s : State), 320 ≤ n → exec (.roundStart n e) s = .fault .noSuchUnit)

/-- THE HEADLINE: whatever the command, a step takes it from the queue and undoes nothing that lasts: the order code and
the fixed fuses, MIN_SVN and the key's revocation (R396: a blown fuse never returns to its earlier value), the
canonical form of the image in flash; and a module under 54 V that has halted stays halted until its input is
disconnected (R426). -/
def Obligations.EveryStepLasts : Prop :=
  ∀ s t : State, step s = .next t →
    Lasting s t ∧ (∀ c rest, s.pending = c :: rest → t.pending = rest) ∧ (s.pending = [] → t.pending = [])
    ∧ (s.boot.powered = true → s.errs.halted = true →
        t.errs.halted = true ∨ ∃ vin micros rest, s.pending = .inputDisconnect vin micros :: rest)

/-- The module right after a cold reset: 54 V present, the boot ROM about to start, nothing halted, no job and no memory
contents, every memory in its canonical form, no tile, port or laser at work. The flash and the fuses are those of log
entry 4, a choice of the model. -/
def Obligations.ResetState : Prop :=
  State.reset.pending = [] ∧ State.reset.boot.powered = true ∧ State.reset.boot.stage = .rom ∧ State.reset.errs.halted = false
  ∧ State.reset.live = false ∧ State.reset.parts = [] ∧ State.reset.ctxs = [] ∧ State.reset.rings = [] ∧ State.reset.tiles = []
  ∧ State.reset.twin.state = .unpaired ∧ State.reset.jr.own = [] ∧ Mem.wf pageDflt State.reset.flash.image = true
  ∧ (∀ i, (State.reset.port i).state = .down) ∧ (∀ i, (State.reset.laser i).lit = false)
  ∧ (∀ fn, (State.reset.fn fn).mbox.enable = false ∧ (State.reset.fn fn).evq.enable = false)

/-- The commands that may change the module's hardware state: its power and boot, flash, fuses, lasers and cartridges,
the region table, the rings and client counts, the logbook's and telemetry's registers. -/
def changesHardware : Instr → Bool
  | .partitionCreate _ _ | .partitionDestroy _ _ | .ringCreate _ _ | .ringDestroy _ _ => true
  | .moduleIdSet _ _ _ | .fabricReserve _ _ _ _ | .cartridgeRelease _ _ | .twinPair _ _ | .twinUnpair _ _ => true
  | .fwUpdate _ _ _ _ | .moduleReset _ | .registerWrite _ _ _ _ | .ringDoorbell _ _ _ _ => true
  | .logSnap _ _ | .logSnapDone | .logDataRead _ | .xdTelemCfgWrite _ _ | .xdTelemPeriodWrite _ _ | .recoveryGo _ _ => true
  | .ticketFetch _ _ | .ticketAccept _ | .ticketComplete _ _ | .twinAuth _ | .twinPairRetry | .restoreStepDone _ => true
  | .fabricTimeLoRead _ | .winchControl _ | .fecGroupReceive _ _ => true
  | .lightLost _ | .timeSync _ _ | .ack _ _ _ | .down _ | .laserBiasLimit _ _ | .cartridgeInsert _ _ _ | .laserLock _ => true
  | .cartridgeReleaseTimeout _ | .errorDetected _ | .patrolScrub _ | .logbookCommit | .powerSample _ | .thermalShutdown _ => true
  | .telemetryWindowEnd | .powerApplied | .inputDisconnect _ _ | .bootHeaderRead | .bootBodyVerified | .firmwareReady => true
  | .recoveryHeader _ _ | .recoveryImageReceived _ | .warmReset | .linkReset | .functionLevelReset _ => true
  | .functionUnavailable _ | .functionAvailable _ => true
  | _ => false

/-- FRAME: every other command (the work of jobs: matrix, vector, training, exchange, gathers, commits, slices,
placement; messages; most of what contexts and links do) leaves all of the hardware state as it was. -/
def Obligations.HardwareFrame : Prop :=
  ∀ (c : Instr) (s t : State), changesHardware c = false → exec c s = .next t →
    t.order1536 = s.order1536 ∧ t.fuses = s.fuses ∧ t.flash = s.flash ∧ t.boot = s.boot ∧ t.linkUp = s.linkUp ∧ t.numVfs = s.numVfs
    ∧ t.regions = s.regions ∧ t.lend = s.lend ∧ t.lasers = s.lasers ∧ t.carts = s.carts ∧ t.logRegs = s.logRegs ∧ t.telem = s.telem
    ∧ t.rings = s.rings ∧ t.clients = s.clients ∧ t.pending = s.pending

/-- FRAME of what a vector descriptor stores: CONVERT to ABS, the row functions and SOFTMAX change no byte of an ordinary
tensor but those of DST, DST2 and FLAG_HANDLE, and no page of a KV pool that none of these views; nothing else of the
job but write counts and dirty marks. -/
def Obligations.VectorStoresFrame : Prop :=
  ∀ (s : State) (x : Ctx) (r : Run) (d : Desc) (v : VecDone),
    (s.runMap x r d = some v ∨ s.runReduce x r d = some v ∨ s.runSoftmax x r d = some v) →
    (∀ h, h ≠ d.dst → h ≠ d.dst2 → h ≠ d.flagH → v.x.tensor? h = x.tensor? h)
    ∧ (∀ p, (∀ h k, (h = d.dst ∨ h = d.dst2 ∨ h = d.flagH) → x.tensor? h = some k → k.obj.kind = .kvView → k.obj.kv.pool ≠ p) →
        Tab.get v.x.pools p = Tab.get x.pools p)
    ∧ v.x = { x with tensors := v.x.tensors, pools := v.x.pools, dirty := v.x.dirty, wrote := v.x.wrote }

/-- R34, R35: a log code has one zero, the sign pattern of it is NaR, and no scale moves a special. -/
def Obligations.LogSpecials : Prop :=
  ∀ (f : Fmt) (code : Nat) (tb tb2 : Int), f.isLog = true → code < 2 ^ f.width →
    ((∃ n, decodeElem f code tb = .zero n) ↔ code = 0)
    ∧ (decodeElem f code tb = .nar ↔ code = 2 ^ (f.width - 1))
    ∧ ((∀ y, decodeElem f code tb ≠ .fin y) → decodeElem f code tb2 = decodeElem f code tb)
    ∧ (∀ y, decodeElem f code tb = .fin y → ∃ y2, decodeElem f code tb2 = .fin y2 ∧ y2.neg = y.neg)

/-- R58: the specials into an edge format. -/
def Obligations.SpecialsIntoEdge : Prop :=
  ∀ (f : Fmt) (tb : Int) (rnd : Rnd) (ovf : Bool) (r16 : Nat), f.isEdge = true →
    decodeEdge f (convElem f tb rnd ovf r16 (.zero false)).code = .zero false
    ∧ (convElem f tb rnd ovf r16 .nar).code = f.edgeNan ∧ decodeEdge f f.edgeNan = .nar
    ∧ (f ≠ .e4m3 → ∀ n, decodeEdge f (convElem f tb rnd ovf r16 (.inf n)).code = .inf n ∧ (convElem f tb rnd ovf r16 (.inf n)).ovf = false)
    ∧ (f = .e4m3 → ∀ n, (convElem f tb rnd ovf r16 (.inf n)).ovf = true
        ∧ (ovf = true → (convElem f tb rnd ovf r16 (.inf n)).code = 0x7F)
        ∧ (ovf = false → decodeEdge f (convElem f tb rnd ovf r16 (.inf n)).code = .fin (Exact.dyadic n 14 5)))

/-- CHAIN words (R123, R124): a state with an exponent comes back from its word; a word is invalid exactly when E_SET is 0
and W is finite and not zero, or a reserved bit is set; an invalid word loads as NaR and marks the record. -/
def Obligations.ChainWords : Prop :=
  (∀ (w : Wide) (e : Int), (∀ v, w = .fin v → inWRange v = true) → -512 ≤ e → e ≤ 511 →
      chainOfBits (chainBits ⟨w, some e⟩) = some ⟨w, some e⟩ ∧ chainBits ⟨w, some e⟩ < 2 ^ 64)
  ∧ (∀ w : Nat, w < 2 ^ 64 → (chainOfBits w = none ↔
      (w / 2 ^ 59 ≠ 0 ∨ (bitOf w 58 = false ∧ ∃ v, wideOfBits (w % 2 ^ 48) = .fin v ∧ v ≠ 0))))
  ∧ (∀ (w : Nat) (v : Wide), w < 2 ^ 64 → w / 2 ^ 59 = 0 → bitOf w 58 = false → wideOfBits (w % 2 ^ 48) = v → (v = .nar ∨ ∃ n, v = .inf n) →
      chainLoad w = (⟨v, none⟩, false))
  ∧ (∀ w : Nat, chainOfBits w = none → chainLoad w = (⟨.nar, none⟩, true))
  ∧ (∀ (o : MatOp) (m : ChainMsg), (∃ w ∈ m.words, chainOfBits w.word.toNat = none) → (o.receive m).wideInvalid = true)
  ∧ (∀ (o : MatOp) (m : ChainMsg) (w : ChainWord), m.words = [w] → chainOfBits w.word.toNat = none →
      Tab.get (o.receive m).received ((w.b * o.d.m + w.i) * o.d.n + w.j) = some ⟨.nar, none⟩)
  ∧ (∀ (x : Ctx) (o : MatOp) (k : TaskId) (t : Tensor) (p e : Nat), x.tensor? o.d.acc = some t → (o.d.tileIdx k)[p]? = some (some e) →
      chainOfBits (wideAt t e) = none → (x.loadAcc o k).1[p]? = some ⟨.nar, none⟩ ∧ (x.loadAcc o k).2 = true)
  ∧ (∀ (s s1 : State) (x : Ctx) (o o1 : MatOp) (k : TaskId) (ws : List Chain), s.live = true → s.opOf k = some o → s.ctx? k.ctx = some x →
      o.direct = false → o.nextChunk (o.tileOf k) = 0 → k.chunk = 0 → o.d.chunkCount ≠ 0 → o.d.accIn = true →
      Tab.has o.finals (o.tileOf k) = false → s.takeChunk o k = some (ws, o1, s1) → (x.loadAcc o k).2 = true →
      ∃ p : MatOp, exec (.mergeCombine k) s = .next (s1.putOp k.ctx p) ∧ p.wideInvalid = true
        ∧ p = { (o1.merge k (x.loadAcc o k).1 ws) with wideInvalid := true })
  ∧ (∀ c : Chain, (Chain.combine ⟨.nar, none⟩ c).1.w = .nar ∧ (c.combine ⟨.nar, none⟩).1.w = .nar)
  ∧ (∀ (o : MatOp) (st : Nat), o.wideInvalid = true → ∃ b ∈ (o.record st)[3]?, b.getLsbD 4 = true)

/-- Words of the exchange (R202, R205, R206, R207): the hallmark of a sum is the sum of the hallmarks; a sum that wraps
nothing does not depend on the order of its additions; a widened word keeps its mark; one changed by an amount that
255 does not divide is caught. -/
def Obligations.HallmarksAdd : Prop :=
  (∀ a b : Int, hadd (hallmark a) (hallmark b) = hallmark (a + b) ∧ hallmark a < 255)
  ∧ (∀ a : Int, (markedOf a).widen = markedOf (a * 2 ^ 17))
  ∧ (∀ (n : Nat) (a b : Int), 0 < n → -(2 : Int) ^ (n - 1) ≤ a + b → a + b < 2 ^ (n - 1) → (markedOf a).add n (markedOf b) = markedOf (a + b))
  ∧ (∀ (n : Nat) (l1 l2 : List Int), 0 < n → l1.Perm l2 → 2 * (l1.map Int.natAbs).sum < 2 ^ n →
      l1.foldl (fun acc w => acc.add n (markedOf w)) (markedOf 0) = markedOf l1.sum
      ∧ l2.foldl (fun acc w => acc.add n (markedOf w)) (markedOf 0) = markedOf l1.sum)
  ∧ (∀ w e : Int, ¬ (255 : Int) ∣ e → hallmark (w + e) ≠ hallmark w)

/-- R197: the shards of the ranks of a group are disjoint, in order, and together hold every element. -/
def Obligations.ShardsPartition : Prop :=
  ∀ (elems sc n : Nat), 0 < sc → chunkNo elems ≤ n * sc →
    (∀ e, e < elems → ∃ k, k < n ∧ (shardSpan elems sc k).1 ≤ e ∧ e < (shardSpan elems sc k).1 + (shardSpan elems sc k).2)
    ∧ (∀ k, (shardSpan elems sc k).1 + (shardSpan elems sc k).2 ≤ (shardSpan elems sc (k + 1)).1)
    ∧ (∀ k, (shardSpan elems sc k).1 + (shardSpan elems sc k).2 ≤ elems)
    ∧ (∀ e k, (shardSpan elems sc k).1 ≤ e → e < (shardSpan elems sc k).1 + (shardSpan elems sc k).2 → k = e / 4096 / sc)
    ∧ (∀ k, chunkNo elems ≤ k * sc → (shardSpan elems sc k).2 = 0)

/-- R181: the ledger never holds more than its budgets: placing an entry keeps the charges in each tier within them, keeps
every entry it held, and holds the new one last. -/
def Obligations.LedgerWithinBudgets : Prop :=
  ∀ (hbm ballast : Nat) (fb : Bool) (e : StashEntry) (p q : Placed), placeEntry hbm ballast fb e p = some q →
    heldIn .hbm p.ledger ≤ hbm → heldIn .ballast p.ledger ≤ ballast → (p.ledger.map (·.handle)).Nodup →
    (∀ o ∈ p.ledger, o.handle ≠ e.handle) →
    heldIn .hbm q.ledger ≤ hbm ∧ heldIn .ballast q.ledger ≤ ballast
    ∧ q.ledger.map (·.handle) = p.ledger.map (·.handle) ++ [e.handle]
    ∧ (e.charge ≤ hbm - heldIn .hbm p.ledger → q = { p with ledger := p.ledger ++ [{ e with tier := .hbm }] })
    ∧ (∀ o ∈ p.ledger, o.recomputable = false → ∀ a ∈ q.ledger, a.handle = o.handle → a.tier = .dropped → o.tier = .dropped)

/-- R382: an event record goes at TAIL, TAIL advances, the vector is raised; a full or disabled queue loses it and counts
it; EVENT_SEQ advances either way, and no other function's queue changes. -/
def Obligations.EventRecords : Prop :=
  ∀ (s : State) (fn ty ctx detail detail2 : Nat),
    ((s.event fn ty ctx detail detail2).fn fn).evq.seq = (s.fn fn).evq.seq + 1
    ∧ (∀ g, g ≠ fn → (s.event fn ty ctx detail detail2).fn g = s.fn g)
    ∧ ((s.fn fn).avail = true → (s.fn fn).evq.enable = true →
        ((s.fn fn).evq.tail + 1) % 2 ^ (s.fn fn).evq.logDepth ≠ (s.fn fn).evq.head % 2 ^ (s.fn fn).evq.logDepth →
        ((s.event fn ty ctx detail detail2).fn fn).evq.tail = ((s.fn fn).evq.tail + 1) % 2 ^ (s.fn fn).evq.logDepth
        ∧ ((s.event fn ty ctx detail detail2).fn fn).evq.lost = (s.fn fn).evq.lost
        ∧ ∃ bytes : List Byte, bytes.length = 32 ∧ bytes = eventBytes ((s.fn fn).evq.seq + 1) ty ctx detail s.time.now detail2
          ∧ (s.event fn ty ctx detail detail2).hostOut = s.hostOut ++
            [.write fn ((s.fn fn).evq.baseLo.toNat + 2 ^ 32 * (s.fn fn).evq.baseHi.toNat + 32 * (s.fn fn).evq.tail) bytes,
             .vector fn (s.fn fn).evq.vector])
    ∧ (((s.fn fn).evq.enable = false
          ∨ ((s.fn fn).evq.tail + 1) % 2 ^ (s.fn fn).evq.logDepth = (s.fn fn).evq.head % 2 ^ (s.fn fn).evq.logDepth) →
        (s.event fn ty ctx detail detail2).hostOut = s.hostOut
        ∧ ((s.event fn ty ctx detail detail2).fn fn).evq.lost = min (2 ^ 32 - 1) ((s.fn fn).evq.lost + 1)
        ∧ ((s.event fn ty ctx detail detail2).fn fn).evq.tail = (s.fn fn).evq.tail)

/-- Command blocks (R353 to R355, R478): a block that the winch cannot take changes nothing; a reserved byte is MALFORMED; a
command of the physical function is NOT_PERMITTED to a virtual one, an owner's command to a function that owns
nothing; an object that does not exist is refused. However a command ends, its three words are written to its block with
STATUS last, and HEAD passes the block, unless ENABLE has set HEAD anew since. A block's parameters stand where R478's example
puts those of TENSOR_CREATE (the places beyond it are the model's reading, log entry 160); an unknown opcode is MALFORMED. -/
def Obligations.CommandBlocks : Prop :=
  (∀ (h : CmdHead) (p : PartitionParams) (s : State), h.fn ≤ 62 → s.canTake h.fn = false → exec (.partitionCreate h p) s = .next s)
  ∧ (∀ (h : CmdHead) (n q : Nat) (s : State), h.fn ≤ 62 → s.canTake h.fn = true → h.reserved = true →
      exec (.partitionQuantum h n q) s = .next (s.finishCmd h 2 0 []))
  ∧ (∀ (h : CmdHead) (n q : Nat) (s : State), h.fn ≤ 62 → h.fn ≠ 0 → s.canTake h.fn = true → h.reserved = false → 100 ≤ q → q ≤ 100000 →
      exec (.partitionQuantum h n q) s = .next (s.finishCmd h 3 0 []))
  ∧ (∀ (h : CmdHead) (ctx prio : Nat) (x : Ctx) (s : State), Taken h false s → s.ctx? ctx = some x → h.fn ≠ x.owner → h.fn ≠ 0 → prio ≤ 3 →
      exec (.contextPriority h ctx prio) s = .next (s.finishCmd h 3 0 []))
  ∧ (∀ (h : CmdHead) (ctx prio : Nat) (s : State), Taken h false s → s.ctx? ctx = none → prio ≤ 3 →
      exec (.contextPriority h ctx prio) s = .next (s.finishCmd h 1 0x12 (leBytes 8 0)))
  ∧ (∀ (h : CmdHead) (st cause a : Nat) (res : List Byte) (s : State), (s.fn h.fn).avail = true → h.irq = false → res.length ≤ 16 →
      (s.fn h.fn).mbox.endAddr = some a →
      ∃ t : State, t = s.finishCmd h st cause res
        ∧ t.hostOut = s.hostOut ++ [.write h.fn (a + 16) (res ++ List.replicate (16 - res.length) 0), .write h.fn (a + 10) (leBytes 2 cause),
            .write h.fn (a + 8) (leBytes 2 st)]
        ∧ ((s.fn h.fn).mbox.waiting = none ∨ (s.fn h.fn).mbox.restarted = false →
            (t.fn h.fn).mbox.head = ((s.fn h.fn).mbox.head + 1) % 2 ^ (s.fn h.fn).mbox.logDepth)
        ∧ ((s.fn h.fn).mbox.waiting.isSome = true → (s.fn h.fn).mbox.restarted = true → (t.fn h.fn).mbox.head = (s.fn h.fn).mbox.head)
        ∧ t = { s with funs := t.funs, arb := t.arb, hostOut := t.hostOut })
  ∧ (∀ m : Mbox, (m.waiting = none → m.endAddr = some (m.baseLo.toNat + 2 ^ 32 * m.baseHi.toNat + 256 * m.head))
      ∧ (m.waiting.isSome = true → m.endAddr = m.block))
  ∧ (∃ rest, (blockLayout 0x0201).map paramPlaces = some
      ([(32, 2), (34, 1), (35, 1), (36, 1), (40, 4), (44, 4), (48, 4), (52, 4), (56, 4), (60, 4), (64, 1), (65, 1), (66, 1)] ++ rest))
  ∧ (∀ (fn : Nat) (b : List Byte) (mem : HostRead), fieldAt b 0 2 = 0x0201 → fieldAt b 36 1 ≤ 6 →
      ∃ (h : CmdHead) (kv : KvView), h.fn = fn ∧ h.irq = bitOf (fieldAt b 2 2) 0
        ∧ ((∃ i, 37 ≤ i ∧ i ≤ 39 ∧ b.getD i 0 ≠ 0) → h.reserved = true)
        ∧ blockInstr fn b mem = .tensorCreate h (fieldAt b 32 2)
          { kind := fieldAt b 34 1, format := fieldAt b 35 1, dims := (List.range (fieldAt b 36 1)).map (fun i => fieldAt b (40 + 4 * i) 4)
            t := signedOf (fieldAt b 64 1) 8, persistent := fieldAt b 65 1 = 1, pin := fieldAt b 66 1 = 1, kv := kv })
  ∧ (∀ (fn : Nat) (b : List Byte) (mem : HostRead) (s : State), fn ≤ 62 → s.canTake fn = true → blockLayout (fieldAt b 0 2) = none →
      ∃ h : CmdHead, h.fn = fn ∧ exec (blockInstr fn b mem) s = .next (s.finishCmd h 2 0 []))

/-- R399: when an image has brought the module to READY, COMMIT_SVN raises MIN_SVN to the image's SVN if that is higher, and
REVOKE_KEY0 of an image signed with key 1 blows FW_KEY0_REVOKED; no other fuse changes. -/
def Obligations.FusesAtReady : Prop :=
  ∀ (r : Running) (s : State), s.boot.running = some r → s.boot.powered = true → s.errs.halted = false → s.boot.stage = .firmwareStart →
    ∃ t : State, exec .firmwareReady s = .next t ∧ t.boot.stage = .ready
      ∧ t.fuses = { s.fuses with minSvn := t.fuses.minSvn, key0Revoked := t.fuses.key0Revoked }
      ∧ (r.commitSvn = true → t.fuses.minSvn = max s.fuses.minSvn r.svn) ∧ (r.commitSvn = false → t.fuses.minSvn = s.fuses.minSvn)
      ∧ (t.fuses.key0Revoked = true ↔ s.fuses.key0Revoked = true ∨ (r.revokeKey0 = true ∧ r.bySecondKey = true))

/-- Numbers (R326, R358): the number that a creation returns is free and the lowest; C_g rises exactly to the last TSEQ with
no gap below it. -/
def Obligations.LowestNumbers : Prop :=
  (∀ (n : Nat) (used : List Nat) (k : Nat), lowestFree n used = some k ↔ (k < n ∧ k ∉ used ∧ ∀ j < k, j ∈ used))
  ∧ (∀ (n : Nat) (used : List Nat), lowestFree n used = none ↔ ∀ j < n, j ∈ used)
  ∧ (∀ (fuel c : Nat) (done : List Nat), done.length ≤ fuel → done.Nodup → (∀ d ∈ done, c < d) →
      c ≤ (closeGaps fuel c done).1 ∧ (∀ d, c < d → d ≤ (closeGaps fuel c done).1 → d ∈ done)
      ∧ (closeGaps fuel c done).1 + 1 ∉ done
      ∧ (∀ d, d ∈ (closeGaps fuel c done).2 ↔ d ∈ done ∧ (closeGaps fuel c done).1 < d))

/-- R292: a new tensor's byte image is all zero bytes with every scale nibble 15, and its elements read as its format says:
ZERO, +0, 0, +2^T, an exact zero. -/
def Obligations.NewTensorReads : Prop :=
  (∀ (o : TObj) (a : Nat), a < planeStart o.fmt o.dims → Mem.get o.dflt [] a = 0)
  ∧ (∀ (o : TObj) (row : List Nat) (c : Nat), o.kind = .ordinary → (o.fmt.isLog || o.fmt.isWeight) = true → row ∈ (readImage o []).codes → c ∈ row →
      ∀ tb, decodeElem o.fmt c tb = .zero false)
  ∧ (∀ (o : TObj) (row : List Nat) (n : Nat), o.kind = .ordinary → o.fmt.hasBlocks = true → row ∈ (readImage o []).nibs → n ∈ row → n = 15)
  ∧ (∀ (o : TObj) (row : List Nat) (c : Nat), o.kind = .ordinary → o.fmt.isEdge = true → row ∈ (readImage o []).codes → c ∈ row →
      ∀ tb, decodeElem o.fmt c tb = .zero false)
  ∧ (∀ (o : TObj) (row : List Nat) (c : Nat), o.kind = .ordinary → o.fmt.isInt = true → row ∈ (readImage o []).codes → c ∈ row →
      ∀ tb, decodeElem o.fmt c tb = .zero false)
  ∧ (∀ (o : TObj) (row : List Nat) (c : Nat), o.kind = .ordinary → o.fmt = .b1 → row ∈ (readImage o []).codes → c ∈ row →
      ∀ tb, decodeElem o.fmt c tb = .fin (Exact.pow false tb 0))
  ∧ (∀ (k : Tensor) (e : Nat), k.obj.kind = .wide → k.img = [] → chainLoad (wideAt k e) = (⟨.fin 0, none⟩, false))
end

