-- ==== Sys2Proof/Laws/Tables.lean ====
section
/-! SUPPORT. Sorted tables: read after set, erase and change; the canonical form is kept. -/

namespace Sys2Proof.Machine

variable {α β : Type}

@[simp] theorem Tab.get_set_self (t : Tab α) (i : Nat) (a : α) : Tab.get (Tab.set t i a) i = some a := by
  induction t with
  | nil => simp [Tab.set, Tab.get]
  | cons e t ih =>
    obtain ⟨k, b⟩ := e
    by_cases h1 : i < k
    · simp [Tab.set, Tab.get, h1]
    · by_cases h2 : i = k
      · simp [Tab.set, Tab.get, h2]
      · simp [Tab.set, Tab.get, h1, h2, Ne.symm h2, ih]

theorem Tab.get_set_ne (t : Tab α) {i j : Nat} (a : α) (h : j ≠ i) : Tab.get (Tab.set t i a) j = Tab.get t j := by
  induction t with
  | nil => simp [Tab.set, Tab.get, h.symm]
  | cons e t ih =>
    obtain ⟨k, b⟩ := e
    by_cases h1 : i < k
    · simp [Tab.set, Tab.get, h1, h.symm]
    · by_cases h2 : i = k
      · subst h2
        simp [Tab.set, Tab.get, h.symm]
      · simp [Tab.set, Tab.get, h1, h2, ih]

@[simp] theorem Tab.getD_set_self (t : Tab α) (i : Nat) (a d : α) : Tab.getD (Tab.set t i a) i d = a := by
  simp [Tab.getD]

theorem Tab.getD_set_ne (t : Tab α) {i j : Nat} (a d : α) (h : j ≠ i) :
    Tab.getD (Tab.set t i a) j d = Tab.getD t j d := by
  simp [Tab.getD, Tab.get_set_ne t a h]

@[simp] theorem Tab.get_erase_self (t : Tab α) (i : Nat) : Tab.get (Tab.erase t i) i = none := by
  induction t with
  | nil => rfl
  | cons e t ih =>
    obtain ⟨k, b⟩ := e
    by_cases h : k = i
    · simpa [Tab.erase, List.filter_cons, h] using ih
    · have : Tab.get (Tab.erase t i) i = none := ih
      simp only [Tab.erase, List.filter_cons]
      simp [h, Tab.get]
      simpa [Tab.erase] using this

theorem Tab.get_erase_ne (t : Tab α) {i j : Nat} (h : j ≠ i) : Tab.get (Tab.erase t i) j = Tab.get t j := by
  induction t with
  | nil => rfl
  | cons e t ih =>
    obtain ⟨k, b⟩ := e
    have ih' : Tab.get (List.filter (fun e => e.1 != i) t) j = Tab.get t j := ih
    by_cases hk : k = i
    · subst hk
      simp [Tab.erase, Tab.get, ih', h.symm]
    · by_cases hj : k = j
      · subst hj
        simp [Tab.erase, Tab.get, hk]
      · simp [Tab.erase, hk, Tab.get, hj, ih']

theorem Tab.modify_some (t : Tab α) {i : Nat} {a : α} (f : α → α) (h : Tab.get t i = some a) :
    Tab.modify t i f = Tab.set t i (f a) := by
  simp [Tab.modify, h]

/-- Setting an entry twice is setting it to the second value. -/
theorem Tab.set_set (t : Tab α) (i : Nat) (a b : α) : Tab.set (Tab.set t i a) i b = Tab.set t i b := by
  induction t with
  | nil => simp [Tab.set]
  | cons e t ih =>
    obtain ⟨k, c⟩ := e
    by_cases h1 : i < k
    · simp [Tab.set, h1]
    · by_cases h2 : i = k
      · simp [Tab.set, h2]
      · simp [Tab.set, h1, h2, ih]

/-- A change of an entry that has just been set. -/
@[simp] theorem Tab.modify_set_self (t : Tab α) (i : Nat) (a : α) (f : α → α) : Tab.modify (Tab.set t i a) i f = Tab.set t i (f a) := by
  simp [Tab.modify, Tab.set_set]

theorem Tab.has_iff (t : Tab α) (i : Nat) : Tab.has t i = true ↔ ∃ a, Tab.get t i = some a := by
  simp [Tab.has, Option.isSome_iff_exists]

theorem Tab.get_mapVals (t : Tab α) (f : Nat → α → β) (i : Nat) :
    Tab.get (Tab.mapVals t f) i = (Tab.get t i).map (f i) := by
  induction t with
  | nil => rfl
  | cons e t ih =>
    obtain ⟨k, b⟩ := e
    by_cases h : k = i
    · subst h
      simp [Tab.mapVals, Tab.get]
    · simpa [Tab.mapVals, Tab.get, h] using ih

theorem Tab.wf_iff (t : Tab α) : Tab.wf t = true ↔ (t.map (·.1)).Pairwise (· < ·) := by
  induction t with
  | nil => simp [Tab.wf]
  | cons a t ih =>
    cases t with
    | nil => simp [Tab.wf]
    | cons b t =>
      rw [Tab.wf, Bool.and_eq_true, ih]
      simp only [decide_eq_true_eq, List.map_cons, List.pairwise_cons, List.mem_cons, forall_eq_or_imp]
      constructor
      · rintro ⟨hab, hb, ht⟩
        exact ⟨⟨hab, fun x hx => lt_trans hab (hb x hx)⟩, hb, ht⟩
      · rintro ⟨⟨hab, -⟩, hb, ht⟩
        exact ⟨hab, hb, ht⟩

theorem Tab.mem_keys_set (t : Tab α) (i : Nat) (a : α) (k : Nat) (h : k ∈ (Tab.set t i a).map (·.1)) :
    k = i ∨ k ∈ t.map (·.1) := by
  induction t with
  | nil => simpa [Tab.set] using h
  | cons e t ih =>
    obtain ⟨m, b⟩ := e
    by_cases h1 : i < m
    · simpa [Tab.set, h1] using h
    · by_cases h2 : i = m
      · subst h2
        simp [Tab.set] at h
        rcases h with h | h
        · exact .inl h
        · exact .inr (by simp [h])
      · simp only [Tab.set, h1, h2, if_false, List.map_cons, List.mem_cons] at h
        rcases h with h | h
        · exact .inr (by simp [h])
        · rcases ih h with h | h
          · exact .inl h
          · exact .inr (by simp [h])

/-- Setting an entry keeps the keys rising. -/
theorem Tab.wf_set (t : Tab α) (i : Nat) (a : α) (h : Tab.wf t = true) : Tab.wf (Tab.set t i a) = true := by
  rw [Tab.wf_iff] at h ⊢
  induction t with
  | nil => simp [Tab.set]
  | cons e t ih =>
    obtain ⟨k, b⟩ := e
    simp only [List.map_cons, List.pairwise_cons] at h
    by_cases h1 : i < k
    · rw [Tab.set, if_pos h1]
      simp only [List.map_cons, List.pairwise_cons, List.mem_cons, forall_eq_or_imp]
      exact ⟨⟨h1, fun x hx => lt_trans h1 (h.1 x hx)⟩, h.1, h.2⟩
    · by_cases h2 : i = k
      · subst h2
        simpa [Tab.set] using h
      · simp only [Tab.set, h1, h2, if_false, List.map_cons, List.pairwise_cons]
        refine ⟨fun x hx => ?_, ih h.2⟩
        rcases Tab.mem_keys_set t i a x hx with h3 | h3
        · omega
        · exact h.1 x h3

/-- Erasing an entry keeps the keys rising. -/
theorem Tab.wf_erase (t : Tab α) (i : Nat) (h : Tab.wf t = true) : Tab.wf (Tab.erase t i) = true := by
  rw [Tab.wf_iff] at h ⊢
  exact List.Pairwise.sublist (List.Sublist.map _ List.filter_sublist) h

end Sys2Proof.Machine
end

