-- ==== Sys2Proof/Laws/Commands.lean ====
section
/-! SUPPORT. Running a command block: what `gheit` answers when the winch takes the block, the owner rule,
refusals, the entries of the tables after a change. -/

namespace Sys2Proof.Machine

/-! ### Entries -/

@[simp] theorem State.fn_setFn_self (s : State) (i : Nat) (f : Func) : (s.setFn i f).fn i = f := by simp [State.fn, State.setFn]
theorem State.fn_setFn_ne (s : State) {i j : Nat} (f : Func) (h : j ≠ i) : (s.setFn i f).fn j = s.fn j := by
  simp [State.fn, State.setFn, Tab.getD_set_ne _ _ _ h]
@[simp] theorem State.ctx?_setCtx_self (s : State) (i : Nat) (x : Ctx) : (s.setCtx i x).ctx? i = some x := by simp [State.ctx?, State.setCtx]
theorem State.ctx?_setCtx_ne (s : State) {i j : Nat} (x : Ctx) (h : j ≠ i) : (s.setCtx i x).ctx? j = s.ctx? j := by
  simp [State.ctx?, State.setCtx, Tab.get_set_ne _ _ h]
@[simp] theorem State.port_setPort_self (s : State) (i : Nat) (p : Port) : (s.setPort i p).port i = p := by simp [State.port, State.setPort]
theorem State.port_setPort_ne (s : State) {i j : Nat} (p : Port) (h : j ≠ i) : (s.setPort i p).port j = s.port j := by
  simp [State.port, State.setPort, Tab.getD_set_ne _ _ _ h]
@[simp] theorem State.die_setDie_self (s : State) (i : Nat) (d : Die) : (s.setDie i d).die i = d := by simp [State.die, State.setDie]
theorem State.die_setDie_ne (s : State) {i j : Nat} (d : Die) (h : j ≠ i) : (s.setDie i d).die j = s.die j := by
  simp [State.die, State.setDie, Tab.getD_set_ne _ _ _ h]
@[simp] theorem State.tile_setTile_self (s : State) (i : Nat) (t : Tile) : (s.setTile i t).tile i = t := by simp [State.tile, State.setTile]
theorem State.tile_setTile_ne (s : State) {i j : Nat} (t : Tile) (h : j ≠ i) : (s.setTile i t).tile j = s.tile j := by
  simp [State.tile, State.setTile, Tab.getD_set_ne _ _ _ h]
@[simp] theorem State.cluster_setCluster_self (s : State) (i : Nat) (c : Cluster) : (s.setCluster i c).cluster i = c := by
  simp [State.cluster, State.setCluster]

/-- A change of an existing context is a set of it. -/
theorem State.modCtx_some (s : State) {i : Nat} {x : Ctx} (g : Ctx → Ctx) (h : s.ctx? i = some x) :
    s.modCtx i g = { s with ctxs := Tab.set s.ctxs i (g x) } := by
  simp only [State.ctx?] at h
  simp [State.modCtx, Tab.modify_some _ _ h]

/-- A change of an existing partition is a set of it. -/
theorem State.modPart_some (s : State) {i : Nat} {p : Part} (g : Part → Part) (h : Tab.get s.parts i = some p) :
    s.modPart i g = { s with parts := Tab.set s.parts i (g p) } := by
  simp [State.modPart, Tab.modify_some _ _ h]

/-! ### Command blocks -/

/-- A unit that exists: the outcome is the next state. -/
theorem withUnit_next {c : Bool} (s : State) (h : c = true) : withUnit c s = .next s := by simp [withUnit, h]

/-- A block that is taken and well formed runs its body. -/
theorem gheit_taken {h : CmdHead} {bad pf : Bool} {body : State → CmdEnd} {s : State} (ht : Taken h pf s) (hb : bad = false) :
    gheit h bad pf body s = .next (s.endCmd h (body s)) := by
  obtain ⟨h1, h2, h3, h4⟩ := ht
  cases pf <;> simp_all [gheit, withUnit, runCmd]

/-- The owner, or the physical function, may go on. -/
theorem forOwner_owned {h : CmdHead} {ctx : Nat} {x : Ctx} {k : Ctx → CmdEnd} {s : State} (ho : Owned h ctx x s) :
    forOwner h ctx k s = k x := by
  obtain ⟨h1, h2⟩ := ho
  simp [forOwner, h1, h2]

/-- With no condition holding, nothing is refused. -/
@[simp] theorem refuseIf_nil (k : CmdEnd) : refuseIf [] k = k := rfl
theorem refuseIf_false {c : Bool} {n : Nat} {l : List (Bool × Nat)} {k : CmdEnd} (h : c = false) : refuseIf ((c, n) :: l) k = refuseIf l k := by
  simp [refuseIf, h]
/-- The first condition that holds gives the cause. -/
theorem refuseIf_true {c : Bool} {n : Nat} {l : List (Bool × Nat)} {k : CmdEnd} (h : c = true) : refuseIf ((c, n) :: l) k = .refused n 0 := by
  simp [refuseIf, h]

/-- What a command that ends OK leaves, when its entry finds room in the journal. -/
theorem State.endCmd_ok (s : State) (h : CmdHead) (res : List Byte) (t : State) (hr : s.overfull t = false) :
    s.endCmd h (.ok res t) = t.finishCmd h 0 0 res := by simp [State.endCmd, hr]

/-- A message changes the network and nothing else. -/
theorem State.send_eq (s : State) (d : Nat) (p : Option Nat) (m : Msg) : s.send d p m = { s with net := (s.send d p m).net } := by
  unfold State.send State.sendOn
  split <;> rfl

/-- A journal entry changes the journals and the network. -/
theorem State.journal_eq (s : State) (ring ctx tseq : Nat) (b : List JBody) :
    s.journal ring ctx tseq b = { s with jr := (s.journal ring ctx tseq b).jr, net := (s.journal ring ctx tseq b).net } := by
  unfold State.journal
  dsimp only
  split
  · rw [State.send_eq]
  · rfl

@[simp] theorem length_entryOf (a b c d e f i : Nat) (l : List JBody) : (entryOf a b c d e f i l).length = l.length := by
  induction l generalizing i with
  | nil => rfl
  | cons x l ih => simp [entryOf, ih]

/-- An entry adds its records to the own journal. -/
theorem State.length_journal (s : State) (ring ctx tseq : Nat) (b : List JBody) :
    (s.journal ring ctx tseq b).jr.own.length = s.jr.own.length + b.length := by
  unfold State.journal
  dsimp only
  split
  · rw [State.send_eq]; simp
  · simp

/-- An entry for which there is room overfills nothing. -/
theorem State.overfull_journal {s t : State} {ring ctx tseq : Nat} {b : List JBody} (h : s.journalRoom b.length = true)
    (ht : t.jr.own.length ≤ s.jr.own.length) : s.overfull (t.journal ring ctx tseq b) = false := by
  simp [State.overfull, State.length_journal, State.journalRoom] at *
  omega

/-- The same of a command's one record. -/
theorem State.overfull_journalOp {s t : State} {ctx : Nat} {b : ConfigOp} (h : s.journalRoom 1 = true)
    (ht : t.jr.own.length ≤ s.jr.own.length) : s.overfull (t.journalOp ctx b) = false :=
  State.overfull_journal (b := [.config b]) h ht

/-- A state whose own journal is no longer than before overfills nothing. -/
theorem State.overfull_of_own (s t : State) (h : t.jr.own.length ≤ s.jr.own.length) : s.overfull t = false := by
  simp [State.overfull]; omega

end Sys2Proof.Machine
end

