-- ==== Sys2Proof/Laws/KeepOps.lean ====
section
/-! SUPPORT. What the operations leave: for each of them, one lemma that says that the queue, the order code, the
fuses, the image in flash, HALTED and the presence of 54 V are as before (`keep`), and one, for those that work on
jobs and the exchange, that all the module's hardware state is (`hw`). -/

namespace Sys2Proof.Machine

/-- What nearly every operation leaves. -/
def State.keep (s : State) := (s.pending, s.order1536, s.fuses, s.flash.image, s.errs.halted, s.boot.powered)

@[simp] theorem keep_upd (s : State) {flash' boot' linkUp' numVfs' funs' hostOut' parts' ctxs' rings' clients' slots' regions' lend' tiles' dies' clusters' ports' lasers' carts' time' net' twin' jr' errs' logbook' logRegs' power' telem' arb' freeCtr'} (h_flash : flash'.image = s.flash.image) (h_errs : errs'.halted = s.errs.halted) (h_boot : boot'.powered = s.boot.powered) :
    State.keep { s with
      flash := flash', boot := boot', linkUp := linkUp', numVfs := numVfs', funs := funs', hostOut := hostOut', parts := parts', ctxs := ctxs', rings := rings', clients := clients', slots := slots', regions := regions', lend := lend', tiles := tiles', dies := dies', clusters := clusters', ports := ports', lasers := lasers', carts := carts', time := time', net := net', twin := twin', jr := jr', errs := errs', logbook := logbook', logRegs := logRegs', power := power', telem := telem', arb := arb', freeCtr := freeCtr' } = s.keep := by
  simp [State.keep, h_flash, h_errs, h_boot]

theorem keep_foldl {α : Type} (f : State → α → State) (h : ∀ s a, (f s a).keep = s.keep) (l : List α) (s : State) :
    (l.foldl f s).keep = s.keep := by
  induction l generalizing s with
  | nil => rfl
  | cons a l ih => simp [ih, h]

@[simp] theorem keep_State_setFn (s : State) (i : Nat) (f : Func) : (State.setFn s i f).keep = s.keep := by
  unfold State.setFn
  (simp)

@[simp] theorem keep_State_modFn (s : State) (i : Nat) (g : Func → Func) : (State.modFn s i g).keep = s.keep := by
  unfold State.modFn
  (simp)

@[simp] theorem keep_State_setCtx (s : State) (i : Nat) (x : Ctx) : (State.setCtx s i x).keep = s.keep := by
  unfold State.setCtx
  (simp)

@[simp] theorem keep_State_modCtx (s : State) (i : Nat) (g : Ctx → Ctx) : (State.modCtx s i g).keep = s.keep := by
  unfold State.modCtx
  (simp)

@[simp] theorem keep_State_setRing (s : State) (i : Nat) (r : Ring) : (State.setRing s i r).keep = s.keep := by
  unfold State.setRing
  (simp)

@[simp] theorem keep_State_modRing (s : State) (i : Nat) (g : Ring → Ring) : (State.modRing s i g).keep = s.keep := by
  unfold State.modRing
  (simp)

@[simp] theorem keep_State_setPart (s : State) (i : Nat) (p : Part) : (State.setPart s i p).keep = s.keep := by
  unfold State.setPart
  (simp)

@[simp] theorem keep_State_modPart (s : State) (i : Nat) (g : Part → Part) : (State.modPart s i g).keep = s.keep := by
  unfold State.modPart
  (simp)

@[simp] theorem keep_State_setTile (s : State) (i : Nat) (t : Tile) : (State.setTile s i t).keep = s.keep := by
  unfold State.setTile
  (simp)

@[simp] theorem keep_State_setDie (s : State) (i : Nat) (d : Die) : (State.setDie s i d).keep = s.keep := by
  unfold State.setDie
  (simp)

@[simp] theorem keep_State_setCluster (s : State) (i : Nat) (c : Cluster) : (State.setCluster s i c).keep = s.keep := by
  unfold State.setCluster
  (simp)

@[simp] theorem keep_State_setPort (s : State) (i : Nat) (p : Port) : (State.setPort s i p).keep = s.keep := by
  unfold State.setPort
  (simp)

@[simp] theorem keep_State_modPort (s : State) (i : Nat) (g : Port → Port) : (State.modPort s i g).keep = s.keep := by
  unfold State.modPort
  (simp)

@[simp] theorem keep_State_emit (s : State) (is : List HostItem) : (State.emit s is).keep = s.keep := by
  unfold State.emit
  (simp)

@[simp] theorem keep_State_fnWrite (s : State) (fn addr : Nat) (bytes : List Byte) : (State.fnWrite s fn addr bytes).keep = s.keep := by
  unfold State.fnWrite
  (simp [apply_ite State.keep, apply_ite Flash.image, apply_ite ErrLog.halted, apply_ite Boot.powered, keep_foldl])

@[simp] theorem keep_State_fnVector (s : State) (fn v : Nat) : (State.fnVector s fn v).keep = s.keep := by
  unfold State.fnVector
  (simp [apply_ite State.keep, apply_ite Flash.image, apply_ite ErrLog.halted, apply_ite Boot.powered, keep_foldl])

@[simp] theorem keep_State_jobWrite (s : State) (fn addr : Nat) (bytes : List Byte) : (State.jobWrite s fn addr bytes).keep = s.keep := by
  unfold State.jobWrite
  (simp [apply_ite State.keep, apply_ite Flash.image, apply_ite ErrLog.halted, apply_ite Boot.powered, keep_foldl])

@[simp] theorem keep_State_jobVector (s : State) (fn v : Nat) : (State.jobVector s fn v).keep = s.keep := by
  unfold State.jobVector
  (simp [apply_ite State.keep, apply_ite Flash.image, apply_ite ErrLog.halted, apply_ite Boot.powered, keep_foldl])

@[simp] theorem keep_State_granted (s : State) (fn : Nat) : (State.granted s fn).keep = s.keep := by
  unfold State.granted
  (simp)

@[simp] theorem keep_State_finishCmd (s : State) (h : CmdHead) (status cause : Nat) (res : List Byte) : (State.finishCmd s h status cause res).keep = s.keep := by
  unfold State.finishCmd
  ((try dsimp only); (repeat' split) <;> simp [apply_ite State.keep, apply_ite Flash.image, apply_ite ErrLog.halted, apply_ite Boot.powered, keep_foldl])

@[simp] theorem keep_State_event (s : State) (fn ty ctx detail detail2 : Nat) : (State.event s fn ty ctx detail detail2).keep = s.keep := by
  unfold State.event
  (simp [apply_ite State.keep, apply_ite Flash.image, apply_ite ErrLog.halted, apply_ite Boot.powered, keep_foldl])

@[simp] theorem keep_State_sendOn (s : State) (dest vc : Nat) (part : Option Nat) (m : Msg) : (State.sendOn s dest vc part m).keep = s.keep := by
  unfold State.sendOn
  (simp [apply_ite State.keep, apply_ite Flash.image, apply_ite ErrLog.halted, apply_ite Boot.powered, keep_foldl])

@[simp] theorem keep_State_send (s : State) (dest : Nat) (part : Option Nat) (m : Msg) : (State.send s dest part m).keep = s.keep := by
  unfold State.send
  (simp)

@[simp] theorem keep_State_sendAll (s : State) (dests : List Nat) (part : Option Nat) (m : Msg) : (State.sendAll s dests part m).keep = s.keep := by
  unfold State.sendAll
  (simp [apply_ite State.keep, apply_ite Flash.image, apply_ite ErrLog.halted, apply_ite Boot.powered, keep_foldl])

@[simp] theorem keep_State_setInbox (s : State) (l : List Arrived) : (State.setInbox s l).keep = s.keep := by
  unfold State.setInbox
  (simp)

@[simp] theorem keep_State_takeMsg (s : State) (vc : Nat) (slots : List (Nat × Nat)) (rest : List Arrived) : (State.takeMsg s vc slots rest).keep = s.keep := by
  unfold State.takeMsg
  (simp [apply_ite State.keep, apply_ite Flash.image, apply_ite ErrLog.halted, apply_ite Boot.powered, keep_foldl])

@[simp] theorem keep_State_holdFor (s : State) (ctx : Nat) (m : HeldMsg) : (State.holdFor s ctx m).keep = s.keep := by
  unfold State.holdFor
  ((repeat' split) <;> simp)

@[simp] theorem keep_State_takeEarly (s : State) (ctx : Nat) : (State.takeEarly s ctx).keep = s.keep := by
  unfold State.takeEarly
  (simp)

@[simp] theorem keep_State_journal (s : State) (ring ctx tseq : Nat) (bodies : List JBody) : (State.journal s ring ctx tseq bodies).keep = s.keep := by
  unfold State.journal
  ((repeat' split) <;> simp)

@[simp] theorem keep_State_journalOp (s : State) (ctx : Nat) (op : ConfigOp) : (State.journalOp s ctx op).keep = s.keep := by
  unfold State.journalOp
  (simp)

@[simp] theorem keep_State_journalIf (s : State) (ring ctx tseq : Nat) (bodies : List JBody) : (State.journalIf s ring ctx tseq bodies).keep = s.keep := by
  unfold State.journalIf
  (simp [apply_ite State.keep, apply_ite Flash.image, apply_ite ErrLog.halted, apply_ite Boot.powered, keep_foldl])

@[simp] theorem keep_State_modRun (s : State) (ctx ring tseq : Nat) (g : Run → Run) : (State.modRun s ctx ring tseq g).keep = s.keep := by
  unfold State.modRun
  (simp)

@[simp] theorem keep_State_rampNext (s : State) : (State.rampNext s).keep = s.keep := by
  unfold State.rampNext
  ((repeat' split) <;> simp)

@[simp] theorem keep_State_wakeDie (s : State) (d : Nat) (run : Bool) : (State.wakeDie s d run).keep = s.keep := by
  unfold State.wakeDie
  (dsimp only; (repeat' split) <;> simp [apply_ite State.keep, apply_ite Flash.image, apply_ite ErrLog.halted, apply_ite Boot.powered, keep_foldl])

@[simp] theorem keep_State_wakeCluster (s : State) (c : Nat) : (State.wakeCluster s c).keep = s.keep := by
  unfold State.wakeCluster
  (dsimp only; (repeat' split) <;> simp [apply_ite State.keep, apply_ite Flash.image, apply_ite ErrLog.halted, apply_ite Boot.powered, keep_foldl])

@[simp] theorem keep_State_wakeDies (s : State) (ds : List Nat) : (State.wakeDies s ds).keep = s.keep := by
  unfold State.wakeDies
  (simp [apply_ite State.keep, apply_ite Flash.image, apply_ite ErrLog.halted, apply_ite Boot.powered, keep_foldl])

@[simp] theorem keep_State_wake (s : State) (n : Needs) : (State.wake s n).keep = s.keep := by
  unfold State.wake
  (simp [apply_ite State.keep, apply_ite Flash.image, apply_ite ErrLog.halted, apply_ite Boot.powered, keep_foldl])

@[simp] theorem keep_State_modExt (s : State) (ctx : Nat) (e : ExtentId) (f : Ext → Ext) : (State.modExt s ctx e f).keep = s.keep := by
  unfold State.modExt
  (simp)

@[simp] theorem keep_State_seenBy (s : State) (r : Run) : (State.seenBy s r).keep = s.keep := by
  unfold State.seenBy
  (simp)

@[simp] theorem keep_State_seenFor (s : State) (x : Ctx) (ring tseq : Nat) : (State.seenFor s x ring tseq).keep = s.keep := by
  unfold State.seenFor
  ((repeat' split) <;> simp)

@[simp] theorem keep_State_copyTo (s : State) (ctx tile : Nat) (p : PieceId) : (State.copyTo s ctx tile p).keep = s.keep := by
  unfold State.copyTo
  ((repeat' split) <;> simp)

@[simp] theorem keep_State_readBack (s : State) (ctx : Nat) (id : ExtentId) (e : Ext) : (s.readBack ctx id e).keep = s.keep := by
  unfold State.readBack
  refine keep_foldl _ (fun a q => ?_) _ _
  dsimp only
  repeat' split
  all_goals first | rfl | simp

@[simp] theorem keep_State_swapIn (s : State) (ctx : Nat) : (State.swapIn s ctx).keep = s.keep := by
  unfold State.swapIn
  ((repeat' split) <;> simp [apply_ite State.keep, apply_ite Flash.image, apply_ite ErrLog.halted, apply_ite Boot.powered, keep_foldl])

@[simp] theorem keep_State_putRecord (s : State) (ctx : Nat) (r : Run) (pos : Nat) (rec : List Byte) : (State.putRecord s ctx r pos rec).keep = s.keep := by
  unfold State.putRecord
  ((repeat' split) <;> simp)

@[simp] theorem keep_State_settle (s : State) (ctx ring tseq : Nat) : (State.settle s ctx ring tseq).keep = s.keep := by
  unfold State.settle
  ((repeat' split) <;> simp [apply_ite State.keep, apply_ite Flash.image, apply_ite ErrLog.halted, apply_ite Boot.powered, keep_foldl])

@[simp] theorem keep_State_startDesc (s : State) (ctx : Nat) (r : Run) : (State.startDesc s ctx r).keep = s.keep := by
  unfold State.startDesc
  (simp)

@[simp] theorem keep_State_endDesc (s : State) (ctx ring tseq pos : Nat) (rec : List Byte) : (State.endDesc s ctx ring tseq pos rec).keep = s.keep := by
  unfold State.endDesc
  ((repeat' split) <;> simp)

@[simp] theorem keep_State_notRun (s : State) (ctx : Nat) (r : Run) (l : List Nat) : (s.notRun ctx r l).keep = s.keep := by
  induction l generalizing s with
  | nil => rfl
  | cons p ps ih => simp [State.notRun, ih]

@[simp] theorem keep_State_rejectDesc (s : State) (ctx : Nat) (r : Run) : (State.rejectDesc s ctx r).keep = s.keep := by
  unfold State.rejectDesc
  (simp)

@[simp] theorem keep_State_stopRun (s : State) (ctx : Nat) (r : Run) (status fault : Nat) (bad : Option Nat) : (State.stopRun s ctx r status fault bad).keep = s.keep := by
  unfold State.stopRun
  rw [keep_State_settle, keep_State_modRun]
  refine keep_foldl _ (fun s a => ?_) _ _
  split <;> simp

@[simp] theorem keep_State_swapOut (s : State) (part v : Nat) : (State.swapOut s part v).keep = s.keep := by
  unfold State.swapOut
  ((repeat' split) <;> simp)

@[simp] theorem keep_State_beginSwitch (s : State) (part ctx len : Nat) (out : Option Nat) : (State.beginSwitch s part ctx len out).keep = s.keep := by
  unfold State.beginSwitch
  ((repeat' split) <;> simp)

@[simp] theorem keep_State_passSlice (s : State) (part : Nat) : (State.passSlice s part).keep = s.keep := by
  unfold State.passSlice
  (dsimp only; (repeat' split) <;> simp [apply_ite State.keep, apply_ite Flash.image, apply_ite ErrLog.halted, apply_ite Boot.powered, keep_foldl])

@[simp] theorem keep_State_arrive (s : State) (ctx : Nat) : (State.arrive s ctx).keep = s.keep := by
  unfold State.arrive
  (dsimp only; (repeat' split) <;> simp [apply_ite State.keep, apply_ite Flash.image, apply_ite ErrLog.halted, apply_ite Boot.powered, keep_foldl])

@[simp] theorem keep_State_makeMapping (s : State) (fn ctx handle offset size : Nat) : (State.makeMapping s fn ctx handle offset size).keep = s.keep := by
  unfold State.makeMapping
  (simp)

@[simp] theorem keep_State_retryMaps (s : State) (ctx : Nat) : (State.retryMaps s ctx).keep = s.keep := by
  unfold State.retryMaps
  ((try dsimp only); (repeat' split) <;> refine (keep_foldl _ ?_ _ _).trans ?_ <;> (try intro s a) <;> (repeat' split) <;> simp [apply_ite State.keep, apply_ite Flash.image, apply_ite ErrLog.halted, apply_ite Boot.powered, keep_foldl])

@[simp] theorem keep_State_refresh (s0 : State) (ctx : Nat) : (State.refresh s0 ctx).keep = s0.keep := by
  unfold State.refresh
  ((try dsimp only); (repeat' split) <;> simp [apply_ite State.keep, apply_ite Flash.image, apply_ite ErrLog.halted, apply_ite Boot.powered, keep_foldl])

@[simp] theorem keep_State_teardown (s : State) (ctx cause tseq : Nat) : (State.teardown s ctx cause tseq).keep = s.keep := by
  unfold State.teardown
  ((repeat' split) <;> simp)

@[simp] theorem keep_State_faultTickets (s : State) (ctx cause : Nat) (by_ : Option (Nat × Nat × Nat)) : (s.faultTickets ctx cause by_).keep = s.keep := by
  unfold State.faultTickets
  refine keep_foldl _ (fun a r => ?_) _ _
  repeat' split
  all_goals first | rfl | simp

@[simp] theorem keep_State_jobFault (s : State) (ctx cause : Nat) (by_ : Option (Nat × Nat × Nat)) : (State.jobFault s ctx cause by_).keep = s.keep := by
  unfold State.jobFault
  ((repeat' split) <;> simp)

@[simp] theorem keep_State_faultAt (s : State) (ctx : Nat) (r : Run) (cause : Nat) : (State.faultAt s ctx r cause).keep = s.keep := by
  unfold State.faultAt
  (simp)

@[simp] theorem keep_State_wakeNext (s : State) (ctx : Nat) : (State.wakeNext s ctx).keep = s.keep := by
  unfold State.wakeNext
  ((repeat' split) <;> simp)

@[simp] theorem keep_State_countEvent (s : State) (i : Nat) : (State.countEvent s i).keep = s.keep := by
  unfold State.countEvent
  (simp)

@[simp] theorem keep_State_putError (s : State) (r : ErrRec) : (State.putError s r).keep = s.keep := by
  unfold State.putError
  (simp)

@[simp] theorem keep_State_coalesce (s : State) (c : Coalesced) : (State.coalesce s c).keep = s.keep := by
  unfold State.coalesce
  (simp)

@[simp] theorem keep_State_misrouted (s : State) (port : Nat) : (State.misrouted s port).keep = s.keep := by
  unfold State.misrouted
  (simp)

@[simp] theorem keep_State_misroutedMsg (s : State) (port : Nat) : (State.misroutedMsg s port).keep = s.keep := by
  unfold State.misroutedMsg
  (simp [apply_ite State.keep, apply_ite Flash.image, apply_ite ErrLog.halted, apply_ite Boot.powered, keep_foldl])

@[simp] theorem keep_State_commitLogbook (s : State) : (State.commitLogbook s).keep = s.keep := by
  unfold State.commitLogbook
  (simp [apply_ite State.keep, apply_ite Flash.image, apply_ite ErrLog.halted, apply_ite Boot.powered, keep_foldl])

@[simp] theorem keep_State_stopAll (s : State) : (State.stopAll s).keep = s.keep := by
  unfold State.stopAll
  (simp)

/-- Does a property hold of the state that a command's end carries? -/
def CmdEnd.keeps (v : State → Prop) : CmdEnd → Prop
  | .ok _ t => v t
  | .refused _ _ => True
  | .refusedIn _ _ t => v t
  | .malformed => True
  | .notPermitted => True
  | .waits _ t => v t
  | .stays => True

theorem keeps_refuseIf (v : State → Prop) (l : List (Bool × Nat)) (k : CmdEnd) (h : k.keeps v) : (refuseIf l k).keeps v := by
  induction l with
  | nil => exact h
  | cons a l ih => unfold refuseIf; split; exacts [trivial, ih]

theorem keeps_forOwner (v : State → Prop) (h : CmdHead) (ctx : Nat) (k : Ctx → CmdEnd) (s : State) (hk : ∀ x, (k x).keeps v) :
    (forOwner h ctx k s).keeps v := by
  unfold forOwner
  repeat' split
  exacts [trivial, hk _, trivial]

theorem keep_State_endCmd (s : State) (h : CmdHead) (e : CmdEnd) (he : e.keeps (fun t => t.keep = s.keep)) :
    (s.endCmd h e).keep = s.keep := by
  cases e <;> simp_all [State.endCmd, CmdEnd.keeps, apply_ite State.keep]

theorem keep_runCmd (h : CmdHead) (bad pf : Bool) (body : State → CmdEnd) (s : State) (hb : (body s).keeps (fun t => t.keep = s.keep)) :
    (runCmd h bad pf body s).keep = s.keep := by
  unfold runCmd
  repeat' split
  · rfl
  · exact keep_State_endCmd _ _ _ trivial
  · exact keep_State_endCmd _ _ _ trivial
  · exact keep_State_endCmd _ _ _ hb

@[simp] theorem keep_State_tellClasses (s : State) (ctx : Nat) : (State.tellClasses s ctx).keep = s.keep := by
  unfold State.tellClasses
  ((repeat' split) <;> simp [apply_ite State.keep, apply_ite Flash.image, apply_ite ErrLog.halted, apply_ite Boot.powered, keep_foldl])

@[simp] theorem keep_State_staleCtx (s : State) (ctx : Nat) : (State.staleCtx s ctx).keep = s.keep := by
  unfold State.staleCtx
  ((repeat' split) <;> simp [apply_ite State.keep, apply_ite Flash.image, apply_ite ErrLog.halted, apply_ite Boot.powered, keep_foldl])

@[simp] theorem keep_State_planClasses (s : State) (src ctx id : Nat) (cl : Tab Nat) : (State.planClasses s src ctx id cl).keep = s.keep := by
  unfold State.planClasses
  ((repeat' split) <;> simp)

theorem keep_State_retakeMsgs (s : State) (ctx : Nat) (mine : Msg → Bool) (f : State → HeldMsg → State)
    (h : ∀ a m, (f a m).keep = a.keep) : (s.retakeMsgs ctx mine f).keep = s.keep := by
  unfold State.retakeMsgs
  split
  · rfl
  · rw [keep_foldl _ h]; simp

@[simp] theorem keep_State_planDone (s : State) (ctx : Nat) (r : PlanResult) : (s.planDone ctx r).keep = s.keep := by
  unfold State.planDone
  (try dsimp only)
  split
  · rw [keep_State_tellClasses, keep_State_retakeMsgs _ _ _ _ (fun a m => by split <;> simp)]; simp
  · rfl

@[simp] theorem keep_State_planRefused (s : State) (src ctx id : Nat) (mismatch : Bool) : (State.planRefused s src ctx id mismatch).keep = s.keep := by
  unfold State.planRefused
  ((repeat' split) <;> simp)

@[simp] theorem keep_State_planDecide (s : State) (ctx id : Nat) : (State.planDecide s ctx id).keep = s.keep := by
  unfold State.planDecide
  ((repeat' split) <;> simp)

@[simp] theorem keep_State_planReport (s : State) (src ctx : Nat) (p : PlanParams) (classes : Tab Nat) : (State.planReport s src ctx p classes).keep = s.keep := by
  unfold State.planReport
  ((repeat' split) <;> simp)

@[simp] theorem keep_State_planReplay (s : State) (ctx id : Nat) : (s.planReplay ctx id).keep = s.keep :=
  keep_State_retakeMsgs _ _ _ _ (fun a m => by split <;> simp)

@[simp] theorem keep_State_groupDecide (s : State) (ctx group : Nat) : (State.groupDecide s ctx group).keep = s.keep := by
  unfold State.groupDecide
  ((repeat' split) <;> simp)

@[simp] theorem keep_State_groupReport (s : State) (src ctx group : Nat) (ns : List Nat) : (State.groupReport s src ctx group ns).keep = s.keep := by
  unfold State.groupReport
  ((repeat' split) <;> simp)

@[simp] theorem keep_State_groupNodes (s : State) (src ctx group : Nat) (nodes : List (List Nat)) : (State.groupNodes s src ctx group nodes).keep = s.keep := by
  unfold State.groupNodes
  ((repeat' split) <;> simp)

@[simp] theorem keep_State_reportGroup (s : State) (ctx group : Nat) (members : List Nat) : (State.reportGroup s ctx group members).keep = s.keep := by
  unfold State.reportGroup
  (simp)

@[simp] theorem keep_State_groupAsked (s : State) (src ctx group : Nat) : (State.groupAsked s src ctx group).keep = s.keep := by
  unfold State.groupAsked
  ((repeat' split) <;> simp)

@[simp] theorem keep_State_reformGroup (s : State) (ctx group : Nat) (members : List Nat) : (State.reformGroup s ctx group members).keep = s.keep := by
  unfold State.reformGroup
  (simp [apply_ite State.keep, apply_ite Flash.image, apply_ite ErrLog.halted, apply_ite Boot.powered, keep_foldl])

@[simp] theorem keep_State_groupReplay (s : State) (ctx group : Nat) : (s.groupReplay ctx group).keep = s.keep :=
  keep_State_retakeMsgs _ _ _ _ (fun a m => by split <;> simp)

@[simp] theorem keep_State_reachChanged (s : State) : (State.reachChanged s).keep = s.keep := by
  unfold State.reachChanged
  (simp [apply_ite State.keep, apply_ite Flash.image, apply_ite ErrLog.halted, apply_ite Boot.powered, keep_foldl])

@[simp] theorem keep_State_closeWindow (s : State) (stop next : Nat) : (State.closeWindow s stop next).keep = s.keep := by
  unfold State.closeWindow
  ((repeat' split) <;> simp [apply_ite State.keep, apply_ite Flash.image, apply_ite ErrLog.halted, apply_ite Boot.powered, keep_foldl])

@[simp] theorem keep_State_shiftStamps (s : State) (old new : Nat) : (State.shiftStamps s old new).keep = s.keep := by
  unfold State.shiftStamps
  (simp)

@[simp] theorem keep_State_stepTime (s : State) (now : Nat) : (State.stepTime s now).keep = s.keep := by
  unfold State.stepTime
  (simp [apply_ite State.keep, apply_ite Flash.image, apply_ite ErrLog.halted, apply_ite Boot.powered, keep_foldl])

@[simp] theorem keep_State_setPState (s : State) (i : Nat) (st : PState) (step : Nat) : (State.setPState s i st step).keep = s.keep := by
  unfold State.setPState
  (simp [apply_ite State.keep, apply_ite Flash.image, apply_ite ErrLog.halted, apply_ite Boot.powered, keep_foldl])

@[simp] theorem keep_State_elect (s : State) : (State.elect s).keep = s.keep := by
  unfold State.elect
  ((repeat' split) <;> simp [apply_ite State.keep, apply_ite Flash.image, apply_ite ErrLog.halted, apply_ite Boot.powered, keep_foldl])

@[simp] theorem keep_State_countTokens (s : State) (i : Nat) : (State.countTokens s i).keep = s.keep := by
  unfold State.countTokens
  (simp [apply_ite State.keep, apply_ite Flash.image, apply_ite ErrLog.halted, apply_ite Boot.powered, keep_foldl])

@[simp] theorem keep_State_noteLink (s : State) (n : LinkNote) : (State.noteLink s n).keep = s.keep := by
  unfold State.noteLink
  (simp)

@[simp] theorem keep_State_leaveService (s : State) (i : Nat) (st : PState) (step : Nat) : (State.leaveService s i st step).keep = s.keep := by
  unfold State.leaveService
  (simp [apply_ite State.keep, apply_ite Flash.image, apply_ite ErrLog.halted, apply_ite Boot.powered, keep_foldl])

@[simp] theorem keep_State_beginTraining (s : State) (i : Nat) : (State.beginTraining s i).keep = s.keep := by
  unfold State.beginTraining
  (simp [apply_ite State.keep, apply_ite Flash.image, apply_ite ErrLog.halted, apply_ite Boot.powered, keep_foldl])

@[simp] theorem keep_State_retrain (s : State) (i : Nat) : (State.retrain s i).keep = s.keep := by
  unfold State.retrain
  (simp [apply_ite State.keep, apply_ite Flash.image, apply_ite ErrLog.halted, apply_ite Boot.powered, keep_foldl])

@[simp] theorem keep_State_retrainTethers (s : State) : (State.retrainTethers s).keep = s.keep := by
  unfold State.retrainTethers
  (simp [apply_ite State.keep, apply_ite Flash.image, apply_ite ErrLog.halted, apply_ite Boot.powered, keep_foldl])

@[simp] theorem keep_State_sendDown (s : State) (i : Nat) : (State.sendDown s i).keep = s.keep := by
  unfold State.sendDown
  (simp [apply_ite State.keep, apply_ite Flash.image, apply_ite ErrLog.halted, apply_ite Boot.powered, keep_foldl])

@[simp] theorem keep_State_downAll (s : State) : (State.downAll s).keep = s.keep := by
  unfold State.downAll
  (simp [apply_ite State.keep, apply_ite Flash.image, apply_ite ErrLog.halted, apply_ite Boot.powered, keep_foldl])

@[simp] theorem keep_State_finishRelease (s : State) (c : Nat) : (State.finishRelease s c).keep = s.keep := by
  unfold State.finishRelease
  (simp [apply_ite State.keep, apply_ite Flash.image, apply_ite ErrLog.halted, apply_ite Boot.powered, keep_foldl])

@[simp] theorem keep_State_releaseStep (s : State) (i : Nat) : (State.releaseStep s i).keep = s.keep := by
  unfold State.releaseStep
  (simp [apply_ite State.keep, apply_ite Flash.image, apply_ite ErrLog.halted, apply_ite Boot.powered, keep_foldl])

@[simp] theorem keep_State_sign (s : State) (bs : List Byte) : (s.sign bs).2.keep = s.keep := by
  simp [State.sign]

@[simp] theorem keep_State_quote (s : State) (nonce : List Byte) (scope ctx : Nat) : (s.quote nonce scope ctx).2.keep = s.keep := by
  simp [State.quote]

@[simp] theorem keep_State_modTwin (s : State) (g : Twin → Twin) : (State.modTwin s g).keep = s.keep := by
  unfold State.modTwin
  (simp)

@[simp] theorem keep_State_beginAuth (s : State) : (State.beginAuth s).keep = s.keep := by
  unfold State.beginAuth
  ((repeat' split) <;> simp)

@[simp] theorem keep_State_authHello (s : State) (p : Nat) (fresh : Bool) (certs key : List Byte) : (State.authHello s p fresh certs key).keep = s.keep := by
  unfold State.authHello
  (simp [apply_ite State.keep, apply_ite Flash.image, apply_ite ErrLog.halted, apply_ite Boot.powered, keep_foldl])

@[simp] theorem keep_State_authCipher (s : State) (p : Nat) (c : List Byte) : (State.authCipher s p c).keep = s.keep := by
  unfold State.authCipher
  (simp)

@[simp] theorem keep_State_newSession (s : State) (p : Nat) : (State.newSession s p).keep = s.keep := by
  unfold State.newSession
  (simp)

@[simp] theorem keep_State_tagFail (s : State) (port : Nat) : (State.tagFail s port).keep = s.keep := by
  unfold State.tagFail
  dsimp only
  rw [keep_State_retrainTethers, keep_upd (h_flash := rfl) (h_errs := rfl) (h_boot := rfl)]
  simp

theorem keep_onMessage (src vc : Nat) (s : State) (f : State → Arrived → Option State)
    (h : ∀ r a t, f (s.setInbox r) a = some t → t.keep = s.keep) : (onMessage src vc s f).keep = s.keep := by
  unfold onMessage
  split
  · rfl
  · split
    · rfl
    · split
      · rfl
      · split
        · simp
        · exact h _ _ _ (by assumption)

@[simp] theorem keep_State_decideCommit (s : State) (ctx ring tseq status : Nat) : (State.decideCommit s ctx ring tseq status).keep = s.keep := by
  unfold State.decideCommit
  (simp)

@[simp] theorem keep_State_endCommits (s : State) (ctx status : Nat) : (State.endCommits s ctx status).keep = s.keep := by
  unfold State.endCommits
  ((repeat' split) <;> simp [apply_ite State.keep, apply_ite Flash.image, apply_ite ErrLog.halted, apply_ite Boot.powered, keep_foldl])

@[simp] theorem keep_State_freezeRecord (s : State) (ctx ring tseq id : Nat) : (s.freezeRecord ctx ring tseq id).1.keep = s.keep := by
  unfold State.freezeRecord
  split <;> simp

@[simp] theorem keep_State_freeze (s : State) (ctx : Nat) (x : Ctx) (r : Run) : (State.freeze s ctx x r).keep = s.keep := by
  unfold State.freeze
  (dsimp only; (repeat' split) <;> simp [apply_ite State.keep, apply_ite Flash.image, apply_ite ErrLog.halted, apply_ite Boot.powered, keep_foldl])

@[simp] theorem keep_State_sendCommit (s : State) (twin ctx : Nat) (c : Commit) : (State.sendCommit s twin ctx c).keep = s.keep := by
  unfold State.sendCommit
  ((repeat' split) <;> simp [apply_ite State.keep, apply_ite Flash.image, apply_ite ErrLog.halted, apply_ite Boot.powered, keep_foldl])

theorem keep_State_mirrorWrite (s t : State) (m : MirrorMsg) (h : s.mirrorWrite m = some t) : t.keep = s.keep := by
  unfold State.mirrorWrite at h
  dsimp only at h
  repeat' split at h
  all_goals first
    | (cases h; simp; done)
    | (obtain ⟨n, -, rfl⟩ := Option.map_eq_some_iff.mp h; simp)

@[simp] theorem keep_State_sealHere (s : State) (ctx commit : Nat) (sealed : JRec) : (State.sealHere s ctx commit sealed).keep = s.keep := by
  unfold State.sealHere
  ((repeat' split) <;> simp)

@[simp] theorem keep_State_releaseHere (s : State) (ctx commit : Nat) : (State.releaseHere s ctx commit).keep = s.keep := by
  unfold State.releaseHere
  (simp)

@[simp] theorem keep_State_forgetHere (s : State) (ctx : Nat) : (State.forgetHere s ctx).keep = s.keep := by
  unfold State.forgetHere
  (simp)

@[simp] theorem keep_State_requestSeal (s : State) (src ctx : Nat) (x : Ctx) (c : Commit) (rest : List Commit) : (State.requestSeal s src ctx x c rest).keep = s.keep := by
  unfold State.requestSeal
  (simp)

@[simp] theorem keep_State_seal (s : State) (ctx : Nat) (x : Ctx) (c : Commit) (rest : List Commit) : (State.seal s ctx x c rest).keep = s.keep := by
  unfold State.seal
  ((repeat' split) <;> simp)

@[simp] theorem keep_State_sendImage (s : State) (dest ctx commit : Nat) : (State.sendImage s dest ctx commit).keep = s.keep := by
  unfold State.sendImage
  ((repeat' split) <;> simp [apply_ite State.keep, apply_ite Flash.image, apply_ite ErrLog.halted, apply_ite Boot.powered, keep_foldl])

@[simp] theorem keep_State_returnImage (s : State) (dest ctx commit : Nat) : (State.returnImage s dest ctx commit).keep = s.keep := by
  unfold State.returnImage
  (simp)

@[simp] theorem keep_State_recordFrees (s : State) (r : JRec) : (State.recordFrees s r).keep = s.keep := by
  unfold State.recordFrees
  ((repeat' split) <;> simp)

@[simp] theorem keep_State_recordAsks (src : Nat) (s : State) (r : JRec) : (State.recordAsks src s r).keep = s.keep := by
  unfold State.recordAsks
  ((repeat' split) <;> simp)

@[simp] theorem keep_State_takeRecords (s : State) (src : Nat) (recs : List JRec) : (State.takeRecords s src recs).keep = s.keep := by
  unfold State.takeRecords
  (simp [apply_ite State.keep, apply_ite Flash.image, apply_ite ErrLog.halted, apply_ite Boot.powered, keep_foldl])

@[simp] theorem keep_State_resendRecords (s : State) (t : Nat) : (State.resendRecords s t).keep = s.keep := by
  unfold State.resendRecords
  (simp [apply_ite State.keep, apply_ite Flash.image, apply_ite ErrLog.halted, apply_ite Boot.powered, keep_foldl])

@[simp] theorem keep_State_resume (s : State) (t : Nat) : (State.resume s t).keep = s.keep := by
  unfold State.resume
  (simp [apply_ite State.keep, apply_ite Flash.image, apply_ite ErrLog.halted, apply_ite Boot.powered, keep_foldl])

@[simp] theorem keep_State_makeTensor (s : State) (ctx : Nat) (x : Ctx) (p : TensorParams) : (State.makeTensor s ctx x p).keep = s.keep := by
  unfold State.makeTensor
  (simp)

@[simp] theorem keep_State_endMapping (s : State) (fn offset : Nat) : (State.endMapping s fn offset).keep = s.keep := by
  unfold State.endMapping
  (dsimp only; (repeat' split) <;> simp [apply_ite State.keep, apply_ite Flash.image, apply_ite ErrLog.halted, apply_ite Boot.powered, keep_foldl])

@[simp] theorem keep_State_countStray (s : State) (fn off len : Nat) : (State.countStray s fn off len).keep = s.keep := by
  unfold State.countStray
  (simp [apply_ite State.keep, apply_ite Flash.image, apply_ite ErrLog.halted, apply_ite Boot.powered, keep_foldl])

@[simp] theorem keep_State_bar2Wake (s : State) (fn off len : Nat) : (State.bar2Wake s fn off len).keep = s.keep := by
  unfold State.bar2Wake
  split
  · rfl
  · refine keep_foldl _ (fun s e => ?_) _ _
    split <;> simp

@[simp] theorem keep_State_bar2Put (s : State) (fn off : Nat) (b : Byte) : (State.bar2Put s fn off b).keep = s.keep := by
  unfold State.bar2Put
  ((repeat' split) <;> simp [apply_ite State.keep, apply_ite Flash.image, apply_ite ErrLog.halted, apply_ite Boot.powered, keep_foldl])

@[simp] theorem keep_State_makePool (s : State) (ctx : Nat) (x : Ctx) (n pages : Nat) (persistent : Bool) : (State.makePool s ctx x n pages persistent).keep = s.keep := by
  unfold State.makePool
  (simp)

@[simp] theorem keep_State_mapPages (s : State) (slot first seq : Nat) (es : List Word32) : (State.mapPages s slot first seq es).keep = s.keep := by
  unfold State.mapPages
  (simp)

@[simp] theorem keep_State_assignSlot (s : State) (ctx slot : Nat) (prompt : List Byte) : (State.assignSlot s ctx slot prompt).keep = s.keep := by
  unfold State.assignSlot
  (simp)

@[simp] theorem keep_State_makeGroup (s : State) (ctx group : Nat) (ms : List Nat) : (State.makeGroup s ctx group ms).keep = s.keep := by
  unfold State.makeGroup
  (simp [apply_ite State.keep, apply_ite Flash.image, apply_ite ErrLog.halted, apply_ite Boot.powered, keep_foldl])

@[simp] theorem keep_State_beginPlan (s : State) (ctx : Nat) (p : PlanParams) : (State.beginPlan s ctx p).keep = s.keep := by
  unfold State.beginPlan
  (simp)

theorem keep_State_planOrRefuse (s : State) (ctx : Nat) (x : Ctx) (p : PlanParams) :
    (s.planOrRefuse ctx x p).keeps (fun t => t.keep = s.keep) := by
  unfold State.planOrRefuse
  split <;> simp [CmdEnd.keeps]

@[simp] theorem keep_State_makePartition (s : State) (n : Nat) (p : PartitionParams) : (State.makePartition s n p).keep = s.keep := by
  unfold State.makePartition
  (simp)

@[simp] theorem keep_State_clearDie (s : State) (d : Nat) : (State.clearDie s d).keep = s.keep := by
  unfold State.clearDie
  (split <;> simp)

@[simp] theorem keep_State_dropPartition (s : State) (n : Nat) : (State.dropPartition s n).keep = s.keep := by
  unfold State.dropPartition
  split
  · rfl
  · exact (keep_foldl _ keep_State_clearDie _ _).trans (by simp)

@[simp] theorem keep_State_dropCtx (s : State) (ctx : Nat) : (State.dropCtx s ctx).keep = s.keep := by
  unfold State.dropCtx
  ((repeat' split) <;> simp)

@[simp] theorem keep_State_endWaiters (s : State) (ctx : Nat) : (State.endWaiters s ctx).keep = s.keep := by
  unfold State.endWaiters
  ((try dsimp only); (repeat' split) <;> refine (keep_foldl _ ?_ _ _).trans ?_ <;> (try intro s a) <;> (repeat' split) <;> simp [apply_ite State.keep, apply_ite Flash.image, apply_ite ErrLog.halted, apply_ite Boot.powered, keep_foldl])

@[simp] theorem keep_State_restartIdle (s : State) : (State.restartIdle s).keep = s.keep := by
  unfold State.restartIdle
  (simp)

@[simp] theorem keep_State_dropCopies (s : State) (f : Ext → Ext) : (State.dropCopies s f).keep = s.keep := by
  unfold State.dropCopies
  (simp)

@[simp] theorem keep_State_powerEvent (s : State) (cause : Nat) : (State.powerEvent s cause).keep = s.keep := by
  unfold State.powerEvent
  (simp [apply_ite State.keep, apply_ite Flash.image, apply_ite ErrLog.halted, apply_ite Boot.powered, keep_foldl])

@[simp] theorem keep_State_measure (s : State) (r : Sensors) : (State.measure s r).keep = s.keep := by
  unfold State.measure
  (simp)

@[simp] theorem keep_State_stepDown (s : State) (floor : Nat) (thermal : Bool) : (State.stepDown s floor thermal).keep = s.keep := by
  unfold State.stepDown
  (simp [apply_ite State.keep, apply_ite Flash.image, apply_ite ErrLog.halted, apply_ite Boot.powered, keep_foldl])

@[simp] theorem keep_State_exhaust (s : State) (before : Nat) : (State.exhaust s before).keep = s.keep := by
  unfold State.exhaust
  (simp [apply_ite State.keep, apply_ite Flash.image, apply_ite ErrLog.halted, apply_ite Boot.powered, keep_foldl])

@[simp] theorem keep_State_thermal (s : State) : (State.thermal s).keep = s.keep := by
  unfold State.thermal
  (simp [apply_ite State.keep, apply_ite Flash.image, apply_ite ErrLog.halted, apply_ite Boot.powered, keep_foldl])

@[simp] theorem keep_State_beginDesc (s : State) (ctx : Nat) (r : Run) (d : Desc) : (State.beginDesc s ctx r d).keep = s.keep := by
  unfold State.beginDesc
  (simp)

@[simp] theorem keep_State_countVe (s : State) (tile ovf nar : Nat) : (State.countVe s tile ovf nar).keep = s.keep := by
  unfold State.countVe
  (simp [apply_ite State.keep, apply_ite Flash.image, apply_ite ErrLog.halted, apply_ite Boot.powered, keep_foldl])

@[simp] theorem keep_State_countConv (s : State) (ctx : Nat) (st : ConvStatus) : (State.countConv s ctx st).keep = s.keep := by
  unfold State.countConv
  ((repeat' split) <;> simp)

@[simp] theorem keep_State_serveRead (s : State) (src : Nat) (q : ReadReq) : (State.serveRead s src q).keep = s.keep := by
  unfold State.serveRead
  ((repeat' split) <;> simp)

@[simp] theorem keep_State_serveReads (s : State) (ctx : Nat) : (s.serveReads ctx).keep = s.keep :=
  keep_State_retakeMsgs _ _ _ _ (fun a m => by split <;> simp)

@[simp] theorem keep_State_noReplay (s : State) (ctx : Nat) : (State.noReplay s ctx).keep = s.keep := by
  unfold State.noReplay
  (simp)

@[simp] theorem keep_State_dropQueued (s : State) (ctx : Nat) : (State.dropQueued s ctx).keep = s.keep := by
  unfold State.dropQueued
  (simp [apply_ite State.keep, apply_ite Flash.image, apply_ite ErrLog.halted, apply_ite Boot.powered, keep_foldl])

@[simp] theorem keep_State_returnTo (s : State) (ctx : Nat) (x : Ctx) (k : Kept) : (State.returnTo s ctx x k).keep = s.keep := by
  unfold State.returnTo
  (simp [apply_ite State.keep, apply_ite Flash.image, apply_ite ErrLog.halted, apply_ite Boot.powered, keep_foldl])

@[simp] theorem keep_State_rollback (s : State) (ctx : Nat) (x : Ctx) (k : Kept) : (State.rollback s ctx x k).keep = s.keep := by
  unfold State.rollback
  (simp)

@[simp] theorem keep_State_imageIn (s : State) (src : Nat) (m : MirrorMsg) : (State.imageIn s src m).keep = s.keep := by
  unfold State.imageIn
  ((repeat' split) <;> simp [apply_ite State.keep, apply_ite Flash.image, apply_ite ErrLog.halted, apply_ite Boot.powered, keep_foldl])

@[simp] theorem keep_State_addReplayed (s : State) (ctx : Nat) (q : Run) : (State.addReplayed s ctx q).keep = s.keep := by
  unfold State.addReplayed
  (simp [apply_ite State.keep, apply_ite Flash.image, apply_ite ErrLog.halted, apply_ite Boot.powered, keep_foldl])

@[simp] theorem keep_State_markRestart (s : State) (ctx slot : Nat) : (State.markRestart s ctx slot).keep = s.keep := by
  unfold State.markRestart
  (simp [apply_ite State.keep, apply_ite Flash.image, apply_ite ErrLog.halted, apply_ite Boot.powered, keep_foldl])

@[simp] theorem keep_State_applyOp (s : State) (ctx : Nat) (x : Ctx) (seq : Nat) (op : ConfigOp) (prompt : List Byte) : (State.applyOp s ctx x seq op prompt).keep = s.keep := by
  unfold State.applyOp
  ((repeat' split) <;> simp)

@[simp] theorem keep_State_replayWrites (s : State) (ctx : Nat) (rs : List JRec) : (State.replayWrites s ctx rs).keep = s.keep := by
  unfold State.replayWrites
  ((try dsimp only); (repeat' split) <;> refine (keep_foldl _ ?_ _ _).trans ?_ <;> (try intro s a) <;> (repeat' split) <;> simp [apply_ite State.keep, apply_ite Flash.image, apply_ite ErrLog.halted, apply_ite Boot.powered, keep_foldl])

@[simp] theorem keep_State_replayAll (s : State) (ctx : Nat) (x : Ctx) : (State.replayAll s ctx x).keep = s.keep := by
  unfold State.replayAll
  (simp [apply_ite State.keep, apply_ite Flash.image, apply_ite ErrLog.halted, apply_ite Boot.powered, keep_foldl])

@[simp] theorem keep_State_rejoin (s : State) (ctx : Nat) : (State.rejoin s ctx).keep = s.keep := by
  unfold State.rejoin
  (simp [apply_ite State.keep, apply_ite Flash.image, apply_ite ErrLog.halted, apply_ite Boot.powered, keep_foldl])

@[simp] theorem keep_State_rebuild (s : State) (t : RestoreTables) : (State.rebuild s t).keep = s.keep := by
  unfold State.rebuild
  ((try dsimp only); (repeat' split) <;> refine (keep_foldl _ ?_ _ _).trans ?_ <;> (try intro s a) <;> (repeat' split) <;> simp [apply_ite State.keep, apply_ite Flash.image, apply_ite ErrLog.halted, apply_ite Boot.powered, keep_foldl])

@[simp] theorem keep_State_resealAll (s : State) : (State.resealAll s).keep = s.keep := by
  unfold State.resealAll
  (simp [apply_ite State.keep, apply_ite Flash.image, apply_ite ErrLog.halted, apply_ite Boot.powered, keep_foldl])

@[simp] theorem keep_State_inPlaceFault (s : State) (ctx : Nat) (x : Ctx) : (State.inPlaceFault s ctx x).keep = s.keep := by
  unfold State.inPlaceFault
  (simp)

@[simp] theorem keep_State_restartPaired (s : State) : (State.restartPaired s).keep = s.keep := by
  unfold State.restartPaired
  ((try dsimp only); (repeat' split) <;> refine (keep_foldl _ ?_ _ _).trans ?_ <;> (try intro s a) <;> (repeat' split) <;> simp [apply_ite State.keep, apply_ite Flash.image, apply_ite ErrLog.halted, apply_ite Boot.powered, keep_foldl])

@[simp] theorem keep_State_inPlace (s : State) (ctx : Nat) (x : Ctx) : (State.inPlace s ctx x).keep = s.keep := by
  unfold State.inPlace
  ((repeat' split) <;> simp)

@[simp] theorem keep_State_restartInPlace (s : State) : (State.restartInPlace s).keep = s.keep := by
  unfold State.restartInPlace
  ((try dsimp only); (repeat' split) <;> refine (keep_foldl _ ?_ _ _).trans ?_ <;> (try intro s a) <;> (repeat' split) <;> simp [apply_ite State.keep, apply_ite Flash.image, apply_ite ErrLog.halted, apply_ite Boot.powered, keep_foldl])

@[simp] theorem keep_State_restartJobs (s : State) (paired : Bool) : (State.restartJobs s paired).keep = s.keep := by
  unfold State.restartJobs
  (simp [apply_ite State.keep, apply_ite Flash.image, apply_ite ErrLog.halted, apply_ite Boot.powered, keep_foldl])

@[simp] theorem keep_State_refusePort (s : State) (i cause : Nat) (f : TrainFlit) : (State.refusePort s i cause f).keep = s.keep := by
  unfold State.refusePort
  (simp [apply_ite State.keep, apply_ite Flash.image, apply_ite ErrLog.halted, apply_ite Boot.powered, keep_foldl])

@[simp] theorem keep_State_restartPeer (s : State) (d inc : Nat) : (State.restartPeer s d inc).keep = s.keep := by
  unfold State.restartPeer
  (simp [apply_ite State.keep, apply_ite Flash.image, apply_ite ErrLog.halted, apply_ite Boot.powered, keep_foldl])

@[simp] theorem keep_State_seeIncarnation (s : State) (f : TrainFlit) : (State.seeIncarnation s f).keep = s.keep := by
  unfold State.seeIncarnation
  ((repeat' split) <;> simp)

@[simp] theorem keep_State_sendSync (s : State) (i : Nat) : (State.sendSync s i).keep = s.keep := by
  unfold State.sendSync
  (simp)

@[simp] theorem keep_State_askTwin (s : State) : (State.askTwin s).keep = s.keep := by
  unfold State.askTwin
  ((repeat' split) <;> simp [apply_ite State.keep, apply_ite Flash.image, apply_ite ErrLog.halted, apply_ite Boot.powered, keep_foldl])

@[simp] theorem keep_State_tetherEnters (s : State) : (State.tetherEnters s).keep = s.keep := by
  unfold State.tetherEnters
  ((repeat' split) <;> simp [apply_ite State.keep, apply_ite Flash.image, apply_ite ErrLog.halted, apply_ite Boot.powered, keep_foldl])

@[simp] theorem keep_State_enterService (s : State) (i rtt : Nat) : (State.enterService s i rtt).keep = s.keep := by
  unfold State.enterService
  (simp [apply_ite State.keep, apply_ite Flash.image, apply_ite ErrLog.halted, apply_ite Boot.powered, keep_foldl])

@[simp] theorem keep_State_discipline (s : State) (i : Nat) (t1 t2 t3 t4 : Int) (peerSync : Bool) : (State.discipline s i t1 t2 t3 t4 peerSync).keep = s.keep := by
  unfold State.discipline
  (simp [apply_ite State.keep, apply_ite Flash.image, apply_ite ErrLog.halted, apply_ite Boot.powered, keep_foldl])

@[simp] theorem keep_State_onAck (s : State) (port seq : Nat) (nak : Bool) : (State.onAck s port seq nak).keep = s.keep := by
  unfold State.onAck
  (simp [apply_ite State.keep, apply_ite Flash.image, apply_ite ErrLog.halted, apply_ite Boot.powered, keep_foldl])

@[simp] theorem keep_State_startPacket (s : State) (i : Nat) (c : Choice) : (State.startPacket s i c).keep = s.keep := by
  unfold State.startPacket
  (simp)

@[simp] theorem keep_Filling_slot (i : Nat) (a : Filling) (k : Nat) : (a.slot i k).s.keep = a.s.keep := by
  unfold Filling.slot
  dsimp only
  repeat' split
  all_goals first | rfl | simp

theorem keep_Filling_foldl (i : Nat) (l : List Nat) (a : Filling) : (l.foldl (Filling.slot i) a).s.keep = a.s.keep := by
  induction l generalizing a with
  | nil => rfl
  | cons k l ih => simp [ih]

@[simp] theorem keep_State_sendGroup (s : State) (i : Nat) : (s.sendGroup i).keep = s.keep := by
  unfold State.sendGroup
  dsimp only
  rw [keep_State_modPort, keep_Filling_foldl]

@[simp] theorem keep_State_setTwin (s : State) (st : TState) : (State.setTwin s st).keep = s.keep := by
  unfold State.setTwin
  (simp [apply_ite State.keep, apply_ite Flash.image, apply_ite ErrLog.halted, apply_ite Boot.powered, keep_foldl])

@[simp] theorem keep_State_refuseTwin (s : State) (cause peer : Nat) : (State.refuseTwin s cause peer).keep = s.keep := by
  unfold State.refuseTwin
  (simp)

@[simp] theorem keep_State_enterPaired (s : State) : (State.enterPaired s).keep = s.keep := by
  unfold State.enterPaired
  ((repeat' split) <;> simp [apply_ite State.keep, apply_ite Flash.image, apply_ite ErrLog.halted, apply_ite Boot.powered, keep_foldl])

@[simp] theorem keep_State_pairStep (s : State) : (State.pairStep s).keep = s.keep := by
  unfold State.pairStep
  ((repeat' split) <;> simp)

@[simp] theorem keep_State_tellTo (s : State) (dest : Nat) (asks : Bool) : (State.tellTo s dest asks).keep = s.keep := by
  unfold State.tellTo
  (simp [apply_ite State.keep, apply_ite Flash.image, apply_ite ErrLog.halted, apply_ite Boot.powered, keep_foldl])

@[simp] theorem keep_State_tellPair (s : State) : (State.tellPair s).keep = s.keep := by
  unfold State.tellPair
  ((repeat' split) <;> simp)

@[simp] theorem keep_State_freePartner (s : State) : (State.freePartner s).keep = s.keep := by
  unfold State.freePartner
  (simp)

@[simp] theorem keep_State_unpair (s : State) (discard : Bool) : (State.unpair s discard).keep = s.keep := by
  unfold State.unpair
  ((repeat' split) <;> simp)

@[simp] theorem keep_State_answerRestore (s : State) (r : RestoreReq) : (State.answerRestore s r).keep = s.keep := by
  unfold State.answerRestore
  ((repeat' split) <;> simp)

@[simp] theorem keep_State_loseTwin (s : State) : (State.loseTwin s).keep = s.keep := by
  unfold State.loseTwin
  (dsimp only; (repeat' split) <;> simp [apply_ite State.keep, apply_ite Flash.image, apply_ite ErrLog.halted, apply_ite Boot.powered, keep_foldl])

@[simp] theorem keep_State_refuseRestore (s : State) (h : CmdHead) (cause : Nat) : (State.refuseRestore s h cause).keep = s.keep := by
  unfold State.refuseRestore
  (simp)

@[simp] theorem keep_State_restorePasses (s : State) : (State.restorePasses s).keep = s.keep := by
  unfold State.restorePasses
  ((repeat' split) <;> simp)

@[simp] theorem keep_State_restoreFails (s : State) (cause : Nat) : (State.restoreFails s cause).keep = s.keep := by
  unfold State.restoreFails
  ((repeat' split) <;> simp)

@[simp] theorem keep_State_authDone (s : State) (p : Nat) : (State.authDone s p).keep = s.keep := by
  unfold State.authDone
  (dsimp only; (repeat' split) <;> simp [apply_ite State.keep, apply_ite Flash.image, apply_ite ErrLog.halted, apply_ite Boot.powered, keep_foldl])

@[simp] theorem keep_State_authFailed (s : State) (p : Nat) : (State.authFailed s p).keep = s.keep := by
  unfold State.authFailed
  ((repeat' split) <;> simp)

@[simp] theorem keep_State_releaseCommit (s : State) (ctx : Nat) (k : Kept) : (State.releaseCommit s ctx k).keep = s.keep := by
  unfold State.releaseCommit
  (dsimp only; (repeat' split) <;> simp [apply_ite State.keep, apply_ite Flash.image, apply_ite ErrLog.halted, apply_ite Boot.powered, keep_foldl])

@[simp] theorem keep_State_restoreAnswered (s : State) (src : Nat) (facts : Option (Nat × Nat)) : (State.restoreAnswered s src facts).keep = s.keep := by
  unfold State.restoreAnswered
  ((repeat' split) <;> simp)

@[simp] theorem keep_State_restoreHeard (s : State) (src : Nat) (ok : Bool) : (State.restoreHeard s src ok).keep = s.keep := by
  unfold State.restoreHeard
  ((repeat' split) <;> simp)

@[simp] theorem keep_State_served (s : State) (r : RestoreReq) : (s.served r).keep = s.keep := by
  unfold State.served
  dsimp only
  refine (keep_foldl _ (fun a k => ?_) _ _).trans (by simp)
  repeat' split
  all_goals first | rfl | simp

@[simp] theorem keep_State_restoreEnds (s : State) (r : Restoring) : (State.restoreEnds s r).keep = s.keep := by
  unfold State.restoreEnds
  (simp [apply_ite State.keep, apply_ite Flash.image, apply_ite ErrLog.halted, apply_ite Boot.powered, keep_foldl])

@[simp] theorem keep_State_restoreNext (s : State) (r : Restoring) : (State.restoreNext s r).keep = s.keep := by
  unfold State.restoreNext
  ((repeat' split) <;> simp)

@[simp] theorem keep_State_discover (s : State) (ident : Nat) (block : Bool) (port : Nat) : (State.discover s ident block port).keep = s.keep := by
  unfold State.discover
  (simp [apply_ite State.keep, apply_ite Flash.image, apply_ite ErrLog.halted, apply_ite Boot.powered, keep_foldl])

@[simp] theorem keep_State_answerRecord (s : State) (src : Nat) (partner : Bool) (seq : Nat) : (State.answerRecord s src partner seq).keep = s.keep := by
  unfold State.answerRecord
  ((repeat' split) <;> simp)

@[simp] theorem keep_State_takeRecord (s : State) (partner : Bool) (r : JRec) : (State.takeRecord s partner r).keep = s.keep := by
  unfold State.takeRecord
  (simp)

@[simp] theorem keep_State_mirrorFault (s : State) (ctx commit : Nat) (e : ExtentId) (time : Nat) : (State.mirrorFault s ctx commit e time).keep = s.keep := by
  unfold State.mirrorFault
  (simp)

@[simp] theorem keep_State_hearPair (s : State) (src : Nat) (i : PairInfo) : (State.hearPair s src i).keep = s.keep := by
  unfold State.hearPair
  (simp [apply_ite State.keep, apply_ite Flash.image, apply_ite ErrLog.halted, apply_ite Boot.powered, keep_foldl])

@[simp] theorem keep_State_serveImage (s : State) (ident : Nat) : (State.serveImage s ident).keep = s.keep := by
  unfold State.serveImage
  ((repeat' split) <;> simp [apply_ite State.keep, apply_ite Flash.image, apply_ite ErrLog.halted, apply_ite Boot.powered, keep_foldl])

theorem keep_State_onGroup (s : State) (a : Arrived) (ctx group : Nat) (f : State → State) (h : (f s).keep = s.keep) :
    (s.onGroup a ctx group f).keep = s.keep := by
  unfold State.onGroup
  split
  · simp
  · exact h

@[simp] theorem keep_State_writeCtrl (s : State) (g a n : Nat) : (State.writeCtrl s g a n).keep = s.keep := by
  unfold State.writeCtrl
  ((repeat' split) <;> simp)

@[simp] theorem keep_State_drainHold (s : State) (fn : Nat) : (State.drainHold s fn).keep = s.keep := by
  unfold State.drainHold
  (simp [apply_ite State.keep, apply_ite Flash.image, apply_ite ErrLog.halted, apply_ite Boot.powered, keep_foldl])

@[simp] theorem keep_State_mboxCfg (s : State) (fn : Nat) (v : Word32) : (State.mboxCfg s fn v).keep = s.keep := by
  unfold State.mboxCfg
  (simp)

@[simp] theorem keep_State_evqCfg (s : State) (fn : Nat) (v : Word32) : (State.evqCfg s fn v).keep = s.keep := by
  unfold State.evqCfg
  (simp)

@[simp] theorem keep_State_mboxTail (s : State) (fn : Nat) (v : Word32) (readFails : Bool) : (State.mboxTail s fn v readFails).keep = s.keep := by
  unfold State.mboxTail
  (simp)

@[simp] theorem keep_State_badDoorbell (s : State) (fn : Nat) : (State.badDoorbell s fn).keep = s.keep := by
  unfold State.badDoorbell
  (simp)

@[simp] theorem keep_State_doorbell (s : State) (fn ring width tailSeq : Nat) : (State.doorbell s fn ring width tailSeq).keep = s.keep := by
  unfold State.doorbell
  ((repeat' split) <;> simp [apply_ite State.keep, apply_ite Flash.image, apply_ite ErrLog.halted, apply_ite Boot.powered, keep_foldl])

@[simp] theorem keep_State_logData (s : State) : s.logData.2.keep = s.keep := by
  simp [State.logData]

@[simp] theorem keep_State_read32 (s : State) (fn off : Nat) : (s.read32 fn off).2.keep = s.keep := by
  unfold State.read32
  repeat' split
  all_goals first | rfl | simp

@[simp] theorem keep_State_answerRead (s : State) (fn off : Nat) : (State.answerRead s fn off).keep = s.keep := by
  unfold State.answerRead
  (simp [apply_ite State.keep, apply_ite Flash.image, apply_ite ErrLog.halted, apply_ite Boot.powered, keep_foldl])

@[simp] theorem keep_State_snap (s : State) (v : Word32) : (State.snap s v).keep = s.keep := by
  unfold State.snap
  (simp [apply_ite State.keep, apply_ite Flash.image, apply_ite ErrLog.halted, apply_ite Boot.powered, keep_foldl])

@[simp] theorem keep_State_keepAwake (s : State) (v : Word32) : (State.keepAwake s v).keep = s.keep := by
  unfold State.keepAwake
  ((try dsimp only); (repeat' split) <;> refine (keep_foldl _ ?_ _ _).trans ?_ <;> (try intro s a) <;> (repeat' split) <;> simp [apply_ite State.keep, apply_ite Flash.image, apply_ite ErrLog.halted, apply_ite Boot.powered, keep_foldl])

@[simp] theorem keep_State_telemCfg (s : State) (v : Word32) : (State.telemCfg s v).keep = s.keep := by
  unfold State.telemCfg
  (simp [apply_ite State.keep, apply_ite Flash.image, apply_ite ErrLog.halted, apply_ite Boot.powered, keep_foldl])

@[simp] theorem keep_State_telemPeriod (s : State) (v : Word32) : (State.telemPeriod s v).keep = s.keep := by
  unfold State.telemPeriod
  (simp [apply_ite State.keep, apply_ite Flash.image, apply_ite ErrLog.halted, apply_ite Boot.powered, keep_foldl])

@[simp] theorem keep_State_writeRecovery (s : State) (off : Nat) (v : Word32) : (State.writeRecovery s off v).keep = s.keep := by
  unfold State.writeRecovery
  (simp [apply_ite State.keep, apply_ite Flash.image, apply_ite ErrLog.halted, apply_ite Boot.powered, keep_foldl])

@[simp] theorem keep_State_writeErr (s : State) (off : Nat) (v : Word32) : (State.writeErr s off v).keep = s.keep := by
  unfold State.writeErr
  (simp [apply_ite State.keep, apply_ite Flash.image, apply_ite ErrLog.halted, apply_ite Boot.powered, keep_foldl])

@[simp] theorem keep_State_writeModule (s : State) (off : Nat) (v : Word32) : (State.writeModule s off v).keep = s.keep := by
  unfold State.writeModule
  (simp [apply_ite State.keep, apply_ite Flash.image, apply_ite ErrLog.halted, apply_ite Boot.powered, keep_foldl])

@[simp] theorem keep_State_writeFn (s : State) (fn off : Nat) (v : Word32) : (State.writeFn s fn off v).keep = s.keep := by
  unfold State.writeFn
  (simp [apply_ite State.keep, apply_ite Flash.image, apply_ite ErrLog.halted, apply_ite Boot.powered, keep_foldl])

@[simp] theorem keep_State_writeReg (s : State) (fn off : Nat) (v : Word32) : (State.writeReg s fn off v).keep = s.keep := by
  unfold State.writeReg
  ((repeat' split) <;> simp)

@[simp] theorem keep_State_writeBar0 (s : State) (fn off width value : Nat) : (State.writeBar0 s fn off width value).keep = s.keep := by
  unfold State.writeBar0
  ((repeat' split) <;> simp)

@[simp] theorem keep_State_makeUnavailable (s : State) (fn : Nat) : (State.makeUnavailable s fn).keep = s.keep := by
  unfold State.makeUnavailable
  (simp [apply_ite State.keep, apply_ite Flash.image, apply_ite ErrLog.halted, apply_ite Boot.powered, keep_foldl])

@[simp] theorem keep_State_resetFn (s : State) (fn : Nat) : (State.resetFn s fn).keep = s.keep := by
  unfold State.resetFn
  (simp)

@[simp] theorem keep_State_bootTwin (s : State) : (State.bootTwin s).keep = s.keep := by
  unfold State.bootTwin
  (dsimp only; (repeat' split) <;> simp [apply_ite State.keep, apply_ite Flash.image, apply_ite ErrLog.halted, apply_ite Boot.powered, keep_foldl])

@[simp] theorem keep_State_recoveryFails (s : State) (cause : Nat) : (State.recoveryFails s cause).keep = s.keep := by
  unfold State.recoveryFails
  dsimp only
  split <;> simp

@[simp] theorem keep_State_countDone (s : State) (ctx : Nat) (v : VecDone) : (State.countDone s ctx v).keep = s.keep := by
  unfold State.countDone
  (simp [apply_ite State.keep, apply_ite Flash.image, apply_ite ErrLog.halted, apply_ite Boot.powered, keep_foldl])

@[simp] theorem keep_State_vecRun (s : State) (ctx : Nat) (r : Run) (d : Desc) (ok : Bool) (run : Ctx → Option VecDone) : (State.vecRun s ctx r d ok run).keep = s.keep := by
  unfold State.vecRun
  (dsimp only; (repeat' split) <;> simp [apply_ite State.keep, apply_ite Flash.image, apply_ite ErrLog.halted, apply_ite Boot.powered, keep_foldl])

@[simp] theorem keep_State_vec (s : State) (ctx op func : Nat) : (State.vec s ctx op func).keep = s.keep := by
  unfold State.vec
  ((repeat' split) <;> simp)

@[simp] theorem keep_State_setOp (s : State) (ctx : Nat) (o : MatOp) : (State.setOp s ctx o).keep = s.keep := by
  unfold State.setOp
  (simp)

@[simp] theorem keep_State_dropOp (s : State) (ctx : Nat) (o : MatOp) : (State.dropOp s ctx o).keep = s.keep := by
  unfold State.dropOp
  (simp)

theorem keep_iterUp (f : State → Nat → State) (h : ∀ s n, (f s n).keep = s.keep) (n : Nat) (s : State) : (iterUp f n s).keep = s.keep := by
  induction n with
  | zero => rfl
  | succ n ih => rw [iterUp, h, ih]

@[simp] theorem keep_State_touchTile (s : State) (tile : Nat) : (State.touchTile s tile).keep = s.keep := by
  unfold State.touchTile
  (simp)

@[simp] theorem keep_State_drainMat (s : State) (ctx : Nat) (x : Ctx) (o : MatOp) (r : Run) (d : Desc) : (State.drainMat s ctx x o r d).keep = s.keep := by
  unfold State.drainMat
  (dsimp only; (repeat' split) <;> simp [apply_ite State.keep, apply_ite Flash.image, apply_ite ErrLog.halted, apply_ite Boot.powered, keep_foldl])

@[simp] theorem keep_State_endMat (s : State) (ctx : Nat) (o : MatOp) : (State.endMat s ctx o).keep = s.keep := by
  unfold State.endMat
  ((repeat' split) <;> simp [apply_ite State.keep, apply_ite Flash.image, apply_ite ErrLog.halted, apply_ite Boot.powered, keep_foldl])

@[simp] theorem keep_State_putOp (s : State) (ctx : Nat) (o : MatOp) : (State.putOp s ctx o).keep = s.keep := by
  unfold State.putOp
  (simp)

@[simp] theorem keep_State_feedChains (s : State) (ctx : Nat) (o : MatOp) (r : Run) : (State.feedChains s ctx o r).keep = s.keep := by
  unfold State.feedChains
  ((repeat' split) <;> simp)

@[simp] theorem keep_State_startMat (s : State) (ctx : Nat) (r : Run) (d : Desc) (m : MatDesc) : (State.startMat s ctx r d m).keep = s.keep := by
  unfold State.startMat
  dsimp only
  split
  · rfl
  · rw [keep_State_refresh, keep_State_feedChains, keep_foldl _ (fun s a => keep_State_touchTile s a),
      keep_foldl _ (fun s a => keep_State_wakeCluster s a)]
    simp

@[simp] theorem keep_State_seenByTask (s : State) (x : Ctx) (k : TaskId) : (State.seenByTask s x k).keep = s.keep := by
  unfold State.seenByTask
  (simp)

@[simp] theorem keep_State_bringIn (s : State) (ctx tile : Nat) (ps : List PieceId) : (State.bringIn s ctx tile ps).keep = s.keep := by
  unfold State.bringIn
  (simp [apply_ite State.keep, apply_ite Flash.image, apply_ite ErrLog.halted, apply_ite Boot.powered, keep_foldl])

@[simp] theorem keep_State_fillStage (s : State) (tile eng : Nat) : (State.fillStage s tile eng).keep = s.keep := by
  unfold State.fillStage
  ((repeat' split) <;> simp)

@[simp] theorem keep_State_putGroup (s : State) (tile eng i : Nat) (g : Group) : (State.putGroup s tile eng i g).keep = s.keep := by
  unfold State.putGroup
  (simp)

@[simp] theorem keep_State_freeAt (s : State) (tile eng i : Nat) : (State.freeAt s tile eng i).keep = s.keep := by
  unfold State.freeAt
  (simp)

theorem keep_State_takeSaved {s t : State} {o : MatOp} {k : TaskId} {ws : List Chain} (h : s.takeSaved o k = some (ws, t)) : t.keep = s.keep := by
  unfold State.takeSaved at h
  obtain ⟨v, -, hv⟩ := Option.map_eq_some_iff.mp h
  cases hv; simp

theorem keep_State_takeChunk {s t : State} {o o1 : MatOp} {k : TaskId} {ws : List Chain} (h : s.takeChunk o k = some (ws, o1, t)) :
    t.keep = s.keep := by
  unfold State.takeChunk at h
  split at h
  · cases h; rfl
  · split at h
    · cases h; simp
    · obtain ⟨⟨ws', t'⟩, hv, hr⟩ := Option.map_eq_some_iff.mp h
      cases hr
      exact keep_State_takeSaved hv

theorem keep_State_putMerged (s : State) (x : Ctx) (ctx : Nat) (old new : MatOp) (s1 : State) (h : s1.keep = s.keep) :
    (s.putMerged x ctx old new s1).keep = s.keep := by
  unfold State.putMerged
  split <;> simp [h]

@[simp] theorem keep_State_sendScale (s : State) (ctx me : Nat) (c : Coll) (dg : Digest) : (State.sendScale s ctx me c dg).keep = s.keep := by
  unfold State.sendScale
  (simp)

@[simp] theorem keep_State_hallmarkMiss (s : State) (ctx : Nat) (c : Coll) (unit : Nat) : (State.hallmarkMiss s ctx c unit).keep = s.keep := by
  unfold State.hallmarkMiss
  (simp)

@[simp] theorem keep_State_putOut (s : State) (ctx : Nat) (o : CollOut) : (State.putOut s ctx o).keep = s.keep := by
  unfold State.putOut
  (simp [apply_ite State.keep, apply_ite Flash.image, apply_ite ErrLog.halted, apply_ite Boot.powered, keep_foldl])

@[simp] theorem keep_State_retire (s : State) (ctx : Nat) (y : Ctx) (c : Coll) (st : ConvStatus) : (State.retire s ctx y c st).keep = s.keep := by
  unfold State.retire
  (simp)

@[simp] theorem keep_State_faultColl (s : State) (ctx : Nat) (c : Coll) (cause : Nat) : (State.faultColl s ctx c cause).keep = s.keep := by
  unfold State.faultColl
  (simp)

@[simp] theorem keep_State_lowMiddle (s : State) (ctx me : Nat) (x : Ctx) (c : Coll) : (State.lowMiddle s ctx me x c).keep = s.keep := by
  unfold State.lowMiddle
  ((repeat' split) <;> simp)

@[simp] theorem keep_State_lowEnd (s : State) (ctx me : Nat) (x : Ctx) (c : Coll) : (State.lowEnd s ctx me x c).keep = s.keep := by
  unfold State.lowEnd
  (dsimp only; (repeat' split) <;> simp [apply_ite State.keep, apply_ite Flash.image, apply_ite ErrLog.halted, apply_ite Boot.powered, keep_foldl])

@[simp] theorem keep_State_endRound (s : State) (ctx me : Nat) (x : Ctx) (c : Coll) : (State.endRound s ctx me x c).keep = s.keep := by
  unfold State.endRound
  ((repeat' split) <;> simp)

@[simp] theorem keep_State_startCopies (s : State) (ctx me : Nat) (x : Ctx) (c : Coll) : (State.startCopies s ctx me x c).keep = s.keep := by
  unfold State.startCopies
  ((repeat' split) <;> simp)

@[simp] theorem keep_State_finishCopy (s : State) (ctx me : Nat) (x : Ctx) (c : Coll) : (State.finishCopy s ctx me x c).keep = s.keep := by
  unfold State.finishCopy
  (dsimp only; (repeat' split) <;> simp [apply_ite State.keep, apply_ite Flash.image, apply_ite ErrLog.halted, apply_ite Boot.powered, keep_foldl])

@[simp] theorem keep_State_stepColl (s : State) (ctx : Nat) (c : Coll) : (State.stepColl s ctx c).keep = s.keep := by
  unfold State.stepColl
  ((repeat' split) <;> simp [apply_ite State.keep, apply_ite Flash.image, apply_ite ErrLog.halted, apply_ite Boot.powered, keep_foldl])

@[simp] theorem keep_State_holdMsg (s : State) (ctx : Nat) (m : HeldMsg) : (State.holdMsg s ctx m).keep = s.keep := by
  unfold State.holdMsg
  (simp)

@[simp] theorem keep_State_takeXs (s : State) (ctx : Nat) (c : Coll) (m : XsMsg) : (State.takeXs s ctx c m).keep = s.keep := by
  unfold State.takeXs
  (simp [apply_ite State.keep, apply_ite Flash.image, apply_ite ErrLog.halted, apply_ite Boot.powered, keep_foldl])

@[simp] theorem keep_State_takeXd (s : State) (ctx me port : Nat) (c : Coll) (m : XdMsg) : (State.takeXd s ctx me port c m).keep = s.keep := by
  unfold State.takeXd
  (simp [apply_ite State.keep, apply_ite Flash.image, apply_ite ErrLog.halted, apply_ite Boot.powered, keep_foldl])

@[simp] theorem keep_State_takeXv (s : State) (ctx : Nat) (c : Coll) (m : XvMsg) : (State.takeXv s ctx c m).keep = s.keep := by
  unfold State.takeXv
  (simp)

@[simp] theorem keep_State_takeCopy (s : State) (ctx : Nat) (c : Coll) (m : CopyMsg) : (State.takeCopy s ctx c m).keep = s.keep := by
  unfold State.takeCopy
  (simp)

@[simp] theorem keep_State_relay (s : State) (ctx me : Nat) (g : XGroup) (msg : Msg) (m : CopyMsg) : (State.relay s ctx me g msg m).keep = s.keep := by
  unfold State.relay
  ((repeat' split) <;> simp)

@[simp] theorem keep_State_deliverColl (s : State) (ctx : Nat) (m : HeldMsg) : (State.deliverColl s ctx m).keep = s.keep := by
  unfold State.deliverColl
  ((repeat' split) <;> simp)

@[simp] theorem keep_State_pumpOnce (s : State) (ctx : Nat) : (State.pumpOnce s ctx).keep = s.keep := by
  unfold State.pumpOnce
  split
  · rfl
  · have h : ∀ (l : List Coll) (a : State), (l.foldl (fun a k => match (a.ctx? ctx).bind (fun y => y.colls.find? (fun c => c.is k)) with
        | some c => a.stepColl ctx c
        | none => a) a).keep = a.keep := fun l a => keep_foldl _ (fun a k => by split <;> simp) l a
    dsimp only
    split
    · exact h _ _
    · exact (keep_foldl _ (fun a m => keep_State_deliverColl a ctx m) _ _).trans ((keep_State_setCtx _ _ _).trans (h _ _))

@[simp] theorem keep_State_pumpColls (s : State) (ctx : Nat) : (s.pumpColls ctx).keep = s.keep := by
  unfold State.pumpColls
  rw [keep_State_refresh, keep_State_serveReads]
  exact keep_iterUp _ (fun a _ => keep_State_pumpOnce a ctx) _ _

@[simp] theorem keep_State_startColl (s : State) (ctx me : Nat) (r : Run) (d : Desc) (ep : Nat × Bool) (c : Coll) (dg : Digest) : (State.startColl s ctx me r d ep c dg).keep = s.keep := by
  unfold State.startColl
  (simp)

@[simp] theorem keep_State_onColl (s : State) (src : Nat) (mine : Msg → Bool) : (State.onColl s src mine).keep = s.keep := by
  unfold State.onColl
  ((repeat' split) <;> simp [apply_ite State.keep, apply_ite Flash.image, apply_ite ErrLog.halted, apply_ite Boot.powered, keep_foldl])

@[simp] theorem keep_State_noteError (s : State) (r : ErrorReport) (cls action : Nat) : (State.noteError s r cls action).keep = s.keep := by
  unfold State.noteError
  (simp)

@[simp] theorem keep_State_noteCtx (s : State) (r : ErrorReport) (cls ctx action : Nat) : (State.noteCtx s r cls ctx action).keep = s.keep := by
  unfold State.noteCtx
  (simp)

@[simp] theorem keep_State_ueJob (s : State) (r : ErrorReport) (cls ctx : Nat) : (State.ueJob s r cls ctx).keep = s.keep := by
  unfold State.ueJob
  (dsimp only; (repeat' split) <;> simp [apply_ite State.keep, apply_ite Flash.image, apply_ite ErrLog.halted, apply_ite Boot.powered, keep_foldl])

@[simp] theorem keep_State_uePart (s : State) (r : ErrorReport) (part : Nat) : (State.uePart s r part).keep = s.keep := by
  unfold State.uePart
  ((repeat' split) <;> simp [apply_ite State.keep, apply_ite Flash.image, apply_ite ErrLog.halted, apply_ite Boot.powered, keep_foldl])

@[simp] theorem keep_State_ueOwnRecord (s : State) (r : ErrorReport) (seq : Nat) : (State.ueOwnRecord s r seq).keep = s.keep := by
  unfold State.ueOwnRecord
  ((repeat' split) <;> simp)

@[simp] theorem keep_State_losePartner (s : State) (ctx : Nat) : (State.losePartner s ctx).keep = s.keep := by
  unfold State.losePartner
  (simp)

@[simp] theorem keep_State_uePartnerRecord (s : State) (r : ErrorReport) (seq : Nat) : (State.uePartnerRecord s r seq).keep = s.keep := by
  unfold State.uePartnerRecord
  ((repeat' split) <;> simp)

@[simp] theorem keep_State_ueMirrorSlot (s : State) (r : ErrorReport) (slot : Nat) : (State.ueMirrorSlot s r slot).keep = s.keep := by
  unfold State.ueMirrorSlot
  ((repeat' split) <;> simp)

@[simp] theorem keep_State_countCe (s : State) (r : ErrorReport) : (State.countCe s r).keep = s.keep := by
  unfold State.countCe
  (simp [apply_ite State.keep, apply_ite Flash.image, apply_ite ErrLog.halted, apply_ite Boot.powered, keep_foldl])

@[simp] theorem keep_State_settleGather (s : State) (ctx h : Nat) (g : Gathered) : (State.settleGather s ctx h g).keep = s.keep := by
  unfold State.settleGather
  ((repeat' split) <;> simp)

@[simp] theorem keep_State_regather (s : State) (ctx me h : Nat) (x : Ctx) (r : Run) (g : Gathered) (members : List Nat) : (State.regather s ctx me h x r g members).keep = s.keep := by
  unfold State.regather
  ((try dsimp only); (repeat' split) <;> simp [apply_ite State.keep, apply_ite Flash.image, apply_ite ErrLog.halted, apply_ite Boot.powered, keep_foldl])

@[simp] theorem keep_State_takeRead (s : State) (x : Ctx) (g : Gathered) (d : ReadData) : (State.takeRead s x g d).keep = s.keep := by
  unfold State.takeRead
  (simp [apply_ite State.keep, apply_ite Flash.image, apply_ite ErrLog.halted, apply_ite Boot.powered, keep_foldl])

@[simp] theorem keep_State_saveGroups (s : State) (part ctx : Nat) : (State.saveGroups s part ctx).keep = s.keep := by
  unfold State.saveGroups
  ((repeat' split) <;> simp)

@[simp] theorem keep_State_preemptNow (s : State) (part c : Nat) (p : Part) (sl : Slice) : (State.preemptNow s part c p sl).keep = s.keep := by
  unfold State.preemptNow
  (simp [apply_ite State.keep, apply_ite Flash.image, apply_ite ErrLog.halted, apply_ite Boot.powered, keep_foldl])

@[simp] theorem keep_State_restoreGroup (s : State) (v : SavedAt) : (State.restoreGroup s v).keep = s.keep := by
  unfold State.restoreGroup
  (dsimp only; (repeat' split) <;> simp [apply_ite State.keep, apply_ite Flash.image, apply_ite ErrLog.halted, apply_ite Boot.powered, keep_foldl])

@[simp] theorem keep_State_enterSlice (s : State) (part ctx len : Nat) : (State.enterSlice s part ctx len).keep = s.keep := by
  unfold State.enterSlice
  ((repeat' split) <;> simp [apply_ite State.keep, apply_ite Flash.image, apply_ite ErrLog.halted, apply_ite Boot.powered, keep_foldl])

@[simp] theorem keep_Moves_move (m : Moves) (die : Nat) (a : ExtAt) (h : Home) : (m.move die a h).s.keep = m.s.keep := by
  unfold Moves.move
  split
  · rfl
  · simp

@[simp] theorem keep_Moves_home (p : Part) (all : List ExtAt) (m : Moves) (a : ExtAt) : (Moves.home p all m a).s.keep = m.s.keep := by
  unfold Moves.home
  dsimp only
  repeat' split
  all_goals first | rfl | simp

theorem keep_Moves_foldl {α : Type} (f : Moves → α → Moves) (h : ∀ m a, (f m a).s.keep = m.s.keep) (l : List α) (m : Moves) :
    (l.foldl f m).s.keep = m.s.keep := by
  induction l generalizing m with
  | nil => rfl
  | cons a l ih => simp [ih, h]

@[simp] theorem keep_Moves_makeRoom (p : Part) (all : List ExtAt) (m : Moves) : (Moves.makeRoom p all m).s.keep = m.s.keep := by
  unfold Moves.makeRoom
  refine keep_Moves_foldl _ (fun m a => ?_) _ _
  repeat' split
  all_goals first | rfl | simp

@[simp] theorem keep_State_poolRule (s : State) (part : Nat) (a : ExtAt) (d : Nat) : (State.poolRule s part a d).keep = s.keep := by
  unfold State.poolRule
  (dsimp only; (repeat' split) <;> simp [apply_ite State.keep, apply_ite Flash.image, apply_ite ErrLog.halted, apply_ite Boot.powered, keep_foldl])

@[simp] theorem keep_State_placePart (s : State) (part : Nat) : (State.placePart s part).keep = s.keep := by
  unfold State.placePart
  split
  · rfl
  · next p _ =>
    have h : ∀ (all : List ExtAt) (l : List ExtAt) (m : Moves), (l.foldl (Moves.home p all) m).s.keep = m.s.keep := by
      intro all l
      induction l with
      | nil => intro m; rfl
      | cons a l ih => intro m; rw [List.foldl_cons, ih, keep_Moves_home]
    refine (keep_foldl _ (fun t a => keep_foldl _ (fun u d => keep_State_poolRule u part a d) _ _) _ _).trans ?_
    rw [h, keep_Moves_makeRoom]

@[simp] theorem keep_State_rejectTicket (s : State) (g : Nat) (t : Ticket) (status desc : Nat) : (State.rejectTicket s g t status desc).keep = s.keep := by
  unfold State.rejectTicket
  (simp)

@[simp] theorem keep_State_duplicate (s : State) (g : Nat) (r : Ring) (t : Ticket) : (State.duplicate s g r t).keep = s.keep := by
  unfold State.duplicate
  (simp [apply_ite State.keep, apply_ite Flash.image, apply_ite ErrLog.halted, apply_ite Boot.powered, keep_foldl])

@[simp] theorem keep_State_journalTicket (s : State) (g : Nat) (r : Ring) (j : Journaling) : (State.journalTicket s g r j).keep = s.keep := by
  unfold State.journalTicket
  (simp [apply_ite State.keep, apply_ite Flash.image, apply_ite ErrLog.halted, apply_ite Boot.powered, keep_foldl])

@[simp] theorem keep_State_judge (s : State) (g : Nat) (r : Ring) (x : Ctx) (got : Fetched) : (State.judge s g r x got).keep = s.keep := by
  unfold State.judge
  (dsimp only; (repeat' split) <;> simp [apply_ite State.keep, apply_ite Flash.image, apply_ite ErrLog.halted, apply_ite Boot.powered, keep_foldl])

@[simp] theorem keep_State_countClient (s : State) (client : Nat) (g : Counts → Counts) : (State.countClient s client g).keep = s.keep := by
  unfold State.countClient
  (simp)

@[simp] theorem keep_State_acceptTicket (s : State) (g : Nat) (r : Ring) (x : Ctx) (j : Journaling) : (State.acceptTicket s g r x j).keep = s.keep := by
  unfold State.acceptTicket
  (simp [apply_ite State.keep, apply_ite Flash.image, apply_ite ErrLog.halted, apply_ite Boot.powered, keep_foldl])

@[simp] theorem keep_State_completeTicket (s : State) (ctx g : Nat) (r : Ring) (x : Ctx) (q : Run) : (State.completeTicket s ctx g r x q).keep = s.keep := by
  unfold State.completeTicket
  ((repeat' split) <;> simp)

@[simp] theorem keep_State_forget (s : State) (ctx h : Nat) : (State.forget s ctx h).keep = s.keep := by
  unfold State.forget
  ((repeat' split) <;> simp)

@[simp] theorem keep_State_setLedger (s : State) (ctx : Nat) (x : Ctx) (before after : List StashEntry) : (State.setLedger s ctx x before after).keep = s.keep := by
  unfold State.setLedger
  (simp [apply_ite State.keep, apply_ite Flash.image, apply_ite ErrLog.halted, apply_ite Boot.powered, keep_foldl])

@[simp] theorem keep_State_modQueue (s : State) (ctx id : Nat) (f : Queue → Queue) : (State.modQueue s ctx id f).keep = s.keep := by
  unfold State.modQueue
  (simp)

@[simp] theorem keep_State_tick (s : State) : (State.tick s).keep = s.keep := by
  unfold State.tick
  (simp [apply_ite State.keep, apply_ite Flash.image, apply_ite ErrLog.halted, apply_ite Boot.powered, keep_foldl])

/-! ### The hardware's state -/

/-- What nearly every operation leaves. -/
def State.hw (s : State) := (s.pending, s.order1536, s.fuses, s.flash, s.boot, s.linkUp, s.numVfs, s.regions, s.lend, s.lasers, s.carts, s.logRegs, s.telem, s.rings, s.clients)

@[simp] theorem hw_upd (s : State) {funs' hostOut' parts' ctxs' slots' tiles' dies' clusters' ports' time' net' twin' jr' errs' logbook' power' arb' freeCtr'} :
    State.hw { s with
      funs := funs', hostOut := hostOut', parts := parts', ctxs := ctxs', slots := slots', tiles := tiles', dies := dies', clusters := clusters', ports := ports', time := time', net := net', twin := twin', jr := jr', errs := errs', logbook := logbook', power := power', arb := arb', freeCtr := freeCtr' } = s.hw := by
  simp [State.hw]

theorem hw_foldl {α : Type} (f : State → α → State) (h : ∀ s a, (f s a).hw = s.hw) (l : List α) (s : State) :
    (l.foldl f s).hw = s.hw := by
  induction l generalizing s with
  | nil => rfl
  | cons a l ih => simp [ih, h]

@[simp] theorem hw_State_setFn (s : State) (i : Nat) (f : Func) : (State.setFn s i f).hw = s.hw := by
  unfold State.setFn
  (simp)

@[simp] theorem hw_State_modFn (s : State) (i : Nat) (g : Func → Func) : (State.modFn s i g).hw = s.hw := by
  unfold State.modFn
  (simp)

@[simp] theorem hw_State_setCtx (s : State) (i : Nat) (x : Ctx) : (State.setCtx s i x).hw = s.hw := by
  unfold State.setCtx
  (simp)

@[simp] theorem hw_State_modCtx (s : State) (i : Nat) (g : Ctx → Ctx) : (State.modCtx s i g).hw = s.hw := by
  unfold State.modCtx
  (simp)

@[simp] theorem hw_State_setPart (s : State) (i : Nat) (p : Part) : (State.setPart s i p).hw = s.hw := by
  unfold State.setPart
  (simp)

@[simp] theorem hw_State_modPart (s : State) (i : Nat) (g : Part → Part) : (State.modPart s i g).hw = s.hw := by
  unfold State.modPart
  (simp)

@[simp] theorem hw_State_setTile (s : State) (i : Nat) (t : Tile) : (State.setTile s i t).hw = s.hw := by
  unfold State.setTile
  (simp)

@[simp] theorem hw_State_setDie (s : State) (i : Nat) (d : Die) : (State.setDie s i d).hw = s.hw := by
  unfold State.setDie
  (simp)

@[simp] theorem hw_State_setCluster (s : State) (i : Nat) (c : Cluster) : (State.setCluster s i c).hw = s.hw := by
  unfold State.setCluster
  (simp)

@[simp] theorem hw_State_setPort (s : State) (i : Nat) (p : Port) : (State.setPort s i p).hw = s.hw := by
  unfold State.setPort
  (simp)

@[simp] theorem hw_State_modPort (s : State) (i : Nat) (g : Port → Port) : (State.modPort s i g).hw = s.hw := by
  unfold State.modPort
  (simp)

@[simp] theorem hw_State_emit (s : State) (is : List HostItem) : (State.emit s is).hw = s.hw := by
  unfold State.emit
  (simp)

@[simp] theorem hw_State_fnWrite (s : State) (fn addr : Nat) (bytes : List Byte) : (State.fnWrite s fn addr bytes).hw = s.hw := by
  unfold State.fnWrite
  (simp [apply_ite State.hw, hw_foldl])

@[simp] theorem hw_State_fnVector (s : State) (fn v : Nat) : (State.fnVector s fn v).hw = s.hw := by
  unfold State.fnVector
  (simp [apply_ite State.hw, hw_foldl])

@[simp] theorem hw_State_jobWrite (s : State) (fn addr : Nat) (bytes : List Byte) : (State.jobWrite s fn addr bytes).hw = s.hw := by
  unfold State.jobWrite
  (simp [apply_ite State.hw, hw_foldl])

@[simp] theorem hw_State_jobVector (s : State) (fn v : Nat) : (State.jobVector s fn v).hw = s.hw := by
  unfold State.jobVector
  (simp [apply_ite State.hw, hw_foldl])

@[simp] theorem hw_State_granted (s : State) (fn : Nat) : (State.granted s fn).hw = s.hw := by
  unfold State.granted
  (simp)

@[simp] theorem hw_State_finishCmd (s : State) (h : CmdHead) (status cause : Nat) (res : List Byte) : (State.finishCmd s h status cause res).hw = s.hw := by
  unfold State.finishCmd
  ((try dsimp only); (repeat' split) <;> simp [apply_ite State.hw, hw_foldl])

@[simp] theorem hw_State_event (s : State) (fn ty ctx detail detail2 : Nat) : (State.event s fn ty ctx detail detail2).hw = s.hw := by
  unfold State.event
  (simp [apply_ite State.hw, hw_foldl])

@[simp] theorem hw_State_sendOn (s : State) (dest vc : Nat) (part : Option Nat) (m : Msg) : (State.sendOn s dest vc part m).hw = s.hw := by
  unfold State.sendOn
  (simp [apply_ite State.hw, hw_foldl])

@[simp] theorem hw_State_send (s : State) (dest : Nat) (part : Option Nat) (m : Msg) : (State.send s dest part m).hw = s.hw := by
  unfold State.send
  (simp)

@[simp] theorem hw_State_sendAll (s : State) (dests : List Nat) (part : Option Nat) (m : Msg) : (State.sendAll s dests part m).hw = s.hw := by
  unfold State.sendAll
  (simp [apply_ite State.hw, hw_foldl])

@[simp] theorem hw_State_setInbox (s : State) (l : List Arrived) : (State.setInbox s l).hw = s.hw := by
  unfold State.setInbox
  (simp)

@[simp] theorem hw_State_takeMsg (s : State) (vc : Nat) (slots : List (Nat × Nat)) (rest : List Arrived) : (State.takeMsg s vc slots rest).hw = s.hw := by
  unfold State.takeMsg
  (simp [apply_ite State.hw, hw_foldl])

@[simp] theorem hw_State_holdFor (s : State) (ctx : Nat) (m : HeldMsg) : (State.holdFor s ctx m).hw = s.hw := by
  unfold State.holdFor
  ((repeat' split) <;> simp)

@[simp] theorem hw_State_takeEarly (s : State) (ctx : Nat) : (State.takeEarly s ctx).hw = s.hw := by
  unfold State.takeEarly
  (simp)

@[simp] theorem hw_State_journal (s : State) (ring ctx tseq : Nat) (bodies : List JBody) : (State.journal s ring ctx tseq bodies).hw = s.hw := by
  unfold State.journal
  ((repeat' split) <;> simp)

@[simp] theorem hw_State_journalOp (s : State) (ctx : Nat) (op : ConfigOp) : (State.journalOp s ctx op).hw = s.hw := by
  unfold State.journalOp
  (simp)

@[simp] theorem hw_State_journalIf (s : State) (ring ctx tseq : Nat) (bodies : List JBody) : (State.journalIf s ring ctx tseq bodies).hw = s.hw := by
  unfold State.journalIf
  (simp [apply_ite State.hw, hw_foldl])

@[simp] theorem hw_State_modRun (s : State) (ctx ring tseq : Nat) (g : Run → Run) : (State.modRun s ctx ring tseq g).hw = s.hw := by
  unfold State.modRun
  (simp)

@[simp] theorem hw_State_rampNext (s : State) : (State.rampNext s).hw = s.hw := by
  unfold State.rampNext
  ((repeat' split) <;> simp)

@[simp] theorem hw_State_wakeDie (s : State) (d : Nat) (run : Bool) : (State.wakeDie s d run).hw = s.hw := by
  unfold State.wakeDie
  (dsimp only; (repeat' split) <;> simp [apply_ite State.hw, hw_foldl])

@[simp] theorem hw_State_wakeCluster (s : State) (c : Nat) : (State.wakeCluster s c).hw = s.hw := by
  unfold State.wakeCluster
  (dsimp only; (repeat' split) <;> simp [apply_ite State.hw, hw_foldl])

@[simp] theorem hw_State_wakeDies (s : State) (ds : List Nat) : (State.wakeDies s ds).hw = s.hw := by
  unfold State.wakeDies
  (simp [apply_ite State.hw, hw_foldl])

@[simp] theorem hw_State_wake (s : State) (n : Needs) : (State.wake s n).hw = s.hw := by
  unfold State.wake
  (simp [apply_ite State.hw, hw_foldl])

@[simp] theorem hw_State_modExt (s : State) (ctx : Nat) (e : ExtentId) (f : Ext → Ext) : (State.modExt s ctx e f).hw = s.hw := by
  unfold State.modExt
  (simp)

@[simp] theorem hw_State_seenBy (s : State) (r : Run) : (State.seenBy s r).hw = s.hw := by
  unfold State.seenBy
  (simp)

@[simp] theorem hw_State_seenFor (s : State) (x : Ctx) (ring tseq : Nat) : (State.seenFor s x ring tseq).hw = s.hw := by
  unfold State.seenFor
  ((repeat' split) <;> simp)

@[simp] theorem hw_State_copyTo (s : State) (ctx tile : Nat) (p : PieceId) : (State.copyTo s ctx tile p).hw = s.hw := by
  unfold State.copyTo
  ((repeat' split) <;> simp)

@[simp] theorem hw_State_readBack (s : State) (ctx : Nat) (id : ExtentId) (e : Ext) : (s.readBack ctx id e).hw = s.hw := by
  unfold State.readBack
  refine hw_foldl _ (fun a q => ?_) _ _
  dsimp only
  repeat' split
  all_goals first | rfl | simp

@[simp] theorem hw_State_swapIn (s : State) (ctx : Nat) : (State.swapIn s ctx).hw = s.hw := by
  unfold State.swapIn
  ((repeat' split) <;> simp [apply_ite State.hw, hw_foldl])

@[simp] theorem hw_State_putRecord (s : State) (ctx : Nat) (r : Run) (pos : Nat) (rec : List Byte) : (State.putRecord s ctx r pos rec).hw = s.hw := by
  unfold State.putRecord
  ((repeat' split) <;> simp)

@[simp] theorem hw_State_settle (s : State) (ctx ring tseq : Nat) : (State.settle s ctx ring tseq).hw = s.hw := by
  unfold State.settle
  ((repeat' split) <;> simp [apply_ite State.hw, hw_foldl])

@[simp] theorem hw_State_startDesc (s : State) (ctx : Nat) (r : Run) : (State.startDesc s ctx r).hw = s.hw := by
  unfold State.startDesc
  (simp)

@[simp] theorem hw_State_endDesc (s : State) (ctx ring tseq pos : Nat) (rec : List Byte) : (State.endDesc s ctx ring tseq pos rec).hw = s.hw := by
  unfold State.endDesc
  ((repeat' split) <;> simp)

@[simp] theorem hw_State_notRun (s : State) (ctx : Nat) (r : Run) (l : List Nat) : (s.notRun ctx r l).hw = s.hw := by
  induction l generalizing s with
  | nil => rfl
  | cons p ps ih => simp [State.notRun, ih]

@[simp] theorem hw_State_rejectDesc (s : State) (ctx : Nat) (r : Run) : (State.rejectDesc s ctx r).hw = s.hw := by
  unfold State.rejectDesc
  (simp)

@[simp] theorem hw_State_stopRun (s : State) (ctx : Nat) (r : Run) (status fault : Nat) (bad : Option Nat) : (State.stopRun s ctx r status fault bad).hw = s.hw := by
  unfold State.stopRun
  rw [hw_State_settle, hw_State_modRun]
  refine hw_foldl _ (fun s a => ?_) _ _
  split <;> simp

@[simp] theorem hw_State_swapOut (s : State) (part v : Nat) : (State.swapOut s part v).hw = s.hw := by
  unfold State.swapOut
  ((repeat' split) <;> simp)

@[simp] theorem hw_State_beginSwitch (s : State) (part ctx len : Nat) (out : Option Nat) : (State.beginSwitch s part ctx len out).hw = s.hw := by
  unfold State.beginSwitch
  ((repeat' split) <;> simp)

@[simp] theorem hw_State_passSlice (s : State) (part : Nat) : (State.passSlice s part).hw = s.hw := by
  unfold State.passSlice
  (dsimp only; (repeat' split) <;> simp [apply_ite State.hw, hw_foldl])

@[simp] theorem hw_State_arrive (s : State) (ctx : Nat) : (State.arrive s ctx).hw = s.hw := by
  unfold State.arrive
  (dsimp only; (repeat' split) <;> simp [apply_ite State.hw, hw_foldl])

@[simp] theorem hw_State_makeMapping (s : State) (fn ctx handle offset size : Nat) : (State.makeMapping s fn ctx handle offset size).hw = s.hw := by
  unfold State.makeMapping
  (simp)

@[simp] theorem hw_State_retryMaps (s : State) (ctx : Nat) : (State.retryMaps s ctx).hw = s.hw := by
  unfold State.retryMaps
  ((try dsimp only); (repeat' split) <;> refine (hw_foldl _ ?_ _ _).trans ?_ <;> (try intro s a) <;> (repeat' split) <;> simp [apply_ite State.hw, hw_foldl])

@[simp] theorem hw_State_refresh (s0 : State) (ctx : Nat) : (State.refresh s0 ctx).hw = s0.hw := by
  unfold State.refresh
  ((try dsimp only); (repeat' split) <;> simp [apply_ite State.hw, hw_foldl])

@[simp] theorem hw_State_teardown (s : State) (ctx cause tseq : Nat) : (State.teardown s ctx cause tseq).hw = s.hw := by
  unfold State.teardown
  ((repeat' split) <;> simp)

@[simp] theorem hw_State_faultTickets (s : State) (ctx cause : Nat) (by_ : Option (Nat × Nat × Nat)) : (s.faultTickets ctx cause by_).hw = s.hw := by
  unfold State.faultTickets
  refine hw_foldl _ (fun a r => ?_) _ _
  repeat' split
  all_goals first | rfl | simp

@[simp] theorem hw_State_jobFault (s : State) (ctx cause : Nat) (by_ : Option (Nat × Nat × Nat)) : (State.jobFault s ctx cause by_).hw = s.hw := by
  unfold State.jobFault
  ((repeat' split) <;> simp)

@[simp] theorem hw_State_faultAt (s : State) (ctx : Nat) (r : Run) (cause : Nat) : (State.faultAt s ctx r cause).hw = s.hw := by
  unfold State.faultAt
  (simp)

@[simp] theorem hw_State_wakeNext (s : State) (ctx : Nat) : (State.wakeNext s ctx).hw = s.hw := by
  unfold State.wakeNext
  ((repeat' split) <;> simp)

@[simp] theorem hw_State_countEvent (s : State) (i : Nat) : (State.countEvent s i).hw = s.hw := by
  unfold State.countEvent
  (simp)

@[simp] theorem hw_State_putError (s : State) (r : ErrRec) : (State.putError s r).hw = s.hw := by
  unfold State.putError
  (simp)

@[simp] theorem hw_State_coalesce (s : State) (c : Coalesced) : (State.coalesce s c).hw = s.hw := by
  unfold State.coalesce
  (simp)

@[simp] theorem hw_State_misrouted (s : State) (port : Nat) : (State.misrouted s port).hw = s.hw := by
  unfold State.misrouted
  (simp)

@[simp] theorem hw_State_misroutedMsg (s : State) (port : Nat) : (State.misroutedMsg s port).hw = s.hw := by
  unfold State.misroutedMsg
  (simp [apply_ite State.hw, hw_foldl])

@[simp] theorem hw_State_stopAll (s : State) : (State.stopAll s).hw = s.hw := by
  unfold State.stopAll
  (simp)

theorem hw_State_endCmd (s : State) (h : CmdHead) (e : CmdEnd) (he : e.keeps (fun t => t.hw = s.hw)) :
    (s.endCmd h e).hw = s.hw := by
  cases e <;> simp_all [State.endCmd, CmdEnd.keeps, apply_ite State.hw]

theorem hw_runCmd (h : CmdHead) (bad pf : Bool) (body : State → CmdEnd) (s : State) (hb : (body s).keeps (fun t => t.hw = s.hw)) :
    (runCmd h bad pf body s).hw = s.hw := by
  unfold runCmd
  repeat' split
  · rfl
  · exact hw_State_endCmd _ _ _ trivial
  · exact hw_State_endCmd _ _ _ trivial
  · exact hw_State_endCmd _ _ _ hb

@[simp] theorem hw_State_tellClasses (s : State) (ctx : Nat) : (State.tellClasses s ctx).hw = s.hw := by
  unfold State.tellClasses
  ((repeat' split) <;> simp [apply_ite State.hw, hw_foldl])

@[simp] theorem hw_State_staleCtx (s : State) (ctx : Nat) : (State.staleCtx s ctx).hw = s.hw := by
  unfold State.staleCtx
  ((repeat' split) <;> simp [apply_ite State.hw, hw_foldl])

@[simp] theorem hw_State_planClasses (s : State) (src ctx id : Nat) (cl : Tab Nat) : (State.planClasses s src ctx id cl).hw = s.hw := by
  unfold State.planClasses
  ((repeat' split) <;> simp)

theorem hw_State_retakeMsgs (s : State) (ctx : Nat) (mine : Msg → Bool) (f : State → HeldMsg → State)
    (h : ∀ a m, (f a m).hw = a.hw) : (s.retakeMsgs ctx mine f).hw = s.hw := by
  unfold State.retakeMsgs
  split
  · rfl
  · rw [hw_foldl _ h]; simp

@[simp] theorem hw_State_planDone (s : State) (ctx : Nat) (r : PlanResult) : (s.planDone ctx r).hw = s.hw := by
  unfold State.planDone
  (try dsimp only)
  split
  · rw [hw_State_tellClasses, hw_State_retakeMsgs _ _ _ _ (fun a m => by split <;> simp)]; simp
  · rfl

@[simp] theorem hw_State_planRefused (s : State) (src ctx id : Nat) (mismatch : Bool) : (State.planRefused s src ctx id mismatch).hw = s.hw := by
  unfold State.planRefused
  ((repeat' split) <;> simp)

@[simp] theorem hw_State_planDecide (s : State) (ctx id : Nat) : (State.planDecide s ctx id).hw = s.hw := by
  unfold State.planDecide
  ((repeat' split) <;> simp)

@[simp] theorem hw_State_planReport (s : State) (src ctx : Nat) (p : PlanParams) (classes : Tab Nat) : (State.planReport s src ctx p classes).hw = s.hw := by
  unfold State.planReport
  ((repeat' split) <;> simp)

@[simp] theorem hw_State_planReplay (s : State) (ctx id : Nat) : (s.planReplay ctx id).hw = s.hw :=
  hw_State_retakeMsgs _ _ _ _ (fun a m => by split <;> simp)

@[simp] theorem hw_State_groupDecide (s : State) (ctx group : Nat) : (State.groupDecide s ctx group).hw = s.hw := by
  unfold State.groupDecide
  ((repeat' split) <;> simp)

@[simp] theorem hw_State_groupReport (s : State) (src ctx group : Nat) (ns : List Nat) : (State.groupReport s src ctx group ns).hw = s.hw := by
  unfold State.groupReport
  ((repeat' split) <;> simp)

@[simp] theorem hw_State_groupNodes (s : State) (src ctx group : Nat) (nodes : List (List Nat)) : (State.groupNodes s src ctx group nodes).hw = s.hw := by
  unfold State.groupNodes
  ((repeat' split) <;> simp)

@[simp] theorem hw_State_reportGroup (s : State) (ctx group : Nat) (members : List Nat) : (State.reportGroup s ctx group members).hw = s.hw := by
  unfold State.reportGroup
  (simp)

@[simp] theorem hw_State_groupAsked (s : State) (src ctx group : Nat) : (State.groupAsked s src ctx group).hw = s.hw := by
  unfold State.groupAsked
  ((repeat' split) <;> simp)

@[simp] theorem hw_State_reformGroup (s : State) (ctx group : Nat) (members : List Nat) : (State.reformGroup s ctx group members).hw = s.hw := by
  unfold State.reformGroup
  (simp [apply_ite State.hw, hw_foldl])

@[simp] theorem hw_State_groupReplay (s : State) (ctx group : Nat) : (s.groupReplay ctx group).hw = s.hw :=
  hw_State_retakeMsgs _ _ _ _ (fun a m => by split <;> simp)

@[simp] theorem hw_State_reachChanged (s : State) : (State.reachChanged s).hw = s.hw := by
  unfold State.reachChanged
  (simp [apply_ite State.hw, hw_foldl])

@[simp] theorem hw_State_shiftStamps (s : State) (old new : Nat) : (State.shiftStamps s old new).hw = s.hw := by
  unfold State.shiftStamps
  (simp)

@[simp] theorem hw_State_setPState (s : State) (i : Nat) (st : PState) (step : Nat) : (State.setPState s i st step).hw = s.hw := by
  unfold State.setPState
  (simp [apply_ite State.hw, hw_foldl])

@[simp] theorem hw_State_elect (s : State) : (State.elect s).hw = s.hw := by
  unfold State.elect
  ((repeat' split) <;> simp [apply_ite State.hw, hw_foldl])

@[simp] theorem hw_State_countTokens (s : State) (i : Nat) : (State.countTokens s i).hw = s.hw := by
  unfold State.countTokens
  (simp [apply_ite State.hw, hw_foldl])

@[simp] theorem hw_State_noteLink (s : State) (n : LinkNote) : (State.noteLink s n).hw = s.hw := by
  unfold State.noteLink
  (simp)

@[simp] theorem hw_State_leaveService (s : State) (i : Nat) (st : PState) (step : Nat) : (State.leaveService s i st step).hw = s.hw := by
  unfold State.leaveService
  (simp [apply_ite State.hw, hw_foldl])

@[simp] theorem hw_State_beginTraining (s : State) (i : Nat) : (State.beginTraining s i).hw = s.hw := by
  unfold State.beginTraining
  (simp [apply_ite State.hw, hw_foldl])

@[simp] theorem hw_State_retrain (s : State) (i : Nat) : (State.retrain s i).hw = s.hw := by
  unfold State.retrain
  (simp [apply_ite State.hw, hw_foldl])

@[simp] theorem hw_State_retrainTethers (s : State) : (State.retrainTethers s).hw = s.hw := by
  unfold State.retrainTethers
  (simp [apply_ite State.hw, hw_foldl])

@[simp] theorem hw_State_sendDown (s : State) (i : Nat) : (State.sendDown s i).hw = s.hw := by
  unfold State.sendDown
  (simp [apply_ite State.hw, hw_foldl])

@[simp] theorem hw_State_downAll (s : State) : (State.downAll s).hw = s.hw := by
  unfold State.downAll
  (simp [apply_ite State.hw, hw_foldl])

@[simp] theorem hw_State_sign (s : State) (bs : List Byte) : (s.sign bs).2.hw = s.hw := by
  simp [State.sign]

@[simp] theorem hw_State_quote (s : State) (nonce : List Byte) (scope ctx : Nat) : (s.quote nonce scope ctx).2.hw = s.hw := by
  simp [State.quote]

@[simp] theorem hw_State_modTwin (s : State) (g : Twin → Twin) : (State.modTwin s g).hw = s.hw := by
  unfold State.modTwin
  (simp)

@[simp] theorem hw_State_beginAuth (s : State) : (State.beginAuth s).hw = s.hw := by
  unfold State.beginAuth
  ((repeat' split) <;> simp)

@[simp] theorem hw_State_authHello (s : State) (p : Nat) (fresh : Bool) (certs key : List Byte) : (State.authHello s p fresh certs key).hw = s.hw := by
  unfold State.authHello
  (simp [apply_ite State.hw, hw_foldl])

@[simp] theorem hw_State_authCipher (s : State) (p : Nat) (c : List Byte) : (State.authCipher s p c).hw = s.hw := by
  unfold State.authCipher
  (simp)

@[simp] theorem hw_State_newSession (s : State) (p : Nat) : (State.newSession s p).hw = s.hw := by
  unfold State.newSession
  (simp)

@[simp] theorem hw_State_tagFail (s : State) (port : Nat) : (State.tagFail s port).hw = s.hw := by
  unfold State.tagFail
  dsimp only
  rw [hw_State_retrainTethers, hw_upd]
  simp

theorem hw_onMessage (src vc : Nat) (s : State) (f : State → Arrived → Option State)
    (h : ∀ r a t, f (s.setInbox r) a = some t → t.hw = s.hw) : (onMessage src vc s f).hw = s.hw := by
  unfold onMessage
  split
  · rfl
  · split
    · rfl
    · split
      · rfl
      · split
        · simp
        · exact h _ _ _ (by assumption)

@[simp] theorem hw_State_decideCommit (s : State) (ctx ring tseq status : Nat) : (State.decideCommit s ctx ring tseq status).hw = s.hw := by
  unfold State.decideCommit
  (simp)

@[simp] theorem hw_State_endCommits (s : State) (ctx status : Nat) : (State.endCommits s ctx status).hw = s.hw := by
  unfold State.endCommits
  ((repeat' split) <;> simp [apply_ite State.hw, hw_foldl])

@[simp] theorem hw_State_freezeRecord (s : State) (ctx ring tseq id : Nat) : (s.freezeRecord ctx ring tseq id).1.hw = s.hw := by
  unfold State.freezeRecord
  split <;> simp

@[simp] theorem hw_State_freeze (s : State) (ctx : Nat) (x : Ctx) (r : Run) : (State.freeze s ctx x r).hw = s.hw := by
  unfold State.freeze
  (dsimp only; (repeat' split) <;> simp [apply_ite State.hw, hw_foldl])

@[simp] theorem hw_State_sendCommit (s : State) (twin ctx : Nat) (c : Commit) : (State.sendCommit s twin ctx c).hw = s.hw := by
  unfold State.sendCommit
  ((repeat' split) <;> simp [apply_ite State.hw, hw_foldl])

theorem hw_State_mirrorWrite (s t : State) (m : MirrorMsg) (h : s.mirrorWrite m = some t) : t.hw = s.hw := by
  unfold State.mirrorWrite at h
  dsimp only at h
  repeat' split at h
  all_goals first
    | (cases h; simp; done)
    | (obtain ⟨n, -, rfl⟩ := Option.map_eq_some_iff.mp h; simp)

@[simp] theorem hw_State_sealHere (s : State) (ctx commit : Nat) (sealed : JRec) : (State.sealHere s ctx commit sealed).hw = s.hw := by
  unfold State.sealHere
  ((repeat' split) <;> simp)

@[simp] theorem hw_State_releaseHere (s : State) (ctx commit : Nat) : (State.releaseHere s ctx commit).hw = s.hw := by
  unfold State.releaseHere
  (simp)

@[simp] theorem hw_State_forgetHere (s : State) (ctx : Nat) : (State.forgetHere s ctx).hw = s.hw := by
  unfold State.forgetHere
  (simp)

@[simp] theorem hw_State_requestSeal (s : State) (src ctx : Nat) (x : Ctx) (c : Commit) (rest : List Commit) : (State.requestSeal s src ctx x c rest).hw = s.hw := by
  unfold State.requestSeal
  (simp)

@[simp] theorem hw_State_seal (s : State) (ctx : Nat) (x : Ctx) (c : Commit) (rest : List Commit) : (State.seal s ctx x c rest).hw = s.hw := by
  unfold State.seal
  ((repeat' split) <;> simp)

@[simp] theorem hw_State_sendImage (s : State) (dest ctx commit : Nat) : (State.sendImage s dest ctx commit).hw = s.hw := by
  unfold State.sendImage
  ((repeat' split) <;> simp [apply_ite State.hw, hw_foldl])

@[simp] theorem hw_State_returnImage (s : State) (dest ctx commit : Nat) : (State.returnImage s dest ctx commit).hw = s.hw := by
  unfold State.returnImage
  (simp)

@[simp] theorem hw_State_recordFrees (s : State) (r : JRec) : (State.recordFrees s r).hw = s.hw := by
  unfold State.recordFrees
  ((repeat' split) <;> simp)

@[simp] theorem hw_State_recordAsks (src : Nat) (s : State) (r : JRec) : (State.recordAsks src s r).hw = s.hw := by
  unfold State.recordAsks
  ((repeat' split) <;> simp)

@[simp] theorem hw_State_takeRecords (s : State) (src : Nat) (recs : List JRec) : (State.takeRecords s src recs).hw = s.hw := by
  unfold State.takeRecords
  (simp [apply_ite State.hw, hw_foldl])

@[simp] theorem hw_State_resendRecords (s : State) (t : Nat) : (State.resendRecords s t).hw = s.hw := by
  unfold State.resendRecords
  (simp [apply_ite State.hw, hw_foldl])

@[simp] theorem hw_State_resume (s : State) (t : Nat) : (State.resume s t).hw = s.hw := by
  unfold State.resume
  (simp [apply_ite State.hw, hw_foldl])

@[simp] theorem hw_State_makeTensor (s : State) (ctx : Nat) (x : Ctx) (p : TensorParams) : (State.makeTensor s ctx x p).hw = s.hw := by
  unfold State.makeTensor
  (simp)

@[simp] theorem hw_State_endMapping (s : State) (fn offset : Nat) : (State.endMapping s fn offset).hw = s.hw := by
  unfold State.endMapping
  (dsimp only; (repeat' split) <;> simp [apply_ite State.hw, hw_foldl])

@[simp] theorem hw_State_countStray (s : State) (fn off len : Nat) : (State.countStray s fn off len).hw = s.hw := by
  unfold State.countStray
  (simp [apply_ite State.hw, hw_foldl])

@[simp] theorem hw_State_bar2Wake (s : State) (fn off len : Nat) : (State.bar2Wake s fn off len).hw = s.hw := by
  unfold State.bar2Wake
  split
  · rfl
  · refine hw_foldl _ (fun s e => ?_) _ _
    split <;> simp

@[simp] theorem hw_State_bar2Put (s : State) (fn off : Nat) (b : Byte) : (State.bar2Put s fn off b).hw = s.hw := by
  unfold State.bar2Put
  ((repeat' split) <;> simp [apply_ite State.hw, hw_foldl])

@[simp] theorem hw_State_makePool (s : State) (ctx : Nat) (x : Ctx) (n pages : Nat) (persistent : Bool) : (State.makePool s ctx x n pages persistent).hw = s.hw := by
  unfold State.makePool
  (simp)

@[simp] theorem hw_State_mapPages (s : State) (slot first seq : Nat) (es : List Word32) : (State.mapPages s slot first seq es).hw = s.hw := by
  unfold State.mapPages
  (simp)

@[simp] theorem hw_State_assignSlot (s : State) (ctx slot : Nat) (prompt : List Byte) : (State.assignSlot s ctx slot prompt).hw = s.hw := by
  unfold State.assignSlot
  (simp)

@[simp] theorem hw_State_makeGroup (s : State) (ctx group : Nat) (ms : List Nat) : (State.makeGroup s ctx group ms).hw = s.hw := by
  unfold State.makeGroup
  (simp [apply_ite State.hw, hw_foldl])

@[simp] theorem hw_State_beginPlan (s : State) (ctx : Nat) (p : PlanParams) : (State.beginPlan s ctx p).hw = s.hw := by
  unfold State.beginPlan
  (simp)

theorem hw_State_planOrRefuse (s : State) (ctx : Nat) (x : Ctx) (p : PlanParams) :
    (s.planOrRefuse ctx x p).keeps (fun t => t.hw = s.hw) := by
  unfold State.planOrRefuse
  split <;> simp [CmdEnd.keeps]

@[simp] theorem hw_State_dropCtx (s : State) (ctx : Nat) : (State.dropCtx s ctx).hw = s.hw := by
  unfold State.dropCtx
  ((repeat' split) <;> simp)

@[simp] theorem hw_State_endWaiters (s : State) (ctx : Nat) : (State.endWaiters s ctx).hw = s.hw := by
  unfold State.endWaiters
  ((try dsimp only); (repeat' split) <;> refine (hw_foldl _ ?_ _ _).trans ?_ <;> (try intro s a) <;> (repeat' split) <;> simp [apply_ite State.hw, hw_foldl])

@[simp] theorem hw_State_restartIdle (s : State) : (State.restartIdle s).hw = s.hw := by
  unfold State.restartIdle
  (simp)

@[simp] theorem hw_State_dropCopies (s : State) (f : Ext → Ext) : (State.dropCopies s f).hw = s.hw := by
  unfold State.dropCopies
  (simp)

@[simp] theorem hw_State_powerEvent (s : State) (cause : Nat) : (State.powerEvent s cause).hw = s.hw := by
  unfold State.powerEvent
  (simp [apply_ite State.hw, hw_foldl])

@[simp] theorem hw_State_stepDown (s : State) (floor : Nat) (thermal : Bool) : (State.stepDown s floor thermal).hw = s.hw := by
  unfold State.stepDown
  (simp [apply_ite State.hw, hw_foldl])

@[simp] theorem hw_State_thermal (s : State) : (State.thermal s).hw = s.hw := by
  unfold State.thermal
  (simp [apply_ite State.hw, hw_foldl])

@[simp] theorem hw_State_beginDesc (s : State) (ctx : Nat) (r : Run) (d : Desc) : (State.beginDesc s ctx r d).hw = s.hw := by
  unfold State.beginDesc
  (simp)

@[simp] theorem hw_State_countVe (s : State) (tile ovf nar : Nat) : (State.countVe s tile ovf nar).hw = s.hw := by
  unfold State.countVe
  (simp [apply_ite State.hw, hw_foldl])

@[simp] theorem hw_State_countConv (s : State) (ctx : Nat) (st : ConvStatus) : (State.countConv s ctx st).hw = s.hw := by
  unfold State.countConv
  ((repeat' split) <;> simp)

@[simp] theorem hw_State_serveRead (s : State) (src : Nat) (q : ReadReq) : (State.serveRead s src q).hw = s.hw := by
  unfold State.serveRead
  ((repeat' split) <;> simp)

@[simp] theorem hw_State_serveReads (s : State) (ctx : Nat) : (s.serveReads ctx).hw = s.hw :=
  hw_State_retakeMsgs _ _ _ _ (fun a m => by split <;> simp)

@[simp] theorem hw_State_noReplay (s : State) (ctx : Nat) : (State.noReplay s ctx).hw = s.hw := by
  unfold State.noReplay
  (simp)

@[simp] theorem hw_State_dropQueued (s : State) (ctx : Nat) : (State.dropQueued s ctx).hw = s.hw := by
  unfold State.dropQueued
  (simp [apply_ite State.hw, hw_foldl])

@[simp] theorem hw_State_returnTo (s : State) (ctx : Nat) (x : Ctx) (k : Kept) : (State.returnTo s ctx x k).hw = s.hw := by
  unfold State.returnTo
  (simp [apply_ite State.hw, hw_foldl])

@[simp] theorem hw_State_rollback (s : State) (ctx : Nat) (x : Ctx) (k : Kept) : (State.rollback s ctx x k).hw = s.hw := by
  unfold State.rollback
  (simp)

@[simp] theorem hw_State_imageIn (s : State) (src : Nat) (m : MirrorMsg) : (State.imageIn s src m).hw = s.hw := by
  unfold State.imageIn
  ((repeat' split) <;> simp [apply_ite State.hw, hw_foldl])

@[simp] theorem hw_State_addReplayed (s : State) (ctx : Nat) (q : Run) : (State.addReplayed s ctx q).hw = s.hw := by
  unfold State.addReplayed
  (simp [apply_ite State.hw, hw_foldl])

@[simp] theorem hw_State_markRestart (s : State) (ctx slot : Nat) : (State.markRestart s ctx slot).hw = s.hw := by
  unfold State.markRestart
  (simp [apply_ite State.hw, hw_foldl])

@[simp] theorem hw_State_applyOp (s : State) (ctx : Nat) (x : Ctx) (seq : Nat) (op : ConfigOp) (prompt : List Byte) : (State.applyOp s ctx x seq op prompt).hw = s.hw := by
  unfold State.applyOp
  ((repeat' split) <;> simp)

@[simp] theorem hw_State_replayWrites (s : State) (ctx : Nat) (rs : List JRec) : (State.replayWrites s ctx rs).hw = s.hw := by
  unfold State.replayWrites
  ((try dsimp only); (repeat' split) <;> refine (hw_foldl _ ?_ _ _).trans ?_ <;> (try intro s a) <;> (repeat' split) <;> simp [apply_ite State.hw, hw_foldl])

@[simp] theorem hw_State_replayAll (s : State) (ctx : Nat) (x : Ctx) : (State.replayAll s ctx x).hw = s.hw := by
  unfold State.replayAll
  (simp [apply_ite State.hw, hw_foldl])

@[simp] theorem hw_State_rejoin (s : State) (ctx : Nat) : (State.rejoin s ctx).hw = s.hw := by
  unfold State.rejoin
  (simp [apply_ite State.hw, hw_foldl])

@[simp] theorem hw_State_resealAll (s : State) : (State.resealAll s).hw = s.hw := by
  unfold State.resealAll
  (simp [apply_ite State.hw, hw_foldl])

@[simp] theorem hw_State_inPlaceFault (s : State) (ctx : Nat) (x : Ctx) : (State.inPlaceFault s ctx x).hw = s.hw := by
  unfold State.inPlaceFault
  (simp)

@[simp] theorem hw_State_restartPaired (s : State) : (State.restartPaired s).hw = s.hw := by
  unfold State.restartPaired
  ((try dsimp only); (repeat' split) <;> refine (hw_foldl _ ?_ _ _).trans ?_ <;> (try intro s a) <;> (repeat' split) <;> simp [apply_ite State.hw, hw_foldl])

@[simp] theorem hw_State_inPlace (s : State) (ctx : Nat) (x : Ctx) : (State.inPlace s ctx x).hw = s.hw := by
  unfold State.inPlace
  ((repeat' split) <;> simp)

@[simp] theorem hw_State_restartInPlace (s : State) : (State.restartInPlace s).hw = s.hw := by
  unfold State.restartInPlace
  ((try dsimp only); (repeat' split) <;> refine (hw_foldl _ ?_ _ _).trans ?_ <;> (try intro s a) <;> (repeat' split) <;> simp [apply_ite State.hw, hw_foldl])

@[simp] theorem hw_State_refusePort (s : State) (i cause : Nat) (f : TrainFlit) : (State.refusePort s i cause f).hw = s.hw := by
  unfold State.refusePort
  (simp [apply_ite State.hw, hw_foldl])

@[simp] theorem hw_State_restartPeer (s : State) (d inc : Nat) : (State.restartPeer s d inc).hw = s.hw := by
  unfold State.restartPeer
  (simp [apply_ite State.hw, hw_foldl])

@[simp] theorem hw_State_seeIncarnation (s : State) (f : TrainFlit) : (State.seeIncarnation s f).hw = s.hw := by
  unfold State.seeIncarnation
  ((repeat' split) <;> simp)

@[simp] theorem hw_State_sendSync (s : State) (i : Nat) : (State.sendSync s i).hw = s.hw := by
  unfold State.sendSync
  (simp)

@[simp] theorem hw_State_askTwin (s : State) : (State.askTwin s).hw = s.hw := by
  unfold State.askTwin
  ((repeat' split) <;> simp [apply_ite State.hw, hw_foldl])

@[simp] theorem hw_State_tetherEnters (s : State) : (State.tetherEnters s).hw = s.hw := by
  unfold State.tetherEnters
  ((repeat' split) <;> simp [apply_ite State.hw, hw_foldl])

@[simp] theorem hw_State_enterService (s : State) (i rtt : Nat) : (State.enterService s i rtt).hw = s.hw := by
  unfold State.enterService
  (simp [apply_ite State.hw, hw_foldl])

@[simp] theorem hw_State_startPacket (s : State) (i : Nat) (c : Choice) : (State.startPacket s i c).hw = s.hw := by
  unfold State.startPacket
  (simp)

@[simp] theorem hw_Filling_slot (i : Nat) (a : Filling) (k : Nat) : (a.slot i k).s.hw = a.s.hw := by
  unfold Filling.slot
  dsimp only
  repeat' split
  all_goals first | rfl | simp

theorem hw_Filling_foldl (i : Nat) (l : List Nat) (a : Filling) : (l.foldl (Filling.slot i) a).s.hw = a.s.hw := by
  induction l generalizing a with
  | nil => rfl
  | cons k l ih => simp [ih]

@[simp] theorem hw_State_sendGroup (s : State) (i : Nat) : (s.sendGroup i).hw = s.hw := by
  unfold State.sendGroup
  dsimp only
  rw [hw_State_modPort, hw_Filling_foldl]

@[simp] theorem hw_State_setTwin (s : State) (st : TState) : (State.setTwin s st).hw = s.hw := by
  unfold State.setTwin
  (simp [apply_ite State.hw, hw_foldl])

@[simp] theorem hw_State_refuseTwin (s : State) (cause peer : Nat) : (State.refuseTwin s cause peer).hw = s.hw := by
  unfold State.refuseTwin
  (simp)

@[simp] theorem hw_State_tellTo (s : State) (dest : Nat) (asks : Bool) : (State.tellTo s dest asks).hw = s.hw := by
  unfold State.tellTo
  (simp [apply_ite State.hw, hw_foldl])

@[simp] theorem hw_State_tellPair (s : State) : (State.tellPair s).hw = s.hw := by
  unfold State.tellPair
  ((repeat' split) <;> simp)

@[simp] theorem hw_State_freePartner (s : State) : (State.freePartner s).hw = s.hw := by
  unfold State.freePartner
  (simp)

@[simp] theorem hw_State_answerRestore (s : State) (r : RestoreReq) : (State.answerRestore s r).hw = s.hw := by
  unfold State.answerRestore
  ((repeat' split) <;> simp)

@[simp] theorem hw_State_loseTwin (s : State) : (State.loseTwin s).hw = s.hw := by
  unfold State.loseTwin
  (dsimp only; (repeat' split) <;> simp [apply_ite State.hw, hw_foldl])

@[simp] theorem hw_State_refuseRestore (s : State) (h : CmdHead) (cause : Nat) : (State.refuseRestore s h cause).hw = s.hw := by
  unfold State.refuseRestore
  (simp)

@[simp] theorem hw_State_restoreFails (s : State) (cause : Nat) : (State.restoreFails s cause).hw = s.hw := by
  unfold State.restoreFails
  ((repeat' split) <;> simp)

@[simp] theorem hw_State_authFailed (s : State) (p : Nat) : (State.authFailed s p).hw = s.hw := by
  unfold State.authFailed
  ((repeat' split) <;> simp)

@[simp] theorem hw_State_releaseCommit (s : State) (ctx : Nat) (k : Kept) : (State.releaseCommit s ctx k).hw = s.hw := by
  unfold State.releaseCommit
  (dsimp only; (repeat' split) <;> simp [apply_ite State.hw, hw_foldl])

@[simp] theorem hw_State_restoreAnswered (s : State) (src : Nat) (facts : Option (Nat × Nat)) : (State.restoreAnswered s src facts).hw = s.hw := by
  unfold State.restoreAnswered
  ((repeat' split) <;> simp)

@[simp] theorem hw_State_restoreEnds (s : State) (r : Restoring) : (State.restoreEnds s r).hw = s.hw := by
  unfold State.restoreEnds
  (simp [apply_ite State.hw, hw_foldl])

@[simp] theorem hw_State_discover (s : State) (ident : Nat) (block : Bool) (port : Nat) : (State.discover s ident block port).hw = s.hw := by
  unfold State.discover
  (simp [apply_ite State.hw, hw_foldl])

@[simp] theorem hw_State_answerRecord (s : State) (src : Nat) (partner : Bool) (seq : Nat) : (State.answerRecord s src partner seq).hw = s.hw := by
  unfold State.answerRecord
  ((repeat' split) <;> simp)

@[simp] theorem hw_State_takeRecord (s : State) (partner : Bool) (r : JRec) : (State.takeRecord s partner r).hw = s.hw := by
  unfold State.takeRecord
  (simp)

@[simp] theorem hw_State_mirrorFault (s : State) (ctx commit : Nat) (e : ExtentId) (time : Nat) : (State.mirrorFault s ctx commit e time).hw = s.hw := by
  unfold State.mirrorFault
  (simp)

@[simp] theorem hw_State_hearPair (s : State) (src : Nat) (i : PairInfo) : (State.hearPair s src i).hw = s.hw := by
  unfold State.hearPair
  (simp [apply_ite State.hw, hw_foldl])

@[simp] theorem hw_State_serveImage (s : State) (ident : Nat) : (State.serveImage s ident).hw = s.hw := by
  unfold State.serveImage
  ((repeat' split) <;> simp [apply_ite State.hw, hw_foldl])

theorem hw_State_onGroup (s : State) (a : Arrived) (ctx group : Nat) (f : State → State) (h : (f s).hw = s.hw) :
    (s.onGroup a ctx group f).hw = s.hw := by
  unfold State.onGroup
  split
  · simp
  · exact h

@[simp] theorem hw_State_writeCtrl (s : State) (g a n : Nat) : (State.writeCtrl s g a n).hw = s.hw := by
  unfold State.writeCtrl
  ((repeat' split) <;> simp)

@[simp] theorem hw_State_drainHold (s : State) (fn : Nat) : (State.drainHold s fn).hw = s.hw := by
  unfold State.drainHold
  (simp [apply_ite State.hw, hw_foldl])

@[simp] theorem hw_State_mboxCfg (s : State) (fn : Nat) (v : Word32) : (State.mboxCfg s fn v).hw = s.hw := by
  unfold State.mboxCfg
  (simp)

@[simp] theorem hw_State_evqCfg (s : State) (fn : Nat) (v : Word32) : (State.evqCfg s fn v).hw = s.hw := by
  unfold State.evqCfg
  (simp)

@[simp] theorem hw_State_mboxTail (s : State) (fn : Nat) (v : Word32) (readFails : Bool) : (State.mboxTail s fn v readFails).hw = s.hw := by
  unfold State.mboxTail
  (simp)

@[simp] theorem hw_State_badDoorbell (s : State) (fn : Nat) : (State.badDoorbell s fn).hw = s.hw := by
  unfold State.badDoorbell
  (simp)

@[simp] theorem hw_State_keepAwake (s : State) (v : Word32) : (State.keepAwake s v).hw = s.hw := by
  unfold State.keepAwake
  ((try dsimp only); (repeat' split) <;> refine (hw_foldl _ ?_ _ _).trans ?_ <;> (try intro s a) <;> (repeat' split) <;> simp [apply_ite State.hw, hw_foldl])

@[simp] theorem hw_State_writeFn (s : State) (fn off : Nat) (v : Word32) : (State.writeFn s fn off v).hw = s.hw := by
  unfold State.writeFn
  (simp [apply_ite State.hw, hw_foldl])

@[simp] theorem hw_State_countDone (s : State) (ctx : Nat) (v : VecDone) : (State.countDone s ctx v).hw = s.hw := by
  unfold State.countDone
  (simp [apply_ite State.hw, hw_foldl])

@[simp] theorem hw_State_vecRun (s : State) (ctx : Nat) (r : Run) (d : Desc) (ok : Bool) (run : Ctx → Option VecDone) : (State.vecRun s ctx r d ok run).hw = s.hw := by
  unfold State.vecRun
  (dsimp only; (repeat' split) <;> simp [apply_ite State.hw, hw_foldl])

@[simp] theorem hw_State_vec (s : State) (ctx op func : Nat) : (State.vec s ctx op func).hw = s.hw := by
  unfold State.vec
  ((repeat' split) <;> simp)

@[simp] theorem hw_State_setOp (s : State) (ctx : Nat) (o : MatOp) : (State.setOp s ctx o).hw = s.hw := by
  unfold State.setOp
  (simp)

@[simp] theorem hw_State_dropOp (s : State) (ctx : Nat) (o : MatOp) : (State.dropOp s ctx o).hw = s.hw := by
  unfold State.dropOp
  (simp)

theorem hw_iterUp (f : State → Nat → State) (h : ∀ s n, (f s n).hw = s.hw) (n : Nat) (s : State) : (iterUp f n s).hw = s.hw := by
  induction n with
  | zero => rfl
  | succ n ih => rw [iterUp, h, ih]

@[simp] theorem hw_State_touchTile (s : State) (tile : Nat) : (State.touchTile s tile).hw = s.hw := by
  unfold State.touchTile
  (simp)

@[simp] theorem hw_State_drainMat (s : State) (ctx : Nat) (x : Ctx) (o : MatOp) (r : Run) (d : Desc) : (State.drainMat s ctx x o r d).hw = s.hw := by
  unfold State.drainMat
  (dsimp only; (repeat' split) <;> simp [apply_ite State.hw, hw_foldl])

@[simp] theorem hw_State_endMat (s : State) (ctx : Nat) (o : MatOp) : (State.endMat s ctx o).hw = s.hw := by
  unfold State.endMat
  ((repeat' split) <;> simp [apply_ite State.hw, hw_foldl])

@[simp] theorem hw_State_putOp (s : State) (ctx : Nat) (o : MatOp) : (State.putOp s ctx o).hw = s.hw := by
  unfold State.putOp
  (simp)

@[simp] theorem hw_State_feedChains (s : State) (ctx : Nat) (o : MatOp) (r : Run) : (State.feedChains s ctx o r).hw = s.hw := by
  unfold State.feedChains
  ((repeat' split) <;> simp)

@[simp] theorem hw_State_startMat (s : State) (ctx : Nat) (r : Run) (d : Desc) (m : MatDesc) : (State.startMat s ctx r d m).hw = s.hw := by
  unfold State.startMat
  dsimp only
  split
  · rfl
  · rw [hw_State_refresh, hw_State_feedChains, hw_foldl _ (fun s a => hw_State_touchTile s a),
      hw_foldl _ (fun s a => hw_State_wakeCluster s a)]
    simp

@[simp] theorem hw_State_seenByTask (s : State) (x : Ctx) (k : TaskId) : (State.seenByTask s x k).hw = s.hw := by
  unfold State.seenByTask
  (simp)

@[simp] theorem hw_State_bringIn (s : State) (ctx tile : Nat) (ps : List PieceId) : (State.bringIn s ctx tile ps).hw = s.hw := by
  unfold State.bringIn
  (simp [apply_ite State.hw, hw_foldl])

@[simp] theorem hw_State_fillStage (s : State) (tile eng : Nat) : (State.fillStage s tile eng).hw = s.hw := by
  unfold State.fillStage
  ((repeat' split) <;> simp)

@[simp] theorem hw_State_putGroup (s : State) (tile eng i : Nat) (g : Group) : (State.putGroup s tile eng i g).hw = s.hw := by
  unfold State.putGroup
  (simp)

@[simp] theorem hw_State_freeAt (s : State) (tile eng i : Nat) : (State.freeAt s tile eng i).hw = s.hw := by
  unfold State.freeAt
  (simp)

theorem hw_State_takeSaved {s t : State} {o : MatOp} {k : TaskId} {ws : List Chain} (h : s.takeSaved o k = some (ws, t)) : t.hw = s.hw := by
  unfold State.takeSaved at h
  obtain ⟨v, -, hv⟩ := Option.map_eq_some_iff.mp h
  cases hv; simp

theorem hw_State_takeChunk {s t : State} {o o1 : MatOp} {k : TaskId} {ws : List Chain} (h : s.takeChunk o k = some (ws, o1, t)) :
    t.hw = s.hw := by
  unfold State.takeChunk at h
  split at h
  · cases h; rfl
  · split at h
    · cases h; simp
    · obtain ⟨⟨ws', t'⟩, hv, hr⟩ := Option.map_eq_some_iff.mp h
      cases hr
      exact hw_State_takeSaved hv

theorem hw_State_putMerged (s : State) (x : Ctx) (ctx : Nat) (old new : MatOp) (s1 : State) (h : s1.hw = s.hw) :
    (s.putMerged x ctx old new s1).hw = s.hw := by
  unfold State.putMerged
  split <;> simp [h]

@[simp] theorem hw_State_sendScale (s : State) (ctx me : Nat) (c : Coll) (dg : Digest) : (State.sendScale s ctx me c dg).hw = s.hw := by
  unfold State.sendScale
  (simp)

@[simp] theorem hw_State_hallmarkMiss (s : State) (ctx : Nat) (c : Coll) (unit : Nat) : (State.hallmarkMiss s ctx c unit).hw = s.hw := by
  unfold State.hallmarkMiss
  (simp)

@[simp] theorem hw_State_putOut (s : State) (ctx : Nat) (o : CollOut) : (State.putOut s ctx o).hw = s.hw := by
  unfold State.putOut
  (simp [apply_ite State.hw, hw_foldl])

@[simp] theorem hw_State_retire (s : State) (ctx : Nat) (y : Ctx) (c : Coll) (st : ConvStatus) : (State.retire s ctx y c st).hw = s.hw := by
  unfold State.retire
  (simp)

@[simp] theorem hw_State_faultColl (s : State) (ctx : Nat) (c : Coll) (cause : Nat) : (State.faultColl s ctx c cause).hw = s.hw := by
  unfold State.faultColl
  (simp)

@[simp] theorem hw_State_lowMiddle (s : State) (ctx me : Nat) (x : Ctx) (c : Coll) : (State.lowMiddle s ctx me x c).hw = s.hw := by
  unfold State.lowMiddle
  ((repeat' split) <;> simp)

@[simp] theorem hw_State_lowEnd (s : State) (ctx me : Nat) (x : Ctx) (c : Coll) : (State.lowEnd s ctx me x c).hw = s.hw := by
  unfold State.lowEnd
  (dsimp only; (repeat' split) <;> simp [apply_ite State.hw, hw_foldl])

@[simp] theorem hw_State_endRound (s : State) (ctx me : Nat) (x : Ctx) (c : Coll) : (State.endRound s ctx me x c).hw = s.hw := by
  unfold State.endRound
  ((repeat' split) <;> simp)

@[simp] theorem hw_State_startCopies (s : State) (ctx me : Nat) (x : Ctx) (c : Coll) : (State.startCopies s ctx me x c).hw = s.hw := by
  unfold State.startCopies
  ((repeat' split) <;> simp)

@[simp] theorem hw_State_finishCopy (s : State) (ctx me : Nat) (x : Ctx) (c : Coll) : (State.finishCopy s ctx me x c).hw = s.hw := by
  unfold State.finishCopy
  (dsimp only; (repeat' split) <;> simp [apply_ite State.hw, hw_foldl])

@[simp] theorem hw_State_stepColl (s : State) (ctx : Nat) (c : Coll) : (State.stepColl s ctx c).hw = s.hw := by
  unfold State.stepColl
  ((repeat' split) <;> simp [apply_ite State.hw, hw_foldl])

@[simp] theorem hw_State_holdMsg (s : State) (ctx : Nat) (m : HeldMsg) : (State.holdMsg s ctx m).hw = s.hw := by
  unfold State.holdMsg
  (simp)

@[simp] theorem hw_State_takeXs (s : State) (ctx : Nat) (c : Coll) (m : XsMsg) : (State.takeXs s ctx c m).hw = s.hw := by
  unfold State.takeXs
  (simp [apply_ite State.hw, hw_foldl])

@[simp] theorem hw_State_takeXd (s : State) (ctx me port : Nat) (c : Coll) (m : XdMsg) : (State.takeXd s ctx me port c m).hw = s.hw := by
  unfold State.takeXd
  (simp [apply_ite State.hw, hw_foldl])

@[simp] theorem hw_State_takeXv (s : State) (ctx : Nat) (c : Coll) (m : XvMsg) : (State.takeXv s ctx c m).hw = s.hw := by
  unfold State.takeXv
  (simp)

@[simp] theorem hw_State_takeCopy (s : State) (ctx : Nat) (c : Coll) (m : CopyMsg) : (State.takeCopy s ctx c m).hw = s.hw := by
  unfold State.takeCopy
  (simp)

@[simp] theorem hw_State_relay (s : State) (ctx me : Nat) (g : XGroup) (msg : Msg) (m : CopyMsg) : (State.relay s ctx me g msg m).hw = s.hw := by
  unfold State.relay
  ((repeat' split) <;> simp)

@[simp] theorem hw_State_deliverColl (s : State) (ctx : Nat) (m : HeldMsg) : (State.deliverColl s ctx m).hw = s.hw := by
  unfold State.deliverColl
  ((repeat' split) <;> simp)

@[simp] theorem hw_State_pumpOnce (s : State) (ctx : Nat) : (State.pumpOnce s ctx).hw = s.hw := by
  unfold State.pumpOnce
  split
  · rfl
  · have h : ∀ (l : List Coll) (a : State), (l.foldl (fun a k => match (a.ctx? ctx).bind (fun y => y.colls.find? (fun c => c.is k)) with
        | some c => a.stepColl ctx c
        | none => a) a).hw = a.hw := fun l a => hw_foldl _ (fun a k => by split <;> simp) l a
    dsimp only
    split
    · exact h _ _
    · exact (hw_foldl _ (fun a m => hw_State_deliverColl a ctx m) _ _).trans ((hw_State_setCtx _ _ _).trans (h _ _))

@[simp] theorem hw_State_pumpColls (s : State) (ctx : Nat) : (s.pumpColls ctx).hw = s.hw := by
  unfold State.pumpColls
  rw [hw_State_refresh, hw_State_serveReads]
  exact hw_iterUp _ (fun a _ => hw_State_pumpOnce a ctx) _ _

@[simp] theorem hw_State_startColl (s : State) (ctx me : Nat) (r : Run) (d : Desc) (ep : Nat × Bool) (c : Coll) (dg : Digest) : (State.startColl s ctx me r d ep c dg).hw = s.hw := by
  unfold State.startColl
  (simp)

@[simp] theorem hw_State_onColl (s : State) (src : Nat) (mine : Msg → Bool) : (State.onColl s src mine).hw = s.hw := by
  unfold State.onColl
  ((repeat' split) <;> simp [apply_ite State.hw, hw_foldl])

@[simp] theorem hw_State_noteError (s : State) (r : ErrorReport) (cls action : Nat) : (State.noteError s r cls action).hw = s.hw := by
  unfold State.noteError
  (simp)

@[simp] theorem hw_State_noteCtx (s : State) (r : ErrorReport) (cls ctx action : Nat) : (State.noteCtx s r cls ctx action).hw = s.hw := by
  unfold State.noteCtx
  (simp)

@[simp] theorem hw_State_ueJob (s : State) (r : ErrorReport) (cls ctx : Nat) : (State.ueJob s r cls ctx).hw = s.hw := by
  unfold State.ueJob
  (dsimp only; (repeat' split) <;> simp [apply_ite State.hw, hw_foldl])

@[simp] theorem hw_State_uePart (s : State) (r : ErrorReport) (part : Nat) : (State.uePart s r part).hw = s.hw := by
  unfold State.uePart
  ((repeat' split) <;> simp [apply_ite State.hw, hw_foldl])

@[simp] theorem hw_State_ueOwnRecord (s : State) (r : ErrorReport) (seq : Nat) : (State.ueOwnRecord s r seq).hw = s.hw := by
  unfold State.ueOwnRecord
  ((repeat' split) <;> simp)

@[simp] theorem hw_State_losePartner (s : State) (ctx : Nat) : (State.losePartner s ctx).hw = s.hw := by
  unfold State.losePartner
  (simp)

@[simp] theorem hw_State_uePartnerRecord (s : State) (r : ErrorReport) (seq : Nat) : (State.uePartnerRecord s r seq).hw = s.hw := by
  unfold State.uePartnerRecord
  ((repeat' split) <;> simp)

@[simp] theorem hw_State_ueMirrorSlot (s : State) (r : ErrorReport) (slot : Nat) : (State.ueMirrorSlot s r slot).hw = s.hw := by
  unfold State.ueMirrorSlot
  ((repeat' split) <;> simp)

@[simp] theorem hw_State_countCe (s : State) (r : ErrorReport) : (State.countCe s r).hw = s.hw := by
  unfold State.countCe
  (simp [apply_ite State.hw, hw_foldl])

@[simp] theorem hw_State_settleGather (s : State) (ctx h : Nat) (g : Gathered) : (State.settleGather s ctx h g).hw = s.hw := by
  unfold State.settleGather
  ((repeat' split) <;> simp)

@[simp] theorem hw_State_regather (s : State) (ctx me h : Nat) (x : Ctx) (r : Run) (g : Gathered) (members : List Nat) : (State.regather s ctx me h x r g members).hw = s.hw := by
  unfold State.regather
  ((try dsimp only); (repeat' split) <;> simp [apply_ite State.hw, hw_foldl])

@[simp] theorem hw_State_takeRead (s : State) (x : Ctx) (g : Gathered) (d : ReadData) : (State.takeRead s x g d).hw = s.hw := by
  unfold State.takeRead
  (simp [apply_ite State.hw, hw_foldl])

@[simp] theorem hw_State_saveGroups (s : State) (part ctx : Nat) : (State.saveGroups s part ctx).hw = s.hw := by
  unfold State.saveGroups
  ((repeat' split) <;> simp)

@[simp] theorem hw_State_preemptNow (s : State) (part c : Nat) (p : Part) (sl : Slice) : (State.preemptNow s part c p sl).hw = s.hw := by
  unfold State.preemptNow
  (simp [apply_ite State.hw, hw_foldl])

@[simp] theorem hw_State_restoreGroup (s : State) (v : SavedAt) : (State.restoreGroup s v).hw = s.hw := by
  unfold State.restoreGroup
  (dsimp only; (repeat' split) <;> simp [apply_ite State.hw, hw_foldl])

@[simp] theorem hw_State_enterSlice (s : State) (part ctx len : Nat) : (State.enterSlice s part ctx len).hw = s.hw := by
  unfold State.enterSlice
  ((repeat' split) <;> simp [apply_ite State.hw, hw_foldl])

@[simp] theorem hw_Moves_move (m : Moves) (die : Nat) (a : ExtAt) (h : Home) : (m.move die a h).s.hw = m.s.hw := by
  unfold Moves.move
  split
  · rfl
  · simp

@[simp] theorem hw_Moves_home (p : Part) (all : List ExtAt) (m : Moves) (a : ExtAt) : (Moves.home p all m a).s.hw = m.s.hw := by
  unfold Moves.home
  dsimp only
  repeat' split
  all_goals first | rfl | simp

theorem hw_Moves_foldl {α : Type} (f : Moves → α → Moves) (h : ∀ m a, (f m a).s.hw = m.s.hw) (l : List α) (m : Moves) :
    (l.foldl f m).s.hw = m.s.hw := by
  induction l generalizing m with
  | nil => rfl
  | cons a l ih => simp [ih, h]

@[simp] theorem hw_Moves_makeRoom (p : Part) (all : List ExtAt) (m : Moves) : (Moves.makeRoom p all m).s.hw = m.s.hw := by
  unfold Moves.makeRoom
  refine hw_Moves_foldl _ (fun m a => ?_) _ _
  repeat' split
  all_goals first | rfl | simp

@[simp] theorem hw_State_poolRule (s : State) (part : Nat) (a : ExtAt) (d : Nat) : (State.poolRule s part a d).hw = s.hw := by
  unfold State.poolRule
  (dsimp only; (repeat' split) <;> simp [apply_ite State.hw, hw_foldl])

@[simp] theorem hw_State_placePart (s : State) (part : Nat) : (State.placePart s part).hw = s.hw := by
  unfold State.placePart
  split
  · rfl
  · next p _ =>
    have h : ∀ (all : List ExtAt) (l : List ExtAt) (m : Moves), (l.foldl (Moves.home p all) m).s.hw = m.s.hw := by
      intro all l
      induction l with
      | nil => intro m; rfl
      | cons a l ih => intro m; rw [List.foldl_cons, ih, hw_Moves_home]
    refine (hw_foldl _ (fun t a => hw_foldl _ (fun u d => hw_State_poolRule u part a d) _ _) _ _).trans ?_
    rw [h, hw_Moves_makeRoom]

@[simp] theorem hw_State_forget (s : State) (ctx h : Nat) : (State.forget s ctx h).hw = s.hw := by
  unfold State.forget
  ((repeat' split) <;> simp)

@[simp] theorem hw_State_setLedger (s : State) (ctx : Nat) (x : Ctx) (before after : List StashEntry) : (State.setLedger s ctx x before after).hw = s.hw := by
  unfold State.setLedger
  (simp [apply_ite State.hw, hw_foldl])

@[simp] theorem hw_State_modQueue (s : State) (ctx id : Nat) (f : Queue → Queue) : (State.modQueue s ctx id f).hw = s.hw := by
  unfold State.modQueue
  (simp)

@[simp] theorem hw_State_tick (s : State) : (State.tick s).hw = s.hw := by
  unfold State.tick
  (simp [apply_ite State.hw, hw_foldl])


end Sys2Proof.Machine
end

