-- ==== Sys2Proof/Laws/KeepRows.lean ====
section
/-! SUPPORT. What the commands leave: `keep` for every command but those that write fuses, the image in flash, HALTED
or the power; `hw` for every command on jobs, contexts, messages and work. -/

namespace Sys2Proof.Machine

/-- Does a next state, if any, have a property? -/
def Out.keeps (v : State → Prop) (o : Out) : Prop := ∀ t, o = .next t → v t

theorem keeps_next (v : State → Prop) (t : State) (h : v t) : Out.keeps v (.next t) := by
  intro u hu; cases hu; exact h

theorem keeps_withUnit (v : State → Prop) (b : Bool) (t : State) (h : v t) : Out.keeps v (withUnit b t) := by
  unfold withUnit; split
  · exact keeps_next v t h
  · intro u hu; cases hu

theorem keeps_gheit (h : CmdHead) (bad pf : Bool) (body : State → CmdEnd) (s : State)
    (hb : (body s).keeps (fun t => t.keep = s.keep)) : Out.keeps (fun t => t.keep = s.keep) (gheit h bad pf body s) :=
  keeps_withUnit _ _ _ (keep_runCmd _ _ _ _ _ hb)

theorem keep_execTelemetryWindowEnd (s : State) : Out.keeps (fun t => t.keep = s.keep) (execTelemetryWindowEnd s) := by
  unfold execTelemetryWindowEnd
  refine keeps_next _ _ ?_
  ((try dsimp only); (repeat' split) <;> simp [apply_ite State.keep, apply_ite Flash.image, apply_ite ErrLog.halted, apply_ite Boot.powered, keep_foldl])

theorem keep_execCommitFreeze (ctx : Nat) (s : State) : Out.keeps (fun t => t.keep = s.keep) (execCommitFreeze ctx s) := by
  unfold execCommitFreeze
  refine keeps_next _ _ ?_
  ((try dsimp only); (repeat' split) <;> simp [apply_ite State.keep, apply_ite Flash.image, apply_ite ErrLog.halted, apply_ite Boot.powered, keep_foldl])

theorem keep_execCowCopy (ctx : Nat) (ext : ExtentId) (s : State) : Out.keeps (fun t => t.keep = s.keep) (execCowCopy ctx ext s) := by
  unfold execCowCopy
  refine keeps_next _ _ ?_
  ((try dsimp only); (repeat' split) <;> simp [apply_ite State.keep, apply_ite Flash.image, apply_ite ErrLog.halted, apply_ite Boot.powered, keep_foldl])

theorem keep_execCommitTransfer (ctx : Nat) (s : State) : Out.keeps (fun t => t.keep = s.keep) (execCommitTransfer ctx s) := by
  unfold execCommitTransfer
  refine keeps_next _ _ ?_
  ((try dsimp only); (repeat' split) <;> simp [apply_ite State.keep, apply_ite Flash.image, apply_ite ErrLog.halted, apply_ite Boot.powered, keep_foldl])

theorem keep_execCommitCoordination (src : Nat) (s : State) : Out.keeps (fun t => t.keep = s.keep) (execCommitCoordination src s) := by
  unfold execCommitCoordination
  refine keeps_next _ _ ?_
  refine keep_onMessage _ _ _ _ ?_
  intro r a t ht
  (try dsimp only at ht)
  (repeat' split at ht)
  all_goals first
    | (cases ht; done)
    | (cases ht; simp [apply_ite State.keep, apply_ite Flash.image, apply_ite ErrLog.halted, apply_ite Boot.powered, keep_foldl]; done)
    | (simp only [Option.some.injEq] at ht; subst ht; simp [apply_ite State.keep, apply_ite Flash.image, apply_ite ErrLog.halted, apply_ite Boot.powered, keep_foldl]; done)

theorem keep_execMirrorExtentAck (src : Nat) (s : State) : Out.keeps (fun t => t.keep = s.keep) (execMirrorExtentAck src s) := by
  unfold execMirrorExtentAck
  refine keeps_next _ _ ?_
  refine keep_onMessage _ _ _ _ ?_
  intro r a t ht
  (try dsimp only at ht)
  (repeat' split at ht)
  all_goals first
    | (cases ht; done)
    | (cases ht; simp [apply_ite State.keep, apply_ite Flash.image, apply_ite ErrLog.halted, apply_ite Boot.powered, keep_foldl]; done)
    | (simp only [Option.some.injEq] at ht; subst ht; simp [apply_ite State.keep, apply_ite Flash.image, apply_ite ErrLog.halted, apply_ite Boot.powered, keep_foldl]; done)

theorem keep_execCommitSealed (src : Nat) (s : State) : Out.keeps (fun t => t.keep = s.keep) (execCommitSealed src s) := by
  unfold execCommitSealed
  refine keeps_next _ _ ?_
  refine keep_onMessage _ _ _ _ ?_
  intro r a t ht
  (try dsimp only at ht)
  (repeat' split at ht)
  all_goals first
    | (cases ht; done)
    | (cases ht; simp [apply_ite State.keep, apply_ite Flash.image, apply_ite ErrLog.halted, apply_ite Boot.powered, keep_foldl]; done)
    | (simp only [Option.some.injEq] at ht; subst ht; simp [apply_ite State.keep, apply_ite Flash.image, apply_ite ErrLog.halted, apply_ite Boot.powered, keep_foldl]; done)

theorem keep_execJournalRecords (src : Nat) (s : State) : Out.keeps (fun t => t.keep = s.keep) (execJournalRecords src s) := by
  unfold execJournalRecords
  refine keeps_next _ _ ?_
  refine keep_onMessage _ _ _ _ ?_
  intro r a t ht
  (try dsimp only at ht)
  (repeat' split at ht)
  all_goals first
    | (cases ht; done)
    | (cases ht; simp [apply_ite State.keep, apply_ite Flash.image, apply_ite ErrLog.halted, apply_ite Boot.powered, keep_foldl]; done)
    | (simp only [Option.some.injEq] at ht; subst ht; simp [apply_ite State.keep, apply_ite Flash.image, apply_ite ErrLog.halted, apply_ite Boot.powered, keep_foldl]; done)

theorem keep_execTensorCreate (h : CmdHead) (ctx : Nat) (p : TensorParams) (s : State) : Out.keeps (fun t => t.keep = s.keep) (execTensorCreate h ctx p s) := by
  unfold execTensorCreate
  refine keeps_gheit _ _ _ _ _ ?_
  try dsimp only
  repeat' (first | with_reducible exact trivial | (refine keeps_forOwner _ _ _ _ _ ?_; intro x) | refine keeps_refuseIf _ _ _ ?_ | split)
  all_goals first
    | exact trivial
    | ((try dsimp only [CmdEnd.keeps]) <;> (repeat' split) <;> simp [apply_ite State.keep, apply_ite Flash.image, apply_ite ErrLog.halted, apply_ite Boot.powered, keep_foldl])

theorem keep_execTensorDelete (h : CmdHead) (ctx handle : Nat) (s : State) : Out.keeps (fun t => t.keep = s.keep) (execTensorDelete h ctx handle s) := by
  unfold execTensorDelete
  refine keeps_gheit _ _ _ _ _ ?_
  try dsimp only
  repeat' (first | with_reducible exact trivial | (refine keeps_forOwner _ _ _ _ _ ?_; intro x) | refine keeps_refuseIf _ _ _ ?_ | split)
  all_goals first
    | exact trivial
    | ((try dsimp only [CmdEnd.keeps]) <;> (repeat' split) <;> simp [apply_ite State.keep, apply_ite Flash.image, apply_ite ErrLog.halted, apply_ite Boot.powered, keep_foldl])

theorem keep_execTensorMap (h : CmdHead) (ctx handle offset : Nat) (s : State) : Out.keeps (fun t => t.keep = s.keep) (execTensorMap h ctx handle offset s) := by
  unfold execTensorMap
  refine keeps_gheit _ _ _ _ _ ?_
  try dsimp only
  repeat' (first | with_reducible exact trivial | (refine keeps_forOwner _ _ _ _ _ ?_; intro x) | refine keeps_refuseIf _ _ _ ?_ | split)
  all_goals first
    | exact trivial
    | ((try dsimp only [CmdEnd.keeps]) <;> (repeat' split) <;> simp [apply_ite State.keep, apply_ite Flash.image, apply_ite ErrLog.halted, apply_ite Boot.powered, keep_foldl])

theorem keep_execTensorUnmap (h : CmdHead) (ctx handle : Nat) (s : State) : Out.keeps (fun t => t.keep = s.keep) (execTensorUnmap h ctx handle s) := by
  unfold execTensorUnmap
  refine keeps_gheit _ _ _ _ _ ?_
  try dsimp only
  repeat' (first | with_reducible exact trivial | (refine keeps_forOwner _ _ _ _ _ ?_; intro x) | refine keeps_refuseIf _ _ _ ?_ | split)
  all_goals first
    | exact trivial
    | ((try dsimp only [CmdEnd.keeps]) <;> (repeat' split) <;> simp [apply_ite State.keep, apply_ite Flash.image, apply_ite ErrLog.halted, apply_ite Boot.powered, keep_foldl])

theorem keep_execTensorQuery (h : CmdHead) (ctx handle : Nat) (s : State) : Out.keeps (fun t => t.keep = s.keep) (execTensorQuery h ctx handle s) := by
  unfold execTensorQuery
  refine keeps_gheit _ _ _ _ _ ?_
  try dsimp only
  repeat' (first | with_reducible exact trivial | (refine keeps_forOwner _ _ _ _ _ ?_; intro x) | refine keeps_refuseIf _ _ _ ?_ | split)
  all_goals first
    | exact trivial
    | ((try dsimp only [CmdEnd.keeps]) <;> (repeat' split) <;> simp [apply_ite State.keep, apply_ite Flash.image, apply_ite ErrLog.halted, apply_ite Boot.powered, keep_foldl])

theorem keep_execBar2Read (fn offset len : Nat) (s : State) : Out.keeps (fun t => t.keep = s.keep) (execBar2Read fn offset len s) := by
  unfold execBar2Read
  refine keeps_withUnit _ _ _ ?_
  ((try dsimp only); (repeat' split) <;> simp [apply_ite State.keep, apply_ite Flash.image, apply_ite ErrLog.halted, apply_ite Boot.powered, keep_foldl])

theorem keep_execBar2Write (fn offset : Nat) (bytes : List Byte) (s : State) : Out.keeps (fun t => t.keep = s.keep) (execBar2Write fn offset bytes s) := by
  unfold execBar2Write
  refine keeps_withUnit _ _ _ ?_
  ((try dsimp only); (repeat' split) <;> simp [apply_ite State.keep, apply_ite Flash.image, apply_ite ErrLog.halted, apply_ite Boot.powered, keep_foldl])

theorem keep_execKvPoolCreate (h : CmdHead) (ctx pages persistent : Nat) (s : State) : Out.keeps (fun t => t.keep = s.keep) (execKvPoolCreate h ctx pages persistent s) := by
  unfold execKvPoolCreate
  refine keeps_gheit _ _ _ _ _ ?_
  try dsimp only
  refine keeps_forOwner _ _ _ _ _ ?_
  intro x
  generalize lowestFree 65536 (Tab.keys x.pools) = o
  repeat' (first | with_reducible exact trivial | split | refine keeps_refuseIf _ _ _ ?_)
  all_goals first
    | exact trivial
    | ((try dsimp only [CmdEnd.keeps]) <;> simp [apply_ite State.keep, apply_ite Flash.image, apply_ite ErrLog.halted, apply_ite Boot.powered, keep_foldl])

theorem keep_execKvMap (h : CmdHead) (ctx slot first count : Nat) (entries : Option (List Word32)) (s : State) : Out.keeps (fun t => t.keep = s.keep) (execKvMap h ctx slot first count entries s) := by
  unfold execKvMap
  refine keeps_gheit _ _ _ _ _ ?_
  try dsimp only
  repeat' (first | with_reducible exact trivial | (refine keeps_forOwner _ _ _ _ _ ?_; intro x) | refine keeps_refuseIf _ _ _ ?_ | split)
  all_goals first
    | exact trivial
    | ((try dsimp only [CmdEnd.keeps]) <;> (repeat' split) <;> simp [apply_ite State.keep, apply_ite Flash.image, apply_ite ErrLog.halted, apply_ite Boot.powered, keep_foldl])

theorem keep_execKvPoolDestroy (h : CmdHead) (ctx pool : Nat) (s : State) : Out.keeps (fun t => t.keep = s.keep) (execKvPoolDestroy h ctx pool s) := by
  unfold execKvPoolDestroy
  refine keeps_gheit _ _ _ _ _ ?_
  try dsimp only
  repeat' (first | with_reducible exact trivial | (refine keeps_forOwner _ _ _ _ _ ?_; intro x) | refine keeps_refuseIf _ _ _ ?_ | split)
  all_goals first
    | exact trivial
    | ((try dsimp only [CmdEnd.keeps]) <;> (repeat' split) <;> simp [apply_ite State.keep, apply_ite Flash.image, apply_ite ErrLog.halted, apply_ite Boot.powered, keep_foldl])

theorem keep_execSlotAssign (h : CmdHead) (ctx bytes : Nat) (prompt : Option (List Byte)) (s : State) : Out.keeps (fun t => t.keep = s.keep) (execSlotAssign h ctx bytes prompt s) := by
  unfold execSlotAssign
  refine keeps_gheit _ _ _ _ _ ?_
  try dsimp only
  refine keeps_forOwner _ _ _ _ _ ?_
  intro x
  generalize lowestFree 8192 (Tab.keys s.slots) = o
  repeat' (first | with_reducible exact trivial | split | refine keeps_refuseIf _ _ _ ?_)
  all_goals first
    | exact trivial
    | ((try dsimp only [CmdEnd.keeps]) <;> simp [apply_ite State.keep, apply_ite Flash.image, apply_ite ErrLog.halted, apply_ite Boot.powered, keep_foldl])

theorem keep_execSlotRelease (h : CmdHead) (ctx slot : Nat) (s : State) : Out.keeps (fun t => t.keep = s.keep) (execSlotRelease h ctx slot s) := by
  unfold execSlotRelease
  refine keeps_gheit _ _ _ _ _ ?_
  try dsimp only
  repeat' (first | with_reducible exact trivial | (refine keeps_forOwner _ _ _ _ _ ?_; intro x) | refine keeps_refuseIf _ _ _ ?_ | split)
  all_goals first
    | exact trivial
    | ((try dsimp only [CmdEnd.keeps]) <;> (repeat' split) <;> simp [apply_ite State.keep, apply_ite Flash.image, apply_ite ErrLog.halted, apply_ite Boot.powered, keep_foldl])

theorem keep_execSlotQuery (h : CmdHead) (ctx slot addr : Nat) (s : State) : Out.keeps (fun t => t.keep = s.keep) (execSlotQuery h ctx slot addr s) := by
  unfold execSlotQuery
  refine keeps_gheit _ _ _ _ _ ?_
  try dsimp only
  repeat' (first | with_reducible exact trivial | (refine keeps_forOwner _ _ _ _ _ ?_; intro x) | refine keeps_refuseIf _ _ _ ?_ | split)
  all_goals first
    | exact trivial
    | ((try dsimp only [CmdEnd.keeps]) <;> (repeat' split) <;> simp [apply_ite State.keep, apply_ite Flash.image, apply_ite ErrLog.halted, apply_ite Boot.powered, keep_foldl])

theorem keep_execQueueCreate (h : CmdHead) (ctx : Nat) (p : QueueParams) (s : State) : Out.keeps (fun t => t.keep = s.keep) (execQueueCreate h ctx p s) := by
  unfold execQueueCreate
  refine keeps_gheit _ _ _ _ _ ?_
  try dsimp only
  repeat' (first | with_reducible exact trivial | (refine keeps_forOwner _ _ _ _ _ ?_; intro x) | refine keeps_refuseIf _ _ _ ?_ | split)
  all_goals first
    | exact trivial
    | ((try dsimp only [CmdEnd.keeps]) <;> (repeat' split) <;> simp [apply_ite State.keep, apply_ite Flash.image, apply_ite ErrLog.halted, apply_ite Boot.powered, keep_foldl])

theorem keep_execQueueDestroy (h : CmdHead) (ctx queue : Nat) (s : State) : Out.keeps (fun t => t.keep = s.keep) (execQueueDestroy h ctx queue s) := by
  unfold execQueueDestroy
  refine keeps_gheit _ _ _ _ _ ?_
  try dsimp only
  repeat' (first | with_reducible exact trivial | (refine keeps_forOwner _ _ _ _ _ ?_; intro x) | refine keeps_refuseIf _ _ _ ?_ | split)
  all_goals first
    | exact trivial
    | ((try dsimp only [CmdEnd.keeps]) <;> (repeat' split) <;> simp [apply_ite State.keep, apply_ite Flash.image, apply_ite ErrLog.halted, apply_ite Boot.powered, keep_foldl])

theorem keep_execXgroupCreate (h : CmdHead) (ctx group count : Nat) (members : Option (List Nat)) (s : State) : Out.keeps (fun t => t.keep = s.keep) (execXgroupCreate h ctx group count members s) := by
  unfold execXgroupCreate
  refine keeps_gheit _ _ _ _ _ ?_
  try dsimp only
  repeat' (first | with_reducible exact trivial | (refine keeps_forOwner _ _ _ _ _ ?_; intro x) | refine keeps_refuseIf _ _ _ ?_ | split)
  all_goals first
    | exact trivial
    | ((try dsimp only [CmdEnd.keeps]) <;> (repeat' split) <;> simp [apply_ite State.keep, apply_ite Flash.image, apply_ite ErrLog.halted, apply_ite Boot.powered, keep_foldl])

theorem keep_execXgroupDestroy (h : CmdHead) (ctx group : Nat) (s : State) : Out.keeps (fun t => t.keep = s.keep) (execXgroupDestroy h ctx group s) := by
  unfold execXgroupDestroy
  refine keeps_gheit _ _ _ _ _ ?_
  try dsimp only
  repeat' (first | with_reducible exact trivial | (refine keeps_forOwner _ _ _ _ _ ?_; intro x) | refine keeps_refuseIf _ _ _ ?_ | split)
  all_goals first
    | exact trivial
    | ((try dsimp only [CmdEnd.keeps]) <;> (repeat' split) <;> simp [apply_ite State.keep, apply_ite Flash.image, apply_ite ErrLog.halted, apply_ite Boot.powered, keep_foldl])

theorem keep_execGatherBudget (h : CmdHead) (ctx units : Nat) (s : State) : Out.keeps (fun t => t.keep = s.keep) (execGatherBudget h ctx units s) := by
  unfold execGatherBudget
  refine keeps_gheit _ _ _ _ _ ?_
  try dsimp only
  repeat' (first | with_reducible exact trivial | (refine keeps_forOwner _ _ _ _ _ ?_; intro x) | refine keeps_refuseIf _ _ _ ?_ | split)
  all_goals first
    | exact trivial
    | ((try dsimp only [CmdEnd.keeps]) <;> (repeat' split) <;> simp [apply_ite State.keep, apply_ite Flash.image, apply_ite ErrLog.halted, apply_ite Boot.powered, keep_foldl])

theorem keep_execMapPlan (h : CmdHead) (ctx : Nat) (p : PlanParams) (readFails : Bool) (s : State) : Out.keeps (fun t => t.keep = s.keep) (execMapPlan h ctx p readFails s) := by
  unfold execMapPlan
  refine keeps_gheit _ _ _ _ _ ?_
  refine keeps_forOwner _ _ _ _ _ (fun x => ?_)
  exact keeps_refuseIf _ _ _ (keep_State_planOrRefuse _ _ _ _)

theorem keep_execMapPlanDrop (h : CmdHead) (ctx plan : Nat) (s : State) : Out.keeps (fun t => t.keep = s.keep) (execMapPlanDrop h ctx plan s) := by
  unfold execMapPlanDrop
  refine keeps_gheit _ _ _ _ _ ?_
  try dsimp only
  repeat' (first | with_reducible exact trivial | (refine keeps_forOwner _ _ _ _ _ ?_; intro x) | refine keeps_refuseIf _ _ _ ?_ | split)
  all_goals first
    | exact trivial
    | ((try dsimp only [CmdEnd.keeps]) <;> (repeat' split) <;> simp [apply_ite State.keep, apply_ite Flash.image, apply_ite ErrLog.halted, apply_ite Boot.powered, keep_foldl])

theorem keep_execMapPlanTimeout (ctx plan : Nat) (s : State) : Out.keeps (fun t => t.keep = s.keep) (execMapPlanTimeout ctx plan s) := by
  unfold execMapPlanTimeout
  refine keeps_next _ _ ?_
  ((try dsimp only); (repeat' split) <;> simp [apply_ite State.keep, apply_ite Flash.image, apply_ite ErrLog.halted, apply_ite Boot.powered, keep_foldl])

theorem keep_execPartitionCreate (h : CmdHead) (p : PartitionParams) (s : State) : Out.keeps (fun t => t.keep = s.keep) (execPartitionCreate h p s) := by
  unfold execPartitionCreate
  refine keeps_gheit _ _ _ _ _ ?_
  try dsimp only
  repeat' (first | with_reducible exact trivial | (refine keeps_forOwner _ _ _ _ _ ?_; intro x) | refine keeps_refuseIf _ _ _ ?_ | split)
  all_goals first
    | exact trivial
    | ((try dsimp only [CmdEnd.keeps]) <;> (repeat' split) <;> simp [apply_ite State.keep, apply_ite Flash.image, apply_ite ErrLog.halted, apply_ite Boot.powered, keep_foldl])

theorem keep_execPartitionDestroy (h : CmdHead) (part : Nat) (s : State) : Out.keeps (fun t => t.keep = s.keep) (execPartitionDestroy h part s) := by
  unfold execPartitionDestroy
  refine keeps_gheit _ _ _ _ _ ?_
  try dsimp only
  repeat' (first | with_reducible exact trivial | (refine keeps_forOwner _ _ _ _ _ ?_; intro x) | refine keeps_refuseIf _ _ _ ?_ | split)
  all_goals first
    | exact trivial
    | ((try dsimp only [CmdEnd.keeps]) <;> (repeat' split) <;> simp [apply_ite State.keep, apply_ite Flash.image, apply_ite ErrLog.halted, apply_ite Boot.powered, keep_foldl])

theorem keep_execPartitionQuantum (h : CmdHead) (part quantum : Nat) (s : State) : Out.keeps (fun t => t.keep = s.keep) (execPartitionQuantum h part quantum s) := by
  unfold execPartitionQuantum
  refine keeps_gheit _ _ _ _ _ ?_
  try dsimp only
  repeat' (first | with_reducible exact trivial | (refine keeps_forOwner _ _ _ _ _ ?_; intro x) | refine keeps_refuseIf _ _ _ ?_ | split)
  all_goals first
    | exact trivial
    | ((try dsimp only [CmdEnd.keeps]) <;> (repeat' split) <;> simp [apply_ite State.keep, apply_ite Flash.image, apply_ite ErrLog.halted, apply_ite Boot.powered, keep_foldl])

theorem keep_execContextCreate (h : CmdHead) (p : ContextParams) (s : State) : Out.keeps (fun t => t.keep = s.keep) (execContextCreate h p s) := by
  unfold execContextCreate
  refine keeps_gheit _ _ _ _ _ ?_
  try dsimp only
  generalize lowestFree 1024 (Tab.keys s.ctxs) = o
  repeat' (first | with_reducible exact trivial | split | refine keeps_refuseIf _ _ _ ?_)
  all_goals first
    | exact trivial
    | ((try dsimp only [CmdEnd.keeps]) <;> simp [apply_ite State.keep, apply_ite Flash.image, apply_ite ErrLog.halted, apply_ite Boot.powered, keep_foldl])

theorem keep_execContextDestroy (h : CmdHead) (ctx : Nat) (s : State) : Out.keeps (fun t => t.keep = s.keep) (execContextDestroy h ctx s) := by
  unfold execContextDestroy
  refine keeps_gheit _ _ _ _ _ ?_
  try dsimp only
  repeat' (first | with_reducible exact trivial | (refine keeps_forOwner _ _ _ _ _ ?_; intro x) | refine keeps_refuseIf _ _ _ ?_ | split)
  all_goals first
    | exact trivial
    | ((try dsimp only [CmdEnd.keeps]) <;> (repeat' split) <;> simp [apply_ite State.keep, apply_ite Flash.image, apply_ite ErrLog.halted, apply_ite Boot.powered, keep_foldl])

theorem keep_execContextPriority (h : CmdHead) (ctx prio : Nat) (s : State) : Out.keeps (fun t => t.keep = s.keep) (execContextPriority h ctx prio s) := by
  unfold execContextPriority
  refine keeps_gheit _ _ _ _ _ ?_
  try dsimp only
  repeat' (first | with_reducible exact trivial | (refine keeps_forOwner _ _ _ _ _ ?_; intro x) | refine keeps_refuseIf _ _ _ ?_ | split)
  all_goals first
    | exact trivial
    | ((try dsimp only [CmdEnd.keeps]) <;> (repeat' split) <;> simp [apply_ite State.keep, apply_ite Flash.image, apply_ite ErrLog.halted, apply_ite Boot.powered, keep_foldl])

theorem keep_execContextQuery (h : CmdHead) (ctx : Nat) (s : State) : Out.keeps (fun t => t.keep = s.keep) (execContextQuery h ctx s) := by
  unfold execContextQuery
  refine keeps_gheit _ _ _ _ _ ?_
  try dsimp only
  repeat' (first | with_reducible exact trivial | (refine keeps_forOwner _ _ _ _ _ ?_; intro x) | refine keeps_refuseIf _ _ _ ?_ | split)
  all_goals first
    | exact trivial
    | ((try dsimp only [CmdEnd.keeps]) <;> (repeat' split) <;> simp [apply_ite State.keep, apply_ite Flash.image, apply_ite ErrLog.halted, apply_ite Boot.powered, keep_foldl])

theorem keep_execRingCreate (h : CmdHead) (p : RingParams) (s : State) : Out.keeps (fun t => t.keep = s.keep) (execRingCreate h p s) := by
  unfold execRingCreate
  refine keeps_gheit _ _ _ _ _ ?_
  try dsimp only
  refine keeps_forOwner _ _ _ _ _ ?_
  intro x
  generalize lowestFree 16384 (Tab.keys s.rings) = o
  repeat' (first | with_reducible exact trivial | split | refine keeps_refuseIf _ _ _ ?_)
  all_goals first
    | exact trivial
    | ((try dsimp only [CmdEnd.keeps]) <;> simp [apply_ite State.keep, apply_ite Flash.image, apply_ite ErrLog.halted, apply_ite Boot.powered, keep_foldl])

theorem keep_execRingDestroy (h : CmdHead) (ring : Nat) (s : State) : Out.keeps (fun t => t.keep = s.keep) (execRingDestroy h ring s) := by
  unfold execRingDestroy
  refine keeps_gheit _ _ _ _ _ ?_
  try dsimp only
  repeat' (first | with_reducible exact trivial | (refine keeps_forOwner _ _ _ _ _ ?_; intro x) | refine keeps_refuseIf _ _ _ ?_ | split)
  all_goals first
    | exact trivial
    | ((try dsimp only [CmdEnd.keeps]) <;> (repeat' split) <;> simp [apply_ite State.keep, apply_ite Flash.image, apply_ite ErrLog.halted, apply_ite Boot.powered, keep_foldl])

theorem keep_execClientCounts (h : CmdHead) (client : Nat) (s : State) : Out.keeps (fun t => t.keep = s.keep) (execClientCounts h client s) := by
  unfold execClientCounts
  refine keeps_gheit _ _ _ _ _ ?_
  try dsimp only
  repeat' (first | with_reducible exact trivial | (refine keeps_forOwner _ _ _ _ _ ?_; intro x) | refine keeps_refuseIf _ _ _ ?_ | split)
  all_goals first
    | exact trivial
    | ((try dsimp only [CmdEnd.keeps]) <;> (repeat' split) <;> simp [apply_ite State.keep, apply_ite Flash.image, apply_ite ErrLog.halted, apply_ite Boot.powered, keep_foldl])

theorem keep_execDieRailUp (die : Nat) (s : State) : Out.keeps (fun t => t.keep = s.keep) (execDieRailUp die s) := by
  unfold execDieRailUp
  refine keeps_withUnit _ _ _ ?_
  ((try dsimp only); (repeat' split) <;> simp [apply_ite State.keep, apply_ite Flash.image, apply_ite ErrLog.halted, apply_ite Boot.powered, keep_foldl])

theorem keep_execDieWakeDone (die : Nat) (s : State) : Out.keeps (fun t => t.keep = s.keep) (execDieWakeDone die s) := by
  unfold execDieWakeDone
  refine keeps_withUnit _ _ _ ?_
  ((try dsimp only); (repeat' split) <;> simp [apply_ite State.keep, apply_ite Flash.image, apply_ite ErrLog.halted, apply_ite Boot.powered, keep_foldl])

theorem keep_execClusterWakeDone (cluster : Nat) (s : State) : Out.keeps (fun t => t.keep = s.keep) (execClusterWakeDone cluster s) := by
  unfold execClusterWakeDone
  refine keeps_withUnit _ _ _ ?_
  ((try dsimp only); (repeat' split) <;> simp [apply_ite State.keep, apply_ite Flash.image, apply_ite ErrLog.halted, apply_ite Boot.powered, keep_foldl])

theorem keep_execClusterSleep (cluster : Nat) (s : State) : Out.keeps (fun t => t.keep = s.keep) (execClusterSleep cluster s) := by
  unfold execClusterSleep
  refine keeps_withUnit _ _ _ ?_
  ((try dsimp only); (repeat' split) <;> simp [apply_ite State.keep, apply_ite Flash.image, apply_ite ErrLog.halted, apply_ite Boot.powered, keep_foldl])

theorem keep_execDieNap (die : Nat) (s : State) : Out.keeps (fun t => t.keep = s.keep) (execDieNap die s) := by
  unfold execDieNap
  refine keeps_withUnit _ _ _ ?_
  ((try dsimp only); (repeat' split) <;> simp [apply_ite State.keep, apply_ite Flash.image, apply_ite ErrLog.halted, apply_ite Boot.powered, keep_foldl])

theorem keep_execDieOff (die : Nat) (s : State) : Out.keeps (fun t => t.keep = s.keep) (execDieOff die s) := by
  unfold execDieOff
  refine keeps_withUnit _ _ _ ?_
  ((try dsimp only); (repeat' split) <;> simp [apply_ite State.keep, apply_ite Flash.image, apply_ite ErrLog.halted, apply_ite Boot.powered, keep_foldl])

theorem keep_execEngineGate (tile eng : Nat) (s : State) : Out.keeps (fun t => t.keep = s.keep) (execEngineGate tile eng s) := by
  unfold execEngineGate
  refine keeps_withUnit _ _ _ ?_
  ((try dsimp only); (repeat' split) <;> simp [apply_ite State.keep, apply_ite Flash.image, apply_ite ErrLog.halted, apply_ite Boot.powered, keep_foldl])

theorem keep_execEngineStart (tile eng : Nat) (s : State) : Out.keeps (fun t => t.keep = s.keep) (execEngineStart tile eng s) := by
  unfold execEngineStart
  refine keeps_withUnit _ _ _ ?_
  ((try dsimp only); (repeat' split) <;> simp [apply_ite State.keep, apply_ite Flash.image, apply_ite ErrLog.halted, apply_ite Boot.powered, keep_foldl])

theorem keep_execPowerSample (r : Sensors) (s : State) : Out.keeps (fun t => t.keep = s.keep) (execPowerSample r s) := by
  unfold execPowerSample
  refine keeps_next _ _ ?_
  ((try dsimp only); (repeat' split) <;> simp [apply_ite State.keep, apply_ite Flash.image, apply_ite ErrLog.halted, apply_ite Boot.powered, keep_foldl])

theorem keep_execGovernorInterval (s : State) : Out.keeps (fun t => t.keep = s.keep) (execGovernorInterval s) := by
  unfold execGovernorInterval
  refine keeps_next _ _ ?_
  ((try dsimp only); (repeat' split) <;> simp [apply_ite State.keep, apply_ite Flash.image, apply_ite ErrLog.halted, apply_ite Boot.powered, keep_foldl])

theorem keep_execStepUpCheck (s : State) : Out.keeps (fun t => t.keep = s.keep) (execStepUpCheck s) := by
  unfold execStepUpCheck
  refine keeps_next _ _ ?_
  ((try dsimp only); (repeat' split) <;> simp [apply_ite State.keep, apply_ite Flash.image, apply_ite ErrLog.halted, apply_ite Boot.powered, keep_foldl])

theorem keep_execClockStepApply (s : State) : Out.keeps (fun t => t.keep = s.keep) (execClockStepApply s) := by
  unfold execClockStepApply
  refine keeps_next _ _ ?_
  ((try dsimp only); (repeat' split) <;> simp [apply_ite State.keep, apply_ite Flash.image, apply_ite ErrLog.halted, apply_ite Boot.powered, keep_foldl])

theorem keep_execLogbookSecondSample (s : State) : Out.keeps (fun t => t.keep = s.keep) (execLogbookSecondSample s) := by
  unfold execLogbookSecondSample
  refine keeps_next _ _ ?_
  ((try dsimp only); (repeat' split) <;> simp [apply_ite State.keep, apply_ite Flash.image, apply_ite ErrLog.halted, apply_ite Boot.powered, keep_foldl])

theorem keep_execLogbookHourlySample (s : State) : Out.keeps (fun t => t.keep = s.keep) (execLogbookHourlySample s) := by
  unfold execLogbookHourlySample
  refine keeps_next _ _ ?_
  ((try dsimp only); (repeat' split) <;> simp [apply_ite State.keep, apply_ite Flash.image, apply_ite ErrLog.halted, apply_ite Boot.powered, keep_foldl])

theorem keep_execLogbookCommit (s : State) : Out.keeps (fun t => t.keep = s.keep) (execLogbookCommit s) := by
  unfold execLogbookCommit
  refine keeps_next _ _ ?_
  ((try dsimp only); (repeat' split) <;> simp [apply_ite State.keep, apply_ite Flash.image, apply_ite ErrLog.halted, apply_ite Boot.powered, keep_foldl])

theorem keep_execMemoryWrite (src : Nat) (s : State) : Out.keeps (fun t => t.keep = s.keep) (execMemoryWrite src s) := by
  unfold execMemoryWrite
  refine keeps_next _ _ ?_
  refine keep_onMessage _ _ _ _ ?_
  intro r a t ht
  (try dsimp only at ht)
  (repeat' split at ht)
  all_goals first
    | (cases ht; done)
    | (cases ht; simp; done)
    | (obtain ⟨u, hu, rfl⟩ := Option.map_eq_some_iff.mp ht; rw [keep_State_send, keep_State_mirrorWrite _ _ _ hu]; simp; done)

theorem keep_execJobReplay (ctx : Nat) (consumed : Tab Nat) (s : State) : Out.keeps (fun t => t.keep = s.keep) (execJobReplay ctx consumed s) := by
  unfold execJobReplay
  refine keeps_next _ _ ?_
  have he : ∀ (s : State) ctx x p es t, s.replayEntry ctx x p es = some t → t.keep = s.keep := by
    intro s ctx x p es t h
    unfold State.replayEntry at h
    dsimp only at h
    repeat' split at h
    all_goals first | (cases h; done) | (cases h; simp)
  dsimp only
  repeat' split
  all_goals first
    | rfl
    | (simp; done)
    | (rw [keep_State_refresh, he _ _ _ _ _ _ (by assumption)]; simp)

theorem keep_execModuleIdSet (h : CmdHead) (ident size : Nat) (s : State) : Out.keeps (fun t => t.keep = s.keep) (execModuleIdSet h ident size s) := by
  unfold execModuleIdSet
  refine keeps_gheit _ _ _ _ _ ?_
  try dsimp only
  repeat' (first | with_reducible exact trivial | (refine keeps_forOwner _ _ _ _ _ ?_; intro x) | refine keeps_refuseIf _ _ _ ?_ | split)
  all_goals first
    | exact trivial
    | ((try dsimp only [CmdEnd.keeps]) <;> (repeat' split) <;> simp [apply_ite State.keep, apply_ite Flash.image, apply_ite ErrLog.halted, apply_ite Boot.powered, keep_foldl])

theorem keep_execFabricReserve (h : CmdHead) (part share lend : Nat) (s : State) : Out.keeps (fun t => t.keep = s.keep) (execFabricReserve h part share lend s) := by
  unfold execFabricReserve
  refine keeps_gheit _ _ _ _ _ ?_
  try dsimp only
  repeat' (first | with_reducible exact trivial | (refine keeps_forOwner _ _ _ _ _ ?_; intro x) | refine keeps_refuseIf _ _ _ ?_ | split)
  all_goals first
    | exact trivial
    | ((try dsimp only [CmdEnd.keeps]) <;> (repeat' split) <;> simp [apply_ite State.keep, apply_ite Flash.image, apply_ite ErrLog.halted, apply_ite Boot.powered, keep_foldl])

theorem keep_execPortReset (h : CmdHead) (port : Nat) (s : State) : Out.keeps (fun t => t.keep = s.keep) (execPortReset h port s) := by
  unfold execPortReset
  refine keeps_gheit _ _ _ _ _ ?_
  try dsimp only
  repeat' (first | with_reducible exact trivial | (refine keeps_forOwner _ _ _ _ _ ?_; intro x) | refine keeps_refuseIf _ _ _ ?_ | split)
  all_goals first
    | exact trivial
    | ((try dsimp only [CmdEnd.keeps]) <;> (repeat' split) <;> simp [apply_ite State.keep, apply_ite Flash.image, apply_ite ErrLog.halted, apply_ite Boot.powered, keep_foldl])

theorem keep_execCartridgeRelease (h : CmdHead) (cart : Nat) (s : State) : Out.keeps (fun t => t.keep = s.keep) (execCartridgeRelease h cart s) := by
  unfold execCartridgeRelease
  refine keeps_gheit _ _ _ _ _ ?_
  try dsimp only
  repeat' (first | with_reducible exact trivial | (refine keeps_forOwner _ _ _ _ _ ?_; intro x) | refine keeps_refuseIf _ _ _ ?_ | split)
  all_goals first
    | exact trivial
    | ((try dsimp only [CmdEnd.keeps]) <;> (repeat' split) <;> simp [apply_ite State.keep, apply_ite Flash.image, apply_ite ErrLog.halted, apply_ite Boot.powered, keep_foldl])

theorem keep_execLightDetected (port : Nat) (s : State) : Out.keeps (fun t => t.keep = s.keep) (execLightDetected port s) := by
  unfold execLightDetected
  refine keeps_withUnit _ _ _ ?_
  ((try dsimp only); (repeat' split) <;> simp [apply_ite State.keep, apply_ite Flash.image, apply_ite ErrLog.halted, apply_ite Boot.powered, keep_foldl])

theorem keep_execLightLost (port : Nat) (s : State) : Out.keeps (fun t => t.keep = s.keep) (execLightLost port s) := by
  unfold execLightLost
  refine keeps_withUnit _ _ _ ?_
  ((try dsimp only); (repeat' split) <;> simp [apply_ite State.keep, apply_ite Flash.image, apply_ite ErrLog.halted, apply_ite Boot.powered, keep_foldl])

theorem keep_execEqualiserLocked (port : Nat) (s : State) : Out.keeps (fun t => t.keep = s.keep) (execEqualiserLocked port s) := by
  unfold execEqualiserLocked
  refine keeps_withUnit _ _ _ ?_
  ((try dsimp only); (repeat' split) <;> simp [apply_ite State.keep, apply_ite Flash.image, apply_ite ErrLog.halted, apply_ite Boot.powered, keep_foldl])

theorem keep_execCodewordBoundariesFound (port : Nat) (s : State) : Out.keeps (fun t => t.keep = s.keep) (execCodewordBoundariesFound port s) := by
  unfold execCodewordBoundariesFound
  refine keeps_withUnit _ _ _ ?_
  ((try dsimp only); (repeat' split) <;> simp [apply_ite State.keep, apply_ite Flash.image, apply_ite ErrLog.halted, apply_ite Boot.powered, keep_foldl])

theorem keep_execTrainingStepTimeout (port : Nat) (s : State) : Out.keeps (fun t => t.keep = s.keep) (execTrainingStepTimeout port s) := by
  unfold execTrainingStepTimeout
  refine keeps_withUnit _ _ _ ?_
  ((try dsimp only); (repeat' split) <;> simp [apply_ite State.keep, apply_ite Flash.image, apply_ite ErrLog.halted, apply_ite Boot.powered, keep_foldl])

theorem keep_execTrainingTimeout (port : Nat) (s : State) : Out.keeps (fun t => t.keep = s.keep) (execTrainingTimeout port s) := by
  unfold execTrainingTimeout
  refine keeps_withUnit _ _ _ ?_
  ((try dsimp only); (repeat' split) <;> simp [apply_ite State.keep, apply_ite Flash.image, apply_ite ErrLog.halted, apply_ite Boot.powered, keep_foldl])

theorem keep_execPortRetry (port : Nat) (s : State) : Out.keeps (fun t => t.keep = s.keep) (execPortRetry port s) := by
  unfold execPortRetry
  refine keeps_withUnit _ _ _ ?_
  ((try dsimp only); (repeat' split) <;> simp [apply_ite State.keep, apply_ite Flash.image, apply_ite ErrLog.halted, apply_ite Boot.powered, keep_foldl])

theorem keep_execTrain (port : Nat) (f : TrainFlit) (s : State) : Out.keeps (fun t => t.keep = s.keep) (execTrain port f s) := by
  unfold execTrain
  refine keeps_withUnit _ _ _ ?_
  ((try dsimp only); (repeat' split) <;> simp [apply_ite State.keep, apply_ite Flash.image, apply_ite ErrLog.halted, apply_ite Boot.powered, keep_foldl])

theorem keep_execTimeSync (port : Nat) (f : SyncFlit) (s : State) : Out.keeps (fun t => t.keep = s.keep) (execTimeSync port f s) := by
  unfold execTimeSync
  refine keeps_withUnit _ _ _ ?_
  ((try dsimp only); (repeat' split) <;> simp [apply_ite State.keep, apply_ite Flash.image, apply_ite ErrLog.halted, apply_ite Boot.powered, keep_foldl])

theorem keep_execTimeReply (port : Nat) (t2 t3 : Int) (s : State) : Out.keeps (fun t => t.keep = s.keep) (execTimeReply port t2 t3 s) := by
  unfold execTimeReply
  refine keeps_withUnit _ _ _ ?_
  ((try dsimp only); (repeat' split) <;> simp [apply_ite State.keep, apply_ite Flash.image, apply_ite ErrLog.halted, apply_ite Boot.powered, keep_foldl])

theorem keep_execTimeSyncTimer (port : Nat) (s : State) : Out.keeps (fun t => t.keep = s.keep) (execTimeSyncTimer port s) := by
  unfold execTimeSyncTimer
  refine keeps_withUnit _ _ _ ?_
  ((try dsimp only); (repeat' split) <;> simp [apply_ite State.keep, apply_ite Flash.image, apply_ite ErrLog.halted, apply_ite Boot.powered, keep_foldl])

theorem keep_execRootTimeout (s : State) : Out.keeps (fun t => t.keep = s.keep) (execRootTimeout s) := by
  unfold execRootTimeout
  refine keeps_next _ _ ?_
  ((try dsimp only); (repeat' split) <;> simp [apply_ite State.keep, apply_ite Flash.image, apply_ite ErrLog.halted, apply_ite Boot.powered, keep_foldl])

theorem keep_execRootInSync (s : State) : Out.keeps (fun t => t.keep = s.keep) (execRootInSync s) := by
  unfold execRootInSync
  refine keeps_next _ _ ?_
  ((try dsimp only); (repeat' split) <;> simp [apply_ite State.keep, apply_ite Flash.image, apply_ite ErrLog.halted, apply_ite Boot.powered, keep_foldl])

theorem keep_execFecGroupReceive (port : Nat) (g : FecGroup) (s : State) : Out.keeps (fun t => t.keep = s.keep) (execFecGroupReceive port g s) := by
  unfold execFecGroupReceive
  refine keeps_withUnit _ _ _ ?_
  ((try dsimp only); (repeat' split) <;> simp [apply_ite State.keep, apply_ite Flash.image, apply_ite ErrLog.halted, apply_ite Boot.powered, keep_foldl])

theorem keep_execNakResendTimeout (port : Nat) (s : State) : Out.keeps (fun t => t.keep = s.keep) (execNakResendTimeout port s) := by
  unfold execNakResendTimeout
  refine keeps_withUnit _ _ _ ?_
  ((try dsimp only); (repeat' split) <;> simp [apply_ite State.keep, apply_ite Flash.image, apply_ite ErrLog.halted, apply_ite Boot.powered, keep_foldl])

theorem keep_execAckInterval (port : Nat) (s : State) : Out.keeps (fun t => t.keep = s.keep) (execAckInterval port s) := by
  unfold execAckInterval
  refine keeps_withUnit _ _ _ ?_
  ((try dsimp only); (repeat' split) <;> simp [apply_ite State.keep, apply_ite Flash.image, apply_ite ErrLog.halted, apply_ite Boot.powered, keep_foldl])

theorem keep_execAck (port seq : Nat) (nak : Bool) (s : State) : Out.keeps (fun t => t.keep = s.keep) (execAck port seq nak s) := by
  unfold execAck
  refine keeps_withUnit _ _ _ ?_
  ((try dsimp only); (repeat' split) <;> simp [apply_ite State.keep, apply_ite Flash.image, apply_ite ErrLog.halted, apply_ite Boot.powered, keep_foldl])

theorem keep_execReplay (port : Nat) (got : ReplayGroup) (s : State) : Out.keeps (fun t => t.keep = s.keep) (execReplay port got s) := by
  unfold execReplay
  refine keeps_withUnit _ _ _ ?_
  ((try dsimp only); (repeat' split) <;> simp [apply_ite State.keep, apply_ite Flash.image, apply_ite ErrLog.halted, apply_ite Boot.powered, keep_foldl])

theorem keep_execCredit (port : Nat) (counts : List Nat) (s : State) : Out.keeps (fun t => t.keep = s.keep) (execCredit port counts s) := by
  unfold execCredit
  refine keeps_withUnit _ _ _ ?_
  ((try dsimp only); (repeat' split) <;> simp [apply_ite State.keep, apply_ite Flash.image, apply_ite ErrLog.halted, apply_ite Boot.powered, keep_foldl])

theorem keep_execDown (port : Nat) (s : State) : Out.keeps (fun t => t.keep = s.keep) (execDown port s) := by
  unfold execDown
  refine keeps_withUnit _ _ _ ?_
  ((try dsimp only); (repeat' split) <;> simp [apply_ite State.keep, apply_ite Flash.image, apply_ite ErrLog.halted, apply_ite Boot.powered, keep_foldl])

theorem keep_execPacketReceive (port : Nat) (p : Packet) (s : State) : Out.keeps (fun t => t.keep = s.keep) (execPacketReceive port p s) := by
  unfold execPacketReceive
  refine keeps_withUnit _ _ _ ?_
  ((try dsimp only); (repeat' split) <;> simp [apply_ite State.keep, apply_ite Flash.image, apply_ite ErrLog.halted, apply_ite Boot.powered, keep_foldl])

theorem keep_execPacketTransmit (port : Nat) (s : State) : Out.keeps (fun t => t.keep = s.keep) (execPacketTransmit port s) := by
  unfold execPacketTransmit
  refine keeps_withUnit _ _ _ ?_
  ((try dsimp only); (repeat' split) <;> simp [apply_ite State.keep, apply_ite Flash.image, apply_ite ErrLog.halted, apply_ite Boot.powered, keep_foldl])

theorem keep_execPortWindowEnd (port : Nat) (s : State) : Out.keeps (fun t => t.keep = s.keep) (execPortWindowEnd port s) := by
  unfold execPortWindowEnd
  refine keeps_withUnit _ _ _ ?_
  ((try dsimp only); (repeat' split) <;> simp [apply_ite State.keep, apply_ite Flash.image, apply_ite ErrLog.halted, apply_ite Boot.powered, keep_foldl])

theorem keep_execLaserBiasLimit (laser bias : Nat) (s : State) : Out.keeps (fun t => t.keep = s.keep) (execLaserBiasLimit laser bias s) := by
  unfold execLaserBiasLimit
  refine keeps_withUnit _ _ _ ?_
  ((try dsimp only); (repeat' split) <;> simp [apply_ite State.keep, apply_ite Flash.image, apply_ite ErrLog.halted, apply_ite Boot.powered, keep_foldl])

theorem keep_execCartridgeInsert (cart serial : Nat) (factory : List Nat) (s : State) : Out.keeps (fun t => t.keep = s.keep) (execCartridgeInsert cart serial factory s) := by
  unfold execCartridgeInsert
  refine keeps_withUnit _ _ _ ?_
  (simp)

theorem keep_execLaserLock (cart : Nat) (s : State) : Out.keeps (fun t => t.keep = s.keep) (execLaserLock cart s) := by
  unfold execLaserLock
  refine keeps_withUnit _ _ _ ?_
  ((try dsimp only); (repeat' split) <;> simp [apply_ite State.keep, apply_ite Flash.image, apply_ite ErrLog.halted, apply_ite Boot.powered, keep_foldl])

theorem keep_execCartridgeReleaseTimeout (cart : Nat) (s : State) : Out.keeps (fun t => t.keep = s.keep) (execCartridgeReleaseTimeout cart s) := by
  unfold execCartridgeReleaseTimeout
  refine keeps_withUnit _ _ _ ?_
  ((try dsimp only); (repeat' split) <;> simp [apply_ite State.keep, apply_ite Flash.image, apply_ite ErrLog.halted, apply_ite Boot.powered, keep_foldl])

theorem keep_execTwinPair (h : CmdHead) (ident : Nat) (s : State) : Out.keeps (fun t => t.keep = s.keep) (execTwinPair h ident s) := by
  unfold execTwinPair
  refine keeps_gheit _ _ _ _ _ ?_
  try dsimp only
  repeat' (first | with_reducible exact trivial | (refine keeps_forOwner _ _ _ _ _ ?_; intro x) | refine keeps_refuseIf _ _ _ ?_ | split)
  all_goals first
    | exact trivial
    | ((try dsimp only [CmdEnd.keeps]) <;> (repeat' split) <;> simp [apply_ite State.keep, apply_ite Flash.image, apply_ite ErrLog.halted, apply_ite Boot.powered, keep_foldl])

theorem keep_execTwinPairRetry (s : State) : Out.keeps (fun t => t.keep = s.keep) (execTwinPairRetry s) := by
  unfold execTwinPairRetry
  refine keeps_next _ _ ?_
  ((try dsimp only); (repeat' split) <;> simp [apply_ite State.keep, apply_ite Flash.image, apply_ite ErrLog.halted, apply_ite Boot.powered, keep_foldl])

theorem keep_execTwinUnpair (h : CmdHead) (discard : Nat) (s : State) : Out.keeps (fun t => t.keep = s.keep) (execTwinUnpair h discard s) := by
  unfold execTwinUnpair
  refine keeps_gheit _ _ _ _ _ ?_
  try dsimp only
  repeat' (first | with_reducible exact trivial | (refine keeps_forOwner _ _ _ _ _ ?_; intro x) | refine keeps_refuseIf _ _ _ ?_ | split)
  all_goals first
    | exact trivial
    | ((try dsimp only [CmdEnd.keeps]) <;> (repeat' split) <;> simp [apply_ite State.keep, apply_ite Flash.image, apply_ite ErrLog.halted, apply_ite Boot.powered, keep_foldl])

theorem keep_execTwinSolo (h : CmdHead) (s : State) : Out.keeps (fun t => t.keep = s.keep) (execTwinSolo h s) := by
  unfold execTwinSolo
  refine keeps_gheit _ _ _ _ _ ?_
  try dsimp only
  repeat' (first | with_reducible exact trivial | (refine keeps_forOwner _ _ _ _ _ ?_; intro x) | refine keeps_refuseIf _ _ _ ?_ | split)
  all_goals first
    | exact trivial
    | ((try dsimp only [CmdEnd.keeps]) <;> (repeat' split) <;> simp [apply_ite State.keep, apply_ite Flash.image, apply_ite ErrLog.halted, apply_ite Boot.powered, keep_foldl])

theorem keep_execTwinLost (s : State) : Out.keeps (fun t => t.keep = s.keep) (execTwinLost s) := by
  unfold execTwinLost
  refine keeps_next _ _ ?_
  ((try dsimp only); (repeat' split) <;> simp [apply_ite State.keep, apply_ite Flash.image, apply_ite ErrLog.halted, apply_ite Boot.powered, keep_foldl])

theorem keep_execTwinAuth (src : Nat) (s : State) : Out.keeps (fun t => t.keep = s.keep) (execTwinAuth src s) := by
  unfold execTwinAuth
  refine keeps_next _ _ ?_
  refine keep_onMessage _ _ _ _ ?_
  intro r a t ht
  (try dsimp only at ht)
  (repeat' split at ht)
  all_goals first
    | (cases ht; done)
    | (cases ht; simp [apply_ite State.keep, apply_ite Flash.image, apply_ite ErrLog.halted, apply_ite Boot.powered, keep_foldl]; done)
    | (simp only [Option.some.injEq] at ht; subst ht; simp [apply_ite State.keep, apply_ite Flash.image, apply_ite ErrLog.halted, apply_ite Boot.powered, keep_foldl]; done)

theorem keep_execSessionRekey (s : State) : Out.keeps (fun t => t.keep = s.keep) (execSessionRekey s) := by
  unfold execSessionRekey
  refine keeps_next _ _ ?_
  ((try dsimp only); (repeat' split) <;> simp [apply_ite State.keep, apply_ite Flash.image, apply_ite ErrLog.halted, apply_ite Boot.powered, keep_foldl])

theorem keep_execJobRollback (h : CmdHead) (ctx commit : Nat) (s : State) : Out.keeps (fun t => t.keep = s.keep) (execJobRollback h ctx commit s) := by
  unfold execJobRollback
  refine keeps_gheit _ _ _ _ _ ?_
  try dsimp only
  repeat' (first | with_reducible exact trivial | (refine keeps_forOwner _ _ _ _ _ ?_; intro x) | refine keeps_refuseIf _ _ _ ?_ | split)
  all_goals first
    | exact trivial
    | ((try dsimp only [CmdEnd.keeps]) <;> (repeat' split) <;> simp [apply_ite State.keep, apply_ite Flash.image, apply_ite ErrLog.halted, apply_ite Boot.powered, keep_foldl])

theorem keep_execCommitRelease (h : CmdHead) (ctx commit : Nat) (s : State) : Out.keeps (fun t => t.keep = s.keep) (execCommitRelease h ctx commit s) := by
  unfold execCommitRelease
  refine keeps_gheit _ _ _ _ _ ?_
  try dsimp only
  repeat' (first | with_reducible exact trivial | (refine keeps_forOwner _ _ _ _ _ ?_; intro x) | refine keeps_refuseIf _ _ _ ?_ | split)
  all_goals first
    | exact trivial
    | ((try dsimp only [CmdEnd.keeps]) <;> (repeat' split) <;> simp [apply_ite State.keep, apply_ite Flash.image, apply_ite ErrLog.halted, apply_ite Boot.powered, keep_foldl])

theorem keep_execJournalQuery (h : CmdHead) (byRing : Bool) (number : Nat) (s : State) : Out.keeps (fun t => t.keep = s.keep) (execJournalQuery h byRing number s) := by
  unfold execJournalQuery
  refine keeps_gheit _ _ _ _ _ ?_
  try dsimp only
  repeat' (first | with_reducible exact trivial | (refine keeps_forOwner _ _ _ _ _ ?_; intro x) | refine keeps_refuseIf _ _ _ ?_ | split)
  all_goals first
    | exact trivial
    | ((try dsimp only [CmdEnd.keeps]) <;> (repeat' split) <;> simp [apply_ite State.keep, apply_ite Flash.image, apply_ite ErrLog.halted, apply_ite Boot.powered, keep_foldl])

theorem keep_execTwinRestore (h : CmdHead) (survivor : Nat) (s : State) : Out.keeps (fun t => t.keep = s.keep) (execTwinRestore h survivor s) := by
  unfold execTwinRestore
  refine keeps_gheit _ _ _ _ _ ?_
  try dsimp only
  repeat' (first | with_reducible exact trivial | (refine keeps_forOwner _ _ _ _ _ ?_; intro x) | refine keeps_refuseIf _ _ _ ?_ | split)
  all_goals first
    | exact trivial
    | ((try dsimp only [CmdEnd.keeps]) <;> (repeat' split) <;> simp [apply_ite State.keep, apply_ite Flash.image, apply_ite ErrLog.halted, apply_ite Boot.powered, keep_foldl])

theorem keep_execTwinRestoreTimeout (s : State) : Out.keeps (fun t => t.keep = s.keep) (execTwinRestoreTimeout s) := by
  unfold execTwinRestoreTimeout
  refine keeps_next _ _ ?_
  ((try dsimp only); (repeat' split) <;> simp [apply_ite State.keep, apply_ite Flash.image, apply_ite ErrLog.halted, apply_ite Boot.powered, keep_foldl])

theorem keep_execRestoreRequest (src : Nat) (s : State) : Out.keeps (fun t => t.keep = s.keep) (execRestoreRequest src s) := by
  unfold execRestoreRequest
  refine keeps_next _ _ ?_
  refine keep_onMessage _ _ _ _ ?_
  intro r a t ht
  (try dsimp only at ht)
  (repeat' split at ht)
  all_goals first
    | (cases ht; done)
    | (cases ht; simp [apply_ite State.keep, apply_ite Flash.image, apply_ite ErrLog.halted, apply_ite Boot.powered, keep_foldl]; done)
    | (simp only [Option.some.injEq] at ht; subst ht; simp [apply_ite State.keep, apply_ite Flash.image, apply_ite ErrLog.halted, apply_ite Boot.powered, keep_foldl]; done)

theorem keep_execRestoreStepDone (step : Nat) (s : State) : Out.keeps (fun t => t.keep = s.keep) (execRestoreStepDone step s) := by
  unfold execRestoreStepDone
  refine keeps_next _ _ ?_
  ((try dsimp only); (repeat' split) <;> simp [apply_ite State.keep, apply_ite Flash.image, apply_ite ErrLog.halted, apply_ite Boot.powered, keep_foldl])

theorem keep_execWinchControl (src : Nat) (s : State) : Out.keeps (fun t => t.keep = s.keep) (execWinchControl src s) := by
  unfold execWinchControl
  refine keeps_next _ _ ?_
  refine keep_onMessage _ _ _ _ ?_
  intro r a t ht
  (try dsimp only at ht)
  (repeat' split at ht)
  all_goals first
    | (cases ht; done)
    | (cases ht; simp [apply_ite State.keep, apply_ite Flash.image, apply_ite ErrLog.halted, apply_ite Boot.powered, keep_foldl]; done)
    | (simp only [Option.some.injEq] at ht; subst ht; simp [apply_ite State.keep, apply_ite Flash.image, apply_ite ErrLog.halted, apply_ite Boot.powered, keep_foldl]; done)
    | (simp only [Option.some.injEq] at ht; subst ht; (repeat' split) <;> simp [apply_ite State.keep, apply_ite Flash.image, apply_ite ErrLog.halted, apply_ite Boot.powered, keep_foldl]; done)
    | (simp only [Option.some.injEq] at ht; subst ht; rw [keep_State_onGroup _ _ _ _ _ (by simp)]; simp; done)

theorem keep_execModuleReset (h : CmdHead) (s : State) : Out.keeps (fun t => t.keep = s.keep) (execModuleReset h s) := by
  unfold execModuleReset
  refine keeps_gheit _ _ _ _ _ ?_
  exact (show State.keep _ = s.commitLogbook.keep from rfl).trans (keep_State_commitLogbook s)

theorem keep_execFunctionResync (h : CmdHead) (discard : Nat) (s : State) : Out.keeps (fun t => t.keep = s.keep) (execFunctionResync h discard s) := by
  unfold execFunctionResync
  refine keeps_gheit _ _ _ _ _ ?_
  try dsimp only
  repeat' (first | with_reducible exact trivial | (refine keeps_forOwner _ _ _ _ _ ?_; intro x) | refine keeps_refuseIf _ _ _ ?_ | split)
  all_goals first
    | exact trivial
    | ((try dsimp only [CmdEnd.keeps]) <;> (repeat' split) <;> simp [apply_ite State.keep, apply_ite Flash.image, apply_ite ErrLog.halted, apply_ite Boot.powered, keep_foldl])

theorem keep_execCertRead (h : CmdHead) (addr : Nat) (s : State) : Out.keeps (fun t => t.keep = s.keep) (execCertRead h addr s) := by
  unfold execCertRead
  refine keeps_gheit _ _ _ _ _ ?_
  try dsimp only
  repeat' (first | with_reducible exact trivial | (refine keeps_forOwner _ _ _ _ _ ?_; intro x) | refine keeps_refuseIf _ _ _ ?_ | split)
  all_goals first
    | exact trivial
    | ((try dsimp only [CmdEnd.keeps]) <;> (repeat' split) <;> simp [apply_ite State.keep, apply_ite Flash.image, apply_ite ErrLog.halted, apply_ite Boot.powered, keep_foldl])

theorem keep_execAttestQuote (h : CmdHead) (nonce : List Byte) (scope ctx addr : Nat) (s : State) : Out.keeps (fun t => t.keep = s.keep) (execAttestQuote h nonce scope ctx addr s) := by
  unfold execAttestQuote
  refine keeps_gheit _ _ _ _ _ ?_
  try dsimp only
  repeat' (first | with_reducible exact trivial | (refine keeps_forOwner _ _ _ _ _ ?_; intro x) | refine keeps_refuseIf _ _ _ ?_ | split)
  all_goals first
    | exact trivial
    | ((try dsimp only [CmdEnd.keeps]) <;> (repeat' split) <;> simp [apply_ite State.keep, apply_ite Flash.image, apply_ite ErrLog.halted, apply_ite Boot.powered, keep_foldl])

theorem keep_execRegionQuery (h : CmdHead) (addr : Nat) (s : State) : Out.keeps (fun t => t.keep = s.keep) (execRegionQuery h addr s) := by
  unfold execRegionQuery
  refine keeps_gheit _ _ _ _ _ ?_
  try dsimp only
  repeat' (first | with_reducible exact trivial | (refine keeps_forOwner _ _ _ _ _ ?_; intro x) | refine keeps_refuseIf _ _ _ ?_ | split)
  all_goals first
    | exact trivial
    | ((try dsimp only [CmdEnd.keeps]) <;> (repeat' split) <;> simp [apply_ite State.keep, apply_ite Flash.image, apply_ite ErrLog.halted, apply_ite Boot.powered, keep_foldl])

theorem keep_execRegisterWrite (fn offset width value : Nat) (s : State) : Out.keeps (fun t => t.keep = s.keep) (execRegisterWrite fn offset width value s) := by
  unfold execRegisterWrite
  refine keeps_withUnit _ _ _ ?_
  (simp)

theorem keep_execWinchMboxCfgWrite (fn : Nat) (value : Word32) (s : State) : Out.keeps (fun t => t.keep = s.keep) (execWinchMboxCfgWrite fn value s) := by
  unfold execWinchMboxCfgWrite
  refine keeps_withUnit _ _ _ ?_
  ((try dsimp only); (repeat' split) <;> simp [apply_ite State.keep, apply_ite Flash.image, apply_ite ErrLog.halted, apply_ite Boot.powered, keep_foldl])

theorem keep_execWinchEvqCfgWrite (fn : Nat) (value : Word32) (s : State) : Out.keeps (fun t => t.keep = s.keep) (execWinchEvqCfgWrite fn value s) := by
  unfold execWinchEvqCfgWrite
  refine keeps_withUnit _ _ _ ?_
  ((try dsimp only); (repeat' split) <;> simp [apply_ite State.keep, apply_ite Flash.image, apply_ite ErrLog.halted, apply_ite Boot.powered, keep_foldl])

theorem keep_execWinchMboxTailWrite (fn : Nat) (value : Word32) (readFails : Bool) (s : State) : Out.keeps (fun t => t.keep = s.keep) (execWinchMboxTailWrite fn value readFails s) := by
  unfold execWinchMboxTailWrite
  refine keeps_withUnit _ _ _ ?_
  ((try dsimp only); (repeat' split) <;> simp [apply_ite State.keep, apply_ite Flash.image, apply_ite ErrLog.halted, apply_ite Boot.powered, keep_foldl])

theorem keep_execRingDoorbell (fn ring width tailSeq : Nat) (s : State) : Out.keeps (fun t => t.keep = s.keep) (execRingDoorbell fn ring width tailSeq s) := by
  unfold execRingDoorbell
  refine keeps_withUnit _ _ _ ?_
  ((try dsimp only); (repeat' split) <;> simp [apply_ite State.keep, apply_ite Flash.image, apply_ite ErrLog.halted, apply_ite Boot.powered, keep_foldl])

theorem keep_execFabricTimeLoRead (fn : Nat) (s : State) : Out.keeps (fun t => t.keep = s.keep) (execFabricTimeLoRead fn s) := by
  unfold execFabricTimeLoRead
  refine keeps_withUnit _ _ _ ?_
  ((try dsimp only); (repeat' split) <;> simp [apply_ite State.keep, apply_ite Flash.image, apply_ite ErrLog.halted, apply_ite Boot.powered, keep_foldl])

theorem keep_execLogSnap (fn : Nat) (value : Word32) (s : State) : Out.keeps (fun t => t.keep = s.keep) (execLogSnap fn value s) := by
  unfold execLogSnap
  refine keeps_withUnit _ _ _ ?_
  ((try dsimp only); (repeat' split) <;> simp [apply_ite State.keep, apply_ite Flash.image, apply_ite ErrLog.halted, apply_ite Boot.powered, keep_foldl])

theorem keep_execLogSnapDone (s : State) : Out.keeps (fun t => t.keep = s.keep) (execLogSnapDone s) := by
  unfold execLogSnapDone
  refine keeps_next _ _ ?_
  (simp)

theorem keep_execLogDataRead (fn : Nat) (s : State) : Out.keeps (fun t => t.keep = s.keep) (execLogDataRead fn s) := by
  unfold execLogDataRead
  refine keeps_withUnit _ _ _ ?_
  ((try dsimp only); (repeat' split) <;> simp [apply_ite State.keep, apply_ite Flash.image, apply_ite ErrLog.halted, apply_ite Boot.powered, keep_foldl])

theorem keep_execXdTelemCfgWrite (fn : Nat) (value : Word32) (s : State) : Out.keeps (fun t => t.keep = s.keep) (execXdTelemCfgWrite fn value s) := by
  unfold execXdTelemCfgWrite
  refine keeps_withUnit _ _ _ ?_
  ((try dsimp only); (repeat' split) <;> simp [apply_ite State.keep, apply_ite Flash.image, apply_ite ErrLog.halted, apply_ite Boot.powered, keep_foldl])

theorem keep_execXdTelemPeriodWrite (fn : Nat) (value : Word32) (s : State) : Out.keeps (fun t => t.keep = s.keep) (execXdTelemPeriodWrite fn value s) := by
  unfold execXdTelemPeriodWrite
  refine keeps_withUnit _ _ _ ?_
  ((try dsimp only); (repeat' split) <;> simp [apply_ite State.keep, apply_ite Flash.image, apply_ite ErrLog.halted, apply_ite Boot.powered, keep_foldl])

theorem keep_execKeepAwakeWrite (fn : Nat) (value : Word32) (s : State) : Out.keeps (fun t => t.keep = s.keep) (execKeepAwakeWrite fn value s) := by
  unfold execKeepAwakeWrite
  refine keeps_withUnit _ _ _ ?_
  ((try dsimp only); (repeat' split) <;> simp [apply_ite State.keep, apply_ite Flash.image, apply_ite ErrLog.halted, apply_ite Boot.powered, keep_foldl])

theorem keep_execRecoveryGo (fn : Nat) (value : Word32) (s : State) : Out.keeps (fun t => t.keep = s.keep) (execRecoveryGo fn value s) := by
  unfold execRecoveryGo
  refine keeps_withUnit _ _ _ ?_
  ((try dsimp only); (repeat' split) <;> simp [apply_ite State.keep, apply_ite Flash.image, apply_ite ErrLog.halted, apply_ite Boot.powered, keep_foldl])

theorem keep_execFunctionUnavailable (fn : Nat) (s : State) : Out.keeps (fun t => t.keep = s.keep) (execFunctionUnavailable fn s) := by
  unfold execFunctionUnavailable
  refine keeps_withUnit _ _ _ ?_
  ((try dsimp only); (repeat' split) <;> simp [apply_ite State.keep, apply_ite Flash.image, apply_ite ErrLog.halted, apply_ite Boot.powered, keep_foldl])

theorem keep_execFunctionAvailable (fn : Nat) (s : State) : Out.keeps (fun t => t.keep = s.keep) (execFunctionAvailable fn s) := by
  unfold execFunctionAvailable
  refine keeps_withUnit _ _ _ ?_
  ((try dsimp only); (repeat' split) <;> simp [apply_ite State.keep, apply_ite Flash.image, apply_ite ErrLog.halted, apply_ite Boot.powered, keep_foldl])

theorem keep_execFunctionLevelReset (fn : Nat) (s : State) : Out.keeps (fun t => t.keep = s.keep) (execFunctionLevelReset fn s) := by
  unfold execFunctionLevelReset
  refine keeps_withUnit _ _ _ ?_
  ((try dsimp only); (repeat' split) <;> simp [apply_ite State.keep, apply_ite Flash.image, apply_ite ErrLog.halted, apply_ite Boot.powered, keep_foldl])

theorem keep_execLinkReset (s : State) : Out.keeps (fun t => t.keep = s.keep) (execLinkReset s) := by
  unfold execLinkReset
  refine keeps_next _ _ ?_
  ((try dsimp only); (repeat' split) <;> simp [apply_ite State.keep, apply_ite Flash.image, apply_ite ErrLog.halted, apply_ite Boot.powered, keep_foldl])

theorem keep_execBootHeaderRead (s : State) : Out.keeps (fun t => t.keep = s.keep) (execBootHeaderRead s) := by
  unfold execBootHeaderRead
  refine keeps_next _ _ ?_
  ((try dsimp only); (repeat' split) <;> simp [apply_ite State.keep, apply_ite Flash.image, apply_ite ErrLog.halted, apply_ite Boot.powered, keep_foldl])

theorem keep_execBootBodyVerified (s : State) : Out.keeps (fun t => t.keep = s.keep) (execBootBodyVerified s) := by
  unfold execBootBodyVerified
  refine keeps_next _ _ ?_
  ((try dsimp only); (repeat' split) <;> simp [apply_ite State.keep, apply_ite Flash.image, apply_ite ErrLog.halted, apply_ite Boot.powered, keep_foldl])

theorem keep_execRecoveryHeader (source : RecSource) (header : List Byte) (s : State) : Out.keeps (fun t => t.keep = s.keep) (execRecoveryHeader source header s) := by
  unfold execRecoveryHeader
  refine keeps_next _ _ ?_
  ((try dsimp only); (repeat' split) <;> simp [apply_ite State.keep, apply_ite Flash.image, apply_ite ErrLog.halted, apply_ite Boot.powered, keep_foldl])

theorem keep_execRecoveryImageRequest (ident : Nat) (s : State) : Out.keeps (fun t => t.keep = s.keep) (execRecoveryImageRequest ident s) := by
  unfold execRecoveryImageRequest
  refine keeps_next _ _ ?_
  ((try dsimp only); (repeat' split) <;> simp [apply_ite State.keep, apply_ite Flash.image, apply_ite ErrLog.halted, apply_ite Boot.powered, keep_foldl])

theorem keep_execConvert (ctx : Nat) (s : State) : Out.keeps (fun t => t.keep = s.keep) (execConvert ctx s) := by
  unfold execConvert
  refine keeps_next _ _ ?_
  (simp)

theorem keep_execAdd (ctx : Nat) (s : State) : Out.keeps (fun t => t.keep = s.keep) (execAdd ctx s) := by
  unfold execAdd
  refine keeps_next _ _ ?_
  (simp)

theorem keep_execSub (ctx : Nat) (s : State) : Out.keeps (fun t => t.keep = s.keep) (execSub ctx s) := by
  unfold execSub
  refine keeps_next _ _ ?_
  (simp)

theorem keep_execMul (ctx : Nat) (s : State) : Out.keeps (fun t => t.keep = s.keep) (execMul ctx s) := by
  unfold execMul
  refine keeps_next _ _ ?_
  (simp)

theorem keep_execDiv (ctx : Nat) (s : State) : Out.keeps (fun t => t.keep = s.keep) (execDiv ctx s) := by
  unfold execDiv
  refine keeps_next _ _ ?_
  (simp)

theorem keep_execMulAdd (ctx : Nat) (s : State) : Out.keeps (fun t => t.keep = s.keep) (execMulAdd ctx s) := by
  unfold execMulAdd
  refine keeps_next _ _ ?_
  (simp)

theorem keep_execMax (ctx : Nat) (s : State) : Out.keeps (fun t => t.keep = s.keep) (execMax ctx s) := by
  unfold execMax
  refine keeps_next _ _ ?_
  (simp)

theorem keep_execMin (ctx : Nat) (s : State) : Out.keeps (fun t => t.keep = s.keep) (execMin ctx s) := by
  unfold execMin
  refine keeps_next _ _ ?_
  (simp)

theorem keep_execLadd (ctx : Nat) (s : State) : Out.keeps (fun t => t.keep = s.keep) (execLadd ctx s) := by
  unfold execLadd
  refine keeps_next _ _ ?_
  (simp)

theorem keep_execSquare (ctx : Nat) (s : State) : Out.keeps (fun t => t.keep = s.keep) (execSquare ctx s) := by
  unfold execSquare
  refine keeps_next _ _ ?_
  (simp)

theorem keep_execSqrt (ctx : Nat) (s : State) : Out.keeps (fun t => t.keep = s.keep) (execSqrt ctx s) := by
  unfold execSqrt
  refine keeps_next _ _ ?_
  (simp)

theorem keep_execRecip (ctx : Nat) (s : State) : Out.keeps (fun t => t.keep = s.keep) (execRecip ctx s) := by
  unfold execRecip
  refine keeps_next _ _ ?_
  (simp)

theorem keep_execExp (ctx : Nat) (s : State) : Out.keeps (fun t => t.keep = s.keep) (execExp ctx s) := by
  unfold execExp
  refine keeps_next _ _ ?_
  (simp)

theorem keep_execLog (ctx : Nat) (s : State) : Out.keeps (fun t => t.keep = s.keep) (execLog ctx s) := by
  unfold execLog
  refine keeps_next _ _ ?_
  (simp)

theorem keep_execAct (ctx : Nat) (s : State) : Out.keeps (fun t => t.keep = s.keep) (execAct ctx s) := by
  unfold execAct
  refine keeps_next _ _ ?_
  (simp)

theorem keep_execAbs (ctx : Nat) (s : State) : Out.keeps (fun t => t.keep = s.keep) (execAbs ctx s) := by
  unfold execAbs
  refine keeps_next _ _ ?_
  (simp)

theorem keep_execSum (ctx : Nat) (s : State) : Out.keeps (fun t => t.keep = s.keep) (execSum ctx s) := by
  unfold execSum
  refine keeps_next _ _ ?_
  (simp)

theorem keep_execSumsq (ctx : Nat) (s : State) : Out.keeps (fun t => t.keep = s.keep) (execSumsq ctx s) := by
  unfold execSumsq
  refine keeps_next _ _ ?_
  (simp)

theorem keep_execReduceMax (ctx : Nat) (s : State) : Out.keeps (fun t => t.keep = s.keep) (execReduceMax ctx s) := by
  unfold execReduceMax
  refine keeps_next _ _ ?_
  (simp)

theorem keep_execReduceMin (ctx : Nat) (s : State) : Out.keeps (fun t => t.keep = s.keep) (execReduceMin ctx s) := by
  unfold execReduceMin
  refine keeps_next _ _ ?_
  (simp)

theorem keep_execCount (ctx : Nat) (s : State) : Out.keeps (fun t => t.keep = s.keep) (execCount ctx s) := by
  unfold execCount
  refine keeps_next _ _ ?_
  (simp)

theorem keep_execLse (ctx : Nat) (s : State) : Out.keeps (fun t => t.keep = s.keep) (execLse ctx s) := by
  unfold execLse
  refine keeps_next _ _ ?_
  (simp)

theorem keep_execMeanvar (ctx : Nat) (s : State) : Out.keeps (fun t => t.keep = s.keep) (execMeanvar ctx s) := by
  unfold execMeanvar
  refine keeps_next _ _ ?_
  (simp)

theorem keep_execSoftmax (ctx : Nat) (s : State) : Out.keeps (fun t => t.keep = s.keep) (execSoftmax ctx s) := by
  unfold execSoftmax
  refine keeps_next _ _ ?_
  (simp)

theorem keep_execMatrix (ctx : Nat) (s : State) : Out.keeps (fun t => t.keep = s.keep) (execMatrix ctx s) := by
  unfold execMatrix
  refine keeps_next _ _ ?_
  ((try dsimp only); (repeat' split) <;> simp [apply_ite State.keep, apply_ite Flash.image, apply_ite ErrLog.halted, apply_ite Boot.powered, keep_foldl])

theorem keep_execOperandsReady (tile : Nat) (task : TaskId) (s : State) : Out.keeps (fun t => t.keep = s.keep) (execOperandsReady tile task s) := by
  unfold execOperandsReady
  refine keeps_withUnit _ _ _ ?_
  ((try dsimp only); (repeat' split) <;> simp [apply_ite State.keep, apply_ite Flash.image, apply_ite ErrLog.halted, apply_ite Boot.powered, keep_foldl])

theorem keep_execTaskDispatch (tile : Nat) (s : State) : Out.keeps (fun t => t.keep = s.keep) (execTaskDispatch tile s) := by
  unfold execTaskDispatch
  refine keeps_withUnit _ _ _ ?_
  ((try dsimp only); (repeat' split) <;> simp [apply_ite State.keep, apply_ite Flash.image, apply_ite ErrLog.halted, apply_ite Boot.powered, keep_foldl])

theorem keep_execRoundStart (tile eng : Nat) (s : State) : Out.keeps (fun t => t.keep = s.keep) (execRoundStart tile eng s) := by
  unfold execRoundStart
  refine keeps_withUnit _ _ _ ?_
  ((try dsimp only); (repeat' split) <;> simp [apply_ite State.keep, apply_ite Flash.image, apply_ite ErrLog.halted, apply_ite Boot.powered, keep_foldl])

theorem keep_execWindowClose (tile eng : Nat) (s : State) : Out.keeps (fun t => t.keep = s.keep) (execWindowClose tile eng s) := by
  unfold execWindowClose
  refine keeps_withUnit _ _ _ ?_
  ((try dsimp only); (repeat' split) <;> simp [apply_ite State.keep, apply_ite Flash.image, apply_ite ErrLog.halted, apply_ite Boot.powered, keep_foldl])

theorem keep_execGroupClose (tile eng : Nat) (s : State) : Out.keeps (fun t => t.keep = s.keep) (execGroupClose tile eng s) := by
  unfold execGroupClose
  refine keeps_withUnit _ _ _ ?_
  ((try dsimp only); (repeat' split) <;> simp [apply_ite State.keep, apply_ite Flash.image, apply_ite ErrLog.halted, apply_ite Boot.powered, keep_foldl])

theorem keep_execGroupPark (tile eng group : Nat) (s : State) : Out.keeps (fun t => t.keep = s.keep) (execGroupPark tile eng group s) := by
  unfold execGroupPark
  refine keeps_withUnit _ _ _ ?_
  ((try dsimp only); (repeat' split) <;> simp [apply_ite State.keep, apply_ite Flash.image, apply_ite ErrLog.halted, apply_ite Boot.powered, keep_foldl])

theorem keep_execMergeCombine (task : TaskId) (s : State) : Out.keeps (fun t => t.keep = s.keep) (execMergeCombine task s) := by
  unfold execMergeCombine
  refine keeps_next _ _ ?_
  dsimp only
  repeat' split
  all_goals first
    | rfl
    | exact keep_State_putMerged _ _ _ _ _ _ (keep_State_takeSaved (by assumption))
    | exact keep_State_putMerged _ _ _ _ _ _ (keep_State_takeChunk (by assumption))
    | exact keep_State_putMerged _ _ _ _ _ _ rfl
    | (rename_i h; split at h <;> first | exact keep_State_putMerged _ _ _ _ _ _ (keep_State_takeSaved h) | cases h)

theorem keep_execGroupDrainStart (tile : Nat) (s : State) : Out.keeps (fun t => t.keep = s.keep) (execGroupDrainStart tile s) := by
  unfold execGroupDrainStart
  refine keeps_withUnit _ _ _ ?_
  ((try dsimp only); (repeat' split) <;> simp [apply_ite State.keep, apply_ite Flash.image, apply_ite ErrLog.halted, apply_ite Boot.powered, keep_foldl])

theorem keep_execGroupDrainReadDone (tile : Nat) (s : State) : Out.keeps (fun t => t.keep = s.keep) (execGroupDrainReadDone tile s) := by
  unfold execGroupDrainReadDone
  refine keeps_withUnit _ _ _ ?_
  ((try dsimp only); (repeat' split) <;> simp [apply_ite State.keep, apply_ite Flash.image, apply_ite ErrLog.halted, apply_ite Boot.powered, keep_foldl])

theorem keep_execDrainStageDone (tile : Nat) (s : State) : Out.keeps (fun t => t.keep = s.keep) (execDrainStageDone tile s) := by
  unfold execDrainStageDone
  refine keeps_withUnit _ _ _ ?_
  ((try dsimp only); (repeat' split) <;> simp [apply_ite State.keep, apply_ite Flash.image, apply_ite ErrLog.halted, apply_ite Boot.powered, keep_foldl])

theorem keep_execChainWords (src : Nat) (s : State) : Out.keeps (fun t => t.keep = s.keep) (execChainWords src s) := by
  unfold execChainWords
  refine keeps_next _ _ ?_
  ((try dsimp only); (repeat' split) <;> simp [apply_ite State.keep, apply_ite Flash.image, apply_ite ErrLog.halted, apply_ite Boot.powered, keep_foldl])

theorem keep_execEpilogue (ctx : Nat) (s : State) : Out.keeps (fun t => t.keep = s.keep) (execEpilogue ctx s) := by
  unfold execEpilogue
  refine keeps_next _ _ ?_
  ((try dsimp only); (repeat' split) <;> simp [apply_ite State.keep, apply_ite Flash.image, apply_ite ErrLog.halted, apply_ite Boot.powered, keep_foldl])

theorem keep_execXreduce (ctx : Nat) (s : State) : Out.keeps (fun t => t.keep = s.keep) (execXreduce ctx s) := by
  unfold execXreduce
  refine keeps_next _ _ ?_
  ((try dsimp only); (repeat' split) <;> simp [apply_ite State.keep, apply_ite Flash.image, apply_ite ErrLog.halted, apply_ite Boot.powered, keep_foldl])

theorem keep_execXgather (ctx : Nat) (s : State) : Out.keeps (fun t => t.keep = s.keep) (execXgather ctx s) := by
  unfold execXgather
  refine keeps_next _ _ ?_
  ((try dsimp only); (repeat' split) <;> simp [apply_ite State.keep, apply_ite Flash.image, apply_ite ErrLog.halted, apply_ite Boot.powered, keep_foldl])

theorem keep_execPermute (ctx : Nat) (s : State) : Out.keeps (fun t => t.keep = s.keep) (execPermute ctx s) := by
  unfold execPermute
  refine keeps_next _ _ ?_
  ((try dsimp only); (repeat' split) <;> simp [apply_ite State.keep, apply_ite Flash.image, apply_ite ErrLog.halted, apply_ite Boot.powered, keep_foldl])

theorem keep_execXs (src : Nat) (s : State) : Out.keeps (fun t => t.keep = s.keep) (execXs src s) := by
  unfold execXs
  refine keeps_next _ _ ?_
  (simp)

theorem keep_execXd (src : Nat) (s : State) : Out.keeps (fun t => t.keep = s.keep) (execXd src s) := by
  unfold execXd
  refine keeps_next _ _ ?_
  (simp)

theorem keep_execXv (src : Nat) (s : State) : Out.keeps (fun t => t.keep = s.keep) (execXv src s) := by
  unfold execXv
  refine keeps_next _ _ ?_
  (simp)

theorem keep_execXgatherData (src : Nat) (s : State) : Out.keeps (fun t => t.keep = s.keep) (execXgatherData src s) := by
  unfold execXgatherData
  refine keeps_next _ _ ?_
  (simp)

theorem keep_execPermuteData (src : Nat) (s : State) : Out.keeps (fun t => t.keep = s.keep) (execPermuteData src s) := by
  unfold execPermuteData
  refine keeps_next _ _ ?_
  (simp)

theorem keep_execErrorWindowClose (s : State) : Out.keeps (fun t => t.keep = s.keep) (execErrorWindowClose s) := by
  unfold execErrorWindowClose
  refine keeps_next _ _ ?_
  ((try dsimp only); (repeat' split) <;> simp [apply_ite State.keep, apply_ite Flash.image, apply_ite ErrLog.halted, apply_ite Boot.powered, keep_foldl])

theorem keep_execRegather (ctx handle : Nat) (s : State) : Out.keeps (fun t => t.keep = s.keep) (execRegather ctx handle s) := by
  unfold execRegather
  refine keeps_next _ _ ?_
  ((try dsimp only); (repeat' split) <;> simp [apply_ite State.keep, apply_ite Flash.image, apply_ite ErrLog.halted, apply_ite Boot.powered, keep_foldl])

theorem keep_execMemoryReadRequest (src : Nat) (s : State) : Out.keeps (fun t => t.keep = s.keep) (execMemoryReadRequest src s) := by
  unfold execMemoryReadRequest
  refine keeps_next _ _ ?_
  ((try dsimp only); (repeat' split) <;> simp [apply_ite State.keep, apply_ite Flash.image, apply_ite ErrLog.halted, apply_ite Boot.powered, keep_foldl])

theorem keep_execMemoryReadData (src : Nat) (s : State) : Out.keeps (fun t => t.keep = s.keep) (execMemoryReadData src s) := by
  unfold execMemoryReadData
  refine keeps_next _ _ ?_
  ((try dsimp only); (repeat' split) <;> simp [apply_ite State.keep, apply_ite Flash.image, apply_ite ErrLog.halted, apply_ite Boot.powered, keep_foldl])

theorem keep_execSliceEnd (part : Nat) (s : State) : Out.keeps (fun t => t.keep = s.keep) (execSliceEnd part s) := by
  unfold execSliceEnd
  refine keeps_next _ _ ?_
  ((try dsimp only); (repeat' split) <;> simp [apply_ite State.keep, apply_ite Flash.image, apply_ite ErrLog.halted, apply_ite Boot.powered, keep_foldl])

theorem keep_execPartitionYieldPoint (part : Nat) (s : State) : Out.keeps (fun t => t.keep = s.keep) (execPartitionYieldPoint part s) := by
  unfold execPartitionYieldPoint
  refine keeps_next _ _ ?_
  ((try dsimp only); (repeat' split) <;> simp [apply_ite State.keep, apply_ite Flash.image, apply_ite ErrLog.halted, apply_ite Boot.powered, keep_foldl])

theorem keep_execSwitchDone (part : Nat) (s : State) : Out.keeps (fun t => t.keep = s.keep) (execSwitchDone part s) := by
  unfold execSwitchDone
  refine keeps_next _ _ ?_
  ((try dsimp only); (repeat' split) <;> simp [apply_ite State.keep, apply_ite Flash.image, apply_ite ErrLog.halted, apply_ite Boot.powered, keep_foldl])

theorem keep_execPlacementWindow (s : State) : Out.keeps (fun t => t.keep = s.keep) (execPlacementWindow s) := by
  unfold execPlacementWindow
  refine keeps_next _ _ ?_
  ((try dsimp only); (repeat' split) <;> simp [apply_ite State.keep, apply_ite Flash.image, apply_ite ErrLog.halted, apply_ite Boot.powered, keep_foldl])

theorem keep_execExtentMoveDone (ctx : Nat) (ext : ExtentId) (s : State) : Out.keeps (fun t => t.keep = s.keep) (execExtentMoveDone ctx ext s) := by
  unfold execExtentMoveDone
  refine keeps_next _ _ ?_
  ((try dsimp only); (repeat' split) <;> simp [apply_ite State.keep, apply_ite Flash.image, apply_ite ErrLog.halted, apply_ite Boot.powered, keep_foldl])

theorem keep_execSpillMergeDone (ctx : Nat) (ext : ExtentId) (s : State) : Out.keeps (fun t => t.keep = s.keep) (execSpillMergeDone ctx ext s) := by
  unfold execSpillMergeDone
  refine keeps_next _ _ ?_
  ((try dsimp only); (repeat' split) <;> simp [apply_ite State.keep, apply_ite Flash.image, apply_ite ErrLog.halted, apply_ite Boot.powered, keep_foldl])

theorem keep_execTicketFetch (ring : Nat) (got : Option Fetched) (s : State) : Out.keeps (fun t => t.keep = s.keep) (execTicketFetch ring got s) := by
  unfold execTicketFetch
  refine keeps_next _ _ ?_
  ((try dsimp only); (repeat' split) <;> simp [apply_ite State.keep, apply_ite Flash.image, apply_ite ErrLog.halted, apply_ite Boot.powered, keep_foldl])

theorem keep_execTicketAccept (ring : Nat) (s : State) : Out.keeps (fun t => t.keep = s.keep) (execTicketAccept ring s) := by
  unfold execTicketAccept
  refine keeps_next _ _ ?_
  ((try dsimp only); (repeat' split) <;> simp [apply_ite State.keep, apply_ite Flash.image, apply_ite ErrLog.halted, apply_ite Boot.powered, keep_foldl])

theorem keep_execTicketComplete (ring tseq : Nat) (s : State) : Out.keeps (fun t => t.keep = s.keep) (execTicketComplete ring tseq s) := by
  unfold execTicketComplete
  refine keeps_next _ _ ?_
  ((try dsimp only); (repeat' split) <;> simp [apply_ite State.keep, apply_ite Flash.image, apply_ite ErrLog.halted, apply_ite Boot.powered, keep_foldl])

theorem keep_execSlotSet (ctx : Nat) (s : State) : Out.keeps (fun t => t.keep = s.keep) (execSlotSet ctx s) := by
  unfold execSlotSet
  refine keeps_next _ _ ?_
  ((try dsimp only); (repeat' split) <;> simp [apply_ite State.keep, apply_ite Flash.image, apply_ite ErrLog.halted, apply_ite Boot.powered, keep_foldl])

theorem keep_execLayer (ctx : Nat) (s : State) : Out.keeps (fun t => t.keep = s.keep) (execLayer ctx s) := by
  unfold execLayer
  refine keeps_next _ _ ?_
  ((try dsimp only); (repeat' split) <;> simp [apply_ite State.keep, apply_ite Flash.image, apply_ite ErrLog.halted, apply_ite Boot.powered, keep_foldl])

theorem keep_execScopeComplete (ctx : Nat) (s : State) : Out.keeps (fun t => t.keep = s.keep) (execScopeComplete ctx s) := by
  unfold execScopeComplete
  refine keeps_next _ _ ?_
  ((try dsimp only); (repeat' split) <;> simp [apply_ite State.keep, apply_ite Flash.image, apply_ite ErrLog.halted, apply_ite Boot.powered, keep_foldl])

theorem keep_execStashMove (ctx handle : Nat) (s : State) : Out.keeps (fun t => t.keep = s.keep) (execStashMove ctx handle s) := by
  unfold execStashMove
  refine keeps_next _ _ ?_
  ((try dsimp only); (repeat' split) <;> simp [apply_ite State.keep, apply_ite Flash.image, apply_ite ErrLog.halted, apply_ite Boot.powered, keep_foldl])

theorem keep_execRecompute (ctx handle : Nat) (s : State) : Out.keeps (fun t => t.keep = s.keep) (execRecompute ctx handle s) := by
  unfold execRecompute
  refine keeps_next _ _ ?_
  ((try dsimp only); (repeat' split) <;> simp [apply_ite State.keep, apply_ite Flash.image, apply_ite ErrLog.halted, apply_ite Boot.powered, keep_foldl])

theorem keep_execQsend (ctx : Nat) (s : State) : Out.keeps (fun t => t.keep = s.keep) (execQsend ctx s) := by
  unfold execQsend
  refine keeps_next _ _ ?_
  ((try dsimp only); (repeat' split) <;> simp [apply_ite State.keep, apply_ite Flash.image, apply_ite ErrLog.halted, apply_ite Boot.powered, keep_foldl])

theorem keep_execQrecv (ctx : Nat) (s : State) : Out.keeps (fun t => t.keep = s.keep) (execQrecv ctx s) := by
  unfold execQrecv
  refine keeps_next _ _ ?_
  ((try dsimp only); (repeat' split) <;> simp [apply_ite State.keep, apply_ite Flash.image, apply_ite ErrLog.halted, apply_ite Boot.powered, keep_foldl])

theorem keep_execQueueSlot (src vc : Nat) (s : State) : Out.keeps (fun t => t.keep = s.keep) (execQueueSlot src vc s) := by
  unfold execQueueSlot
  refine keeps_next _ _ ?_
  ((try dsimp only); (repeat' split) <;> simp [apply_ite State.keep, apply_ite Flash.image, apply_ite ErrLog.halted, apply_ite Boot.powered, keep_foldl])

theorem keep_execSlotWrittenAck (src vc : Nat) (s : State) : Out.keeps (fun t => t.keep = s.keep) (execSlotWrittenAck src vc s) := by
  unfold execSlotWrittenAck
  refine keeps_next _ _ ?_
  ((try dsimp only); (repeat' split) <;> simp [apply_ite State.keep, apply_ite Flash.image, apply_ite ErrLog.halted, apply_ite Boot.powered, keep_foldl])

theorem keep_execQueueCredit (src vc : Nat) (s : State) : Out.keeps (fun t => t.keep = s.keep) (execQueueCredit src vc s) := by
  unfold execQueueCredit
  refine keeps_next _ _ ?_
  ((try dsimp only); (repeat' split) <;> simp [apply_ite State.keep, apply_ite Flash.image, apply_ite ErrLog.halted, apply_ite Boot.powered, keep_foldl])

/-! ### The hardware's state -/

/-! ### The hardware's state -/

theorem hw_gheit (h : CmdHead) (bad pf : Bool) (body : State → CmdEnd) (s : State)
    (hb : (body s).keeps (fun t => t.hw = s.hw)) : Out.keeps (fun t => t.hw = s.hw) (gheit h bad pf body s) :=
  keeps_withUnit _ _ _ (hw_runCmd _ _ _ _ _ hb)

theorem hw_execCommitFreeze (ctx : Nat) (s : State) : Out.keeps (fun t => t.hw = s.hw) (execCommitFreeze ctx s) := by
  unfold execCommitFreeze
  refine keeps_next _ _ ?_
  ((try dsimp only); (repeat' split) <;> simp [apply_ite State.hw, hw_foldl])

theorem hw_execCowCopy (ctx : Nat) (ext : ExtentId) (s : State) : Out.keeps (fun t => t.hw = s.hw) (execCowCopy ctx ext s) := by
  unfold execCowCopy
  refine keeps_next _ _ ?_
  ((try dsimp only); (repeat' split) <;> simp [apply_ite State.hw, hw_foldl])

theorem hw_execCommitTransfer (ctx : Nat) (s : State) : Out.keeps (fun t => t.hw = s.hw) (execCommitTransfer ctx s) := by
  unfold execCommitTransfer
  refine keeps_next _ _ ?_
  ((try dsimp only); (repeat' split) <;> simp [apply_ite State.hw, hw_foldl])

theorem hw_execCommitCoordination (src : Nat) (s : State) : Out.keeps (fun t => t.hw = s.hw) (execCommitCoordination src s) := by
  unfold execCommitCoordination
  refine keeps_next _ _ ?_
  refine hw_onMessage _ _ _ _ ?_
  intro r a t ht
  (try dsimp only at ht)
  (repeat' split at ht)
  all_goals first
    | (cases ht; done)
    | (cases ht; simp [apply_ite State.hw, hw_foldl]; done)
    | (simp only [Option.some.injEq] at ht; subst ht; simp [apply_ite State.hw, hw_foldl]; done)

theorem hw_execMirrorExtentAck (src : Nat) (s : State) : Out.keeps (fun t => t.hw = s.hw) (execMirrorExtentAck src s) := by
  unfold execMirrorExtentAck
  refine keeps_next _ _ ?_
  refine hw_onMessage _ _ _ _ ?_
  intro r a t ht
  (try dsimp only at ht)
  (repeat' split at ht)
  all_goals first
    | (cases ht; done)
    | (cases ht; simp [apply_ite State.hw, hw_foldl]; done)
    | (simp only [Option.some.injEq] at ht; subst ht; simp [apply_ite State.hw, hw_foldl]; done)

theorem hw_execCommitSealed (src : Nat) (s : State) : Out.keeps (fun t => t.hw = s.hw) (execCommitSealed src s) := by
  unfold execCommitSealed
  refine keeps_next _ _ ?_
  refine hw_onMessage _ _ _ _ ?_
  intro r a t ht
  (try dsimp only at ht)
  (repeat' split at ht)
  all_goals first
    | (cases ht; done)
    | (cases ht; simp [apply_ite State.hw, hw_foldl]; done)
    | (simp only [Option.some.injEq] at ht; subst ht; simp [apply_ite State.hw, hw_foldl]; done)

theorem hw_execJournalRecords (src : Nat) (s : State) : Out.keeps (fun t => t.hw = s.hw) (execJournalRecords src s) := by
  unfold execJournalRecords
  refine keeps_next _ _ ?_
  refine hw_onMessage _ _ _ _ ?_
  intro r a t ht
  (try dsimp only at ht)
  (repeat' split at ht)
  all_goals first
    | (cases ht; done)
    | (cases ht; simp [apply_ite State.hw, hw_foldl]; done)
    | (simp only [Option.some.injEq] at ht; subst ht; simp [apply_ite State.hw, hw_foldl]; done)

theorem hw_execTensorCreate (h : CmdHead) (ctx : Nat) (p : TensorParams) (s : State) : Out.keeps (fun t => t.hw = s.hw) (execTensorCreate h ctx p s) := by
  unfold execTensorCreate
  refine hw_gheit _ _ _ _ _ ?_
  try dsimp only
  repeat' (first | with_reducible exact trivial | (refine keeps_forOwner _ _ _ _ _ ?_; intro x) | refine keeps_refuseIf _ _ _ ?_ | split)
  all_goals first
    | exact trivial
    | ((try dsimp only [CmdEnd.keeps]) <;> (repeat' split) <;> simp [apply_ite State.hw, hw_foldl])

theorem hw_execTensorDelete (h : CmdHead) (ctx handle : Nat) (s : State) : Out.keeps (fun t => t.hw = s.hw) (execTensorDelete h ctx handle s) := by
  unfold execTensorDelete
  refine hw_gheit _ _ _ _ _ ?_
  try dsimp only
  repeat' (first | with_reducible exact trivial | (refine keeps_forOwner _ _ _ _ _ ?_; intro x) | refine keeps_refuseIf _ _ _ ?_ | split)
  all_goals first
    | exact trivial
    | ((try dsimp only [CmdEnd.keeps]) <;> (repeat' split) <;> simp [apply_ite State.hw, hw_foldl])

theorem hw_execTensorMap (h : CmdHead) (ctx handle offset : Nat) (s : State) : Out.keeps (fun t => t.hw = s.hw) (execTensorMap h ctx handle offset s) := by
  unfold execTensorMap
  refine hw_gheit _ _ _ _ _ ?_
  try dsimp only
  repeat' (first | with_reducible exact trivial | (refine keeps_forOwner _ _ _ _ _ ?_; intro x) | refine keeps_refuseIf _ _ _ ?_ | split)
  all_goals first
    | exact trivial
    | ((try dsimp only [CmdEnd.keeps]) <;> (repeat' split) <;> simp [apply_ite State.hw, hw_foldl])

theorem hw_execTensorUnmap (h : CmdHead) (ctx handle : Nat) (s : State) : Out.keeps (fun t => t.hw = s.hw) (execTensorUnmap h ctx handle s) := by
  unfold execTensorUnmap
  refine hw_gheit _ _ _ _ _ ?_
  try dsimp only
  repeat' (first | with_reducible exact trivial | (refine keeps_forOwner _ _ _ _ _ ?_; intro x) | refine keeps_refuseIf _ _ _ ?_ | split)
  all_goals first
    | exact trivial
    | ((try dsimp only [CmdEnd.keeps]) <;> (repeat' split) <;> simp [apply_ite State.hw, hw_foldl])

theorem hw_execTensorQuery (h : CmdHead) (ctx handle : Nat) (s : State) : Out.keeps (fun t => t.hw = s.hw) (execTensorQuery h ctx handle s) := by
  unfold execTensorQuery
  refine hw_gheit _ _ _ _ _ ?_
  try dsimp only
  repeat' (first | with_reducible exact trivial | (refine keeps_forOwner _ _ _ _ _ ?_; intro x) | refine keeps_refuseIf _ _ _ ?_ | split)
  all_goals first
    | exact trivial
    | ((try dsimp only [CmdEnd.keeps]) <;> (repeat' split) <;> simp [apply_ite State.hw, hw_foldl])

theorem hw_execBar2Read (fn offset len : Nat) (s : State) : Out.keeps (fun t => t.hw = s.hw) (execBar2Read fn offset len s) := by
  unfold execBar2Read
  refine keeps_withUnit _ _ _ ?_
  ((try dsimp only); (repeat' split) <;> simp [apply_ite State.hw, hw_foldl])

theorem hw_execBar2Write (fn offset : Nat) (bytes : List Byte) (s : State) : Out.keeps (fun t => t.hw = s.hw) (execBar2Write fn offset bytes s) := by
  unfold execBar2Write
  refine keeps_withUnit _ _ _ ?_
  ((try dsimp only); (repeat' split) <;> simp [apply_ite State.hw, hw_foldl])

theorem hw_execKvPoolCreate (h : CmdHead) (ctx pages persistent : Nat) (s : State) : Out.keeps (fun t => t.hw = s.hw) (execKvPoolCreate h ctx pages persistent s) := by
  unfold execKvPoolCreate
  refine hw_gheit _ _ _ _ _ ?_
  try dsimp only
  refine keeps_forOwner _ _ _ _ _ ?_
  intro x
  generalize lowestFree 65536 (Tab.keys x.pools) = o
  repeat' (first | with_reducible exact trivial | split | refine keeps_refuseIf _ _ _ ?_)
  all_goals first
    | exact trivial
    | ((try dsimp only [CmdEnd.keeps]) <;> simp [apply_ite State.hw, hw_foldl])

theorem hw_execKvMap (h : CmdHead) (ctx slot first count : Nat) (entries : Option (List Word32)) (s : State) : Out.keeps (fun t => t.hw = s.hw) (execKvMap h ctx slot first count entries s) := by
  unfold execKvMap
  refine hw_gheit _ _ _ _ _ ?_
  try dsimp only
  repeat' (first | with_reducible exact trivial | (refine keeps_forOwner _ _ _ _ _ ?_; intro x) | refine keeps_refuseIf _ _ _ ?_ | split)
  all_goals first
    | exact trivial
    | ((try dsimp only [CmdEnd.keeps]) <;> (repeat' split) <;> simp [apply_ite State.hw, hw_foldl])

theorem hw_execKvPoolDestroy (h : CmdHead) (ctx pool : Nat) (s : State) : Out.keeps (fun t => t.hw = s.hw) (execKvPoolDestroy h ctx pool s) := by
  unfold execKvPoolDestroy
  refine hw_gheit _ _ _ _ _ ?_
  try dsimp only
  repeat' (first | with_reducible exact trivial | (refine keeps_forOwner _ _ _ _ _ ?_; intro x) | refine keeps_refuseIf _ _ _ ?_ | split)
  all_goals first
    | exact trivial
    | ((try dsimp only [CmdEnd.keeps]) <;> (repeat' split) <;> simp [apply_ite State.hw, hw_foldl])

theorem hw_execSlotAssign (h : CmdHead) (ctx bytes : Nat) (prompt : Option (List Byte)) (s : State) : Out.keeps (fun t => t.hw = s.hw) (execSlotAssign h ctx bytes prompt s) := by
  unfold execSlotAssign
  refine hw_gheit _ _ _ _ _ ?_
  try dsimp only
  refine keeps_forOwner _ _ _ _ _ ?_
  intro x
  generalize lowestFree 8192 (Tab.keys s.slots) = o
  repeat' (first | with_reducible exact trivial | split | refine keeps_refuseIf _ _ _ ?_)
  all_goals first
    | exact trivial
    | ((try dsimp only [CmdEnd.keeps]) <;> simp [apply_ite State.hw, hw_foldl])

theorem hw_execSlotRelease (h : CmdHead) (ctx slot : Nat) (s : State) : Out.keeps (fun t => t.hw = s.hw) (execSlotRelease h ctx slot s) := by
  unfold execSlotRelease
  refine hw_gheit _ _ _ _ _ ?_
  try dsimp only
  repeat' (first | with_reducible exact trivial | (refine keeps_forOwner _ _ _ _ _ ?_; intro x) | refine keeps_refuseIf _ _ _ ?_ | split)
  all_goals first
    | exact trivial
    | ((try dsimp only [CmdEnd.keeps]) <;> (repeat' split) <;> simp [apply_ite State.hw, hw_foldl])

theorem hw_execSlotQuery (h : CmdHead) (ctx slot addr : Nat) (s : State) : Out.keeps (fun t => t.hw = s.hw) (execSlotQuery h ctx slot addr s) := by
  unfold execSlotQuery
  refine hw_gheit _ _ _ _ _ ?_
  try dsimp only
  repeat' (first | with_reducible exact trivial | (refine keeps_forOwner _ _ _ _ _ ?_; intro x) | refine keeps_refuseIf _ _ _ ?_ | split)
  all_goals first
    | exact trivial
    | ((try dsimp only [CmdEnd.keeps]) <;> (repeat' split) <;> simp [apply_ite State.hw, hw_foldl])

theorem hw_execQueueCreate (h : CmdHead) (ctx : Nat) (p : QueueParams) (s : State) : Out.keeps (fun t => t.hw = s.hw) (execQueueCreate h ctx p s) := by
  unfold execQueueCreate
  refine hw_gheit _ _ _ _ _ ?_
  try dsimp only
  repeat' (first | with_reducible exact trivial | (refine keeps_forOwner _ _ _ _ _ ?_; intro x) | refine keeps_refuseIf _ _ _ ?_ | split)
  all_goals first
    | exact trivial
    | ((try dsimp only [CmdEnd.keeps]) <;> (repeat' split) <;> simp [apply_ite State.hw, hw_foldl])

theorem hw_execQueueDestroy (h : CmdHead) (ctx queue : Nat) (s : State) : Out.keeps (fun t => t.hw = s.hw) (execQueueDestroy h ctx queue s) := by
  unfold execQueueDestroy
  refine hw_gheit _ _ _ _ _ ?_
  try dsimp only
  repeat' (first | with_reducible exact trivial | (refine keeps_forOwner _ _ _ _ _ ?_; intro x) | refine keeps_refuseIf _ _ _ ?_ | split)
  all_goals first
    | exact trivial
    | ((try dsimp only [CmdEnd.keeps]) <;> (repeat' split) <;> simp [apply_ite State.hw, hw_foldl])

theorem hw_execXgroupCreate (h : CmdHead) (ctx group count : Nat) (members : Option (List Nat)) (s : State) : Out.keeps (fun t => t.hw = s.hw) (execXgroupCreate h ctx group count members s) := by
  unfold execXgroupCreate
  refine hw_gheit _ _ _ _ _ ?_
  try dsimp only
  repeat' (first | with_reducible exact trivial | (refine keeps_forOwner _ _ _ _ _ ?_; intro x) | refine keeps_refuseIf _ _ _ ?_ | split)
  all_goals first
    | exact trivial
    | ((try dsimp only [CmdEnd.keeps]) <;> (repeat' split) <;> simp [apply_ite State.hw, hw_foldl])

theorem hw_execXgroupDestroy (h : CmdHead) (ctx group : Nat) (s : State) : Out.keeps (fun t => t.hw = s.hw) (execXgroupDestroy h ctx group s) := by
  unfold execXgroupDestroy
  refine hw_gheit _ _ _ _ _ ?_
  try dsimp only
  repeat' (first | with_reducible exact trivial | (refine keeps_forOwner _ _ _ _ _ ?_; intro x) | refine keeps_refuseIf _ _ _ ?_ | split)
  all_goals first
    | exact trivial
    | ((try dsimp only [CmdEnd.keeps]) <;> (repeat' split) <;> simp [apply_ite State.hw, hw_foldl])

theorem hw_execGatherBudget (h : CmdHead) (ctx units : Nat) (s : State) : Out.keeps (fun t => t.hw = s.hw) (execGatherBudget h ctx units s) := by
  unfold execGatherBudget
  refine hw_gheit _ _ _ _ _ ?_
  try dsimp only
  repeat' (first | with_reducible exact trivial | (refine keeps_forOwner _ _ _ _ _ ?_; intro x) | refine keeps_refuseIf _ _ _ ?_ | split)
  all_goals first
    | exact trivial
    | ((try dsimp only [CmdEnd.keeps]) <;> (repeat' split) <;> simp [apply_ite State.hw, hw_foldl])

theorem hw_execMapPlan (h : CmdHead) (ctx : Nat) (p : PlanParams) (readFails : Bool) (s : State) : Out.keeps (fun t => t.hw = s.hw) (execMapPlan h ctx p readFails s) := by
  unfold execMapPlan
  refine hw_gheit _ _ _ _ _ ?_
  refine keeps_forOwner _ _ _ _ _ (fun x => ?_)
  exact keeps_refuseIf _ _ _ (hw_State_planOrRefuse _ _ _ _)

theorem hw_execMapPlanDrop (h : CmdHead) (ctx plan : Nat) (s : State) : Out.keeps (fun t => t.hw = s.hw) (execMapPlanDrop h ctx plan s) := by
  unfold execMapPlanDrop
  refine hw_gheit _ _ _ _ _ ?_
  try dsimp only
  repeat' (first | with_reducible exact trivial | (refine keeps_forOwner _ _ _ _ _ ?_; intro x) | refine keeps_refuseIf _ _ _ ?_ | split)
  all_goals first
    | exact trivial
    | ((try dsimp only [CmdEnd.keeps]) <;> (repeat' split) <;> simp [apply_ite State.hw, hw_foldl])

theorem hw_execMapPlanTimeout (ctx plan : Nat) (s : State) : Out.keeps (fun t => t.hw = s.hw) (execMapPlanTimeout ctx plan s) := by
  unfold execMapPlanTimeout
  refine keeps_next _ _ ?_
  ((try dsimp only); (repeat' split) <;> simp [apply_ite State.hw, hw_foldl])

theorem hw_execPartitionQuantum (h : CmdHead) (part quantum : Nat) (s : State) : Out.keeps (fun t => t.hw = s.hw) (execPartitionQuantum h part quantum s) := by
  unfold execPartitionQuantum
  refine hw_gheit _ _ _ _ _ ?_
  try dsimp only
  repeat' (first | with_reducible exact trivial | (refine keeps_forOwner _ _ _ _ _ ?_; intro x) | refine keeps_refuseIf _ _ _ ?_ | split)
  all_goals first
    | exact trivial
    | ((try dsimp only [CmdEnd.keeps]) <;> (repeat' split) <;> simp [apply_ite State.hw, hw_foldl])

theorem hw_execContextCreate (h : CmdHead) (p : ContextParams) (s : State) : Out.keeps (fun t => t.hw = s.hw) (execContextCreate h p s) := by
  unfold execContextCreate
  refine hw_gheit _ _ _ _ _ ?_
  try dsimp only
  generalize lowestFree 1024 (Tab.keys s.ctxs) = o
  repeat' (first | with_reducible exact trivial | split | refine keeps_refuseIf _ _ _ ?_)
  all_goals first
    | exact trivial
    | ((try dsimp only [CmdEnd.keeps]) <;> simp [apply_ite State.hw, hw_foldl])

theorem hw_execContextDestroy (h : CmdHead) (ctx : Nat) (s : State) : Out.keeps (fun t => t.hw = s.hw) (execContextDestroy h ctx s) := by
  unfold execContextDestroy
  refine hw_gheit _ _ _ _ _ ?_
  try dsimp only
  repeat' (first | with_reducible exact trivial | (refine keeps_forOwner _ _ _ _ _ ?_; intro x) | refine keeps_refuseIf _ _ _ ?_ | split)
  all_goals first
    | exact trivial
    | ((try dsimp only [CmdEnd.keeps]) <;> (repeat' split) <;> simp [apply_ite State.hw, hw_foldl])

theorem hw_execContextPriority (h : CmdHead) (ctx prio : Nat) (s : State) : Out.keeps (fun t => t.hw = s.hw) (execContextPriority h ctx prio s) := by
  unfold execContextPriority
  refine hw_gheit _ _ _ _ _ ?_
  try dsimp only
  repeat' (first | with_reducible exact trivial | (refine keeps_forOwner _ _ _ _ _ ?_; intro x) | refine keeps_refuseIf _ _ _ ?_ | split)
  all_goals first
    | exact trivial
    | ((try dsimp only [CmdEnd.keeps]) <;> (repeat' split) <;> simp [apply_ite State.hw, hw_foldl])

theorem hw_execContextQuery (h : CmdHead) (ctx : Nat) (s : State) : Out.keeps (fun t => t.hw = s.hw) (execContextQuery h ctx s) := by
  unfold execContextQuery
  refine hw_gheit _ _ _ _ _ ?_
  try dsimp only
  repeat' (first | with_reducible exact trivial | (refine keeps_forOwner _ _ _ _ _ ?_; intro x) | refine keeps_refuseIf _ _ _ ?_ | split)
  all_goals first
    | exact trivial
    | ((try dsimp only [CmdEnd.keeps]) <;> (repeat' split) <;> simp [apply_ite State.hw, hw_foldl])

theorem hw_execClientCounts (h : CmdHead) (client : Nat) (s : State) : Out.keeps (fun t => t.hw = s.hw) (execClientCounts h client s) := by
  unfold execClientCounts
  refine hw_gheit _ _ _ _ _ ?_
  try dsimp only
  repeat' (first | with_reducible exact trivial | (refine keeps_forOwner _ _ _ _ _ ?_; intro x) | refine keeps_refuseIf _ _ _ ?_ | split)
  all_goals first
    | exact trivial
    | ((try dsimp only [CmdEnd.keeps]) <;> (repeat' split) <;> simp [apply_ite State.hw, hw_foldl])

theorem hw_execDieRailUp (die : Nat) (s : State) : Out.keeps (fun t => t.hw = s.hw) (execDieRailUp die s) := by
  unfold execDieRailUp
  refine keeps_withUnit _ _ _ ?_
  ((try dsimp only); (repeat' split) <;> simp [apply_ite State.hw, hw_foldl])

theorem hw_execDieWakeDone (die : Nat) (s : State) : Out.keeps (fun t => t.hw = s.hw) (execDieWakeDone die s) := by
  unfold execDieWakeDone
  refine keeps_withUnit _ _ _ ?_
  ((try dsimp only); (repeat' split) <;> simp [apply_ite State.hw, hw_foldl])

theorem hw_execClusterWakeDone (cluster : Nat) (s : State) : Out.keeps (fun t => t.hw = s.hw) (execClusterWakeDone cluster s) := by
  unfold execClusterWakeDone
  refine keeps_withUnit _ _ _ ?_
  ((try dsimp only); (repeat' split) <;> simp [apply_ite State.hw, hw_foldl])

theorem hw_execClusterSleep (cluster : Nat) (s : State) : Out.keeps (fun t => t.hw = s.hw) (execClusterSleep cluster s) := by
  unfold execClusterSleep
  refine keeps_withUnit _ _ _ ?_
  ((try dsimp only); (repeat' split) <;> simp [apply_ite State.hw, hw_foldl])

theorem hw_execDieNap (die : Nat) (s : State) : Out.keeps (fun t => t.hw = s.hw) (execDieNap die s) := by
  unfold execDieNap
  refine keeps_withUnit _ _ _ ?_
  ((try dsimp only); (repeat' split) <;> simp [apply_ite State.hw, hw_foldl])

theorem hw_execDieOff (die : Nat) (s : State) : Out.keeps (fun t => t.hw = s.hw) (execDieOff die s) := by
  unfold execDieOff
  refine keeps_withUnit _ _ _ ?_
  ((try dsimp only); (repeat' split) <;> simp [apply_ite State.hw, hw_foldl])

theorem hw_execEngineGate (tile eng : Nat) (s : State) : Out.keeps (fun t => t.hw = s.hw) (execEngineGate tile eng s) := by
  unfold execEngineGate
  refine keeps_withUnit _ _ _ ?_
  ((try dsimp only); (repeat' split) <;> simp [apply_ite State.hw, hw_foldl])

theorem hw_execEngineStart (tile eng : Nat) (s : State) : Out.keeps (fun t => t.hw = s.hw) (execEngineStart tile eng s) := by
  unfold execEngineStart
  refine keeps_withUnit _ _ _ ?_
  ((try dsimp only); (repeat' split) <;> simp [apply_ite State.hw, hw_foldl])

theorem hw_execGovernorInterval (s : State) : Out.keeps (fun t => t.hw = s.hw) (execGovernorInterval s) := by
  unfold execGovernorInterval
  refine keeps_next _ _ ?_
  ((try dsimp only); (repeat' split) <;> simp [apply_ite State.hw, hw_foldl])

theorem hw_execStepUpCheck (s : State) : Out.keeps (fun t => t.hw = s.hw) (execStepUpCheck s) := by
  unfold execStepUpCheck
  refine keeps_next _ _ ?_
  ((try dsimp only); (repeat' split) <;> simp [apply_ite State.hw, hw_foldl])

theorem hw_execClockStepApply (s : State) : Out.keeps (fun t => t.hw = s.hw) (execClockStepApply s) := by
  unfold execClockStepApply
  refine keeps_next _ _ ?_
  ((try dsimp only); (repeat' split) <;> simp [apply_ite State.hw, hw_foldl])

theorem hw_execLogbookSecondSample (s : State) : Out.keeps (fun t => t.hw = s.hw) (execLogbookSecondSample s) := by
  unfold execLogbookSecondSample
  refine keeps_next _ _ ?_
  ((try dsimp only); (repeat' split) <;> simp [apply_ite State.hw, hw_foldl])

theorem hw_execLogbookHourlySample (s : State) : Out.keeps (fun t => t.hw = s.hw) (execLogbookHourlySample s) := by
  unfold execLogbookHourlySample
  refine keeps_next _ _ ?_
  ((try dsimp only); (repeat' split) <;> simp [apply_ite State.hw, hw_foldl])

theorem hw_execMemoryWrite (src : Nat) (s : State) : Out.keeps (fun t => t.hw = s.hw) (execMemoryWrite src s) := by
  unfold execMemoryWrite
  refine keeps_next _ _ ?_
  refine hw_onMessage _ _ _ _ ?_
  intro r a t ht
  (try dsimp only at ht)
  (repeat' split at ht)
  all_goals first
    | (cases ht; done)
    | (cases ht; simp; done)
    | (obtain ⟨u, hu, rfl⟩ := Option.map_eq_some_iff.mp ht; rw [hw_State_send, hw_State_mirrorWrite _ _ _ hu]; simp; done)

theorem hw_execJobReplay (ctx : Nat) (consumed : Tab Nat) (s : State) : Out.keeps (fun t => t.hw = s.hw) (execJobReplay ctx consumed s) := by
  unfold execJobReplay
  refine keeps_next _ _ ?_
  have he : ∀ (s : State) ctx x p es t, s.replayEntry ctx x p es = some t → t.hw = s.hw := by
    intro s ctx x p es t h
    unfold State.replayEntry at h
    dsimp only at h
    repeat' split at h
    all_goals first | (cases h; done) | (cases h; simp)
  dsimp only
  repeat' split
  all_goals first
    | rfl
    | (simp; done)
    | (rw [hw_State_refresh, he _ _ _ _ _ _ (by assumption)]; simp)

theorem hw_execPortReset (h : CmdHead) (port : Nat) (s : State) : Out.keeps (fun t => t.hw = s.hw) (execPortReset h port s) := by
  unfold execPortReset
  refine hw_gheit _ _ _ _ _ ?_
  try dsimp only
  repeat' (first | with_reducible exact trivial | (refine keeps_forOwner _ _ _ _ _ ?_; intro x) | refine keeps_refuseIf _ _ _ ?_ | split)
  all_goals first
    | exact trivial
    | ((try dsimp only [CmdEnd.keeps]) <;> (repeat' split) <;> simp [apply_ite State.hw, hw_foldl])

theorem hw_execLightDetected (port : Nat) (s : State) : Out.keeps (fun t => t.hw = s.hw) (execLightDetected port s) := by
  unfold execLightDetected
  refine keeps_withUnit _ _ _ ?_
  ((try dsimp only); (repeat' split) <;> simp [apply_ite State.hw, hw_foldl])

theorem hw_execEqualiserLocked (port : Nat) (s : State) : Out.keeps (fun t => t.hw = s.hw) (execEqualiserLocked port s) := by
  unfold execEqualiserLocked
  refine keeps_withUnit _ _ _ ?_
  ((try dsimp only); (repeat' split) <;> simp [apply_ite State.hw, hw_foldl])

theorem hw_execCodewordBoundariesFound (port : Nat) (s : State) : Out.keeps (fun t => t.hw = s.hw) (execCodewordBoundariesFound port s) := by
  unfold execCodewordBoundariesFound
  refine keeps_withUnit _ _ _ ?_
  ((try dsimp only); (repeat' split) <;> simp [apply_ite State.hw, hw_foldl])

theorem hw_execTrainingStepTimeout (port : Nat) (s : State) : Out.keeps (fun t => t.hw = s.hw) (execTrainingStepTimeout port s) := by
  unfold execTrainingStepTimeout
  refine keeps_withUnit _ _ _ ?_
  ((try dsimp only); (repeat' split) <;> simp [apply_ite State.hw, hw_foldl])

theorem hw_execTrainingTimeout (port : Nat) (s : State) : Out.keeps (fun t => t.hw = s.hw) (execTrainingTimeout port s) := by
  unfold execTrainingTimeout
  refine keeps_withUnit _ _ _ ?_
  ((try dsimp only); (repeat' split) <;> simp [apply_ite State.hw, hw_foldl])

theorem hw_execPortRetry (port : Nat) (s : State) : Out.keeps (fun t => t.hw = s.hw) (execPortRetry port s) := by
  unfold execPortRetry
  refine keeps_withUnit _ _ _ ?_
  ((try dsimp only); (repeat' split) <;> simp [apply_ite State.hw, hw_foldl])

theorem hw_execTrain (port : Nat) (f : TrainFlit) (s : State) : Out.keeps (fun t => t.hw = s.hw) (execTrain port f s) := by
  unfold execTrain
  refine keeps_withUnit _ _ _ ?_
  ((try dsimp only); (repeat' split) <;> simp [apply_ite State.hw, hw_foldl])

theorem hw_execTimeReply (port : Nat) (t2 t3 : Int) (s : State) : Out.keeps (fun t => t.hw = s.hw) (execTimeReply port t2 t3 s) := by
  unfold execTimeReply
  refine keeps_withUnit _ _ _ ?_
  ((try dsimp only); (repeat' split) <;> simp [apply_ite State.hw, hw_foldl])

theorem hw_execTimeSyncTimer (port : Nat) (s : State) : Out.keeps (fun t => t.hw = s.hw) (execTimeSyncTimer port s) := by
  unfold execTimeSyncTimer
  refine keeps_withUnit _ _ _ ?_
  ((try dsimp only); (repeat' split) <;> simp [apply_ite State.hw, hw_foldl])

theorem hw_execRootTimeout (s : State) : Out.keeps (fun t => t.hw = s.hw) (execRootTimeout s) := by
  unfold execRootTimeout
  refine keeps_next _ _ ?_
  ((try dsimp only); (repeat' split) <;> simp [apply_ite State.hw, hw_foldl])

theorem hw_execRootInSync (s : State) : Out.keeps (fun t => t.hw = s.hw) (execRootInSync s) := by
  unfold execRootInSync
  refine keeps_next _ _ ?_
  ((try dsimp only); (repeat' split) <;> simp [apply_ite State.hw, hw_foldl])

theorem hw_execNakResendTimeout (port : Nat) (s : State) : Out.keeps (fun t => t.hw = s.hw) (execNakResendTimeout port s) := by
  unfold execNakResendTimeout
  refine keeps_withUnit _ _ _ ?_
  ((try dsimp only); (repeat' split) <;> simp [apply_ite State.hw, hw_foldl])

theorem hw_execAckInterval (port : Nat) (s : State) : Out.keeps (fun t => t.hw = s.hw) (execAckInterval port s) := by
  unfold execAckInterval
  refine keeps_withUnit _ _ _ ?_
  ((try dsimp only); (repeat' split) <;> simp [apply_ite State.hw, hw_foldl])

theorem hw_execReplay (port : Nat) (got : ReplayGroup) (s : State) : Out.keeps (fun t => t.hw = s.hw) (execReplay port got s) := by
  unfold execReplay
  refine keeps_withUnit _ _ _ ?_
  ((try dsimp only); (repeat' split) <;> simp [apply_ite State.hw, hw_foldl])

theorem hw_execCredit (port : Nat) (counts : List Nat) (s : State) : Out.keeps (fun t => t.hw = s.hw) (execCredit port counts s) := by
  unfold execCredit
  refine keeps_withUnit _ _ _ ?_
  ((try dsimp only); (repeat' split) <;> simp [apply_ite State.hw, hw_foldl])

theorem hw_execPacketReceive (port : Nat) (p : Packet) (s : State) : Out.keeps (fun t => t.hw = s.hw) (execPacketReceive port p s) := by
  unfold execPacketReceive
  refine keeps_withUnit _ _ _ ?_
  ((try dsimp only); (repeat' split) <;> simp [apply_ite State.hw, hw_foldl])

theorem hw_execPacketTransmit (port : Nat) (s : State) : Out.keeps (fun t => t.hw = s.hw) (execPacketTransmit port s) := by
  unfold execPacketTransmit
  refine keeps_withUnit _ _ _ ?_
  ((try dsimp only); (repeat' split) <;> simp [apply_ite State.hw, hw_foldl])

theorem hw_execPortWindowEnd (port : Nat) (s : State) : Out.keeps (fun t => t.hw = s.hw) (execPortWindowEnd port s) := by
  unfold execPortWindowEnd
  refine keeps_withUnit _ _ _ ?_
  ((try dsimp only); (repeat' split) <;> simp [apply_ite State.hw, hw_foldl])

theorem hw_execTwinSolo (h : CmdHead) (s : State) : Out.keeps (fun t => t.hw = s.hw) (execTwinSolo h s) := by
  unfold execTwinSolo
  refine hw_gheit _ _ _ _ _ ?_
  try dsimp only
  repeat' (first | with_reducible exact trivial | (refine keeps_forOwner _ _ _ _ _ ?_; intro x) | refine keeps_refuseIf _ _ _ ?_ | split)
  all_goals first
    | exact trivial
    | ((try dsimp only [CmdEnd.keeps]) <;> (repeat' split) <;> simp [apply_ite State.hw, hw_foldl])

theorem hw_execTwinLost (s : State) : Out.keeps (fun t => t.hw = s.hw) (execTwinLost s) := by
  unfold execTwinLost
  refine keeps_next _ _ ?_
  ((try dsimp only); (repeat' split) <;> simp [apply_ite State.hw, hw_foldl])

theorem hw_execSessionRekey (s : State) : Out.keeps (fun t => t.hw = s.hw) (execSessionRekey s) := by
  unfold execSessionRekey
  refine keeps_next _ _ ?_
  ((try dsimp only); (repeat' split) <;> simp [apply_ite State.hw, hw_foldl])

theorem hw_execJobRollback (h : CmdHead) (ctx commit : Nat) (s : State) : Out.keeps (fun t => t.hw = s.hw) (execJobRollback h ctx commit s) := by
  unfold execJobRollback
  refine hw_gheit _ _ _ _ _ ?_
  try dsimp only
  repeat' (first | with_reducible exact trivial | (refine keeps_forOwner _ _ _ _ _ ?_; intro x) | refine keeps_refuseIf _ _ _ ?_ | split)
  all_goals first
    | exact trivial
    | ((try dsimp only [CmdEnd.keeps]) <;> (repeat' split) <;> simp [apply_ite State.hw, hw_foldl])

theorem hw_execCommitRelease (h : CmdHead) (ctx commit : Nat) (s : State) : Out.keeps (fun t => t.hw = s.hw) (execCommitRelease h ctx commit s) := by
  unfold execCommitRelease
  refine hw_gheit _ _ _ _ _ ?_
  try dsimp only
  repeat' (first | with_reducible exact trivial | (refine keeps_forOwner _ _ _ _ _ ?_; intro x) | refine keeps_refuseIf _ _ _ ?_ | split)
  all_goals first
    | exact trivial
    | ((try dsimp only [CmdEnd.keeps]) <;> (repeat' split) <;> simp [apply_ite State.hw, hw_foldl])

theorem hw_execJournalQuery (h : CmdHead) (byRing : Bool) (number : Nat) (s : State) : Out.keeps (fun t => t.hw = s.hw) (execJournalQuery h byRing number s) := by
  unfold execJournalQuery
  refine hw_gheit _ _ _ _ _ ?_
  try dsimp only
  repeat' (first | with_reducible exact trivial | (refine keeps_forOwner _ _ _ _ _ ?_; intro x) | refine keeps_refuseIf _ _ _ ?_ | split)
  all_goals first
    | exact trivial
    | ((try dsimp only [CmdEnd.keeps]) <;> (repeat' split) <;> simp [apply_ite State.hw, hw_foldl])

theorem hw_execTwinRestore (h : CmdHead) (survivor : Nat) (s : State) : Out.keeps (fun t => t.hw = s.hw) (execTwinRestore h survivor s) := by
  unfold execTwinRestore
  refine hw_gheit _ _ _ _ _ ?_
  try dsimp only
  repeat' (first | with_reducible exact trivial | (refine keeps_forOwner _ _ _ _ _ ?_; intro x) | refine keeps_refuseIf _ _ _ ?_ | split)
  all_goals first
    | exact trivial
    | ((try dsimp only [CmdEnd.keeps]) <;> (repeat' split) <;> simp [apply_ite State.hw, hw_foldl])

theorem hw_execTwinRestoreTimeout (s : State) : Out.keeps (fun t => t.hw = s.hw) (execTwinRestoreTimeout s) := by
  unfold execTwinRestoreTimeout
  refine keeps_next _ _ ?_
  ((try dsimp only); (repeat' split) <;> simp [apply_ite State.hw, hw_foldl])

theorem hw_execRestoreRequest (src : Nat) (s : State) : Out.keeps (fun t => t.hw = s.hw) (execRestoreRequest src s) := by
  unfold execRestoreRequest
  refine keeps_next _ _ ?_
  refine hw_onMessage _ _ _ _ ?_
  intro r a t ht
  (try dsimp only at ht)
  (repeat' split at ht)
  all_goals first
    | (cases ht; done)
    | (cases ht; simp [apply_ite State.hw, hw_foldl]; done)
    | (simp only [Option.some.injEq] at ht; subst ht; simp [apply_ite State.hw, hw_foldl]; done)

theorem hw_execFunctionResync (h : CmdHead) (discard : Nat) (s : State) : Out.keeps (fun t => t.hw = s.hw) (execFunctionResync h discard s) := by
  unfold execFunctionResync
  refine hw_gheit _ _ _ _ _ ?_
  try dsimp only
  repeat' (first | with_reducible exact trivial | (refine keeps_forOwner _ _ _ _ _ ?_; intro x) | refine keeps_refuseIf _ _ _ ?_ | split)
  all_goals first
    | exact trivial
    | ((try dsimp only [CmdEnd.keeps]) <;> (repeat' split) <;> simp [apply_ite State.hw, hw_foldl])

theorem hw_execCertRead (h : CmdHead) (addr : Nat) (s : State) : Out.keeps (fun t => t.hw = s.hw) (execCertRead h addr s) := by
  unfold execCertRead
  refine hw_gheit _ _ _ _ _ ?_
  try dsimp only
  repeat' (first | with_reducible exact trivial | (refine keeps_forOwner _ _ _ _ _ ?_; intro x) | refine keeps_refuseIf _ _ _ ?_ | split)
  all_goals first
    | exact trivial
    | ((try dsimp only [CmdEnd.keeps]) <;> (repeat' split) <;> simp [apply_ite State.hw, hw_foldl])

theorem hw_execAttestQuote (h : CmdHead) (nonce : List Byte) (scope ctx addr : Nat) (s : State) : Out.keeps (fun t => t.hw = s.hw) (execAttestQuote h nonce scope ctx addr s) := by
  unfold execAttestQuote
  refine hw_gheit _ _ _ _ _ ?_
  try dsimp only
  repeat' (first | with_reducible exact trivial | (refine keeps_forOwner _ _ _ _ _ ?_; intro x) | refine keeps_refuseIf _ _ _ ?_ | split)
  all_goals first
    | exact trivial
    | ((try dsimp only [CmdEnd.keeps]) <;> (repeat' split) <;> simp [apply_ite State.hw, hw_foldl])

theorem hw_execRegionQuery (h : CmdHead) (addr : Nat) (s : State) : Out.keeps (fun t => t.hw = s.hw) (execRegionQuery h addr s) := by
  unfold execRegionQuery
  refine hw_gheit _ _ _ _ _ ?_
  try dsimp only
  repeat' (first | with_reducible exact trivial | (refine keeps_forOwner _ _ _ _ _ ?_; intro x) | refine keeps_refuseIf _ _ _ ?_ | split)
  all_goals first
    | exact trivial
    | ((try dsimp only [CmdEnd.keeps]) <;> (repeat' split) <;> simp [apply_ite State.hw, hw_foldl])

theorem hw_execWinchMboxCfgWrite (fn : Nat) (value : Word32) (s : State) : Out.keeps (fun t => t.hw = s.hw) (execWinchMboxCfgWrite fn value s) := by
  unfold execWinchMboxCfgWrite
  refine keeps_withUnit _ _ _ ?_
  ((try dsimp only); (repeat' split) <;> simp [apply_ite State.hw, hw_foldl])

theorem hw_execWinchEvqCfgWrite (fn : Nat) (value : Word32) (s : State) : Out.keeps (fun t => t.hw = s.hw) (execWinchEvqCfgWrite fn value s) := by
  unfold execWinchEvqCfgWrite
  refine keeps_withUnit _ _ _ ?_
  ((try dsimp only); (repeat' split) <;> simp [apply_ite State.hw, hw_foldl])

theorem hw_execWinchMboxTailWrite (fn : Nat) (value : Word32) (readFails : Bool) (s : State) : Out.keeps (fun t => t.hw = s.hw) (execWinchMboxTailWrite fn value readFails s) := by
  unfold execWinchMboxTailWrite
  refine keeps_withUnit _ _ _ ?_
  ((try dsimp only); (repeat' split) <;> simp [apply_ite State.hw, hw_foldl])

theorem hw_execKeepAwakeWrite (fn : Nat) (value : Word32) (s : State) : Out.keeps (fun t => t.hw = s.hw) (execKeepAwakeWrite fn value s) := by
  unfold execKeepAwakeWrite
  refine keeps_withUnit _ _ _ ?_
  ((try dsimp only); (repeat' split) <;> simp [apply_ite State.hw, hw_foldl])

theorem hw_execRecoveryImageRequest (ident : Nat) (s : State) : Out.keeps (fun t => t.hw = s.hw) (execRecoveryImageRequest ident s) := by
  unfold execRecoveryImageRequest
  refine keeps_next _ _ ?_
  ((try dsimp only); (repeat' split) <;> simp [apply_ite State.hw, hw_foldl])

theorem hw_execConvert (ctx : Nat) (s : State) : Out.keeps (fun t => t.hw = s.hw) (execConvert ctx s) := by
  unfold execConvert
  refine keeps_next _ _ ?_
  (simp)

theorem hw_execAdd (ctx : Nat) (s : State) : Out.keeps (fun t => t.hw = s.hw) (execAdd ctx s) := by
  unfold execAdd
  refine keeps_next _ _ ?_
  (simp)

theorem hw_execSub (ctx : Nat) (s : State) : Out.keeps (fun t => t.hw = s.hw) (execSub ctx s) := by
  unfold execSub
  refine keeps_next _ _ ?_
  (simp)

theorem hw_execMul (ctx : Nat) (s : State) : Out.keeps (fun t => t.hw = s.hw) (execMul ctx s) := by
  unfold execMul
  refine keeps_next _ _ ?_
  (simp)

theorem hw_execDiv (ctx : Nat) (s : State) : Out.keeps (fun t => t.hw = s.hw) (execDiv ctx s) := by
  unfold execDiv
  refine keeps_next _ _ ?_
  (simp)

theorem hw_execMulAdd (ctx : Nat) (s : State) : Out.keeps (fun t => t.hw = s.hw) (execMulAdd ctx s) := by
  unfold execMulAdd
  refine keeps_next _ _ ?_
  (simp)

theorem hw_execMax (ctx : Nat) (s : State) : Out.keeps (fun t => t.hw = s.hw) (execMax ctx s) := by
  unfold execMax
  refine keeps_next _ _ ?_
  (simp)

theorem hw_execMin (ctx : Nat) (s : State) : Out.keeps (fun t => t.hw = s.hw) (execMin ctx s) := by
  unfold execMin
  refine keeps_next _ _ ?_
  (simp)

theorem hw_execLadd (ctx : Nat) (s : State) : Out.keeps (fun t => t.hw = s.hw) (execLadd ctx s) := by
  unfold execLadd
  refine keeps_next _ _ ?_
  (simp)

theorem hw_execSquare (ctx : Nat) (s : State) : Out.keeps (fun t => t.hw = s.hw) (execSquare ctx s) := by
  unfold execSquare
  refine keeps_next _ _ ?_
  (simp)

theorem hw_execSqrt (ctx : Nat) (s : State) : Out.keeps (fun t => t.hw = s.hw) (execSqrt ctx s) := by
  unfold execSqrt
  refine keeps_next _ _ ?_
  (simp)

theorem hw_execRecip (ctx : Nat) (s : State) : Out.keeps (fun t => t.hw = s.hw) (execRecip ctx s) := by
  unfold execRecip
  refine keeps_next _ _ ?_
  (simp)

theorem hw_execExp (ctx : Nat) (s : State) : Out.keeps (fun t => t.hw = s.hw) (execExp ctx s) := by
  unfold execExp
  refine keeps_next _ _ ?_
  (simp)

theorem hw_execLog (ctx : Nat) (s : State) : Out.keeps (fun t => t.hw = s.hw) (execLog ctx s) := by
  unfold execLog
  refine keeps_next _ _ ?_
  (simp)

theorem hw_execAct (ctx : Nat) (s : State) : Out.keeps (fun t => t.hw = s.hw) (execAct ctx s) := by
  unfold execAct
  refine keeps_next _ _ ?_
  (simp)

theorem hw_execAbs (ctx : Nat) (s : State) : Out.keeps (fun t => t.hw = s.hw) (execAbs ctx s) := by
  unfold execAbs
  refine keeps_next _ _ ?_
  (simp)

theorem hw_execSum (ctx : Nat) (s : State) : Out.keeps (fun t => t.hw = s.hw) (execSum ctx s) := by
  unfold execSum
  refine keeps_next _ _ ?_
  (simp)

theorem hw_execSumsq (ctx : Nat) (s : State) : Out.keeps (fun t => t.hw = s.hw) (execSumsq ctx s) := by
  unfold execSumsq
  refine keeps_next _ _ ?_
  (simp)

theorem hw_execReduceMax (ctx : Nat) (s : State) : Out.keeps (fun t => t.hw = s.hw) (execReduceMax ctx s) := by
  unfold execReduceMax
  refine keeps_next _ _ ?_
  (simp)

theorem hw_execReduceMin (ctx : Nat) (s : State) : Out.keeps (fun t => t.hw = s.hw) (execReduceMin ctx s) := by
  unfold execReduceMin
  refine keeps_next _ _ ?_
  (simp)

theorem hw_execCount (ctx : Nat) (s : State) : Out.keeps (fun t => t.hw = s.hw) (execCount ctx s) := by
  unfold execCount
  refine keeps_next _ _ ?_
  (simp)

theorem hw_execLse (ctx : Nat) (s : State) : Out.keeps (fun t => t.hw = s.hw) (execLse ctx s) := by
  unfold execLse
  refine keeps_next _ _ ?_
  (simp)

theorem hw_execMeanvar (ctx : Nat) (s : State) : Out.keeps (fun t => t.hw = s.hw) (execMeanvar ctx s) := by
  unfold execMeanvar
  refine keeps_next _ _ ?_
  (simp)

theorem hw_execSoftmax (ctx : Nat) (s : State) : Out.keeps (fun t => t.hw = s.hw) (execSoftmax ctx s) := by
  unfold execSoftmax
  refine keeps_next _ _ ?_
  (simp)

theorem hw_execMatrix (ctx : Nat) (s : State) : Out.keeps (fun t => t.hw = s.hw) (execMatrix ctx s) := by
  unfold execMatrix
  refine keeps_next _ _ ?_
  ((try dsimp only); (repeat' split) <;> simp [apply_ite State.hw, hw_foldl])

theorem hw_execOperandsReady (tile : Nat) (task : TaskId) (s : State) : Out.keeps (fun t => t.hw = s.hw) (execOperandsReady tile task s) := by
  unfold execOperandsReady
  refine keeps_withUnit _ _ _ ?_
  ((try dsimp only); (repeat' split) <;> simp [apply_ite State.hw, hw_foldl])

theorem hw_execTaskDispatch (tile : Nat) (s : State) : Out.keeps (fun t => t.hw = s.hw) (execTaskDispatch tile s) := by
  unfold execTaskDispatch
  refine keeps_withUnit _ _ _ ?_
  ((try dsimp only); (repeat' split) <;> simp [apply_ite State.hw, hw_foldl])

theorem hw_execRoundStart (tile eng : Nat) (s : State) : Out.keeps (fun t => t.hw = s.hw) (execRoundStart tile eng s) := by
  unfold execRoundStart
  refine keeps_withUnit _ _ _ ?_
  ((try dsimp only); (repeat' split) <;> simp [apply_ite State.hw, hw_foldl])

theorem hw_execWindowClose (tile eng : Nat) (s : State) : Out.keeps (fun t => t.hw = s.hw) (execWindowClose tile eng s) := by
  unfold execWindowClose
  refine keeps_withUnit _ _ _ ?_
  ((try dsimp only); (repeat' split) <;> simp [apply_ite State.hw, hw_foldl])

theorem hw_execGroupClose (tile eng : Nat) (s : State) : Out.keeps (fun t => t.hw = s.hw) (execGroupClose tile eng s) := by
  unfold execGroupClose
  refine keeps_withUnit _ _ _ ?_
  ((try dsimp only); (repeat' split) <;> simp [apply_ite State.hw, hw_foldl])

theorem hw_execGroupPark (tile eng group : Nat) (s : State) : Out.keeps (fun t => t.hw = s.hw) (execGroupPark tile eng group s) := by
  unfold execGroupPark
  refine keeps_withUnit _ _ _ ?_
  ((try dsimp only); (repeat' split) <;> simp [apply_ite State.hw, hw_foldl])

theorem hw_execMergeCombine (task : TaskId) (s : State) : Out.keeps (fun t => t.hw = s.hw) (execMergeCombine task s) := by
  unfold execMergeCombine
  refine keeps_next _ _ ?_
  dsimp only
  repeat' split
  all_goals first
    | rfl
    | exact hw_State_putMerged _ _ _ _ _ _ (hw_State_takeSaved (by assumption))
    | exact hw_State_putMerged _ _ _ _ _ _ (hw_State_takeChunk (by assumption))
    | exact hw_State_putMerged _ _ _ _ _ _ rfl
    | (rename_i h; split at h <;> first | exact hw_State_putMerged _ _ _ _ _ _ (hw_State_takeSaved h) | cases h)

theorem hw_execGroupDrainStart (tile : Nat) (s : State) : Out.keeps (fun t => t.hw = s.hw) (execGroupDrainStart tile s) := by
  unfold execGroupDrainStart
  refine keeps_withUnit _ _ _ ?_
  ((try dsimp only); (repeat' split) <;> simp [apply_ite State.hw, hw_foldl])

theorem hw_execGroupDrainReadDone (tile : Nat) (s : State) : Out.keeps (fun t => t.hw = s.hw) (execGroupDrainReadDone tile s) := by
  unfold execGroupDrainReadDone
  refine keeps_withUnit _ _ _ ?_
  ((try dsimp only); (repeat' split) <;> simp [apply_ite State.hw, hw_foldl])

theorem hw_execDrainStageDone (tile : Nat) (s : State) : Out.keeps (fun t => t.hw = s.hw) (execDrainStageDone tile s) := by
  unfold execDrainStageDone
  refine keeps_withUnit _ _ _ ?_
  ((try dsimp only); (repeat' split) <;> simp [apply_ite State.hw, hw_foldl])

theorem hw_execChainWords (src : Nat) (s : State) : Out.keeps (fun t => t.hw = s.hw) (execChainWords src s) := by
  unfold execChainWords
  refine keeps_next _ _ ?_
  ((try dsimp only); (repeat' split) <;> simp [apply_ite State.hw, hw_foldl])

theorem hw_execEpilogue (ctx : Nat) (s : State) : Out.keeps (fun t => t.hw = s.hw) (execEpilogue ctx s) := by
  unfold execEpilogue
  refine keeps_next _ _ ?_
  ((try dsimp only); (repeat' split) <;> simp [apply_ite State.hw, hw_foldl])

theorem hw_execXreduce (ctx : Nat) (s : State) : Out.keeps (fun t => t.hw = s.hw) (execXreduce ctx s) := by
  unfold execXreduce
  refine keeps_next _ _ ?_
  ((try dsimp only); (repeat' split) <;> simp [apply_ite State.hw, hw_foldl])

theorem hw_execXgather (ctx : Nat) (s : State) : Out.keeps (fun t => t.hw = s.hw) (execXgather ctx s) := by
  unfold execXgather
  refine keeps_next _ _ ?_
  ((try dsimp only); (repeat' split) <;> simp [apply_ite State.hw, hw_foldl])

theorem hw_execPermute (ctx : Nat) (s : State) : Out.keeps (fun t => t.hw = s.hw) (execPermute ctx s) := by
  unfold execPermute
  refine keeps_next _ _ ?_
  ((try dsimp only); (repeat' split) <;> simp [apply_ite State.hw, hw_foldl])

theorem hw_execXs (src : Nat) (s : State) : Out.keeps (fun t => t.hw = s.hw) (execXs src s) := by
  unfold execXs
  refine keeps_next _ _ ?_
  (simp)

theorem hw_execXd (src : Nat) (s : State) : Out.keeps (fun t => t.hw = s.hw) (execXd src s) := by
  unfold execXd
  refine keeps_next _ _ ?_
  (simp)

theorem hw_execXv (src : Nat) (s : State) : Out.keeps (fun t => t.hw = s.hw) (execXv src s) := by
  unfold execXv
  refine keeps_next _ _ ?_
  (simp)

theorem hw_execXgatherData (src : Nat) (s : State) : Out.keeps (fun t => t.hw = s.hw) (execXgatherData src s) := by
  unfold execXgatherData
  refine keeps_next _ _ ?_
  (simp)

theorem hw_execPermuteData (src : Nat) (s : State) : Out.keeps (fun t => t.hw = s.hw) (execPermuteData src s) := by
  unfold execPermuteData
  refine keeps_next _ _ ?_
  (simp)

theorem hw_execErrorWindowClose (s : State) : Out.keeps (fun t => t.hw = s.hw) (execErrorWindowClose s) := by
  unfold execErrorWindowClose
  refine keeps_next _ _ ?_
  ((try dsimp only); (repeat' split) <;> simp [apply_ite State.hw, hw_foldl])

theorem hw_execRegather (ctx handle : Nat) (s : State) : Out.keeps (fun t => t.hw = s.hw) (execRegather ctx handle s) := by
  unfold execRegather
  refine keeps_next _ _ ?_
  ((try dsimp only); (repeat' split) <;> simp [apply_ite State.hw, hw_foldl])

theorem hw_execMemoryReadRequest (src : Nat) (s : State) : Out.keeps (fun t => t.hw = s.hw) (execMemoryReadRequest src s) := by
  unfold execMemoryReadRequest
  refine keeps_next _ _ ?_
  ((try dsimp only); (repeat' split) <;> simp [apply_ite State.hw, hw_foldl])

theorem hw_execMemoryReadData (src : Nat) (s : State) : Out.keeps (fun t => t.hw = s.hw) (execMemoryReadData src s) := by
  unfold execMemoryReadData
  refine keeps_next _ _ ?_
  ((try dsimp only); (repeat' split) <;> simp [apply_ite State.hw, hw_foldl])

theorem hw_execSliceEnd (part : Nat) (s : State) : Out.keeps (fun t => t.hw = s.hw) (execSliceEnd part s) := by
  unfold execSliceEnd
  refine keeps_next _ _ ?_
  ((try dsimp only); (repeat' split) <;> simp [apply_ite State.hw, hw_foldl])

theorem hw_execPartitionYieldPoint (part : Nat) (s : State) : Out.keeps (fun t => t.hw = s.hw) (execPartitionYieldPoint part s) := by
  unfold execPartitionYieldPoint
  refine keeps_next _ _ ?_
  ((try dsimp only); (repeat' split) <;> simp [apply_ite State.hw, hw_foldl])

theorem hw_execSwitchDone (part : Nat) (s : State) : Out.keeps (fun t => t.hw = s.hw) (execSwitchDone part s) := by
  unfold execSwitchDone
  refine keeps_next _ _ ?_
  ((try dsimp only); (repeat' split) <;> simp [apply_ite State.hw, hw_foldl])

theorem hw_execPlacementWindow (s : State) : Out.keeps (fun t => t.hw = s.hw) (execPlacementWindow s) := by
  unfold execPlacementWindow
  refine keeps_next _ _ ?_
  ((try dsimp only); (repeat' split) <;> simp [apply_ite State.hw, hw_foldl])

theorem hw_execExtentMoveDone (ctx : Nat) (ext : ExtentId) (s : State) : Out.keeps (fun t => t.hw = s.hw) (execExtentMoveDone ctx ext s) := by
  unfold execExtentMoveDone
  refine keeps_next _ _ ?_
  ((try dsimp only); (repeat' split) <;> simp [apply_ite State.hw, hw_foldl])

theorem hw_execSpillMergeDone (ctx : Nat) (ext : ExtentId) (s : State) : Out.keeps (fun t => t.hw = s.hw) (execSpillMergeDone ctx ext s) := by
  unfold execSpillMergeDone
  refine keeps_next _ _ ?_
  ((try dsimp only); (repeat' split) <;> simp [apply_ite State.hw, hw_foldl])

theorem hw_execSlotSet (ctx : Nat) (s : State) : Out.keeps (fun t => t.hw = s.hw) (execSlotSet ctx s) := by
  unfold execSlotSet
  refine keeps_next _ _ ?_
  ((try dsimp only); (repeat' split) <;> simp [apply_ite State.hw, hw_foldl])

theorem hw_execLayer (ctx : Nat) (s : State) : Out.keeps (fun t => t.hw = s.hw) (execLayer ctx s) := by
  unfold execLayer
  refine keeps_next _ _ ?_
  ((try dsimp only); (repeat' split) <;> simp [apply_ite State.hw, hw_foldl])

theorem hw_execScopeComplete (ctx : Nat) (s : State) : Out.keeps (fun t => t.hw = s.hw) (execScopeComplete ctx s) := by
  unfold execScopeComplete
  refine keeps_next _ _ ?_
  ((try dsimp only); (repeat' split) <;> simp [apply_ite State.hw, hw_foldl])

theorem hw_execStashMove (ctx handle : Nat) (s : State) : Out.keeps (fun t => t.hw = s.hw) (execStashMove ctx handle s) := by
  unfold execStashMove
  refine keeps_next _ _ ?_
  ((try dsimp only); (repeat' split) <;> simp [apply_ite State.hw, hw_foldl])

theorem hw_execRecompute (ctx handle : Nat) (s : State) : Out.keeps (fun t => t.hw = s.hw) (execRecompute ctx handle s) := by
  unfold execRecompute
  refine keeps_next _ _ ?_
  ((try dsimp only); (repeat' split) <;> simp [apply_ite State.hw, hw_foldl])

theorem hw_execQsend (ctx : Nat) (s : State) : Out.keeps (fun t => t.hw = s.hw) (execQsend ctx s) := by
  unfold execQsend
  refine keeps_next _ _ ?_
  ((try dsimp only); (repeat' split) <;> simp [apply_ite State.hw, hw_foldl])

theorem hw_execQrecv (ctx : Nat) (s : State) : Out.keeps (fun t => t.hw = s.hw) (execQrecv ctx s) := by
  unfold execQrecv
  refine keeps_next _ _ ?_
  ((try dsimp only); (repeat' split) <;> simp [apply_ite State.hw, hw_foldl])

theorem hw_execQueueSlot (src vc : Nat) (s : State) : Out.keeps (fun t => t.hw = s.hw) (execQueueSlot src vc s) := by
  unfold execQueueSlot
  refine keeps_next _ _ ?_
  ((try dsimp only); (repeat' split) <;> simp [apply_ite State.hw, hw_foldl])

theorem hw_execSlotWrittenAck (src vc : Nat) (s : State) : Out.keeps (fun t => t.hw = s.hw) (execSlotWrittenAck src vc s) := by
  unfold execSlotWrittenAck
  refine keeps_next _ _ ?_
  ((try dsimp only); (repeat' split) <;> simp [apply_ite State.hw, hw_foldl])

theorem hw_execQueueCredit (src vc : Nat) (s : State) : Out.keeps (fun t => t.hw = s.hw) (execQueueCredit src vc s) := by
  unfold execQueueCredit
  refine keeps_next _ _ ?_
  ((try dsimp only); (repeat' split) <;> simp [apply_ite State.hw, hw_foldl])

end Sys2Proof.Machine
end

