-- ==== Sys2Proof/Laws/Memory.lean ====
section
/-! SUPPORT. Byte memories: a read after a write, and the canonical form, which every operation keeps. -/

namespace Sys2Proof.Machine

@[simp] theorem Mem.get_put_self (d : Nat → Byte) (m : Mem) (a : Nat) (b : Byte) : Mem.get d (Mem.put d m a b) a = b := by
  unfold Mem.get Mem.put
  split
  · simp [Tab.getD, *]
  · simp

theorem Mem.get_put_ne (d : Nat → Byte) (m : Mem) {a c : Nat} (b : Byte) (h : c ≠ a) :
    Mem.get d (Mem.put d m a b) c = Mem.get d m c := by
  unfold Mem.get Mem.put
  split
  · simp [Tab.getD, Tab.get_erase_ne m h]
  · exact Tab.getD_set_ne m b (d c) h

theorem Tab.mem_set {α : Type} (t : Tab α) (i : Nat) (a : α) (e : Nat × α) (h : e ∈ Tab.set t i a) : e = (i, a) ∨ e ∈ t := by
  induction t with
  | nil => simpa [Tab.set] using h
  | cons f t ih =>
    obtain ⟨k, b⟩ := f
    simp only [Tab.set] at h
    split at h
    · simpa using h
    · split at h
      · rcases List.mem_cons.1 h with h | h
        · exact .inl h
        · exact .inr (List.mem_cons_of_mem _ h)
      · rcases List.mem_cons.1 h with h | h
        · exact .inr (h ▸ List.mem_cons_self)
        · exact (ih h).imp id (List.mem_cons_of_mem _)

/-- A write of one byte keeps the canonical form. -/
theorem Mem.wf_put (d : Nat → Byte) (m : Mem) (a : Nat) (b : Byte) (h : Mem.wf d m = true) : Mem.wf d (Mem.put d m a b) = true := by
  simp only [Mem.wf, Bool.and_eq_true, List.all_eq_true] at h ⊢
  unfold Mem.put
  split
  · exact ⟨Tab.wf_erase m a h.1, fun e he => h.2 e (List.mem_of_mem_filter he)⟩
  · refine ⟨Tab.wf_set m a b h.1, fun e he => ?_⟩
    rcases Tab.mem_set m a b e he with rfl | he
    · simpa using ‹¬b = d a›
    · exact h.2 e he

/-- A write of several bytes keeps the canonical form. -/
theorem Mem.wf_putAll (d : Nat → Byte) (m : Mem) (a : Nat) (bs : List Byte) (h : Mem.wf d m = true) :
    Mem.wf d (Mem.putAll d m a bs) = true := by
  induction bs generalizing m a with
  | nil => exact h
  | cons b bs ih => exact ih _ _ (Mem.wf_put d m a b h)

/-- Bytes below the range written read as before. -/
theorem Mem.get_putAll_below (d : Nat → Byte) (m : Mem) (a c : Nat) (bs : List Byte) (h : c < a) :
    Mem.get d (Mem.putAll d m a bs) c = Mem.get d m c := by
  induction bs generalizing m a with
  | nil => rfl
  | cons b bs ih =>
    rw [Mem.putAll, ih _ _ (by omega), Mem.get_put_ne d m b (by omega)]

/-- Bytes above the range written read as before. -/
theorem Mem.get_putAll_above (d : Nat → Byte) (m : Mem) (a c : Nat) (bs : List Byte) (h : a + bs.length ≤ c) :
    Mem.get d (Mem.putAll d m a bs) c = Mem.get d m c := by
  induction bs generalizing m a with
  | nil => rfl
  | cons b bs ih =>
    simp only [List.length_cons] at h
    rw [Mem.putAll, ih _ _ (by omega), Mem.get_put_ne d m b (by omega)]

/-- The bytes written are read back. -/
theorem Mem.get_putAll_in (d : Nat → Byte) (m : Mem) (a i : Nat) (bs : List Byte) (b : Byte) (h : bs[i]? = some b) :
    Mem.get d (Mem.putAll d m a bs) (a + i) = b := by
  induction bs generalizing m a i with
  | nil => simp at h
  | cons c bs ih =>
    cases i with
    | zero =>
      simp only [List.getElem?_cons_zero, Option.some.injEq] at h
      subst h
      rw [Nat.add_zero, Mem.putAll, Mem.get_putAll_below d _ _ _ _ (by omega), Mem.get_put_self]
    | succ i =>
      simp only [List.getElem?_cons_succ] at h
      rw [Mem.putAll, show a + (i + 1) = a + 1 + i by omega]
      exact ih _ _ _ h

/-- Folding single writes keeps the canonical form. -/
theorem Mem.wf_foldl {α : Type} (d : Nat → Byte) (l : List α) (f : Mem → α → Mem)
    (hf : ∀ m a, Mem.wf d m = true → Mem.wf d (f m a) = true) (m : Mem) (h : Mem.wf d m = true) :
    Mem.wf d (l.foldl f m) = true := by
  induction l generalizing m with
  | nil => exact h
  | cons a l ih => exact ih _ (hf m a h)

/-- The code of an element narrower than or as wide as bytes: writing it keeps the canonical form. -/
theorem wf_putCode (d : Nat → Byte) (m : Mem) (base w e code : Nat) (h : Mem.wf d m = true) :
    Mem.wf d (putCode d m base w e code) = true := by
  unfold putCode
  repeat' (first | split | exact Mem.wf_putAll _ _ _ _ h | exact Mem.wf_put _ _ _ _ h)

theorem wf_putNibble (d : Nat → Byte) (m : Mem) (base j n : Nat) (h : Mem.wf d m = true) :
    Mem.wf d (putNibble d m base j n) = true := by
  unfold putNibble
  repeat' (first | split | exact Mem.wf_put _ _ _ _ h)

/-- Writing elements into an image keeps the canonical form. -/
theorem wf_writeCodes (o : TObj) (m : Mem) (codes : List (List (Option Nat))) (h : Mem.wf o.dflt m = true) :
    Mem.wf o.dflt (writeCodes o m codes) = true :=
  Mem.wf_foldl _ _ _ (fun _ _ hm => Mem.wf_foldl _ _ _ (fun _ _ hc => by
    split <;> first | exact wf_putCode _ _ _ _ _ _ hc | exact hc) _ hm) m h

/-- Writing nibbles into an image keeps the canonical form. -/
theorem wf_writeNibs (o : TObj) (m : Mem) (nibs : List (List (Option Nat))) (h : Mem.wf o.dflt m = true) :
    Mem.wf o.dflt (writeNibs o m nibs) = true :=
  Mem.wf_foldl _ _ _ (fun _ _ hm => Mem.wf_foldl _ _ _ (fun _ _ hc => by
    split <;> first | exact wf_putNibble _ _ _ _ _ hc | exact hc) _ hm) m h

/-- Writing elements and nibbles into an image keeps the canonical form. -/
theorem wf_writeImage (o : TObj) (m : Mem) (codes nibs : List (List (Option Nat))) (h : Mem.wf o.dflt m = true) :
    Mem.wf o.dflt (writeImage o m codes nibs) = true := by
  unfold writeImage
  split
  · exact wf_writeNibs _ _ _ (wf_writeCodes _ _ _ h)
  · exact wf_writeCodes _ _ _ h

/-- Every memory of the module right after reset has the canonical form: none lists anything. -/
theorem reset_memories : State.reset.flash.image = [] ∧ State.reset.ctxs = [] ∧ State.reset.jr.slots = [] := ⟨rfl, rfl, rfl⟩

end Sys2Proof.Machine
end

