-- ==== Sys2Proof/Laws/PerInstr.lean ====
section
/-! SUPPORT. The family `Wf`, stated for every command: it is well formed exactly when every unit number it carries is below
the number of such units on the module (R15, R16, R22). -/

namespace Sys2Proof.Laws.Wf

open Sys2Proof Sys2Proof.Machine

/-- The unit numbers a command carries, each with the number of such units: 63 functions, 320 tiles of 3 engines of 8
groups, 80 clusters, 10 dies, 36 ports, 48 lasers, 4 cartridges, 8 virtual channels. -/
def units : Instr → List (Nat × Nat)
  | .partitionCreate h _ => [(h.fn, 63)]
  | .partitionDestroy h _ => [(h.fn, 63)]
  | .partitionQuantum h _ _ => [(h.fn, 63)]
  | .contextCreate h _ => [(h.fn, 63)]
  | .contextDestroy h _ => [(h.fn, 63)]
  | .contextPriority h _ _ => [(h.fn, 63)]
  | .contextQuery h _ => [(h.fn, 63)]
  | .ringCreate h _ => [(h.fn, 63)]
  | .ringDestroy h _ => [(h.fn, 63)]
  | .clientCounts h _ => [(h.fn, 63)]
  | .tensorCreate h _ _ => [(h.fn, 63)]
  | .tensorDelete h _ _ => [(h.fn, 63)]
  | .tensorMap h _ _ _ => [(h.fn, 63)]
  | .tensorUnmap h _ _ => [(h.fn, 63)]
  | .tensorQuery h _ _ => [(h.fn, 63)]
  | .kvPoolCreate h _ _ _ => [(h.fn, 63)]
  | .kvMap h _ _ _ _ _ => [(h.fn, 63)]
  | .kvPoolDestroy h _ _ => [(h.fn, 63)]
  | .slotAssign h _ _ _ => [(h.fn, 63)]
  | .slotRelease h _ _ => [(h.fn, 63)]
  | .slotQuery h _ _ _ => [(h.fn, 63)]
  | .queueCreate h _ _ => [(h.fn, 63)]
  | .xgroupCreate h _ _ _ _ => [(h.fn, 63)]
  | .gatherBudget h _ _ => [(h.fn, 63)]
  | .mapPlan h _ _ _ => [(h.fn, 63)]
  | .queueDestroy h _ _ => [(h.fn, 63)]
  | .xgroupDestroy h _ _ => [(h.fn, 63)]
  | .mapPlanDrop h _ _ => [(h.fn, 63)]
  | .moduleIdSet h _ _ => [(h.fn, 63)]
  | .fabricReserve h _ _ _ => [(h.fn, 63)]
  | .portReset h _ => [(h.fn, 63)]
  | .cartridgeRelease h _ => [(h.fn, 63)]
  | .twinPair h _ => [(h.fn, 63)]
  | .twinUnpair h _ => [(h.fn, 63)]
  | .twinSolo h => [(h.fn, 63)]
  | .twinRestore h _ => [(h.fn, 63)]
  | .jobRollback h _ _ => [(h.fn, 63)]
  | .commitRelease h _ _ => [(h.fn, 63)]
  | .journalQuery h _ _ => [(h.fn, 63)]
  | .fwUpdate h _ _ _ => [(h.fn, 63)]
  | .moduleReset h => [(h.fn, 63)]
  | .functionResync h _ => [(h.fn, 63)]
  | .certRead h _ => [(h.fn, 63)]
  | .attestQuote h _ _ _ _ => [(h.fn, 63)]
  | .regionQuery h _ => [(h.fn, 63)]
  | .winchMboxCfgWrite fn _ => [(fn, 63)]
  | .winchEvqCfgWrite fn _ => [(fn, 63)]
  | .ringDoorbell fn _ _ _ => [(fn, 63)]
  | .fabricTimeLoRead fn => [(fn, 63)]
  | .logSnap fn _ => [(fn, 63)]
  | .logDataRead fn => [(fn, 63)]
  | .xdTelemCfgWrite fn _ => [(fn, 63)]
  | .xdTelemPeriodWrite fn _ => [(fn, 63)]
  | .keepAwakeWrite fn _ => [(fn, 63)]
  | .recoveryGo fn _ => [(fn, 63)]
  | .registerWrite fn _ _ _ => [(fn, 63)]
  | .bar2Read fn _ _ => [(fn, 63)]
  | .bar2Write fn _ _ => [(fn, 63)]
  | .operandsReady tile _ => [(tile, 320)]
  | .taskDispatch tile => [(tile, 320)]
  | .roundStart tile eng => [(tile, 320), (eng, 3)]
  | .windowClose tile eng => [(tile, 320), (eng, 3)]
  | .groupClose tile eng => [(tile, 320), (eng, 3)]
  | .groupPark tile eng group => [(tile, 320), (eng, 3), (group, 8)]
  | .groupDrainStart tile => [(tile, 320)]
  | .groupDrainReadDone tile => [(tile, 320)]
  | .drainStageDone tile => [(tile, 320)]
  | .queueSlot _ vc => [(vc, 8)]
  | .slotWrittenAck _ vc => [(vc, 8)]
  | .queueCredit _ vc => [(vc, 8)]
  | .lightDetected port => [(port, 36)]
  | .lightLost port => [(port, 36)]
  | .trainingStepTimeout port => [(port, 36)]
  | .trainingTimeout port => [(port, 36)]
  | .portRetry port => [(port, 36)]
  | .train port _ => [(port, 36)]
  | .fecGroupReceive port _ => [(port, 36)]
  | .packetReceive port _ => [(port, 36)]
  | .ack port _ _ => [(port, 36)]
  | .replay port _ => [(port, 36)]
  | .nakResendTimeout port => [(port, 36)]
  | .ackInterval port => [(port, 36)]
  | .credit port _ => [(port, 36)]
  | .packetTransmit port => [(port, 36)]
  | .down port => [(port, 36)]
  | .timeSync port _ => [(port, 36)]
  | .timeReply port _ _ => [(port, 36)]
  | .timeSyncTimer port => [(port, 36)]
  | .portWindowEnd port => [(port, 36)]
  | .laserBiasLimit laser _ => [(laser, 48)]
  | .cartridgeInsert cart _ _ => [(cart, 4)]
  | .laserLock cart => [(cart, 4)]
  | .engineGate tile eng => [(tile, 320), (eng, 3)]
  | .engineStart tile eng => [(tile, 320), (eng, 3)]
  | .clusterSleep cluster => [(cluster, 80)]
  | .dieNap die => [(die, 10)]
  | .dieOff die => [(die, 10)]
  | .dieRailUp die => [(die, 10)]
  | .patrolScrub pass => pass.die.toList.map (fun d => (d, 10))
  | .dieWakeDone die => [(die, 10)]
  | .clusterWakeDone cluster => [(cluster, 80)]
  | .functionLevelReset fn => [(fn, 63)]
  | .functionUnavailable fn => [(fn, 63)]
  | .functionAvailable fn => [(fn, 63)]
  | .winchMboxTailWrite fn _ _ => [(fn, 63)]
  | .equaliserLocked port => [(port, 36)]
  | .codewordBoundariesFound port => [(port, 36)]
  | .cartridgeReleaseTimeout cart => [(cart, 4)]
  | _ => []

/-- Well formed exactly when every unit the command numbers exists. -/
def Statement (i : Instr) : Prop := i.wf = true ↔ ∀ u ∈ units i, u.1 < u.2

theorem of_nil {i : Instr} (h : i.wf = true) (hu : units i = []) : Statement i := by simp [Statement, h, hu]
theorem of_one {i : Instr} {n k : Nat} (h : i.wf = decide (n < k)) (hu : units i = [(n, k)]) : Statement i := by simp [Statement, h, hu]
theorem of_fn {i : Instr} {n : Nat} (h : i.wf = decide (n ≤ 62)) (hu : units i = [(n, 63)]) : Statement i := by
  simp only [Statement, h, hu, decide_eq_true_eq, List.mem_singleton, forall_eq]; omega

theorem partitionCreate (h : CmdHead) (p : PartitionParams) : Statement (.partitionCreate h p) := of_fn rfl rfl
theorem partitionDestroy (h : CmdHead) (part : Nat) : Statement (.partitionDestroy h part) := of_fn rfl rfl
theorem partitionQuantum (h : CmdHead) (part : Nat) (quantum : Nat) : Statement (.partitionQuantum h part quantum) := of_fn rfl rfl
theorem contextCreate (h : CmdHead) (p : ContextParams) : Statement (.contextCreate h p) := of_fn rfl rfl
theorem contextDestroy (h : CmdHead) (ctx : Nat) : Statement (.contextDestroy h ctx) := of_fn rfl rfl
theorem contextPriority (h : CmdHead) (ctx : Nat) (prio : Nat) : Statement (.contextPriority h ctx prio) := of_fn rfl rfl
theorem contextQuery (h : CmdHead) (ctx : Nat) : Statement (.contextQuery h ctx) := of_fn rfl rfl
theorem ringCreate (h : CmdHead) (p : RingParams) : Statement (.ringCreate h p) := of_fn rfl rfl
theorem ringDestroy (h : CmdHead) (ring : Nat) : Statement (.ringDestroy h ring) := of_fn rfl rfl
theorem clientCounts (h : CmdHead) (client : Nat) : Statement (.clientCounts h client) := of_fn rfl rfl
theorem tensorCreate (h : CmdHead) (ctx : Nat) (p : TensorParams) : Statement (.tensorCreate h ctx p) := of_fn rfl rfl
theorem tensorDelete (h : CmdHead) (ctx : Nat) (handle : Nat) : Statement (.tensorDelete h ctx handle) := of_fn rfl rfl
theorem tensorMap (h : CmdHead) (ctx : Nat) (handle : Nat) (offset : Nat) : Statement (.tensorMap h ctx handle offset) := of_fn rfl rfl
theorem tensorUnmap (h : CmdHead) (ctx : Nat) (handle : Nat) : Statement (.tensorUnmap h ctx handle) := of_fn rfl rfl
theorem tensorQuery (h : CmdHead) (ctx : Nat) (handle : Nat) : Statement (.tensorQuery h ctx handle) := of_fn rfl rfl
theorem kvPoolCreate (h : CmdHead) (ctx : Nat) (pages : Nat) (persistent : Nat) : Statement (.kvPoolCreate h ctx pages persistent) := of_fn rfl rfl
theorem kvMap (h : CmdHead) (ctx : Nat) (slot : Nat) (first : Nat) (count : Nat) (entries : Option (List Word32)) : Statement (.kvMap h ctx slot first count entries) := of_fn rfl rfl
theorem kvPoolDestroy (h : CmdHead) (ctx : Nat) (pool : Nat) : Statement (.kvPoolDestroy h ctx pool) := of_fn rfl rfl
theorem slotAssign (h : CmdHead) (ctx : Nat) (bytes : Nat) (prompt : Option (List Byte)) : Statement (.slotAssign h ctx bytes prompt) := of_fn rfl rfl
theorem slotRelease (h : CmdHead) (ctx : Nat) (slot : Nat) : Statement (.slotRelease h ctx slot) := of_fn rfl rfl
theorem slotQuery (h : CmdHead) (ctx : Nat) (slot : Nat) (addr : Nat) : Statement (.slotQuery h ctx slot addr) := of_fn rfl rfl
theorem queueCreate (h : CmdHead) (ctx : Nat) (p : QueueParams) : Statement (.queueCreate h ctx p) := of_fn rfl rfl
theorem xgroupCreate (h : CmdHead) (ctx : Nat) (group : Nat) (count : Nat) (members : Option (List Nat)) : Statement (.xgroupCreate h ctx group count members) := of_fn rfl rfl
theorem gatherBudget (h : CmdHead) (ctx : Nat) (units : Nat) : Statement (.gatherBudget h ctx units) := of_fn rfl rfl
theorem mapPlan (h : CmdHead) (ctx : Nat) (p : PlanParams) (readFails : Bool) : Statement (.mapPlan h ctx p readFails) := of_fn rfl rfl
theorem queueDestroy (h : CmdHead) (ctx : Nat) (queue : Nat) : Statement (.queueDestroy h ctx queue) := of_fn rfl rfl
theorem xgroupDestroy (h : CmdHead) (ctx : Nat) (group : Nat) : Statement (.xgroupDestroy h ctx group) := of_fn rfl rfl
theorem mapPlanDrop (h : CmdHead) (ctx : Nat) (plan : Nat) : Statement (.mapPlanDrop h ctx plan) := of_fn rfl rfl
theorem moduleIdSet (h : CmdHead) (ident : Nat) (size : Nat) : Statement (.moduleIdSet h ident size) := of_fn rfl rfl
theorem fabricReserve (h : CmdHead) (part : Nat) (share : Nat) (lend : Nat) : Statement (.fabricReserve h part share lend) := of_fn rfl rfl
theorem portReset (h : CmdHead) (port : Nat) : Statement (.portReset h port) := of_fn rfl rfl
theorem cartridgeRelease (h : CmdHead) (cart : Nat) : Statement (.cartridgeRelease h cart) := of_fn rfl rfl
theorem twinPair (h : CmdHead) (ident : Nat) : Statement (.twinPair h ident) := of_fn rfl rfl
theorem twinUnpair (h : CmdHead) (discard : Nat) : Statement (.twinUnpair h discard) := of_fn rfl rfl
theorem twinSolo (h : CmdHead) : Statement (.twinSolo h) := of_fn rfl rfl
theorem twinRestore (h : CmdHead) (survivor : Nat) : Statement (.twinRestore h survivor) := of_fn rfl rfl
theorem jobRollback (h : CmdHead) (ctx : Nat) (commit : Nat) : Statement (.jobRollback h ctx commit) := of_fn rfl rfl
theorem commitRelease (h : CmdHead) (ctx : Nat) (commit : Nat) : Statement (.commitRelease h ctx commit) := of_fn rfl rfl
theorem journalQuery (h : CmdHead) (byRing : Bool) (number : Nat) : Statement (.journalQuery h byRing number) := of_fn rfl rfl
theorem fwUpdate (h : CmdHead) (addr : Nat) (len : Nat) (image : Option (List Byte)) : Statement (.fwUpdate h addr len image) := of_fn rfl rfl
theorem moduleReset (h : CmdHead) : Statement (.moduleReset h) := of_fn rfl rfl
theorem functionResync (h : CmdHead) (discard : Nat) : Statement (.functionResync h discard) := of_fn rfl rfl
theorem certRead (h : CmdHead) (addr : Nat) : Statement (.certRead h addr) := of_fn rfl rfl
theorem attestQuote (h : CmdHead) (nonce : List Byte) (scope : Nat) (ctx : Nat) (addr : Nat) : Statement (.attestQuote h nonce scope ctx addr) := of_fn rfl rfl
theorem regionQuery (h : CmdHead) (addr : Nat) : Statement (.regionQuery h addr) := of_fn rfl rfl
theorem winchMboxCfgWrite (fn : Nat) (value : Word32) : Statement (.winchMboxCfgWrite fn value) := of_fn rfl rfl
theorem winchEvqCfgWrite (fn : Nat) (value : Word32) : Statement (.winchEvqCfgWrite fn value) := of_fn rfl rfl
theorem ringDoorbell (fn : Nat) (ring : Nat) (width : Nat) (tailSeq : Nat) : Statement (.ringDoorbell fn ring width tailSeq) := of_fn rfl rfl
theorem fabricTimeLoRead (fn : Nat) : Statement (.fabricTimeLoRead fn) := of_fn rfl rfl
theorem logSnap (fn : Nat) (value : Word32) : Statement (.logSnap fn value) := of_fn rfl rfl
theorem logSnapDone : Statement (.logSnapDone) := of_nil rfl rfl
theorem logDataRead (fn : Nat) : Statement (.logDataRead fn) := of_fn rfl rfl
theorem xdTelemCfgWrite (fn : Nat) (value : Word32) : Statement (.xdTelemCfgWrite fn value) := of_fn rfl rfl
theorem xdTelemPeriodWrite (fn : Nat) (value : Word32) : Statement (.xdTelemPeriodWrite fn value) := of_fn rfl rfl
theorem keepAwakeWrite (fn : Nat) (value : Word32) : Statement (.keepAwakeWrite fn value) := of_fn rfl rfl
theorem recoveryGo (fn : Nat) (value : Word32) : Statement (.recoveryGo fn value) := of_fn rfl rfl
theorem registerWrite (fn : Nat) (offset : Nat) (width : Nat) (value : Nat) : Statement (.registerWrite fn offset width value) := of_fn rfl rfl
theorem bar2Read (fn : Nat) (offset : Nat) (len : Nat) : Statement (.bar2Read fn offset len) := of_fn rfl rfl
theorem bar2Write (fn : Nat) (offset : Nat) (bytes : List Byte) : Statement (.bar2Write fn offset bytes) := of_fn rfl rfl
theorem ticketFetch (ring : Nat) (got : Option Fetched) : Statement (.ticketFetch ring got) := of_nil rfl rfl
theorem ticketAccept (ring : Nat) : Statement (.ticketAccept ring) := of_nil rfl rfl
theorem ticketComplete (ring : Nat) (tseq : Nat) : Statement (.ticketComplete ring tseq) := of_nil rfl rfl
theorem journalRecords (src : Nat) : Statement (.journalRecords src) := of_nil rfl rfl
theorem matrix (ctx : Nat) : Statement (.matrix ctx) := of_nil rfl rfl
theorem operandsReady (tile : Nat) (task : TaskId) : Statement (.operandsReady tile task) := of_one rfl rfl
theorem taskDispatch (tile : Nat) : Statement (.taskDispatch tile) := of_one rfl rfl
theorem roundStart (tile : Nat) (eng : Nat) : Statement (.roundStart tile eng) := by simp [Statement, units, Instr.wf]
theorem windowClose (tile : Nat) (eng : Nat) : Statement (.windowClose tile eng) := by simp [Statement, units, Instr.wf]
theorem groupClose (tile : Nat) (eng : Nat) : Statement (.groupClose tile eng) := by simp [Statement, units, Instr.wf]
theorem groupPark (tile : Nat) (eng : Nat) (group : Nat) : Statement (.groupPark tile eng group) := by simp [Statement, units, Instr.wf, and_assoc]
theorem mergeCombine (task : TaskId) : Statement (.mergeCombine task) := of_nil rfl rfl
theorem groupDrainStart (tile : Nat) : Statement (.groupDrainStart tile) := of_one rfl rfl
theorem groupDrainReadDone (tile : Nat) : Statement (.groupDrainReadDone tile) := of_one rfl rfl
theorem drainStageDone (tile : Nat) : Statement (.drainStageDone tile) := of_one rfl rfl
theorem convert (ctx : Nat) : Statement (.convert ctx) := of_nil rfl rfl
theorem add (ctx : Nat) : Statement (.add ctx) := of_nil rfl rfl
theorem sub (ctx : Nat) : Statement (.sub ctx) := of_nil rfl rfl
theorem mul (ctx : Nat) : Statement (.mul ctx) := of_nil rfl rfl
theorem div (ctx : Nat) : Statement (.div ctx) := of_nil rfl rfl
theorem mulAdd (ctx : Nat) : Statement (.mulAdd ctx) := of_nil rfl rfl
theorem max (ctx : Nat) : Statement (.max ctx) := of_nil rfl rfl
theorem min (ctx : Nat) : Statement (.min ctx) := of_nil rfl rfl
theorem ladd (ctx : Nat) : Statement (.ladd ctx) := of_nil rfl rfl
theorem square (ctx : Nat) : Statement (.square ctx) := of_nil rfl rfl
theorem sqrt (ctx : Nat) : Statement (.sqrt ctx) := of_nil rfl rfl
theorem recip (ctx : Nat) : Statement (.recip ctx) := of_nil rfl rfl
theorem exp (ctx : Nat) : Statement (.exp ctx) := of_nil rfl rfl
theorem log (ctx : Nat) : Statement (.log ctx) := of_nil rfl rfl
theorem act (ctx : Nat) : Statement (.act ctx) := of_nil rfl rfl
theorem abs (ctx : Nat) : Statement (.abs ctx) := of_nil rfl rfl
theorem epilogue (ctx : Nat) : Statement (.epilogue ctx) := of_nil rfl rfl
theorem sum (ctx : Nat) : Statement (.sum ctx) := of_nil rfl rfl
theorem sumsq (ctx : Nat) : Statement (.sumsq ctx) := of_nil rfl rfl
theorem reduceMax (ctx : Nat) : Statement (.reduceMax ctx) := of_nil rfl rfl
theorem reduceMin (ctx : Nat) : Statement (.reduceMin ctx) := of_nil rfl rfl
theorem count (ctx : Nat) : Statement (.count ctx) := of_nil rfl rfl
theorem lse (ctx : Nat) : Statement (.lse ctx) := of_nil rfl rfl
theorem meanvar (ctx : Nat) : Statement (.meanvar ctx) := of_nil rfl rfl
theorem softmax (ctx : Nat) : Statement (.softmax ctx) := of_nil rfl rfl
theorem layer (ctx : Nat) : Statement (.layer ctx) := of_nil rfl rfl
theorem scopeComplete (ctx : Nat) : Statement (.scopeComplete ctx) := of_nil rfl rfl
theorem stashMove (ctx : Nat) (handle : Nat) : Statement (.stashMove ctx handle) := of_nil rfl rfl
theorem recompute (ctx : Nat) (handle : Nat) : Statement (.recompute ctx handle) := of_nil rfl rfl
theorem qsend (ctx : Nat) : Statement (.qsend ctx) := of_nil rfl rfl
theorem qrecv (ctx : Nat) : Statement (.qrecv ctx) := of_nil rfl rfl
theorem queueSlot (src : Nat) (vc : Nat) : Statement (.queueSlot src vc) := of_one rfl rfl
theorem slotWrittenAck (src : Nat) (vc : Nat) : Statement (.slotWrittenAck src vc) := of_one rfl rfl
theorem queueCredit (src : Nat) (vc : Nat) : Statement (.queueCredit src vc) := of_one rfl rfl
theorem xreduce (ctx : Nat) : Statement (.xreduce ctx) := of_nil rfl rfl
theorem xgather (ctx : Nat) : Statement (.xgather ctx) := of_nil rfl rfl
theorem permute (ctx : Nat) : Statement (.permute ctx) := of_nil rfl rfl
theorem xs (src : Nat) : Statement (.xs src) := of_nil rfl rfl
theorem xd (src : Nat) : Statement (.xd src) := of_nil rfl rfl
theorem xv (src : Nat) : Statement (.xv src) := of_nil rfl rfl
theorem xgatherData (src : Nat) : Statement (.xgatherData src) := of_nil rfl rfl
theorem permuteData (src : Nat) : Statement (.permuteData src) := of_nil rfl rfl
theorem chainWords (src : Nat) : Statement (.chainWords src) := of_nil rfl rfl
theorem regather (ctx : Nat) (handle : Nat) : Statement (.regather ctx handle) := of_nil rfl rfl
theorem slotSet (ctx : Nat) : Statement (.slotSet ctx) := of_nil rfl rfl
theorem commitFreeze (ctx : Nat) : Statement (.commitFreeze ctx) := of_nil rfl rfl
theorem cowCopy (ctx : Nat) (ext : ExtentId) : Statement (.cowCopy ctx ext) := of_nil rfl rfl
theorem commitTransfer (ctx : Nat) : Statement (.commitTransfer ctx) := of_nil rfl rfl
theorem memoryWrite (src : Nat) : Statement (.memoryWrite src) := of_nil rfl rfl
theorem mirrorExtentAck (src : Nat) : Statement (.mirrorExtentAck src) := of_nil rfl rfl
theorem commitCoordination (src : Nat) : Statement (.commitCoordination src) := of_nil rfl rfl
theorem commitSealed (src : Nat) : Statement (.commitSealed src) := of_nil rfl rfl
theorem memoryReadRequest (src : Nat) : Statement (.memoryReadRequest src) := of_nil rfl rfl
theorem memoryReadData (src : Nat) : Statement (.memoryReadData src) := of_nil rfl rfl
theorem winchControl (src : Nat) : Statement (.winchControl src) := of_nil rfl rfl
theorem twinAuth (src : Nat) : Statement (.twinAuth src) := of_nil rfl rfl
theorem sessionRekey : Statement (.sessionRekey) := of_nil rfl rfl
theorem twinPairRetry : Statement (.twinPairRetry) := of_nil rfl rfl
theorem twinLost : Statement (.twinLost) := of_nil rfl rfl
theorem restoreRequest (src : Nat) : Statement (.restoreRequest src) := of_nil rfl rfl
theorem twinRestoreTimeout : Statement (.twinRestoreTimeout) := of_nil rfl rfl
theorem restoreStepDone (step : Nat) : Statement (.restoreStepDone step) := of_nil rfl rfl
theorem jobReplay (ctx : Nat) (consumed : Tab Nat) : Statement (.jobReplay ctx consumed) := of_nil rfl rfl
theorem partitionYieldPoint (part : Nat) : Statement (.partitionYieldPoint part) := of_nil rfl rfl
theorem sliceEnd (part : Nat) : Statement (.sliceEnd part) := of_nil rfl rfl
theorem switchDone (part : Nat) : Statement (.switchDone part) := of_nil rfl rfl
theorem lightDetected (port : Nat) : Statement (.lightDetected port) := of_one rfl rfl
theorem lightLost (port : Nat) : Statement (.lightLost port) := of_one rfl rfl
theorem trainingStepTimeout (port : Nat) : Statement (.trainingStepTimeout port) := of_one rfl rfl
theorem trainingTimeout (port : Nat) : Statement (.trainingTimeout port) := of_one rfl rfl
theorem portRetry (port : Nat) : Statement (.portRetry port) := of_one rfl rfl
theorem train (port : Nat) (flit : TrainFlit) : Statement (.train port flit) := of_one rfl rfl
theorem fecGroupReceive (port : Nat) (group : FecGroup) : Statement (.fecGroupReceive port group) := of_one rfl rfl
theorem packetReceive (port : Nat) (packet : Packet) : Statement (.packetReceive port packet) := of_one rfl rfl
theorem ack (port : Nat) (seq : Nat) (nak : Bool) : Statement (.ack port seq nak) := of_one rfl rfl
theorem replay (port : Nat) (got : ReplayGroup) : Statement (.replay port got) := of_one rfl rfl
theorem nakResendTimeout (port : Nat) : Statement (.nakResendTimeout port) := of_one rfl rfl
theorem ackInterval (port : Nat) : Statement (.ackInterval port) := of_one rfl rfl
theorem credit (port : Nat) (counts : List Nat) : Statement (.credit port counts) := of_one rfl rfl
theorem packetTransmit (port : Nat) : Statement (.packetTransmit port) := of_one rfl rfl
theorem down (port : Nat) : Statement (.down port) := of_one rfl rfl
theorem timeSync (port : Nat) (flit : SyncFlit) : Statement (.timeSync port flit) := of_one rfl rfl
theorem timeReply (port : Nat) (t2 : Int) (t3 : Int) : Statement (.timeReply port t2 t3) := of_one rfl rfl
theorem timeSyncTimer (port : Nat) : Statement (.timeSyncTimer port) := of_one rfl rfl
theorem rootTimeout : Statement (.rootTimeout) := of_nil rfl rfl
theorem rootInSync : Statement (.rootInSync) := of_nil rfl rfl
theorem portWindowEnd (port : Nat) : Statement (.portWindowEnd port) := of_one rfl rfl
theorem laserBiasLimit (laser : Nat) (bias : Nat) : Statement (.laserBiasLimit laser bias) := of_one rfl rfl
theorem cartridgeInsert (cart : Nat) (serial : Nat) (factory : List Nat) : Statement (.cartridgeInsert cart serial factory) := of_one rfl rfl
theorem laserLock (cart : Nat) : Statement (.laserLock cart) := of_one rfl rfl
theorem mapPlanTimeout (ctx : Nat) (plan : Nat) : Statement (.mapPlanTimeout ctx plan) := of_nil rfl rfl
theorem placementWindow : Statement (.placementWindow) := of_nil rfl rfl
theorem extentMoveDone (ctx : Nat) (ext : ExtentId) : Statement (.extentMoveDone ctx ext) := of_nil rfl rfl
theorem errorDetected (report : ErrorReport) : Statement (.errorDetected report) := of_nil rfl rfl
theorem patrolScrub (pass : ScrubPass) : Statement (.patrolScrub pass) := by
  obtain ⟨die, found⟩ := pass
  cases die <;> simp [Statement, Instr.wf, units]
theorem errorWindowClose : Statement (.errorWindowClose) := of_nil rfl rfl
theorem logbookCommit : Statement (.logbookCommit) := of_nil rfl rfl
theorem logbookSecondSample : Statement (.logbookSecondSample) := of_nil rfl rfl
theorem logbookHourlySample : Statement (.logbookHourlySample) := of_nil rfl rfl
theorem powerSample (r : Sensors) : Statement (.powerSample r) := of_nil rfl rfl
theorem governorInterval : Statement (.governorInterval) := of_nil rfl rfl
theorem stepUpCheck : Statement (.stepUpCheck) := of_nil rfl rfl
theorem clockStepApply : Statement (.clockStepApply) := of_nil rfl rfl
theorem engineGate (tile : Nat) (eng : Nat) : Statement (.engineGate tile eng) := by simp [Statement, units, Instr.wf]
theorem engineStart (tile : Nat) (eng : Nat) : Statement (.engineStart tile eng) := by simp [Statement, units, Instr.wf]
theorem clusterSleep (cluster : Nat) : Statement (.clusterSleep cluster) := of_one rfl rfl
theorem dieNap (die : Nat) : Statement (.dieNap die) := of_one rfl rfl
theorem dieOff (die : Nat) : Statement (.dieOff die) := of_one rfl rfl
theorem dieRailUp (die : Nat) : Statement (.dieRailUp die) := of_one rfl rfl
theorem dieWakeDone (die : Nat) : Statement (.dieWakeDone die) := of_one rfl rfl
theorem clusterWakeDone (cluster : Nat) : Statement (.clusterWakeDone cluster) := of_one rfl rfl
theorem thermalShutdown (r : Sensors) : Statement (.thermalShutdown r) := of_nil rfl rfl
theorem telemetryWindowEnd : Statement (.telemetryWindowEnd) := of_nil rfl rfl
theorem powerApplied : Statement (.powerApplied) := of_nil rfl rfl
theorem inputDisconnect (vin : Nat) (micros : Nat) : Statement (.inputDisconnect vin micros) := of_nil rfl rfl
theorem bootHeaderRead : Statement (.bootHeaderRead) := of_nil rfl rfl
theorem bootBodyVerified : Statement (.bootBodyVerified) := of_nil rfl rfl
theorem firmwareReady : Statement (.firmwareReady) := of_nil rfl rfl
theorem recoveryHeader (source : RecSource) (header : List Byte) : Statement (.recoveryHeader source header) := of_nil rfl rfl
theorem recoveryImageReceived (image : Option (List Byte)) : Statement (.recoveryImageReceived image) := of_nil rfl rfl
theorem recoveryImageRequest (ident : Nat) : Statement (.recoveryImageRequest ident) := of_nil rfl rfl
theorem warmReset : Statement (.warmReset) := of_nil rfl rfl
theorem linkReset : Statement (.linkReset) := of_nil rfl rfl
theorem functionLevelReset (fn : Nat) : Statement (.functionLevelReset fn) := of_fn rfl rfl
theorem functionUnavailable (fn : Nat) : Statement (.functionUnavailable fn) := of_fn rfl rfl
theorem functionAvailable (fn : Nat) : Statement (.functionAvailable fn) := of_fn rfl rfl
theorem winchMboxTailWrite (fn : Nat) (value : Word32) (readFails : Bool) : Statement (.winchMboxTailWrite fn value readFails) := of_fn rfl rfl
theorem equaliserLocked (port : Nat) : Statement (.equaliserLocked port) := of_one rfl rfl
theorem codewordBoundariesFound (port : Nat) : Statement (.codewordBoundariesFound port) := of_one rfl rfl
theorem cartridgeReleaseTimeout (cart : Nat) : Statement (.cartridgeReleaseTimeout cart) := of_one rfl rfl
theorem spillMergeDone (ctx : Nat) (ext : ExtentId) : Statement (.spillMergeDone ctx ext) := of_nil rfl rfl

end Sys2Proof.Laws.Wf
end

