-- ==== Sys2Proof/Machine/Regions.lean ====
section
/-! DEFINITION. Device addresses: the address map, striping and interleaving, worlds and the region of an address, the
compute clock's frequency (R281, R284, R309, R408, R409, R437). Software never names a device address, so no command
carries one to a memory; what is said here is what the module's own requests keep to. -/

namespace Sys2Proof.Machine

/-- The channel and the offset within its mirror part of a mirror offset; the secure area is striped alike (R281). -/
def stripe (m : Nat) : Nat × Nat := (m / 4096 % 12, m / 4096 / 12 * 4096 + m % 4096)

/-- The channel of a stack that an address lies in (R284). -/
def stackChannel (a : Nat) : Nat := a / 256 % 32

/-- What lies at a device address (Table 10.9). -/
inductive Area where
  | hbm (stack : Nat)
  | moduleArea (stack : Nat)
  | partitionPart (channel : Nat)
  | secureArea (channel : Nat)
  | mirrorArea (channel : Nat)
  | pool (die way : Nat)
  | sram (tile : Nat)
  | flash
  | reserved
deriving DecidableEq, Repr

/-- Bytes of a ballast channel, of its partition part, and where its mirror part begins (Tables 10.2, 10.9). -/
def State.channelBytes (s : State) : Nat := if s.order1536 then 0x2000000000 else 0x1000000000
def State.partBytes (s : State) : Nat := if s.order1536 then 0xA00000000 else 0x500000000
def State.mirrorStart (s : State) : Nat := if s.order1536 then 0xB00000000 else 0x580000000

/-- The device address map (Table 10.9). -/
def State.areaOf (s : State) (a : Nat) : Area :=
  if a < 0x014000000000 then
    if a % 0x1000000000 < 0xFF0000000 then .hbm (a / 0x1000000000) else .moduleArea (a / 0x1000000000)
  else if 0x020000000000 ≤ a ∧ a < 0x020000000000 + 12 * s.channelBytes then
    let c := (a - 0x020000000000) / s.channelBytes
    let o := (a - 0x020000000000) % s.channelBytes
    if o < s.partBytes then .partitionPart c else if o < s.mirrorStart then .secureArea c else .mirrorArea c
  else if 0x040000000000 ≤ a ∧ a < 0x040014000000 then
    .pool ((a - 0x040000000000) / 0x2000000) ((a - 0x040000000000) % 0x2000000 / 0x200000)
  else if 0x041000000000 ≤ a ∧ a < 0x0410A0000000 then .sram ((a - 0x041000000000) / 0x800000)
  else if 0x042000000000 ≤ a ∧ a < 0x042004000000 then .flash
  else .reserved

/-- The region of an address: the valid entry of lowest index that covers it (R409). -/
def State.regionOf (s : State) (a : Nat) : Option Word64 :=
  (s.regions.find? (fun e => bitOf e.2.toNat 59 && fieldOf e.2.toNat 26 0 ≤ a / 2 ^ 21 && a / 2 ^ 21 < fieldOf e.2.toNat 53 27)).map (·.2)

/-- May a request reach an address? A secure block (`none`) reaches every region; a request of a partition a
non-secure region of its own (R408, R409). -/
def State.reaches (s : State) (part : Option Nat) (a : Nat) : Bool :=
  match part, s.regionOf a with
  | none, _ => true
  | some p, some e => !bitOf e.toNat 58 && fieldOf e.toNat 57 54 = p
  | some _, none => false

/-- The compute clock at step k, in kHz (R437). -/
def computeKhz (k : Nat) : Nat := 1100000 * (32 - k) / 32

end Sys2Proof.Machine
end

