-- ==== Sys2Proof/Laws/Regions.lean ====
section
/-! SUPPORT. Striping places every byte of the mirror area once (R281); a partition reaches nothing outside its own
non-secure regions (R408). -/

namespace Sys2Proof.Laws

open Sys2Proof.Machine

/-- Two mirror offsets share no byte of a channel. -/
theorem stripe_inj {a b : Nat} (h : stripe a = stripe b) : a = b := by
  simp only [stripe, Prod.mk.injEq] at h
  omega

/-- A mirror offset's channel exists. -/
theorem stripe_channel (m : Nat) : (stripe m).1 < 12 := Nat.mod_lt _ (by decide)

/-- What a partition reaches is covered by a valid entry that carries its number. -/
theorem reaches_region {s : State} {p a : Nat} (h : s.reaches (some p) a = true) :
    ∃ e, s.regionOf a = some e ∧ bitOf e.toNat 58 = false ∧ fieldOf e.toNat 57 54 = p := by
  unfold State.reaches at h
  split at h
  · simp_all
  · rename_i q e h1 h2
    cases h1
    exact ⟨e, h2, by simpa using h⟩
  · simp at h

end Sys2Proof.Laws
end

