-- ==== Sys2Proof/Laws/State.lean ====
section
/-! SUPPORT. What each small update of the state leaves in each field, true by unfolding: no proof need unfold a record update. -/

namespace Sys2Proof.Machine

variable (s : State)

/-! ### State.setFn -/

@[simp] theorem State.pending_setFn (i : Nat) (a : Func) : (s.setFn i a).pending = s.pending := rfl
@[simp] theorem State.order1536_setFn (i : Nat) (a : Func) : (s.setFn i a).order1536 = s.order1536 := rfl
@[simp] theorem State.fuses_setFn (i : Nat) (a : Func) : (s.setFn i a).fuses = s.fuses := rfl
@[simp] theorem State.flash_setFn (i : Nat) (a : Func) : (s.setFn i a).flash = s.flash := rfl
@[simp] theorem State.boot_setFn (i : Nat) (a : Func) : (s.setFn i a).boot = s.boot := rfl
@[simp] theorem State.linkUp_setFn (i : Nat) (a : Func) : (s.setFn i a).linkUp = s.linkUp := rfl
@[simp] theorem State.numVfs_setFn (i : Nat) (a : Func) : (s.setFn i a).numVfs = s.numVfs := rfl
@[simp] theorem State.funs_setFn (i : Nat) (a : Func) : (s.setFn i a).funs = Tab.set s.funs i a := rfl
@[simp] theorem State.hostOut_setFn (i : Nat) (a : Func) : (s.setFn i a).hostOut = s.hostOut := rfl
@[simp] theorem State.parts_setFn (i : Nat) (a : Func) : (s.setFn i a).parts = s.parts := rfl
@[simp] theorem State.ctxs_setFn (i : Nat) (a : Func) : (s.setFn i a).ctxs = s.ctxs := rfl
@[simp] theorem State.rings_setFn (i : Nat) (a : Func) : (s.setFn i a).rings = s.rings := rfl
@[simp] theorem State.clients_setFn (i : Nat) (a : Func) : (s.setFn i a).clients = s.clients := rfl
@[simp] theorem State.slots_setFn (i : Nat) (a : Func) : (s.setFn i a).slots = s.slots := rfl
@[simp] theorem State.regions_setFn (i : Nat) (a : Func) : (s.setFn i a).regions = s.regions := rfl
@[simp] theorem State.lend_setFn (i : Nat) (a : Func) : (s.setFn i a).lend = s.lend := rfl
@[simp] theorem State.tiles_setFn (i : Nat) (a : Func) : (s.setFn i a).tiles = s.tiles := rfl
@[simp] theorem State.dies_setFn (i : Nat) (a : Func) : (s.setFn i a).dies = s.dies := rfl
@[simp] theorem State.clusters_setFn (i : Nat) (a : Func) : (s.setFn i a).clusters = s.clusters := rfl
@[simp] theorem State.ports_setFn (i : Nat) (a : Func) : (s.setFn i a).ports = s.ports := rfl
@[simp] theorem State.lasers_setFn (i : Nat) (a : Func) : (s.setFn i a).lasers = s.lasers := rfl
@[simp] theorem State.carts_setFn (i : Nat) (a : Func) : (s.setFn i a).carts = s.carts := rfl
@[simp] theorem State.time_setFn (i : Nat) (a : Func) : (s.setFn i a).time = s.time := rfl
@[simp] theorem State.net_setFn (i : Nat) (a : Func) : (s.setFn i a).net = s.net := rfl
@[simp] theorem State.twin_setFn (i : Nat) (a : Func) : (s.setFn i a).twin = s.twin := rfl
@[simp] theorem State.jr_setFn (i : Nat) (a : Func) : (s.setFn i a).jr = s.jr := rfl
@[simp] theorem State.errs_setFn (i : Nat) (a : Func) : (s.setFn i a).errs = s.errs := rfl
@[simp] theorem State.logbook_setFn (i : Nat) (a : Func) : (s.setFn i a).logbook = s.logbook := rfl
@[simp] theorem State.logRegs_setFn (i : Nat) (a : Func) : (s.setFn i a).logRegs = s.logRegs := rfl
@[simp] theorem State.power_setFn (i : Nat) (a : Func) : (s.setFn i a).power = s.power := rfl
@[simp] theorem State.telem_setFn (i : Nat) (a : Func) : (s.setFn i a).telem = s.telem := rfl
@[simp] theorem State.arb_setFn (i : Nat) (a : Func) : (s.setFn i a).arb = s.arb := rfl
@[simp] theorem State.freeCtr_setFn (i : Nat) (a : Func) : (s.setFn i a).freeCtr = s.freeCtr := rfl

/-! ### State.modFn -/

@[simp] theorem State.pending_modFn (i : Nat) (g : Func → Func) : (s.modFn i g).pending = s.pending := rfl
@[simp] theorem State.order1536_modFn (i : Nat) (g : Func → Func) : (s.modFn i g).order1536 = s.order1536 := rfl
@[simp] theorem State.fuses_modFn (i : Nat) (g : Func → Func) : (s.modFn i g).fuses = s.fuses := rfl
@[simp] theorem State.flash_modFn (i : Nat) (g : Func → Func) : (s.modFn i g).flash = s.flash := rfl
@[simp] theorem State.boot_modFn (i : Nat) (g : Func → Func) : (s.modFn i g).boot = s.boot := rfl
@[simp] theorem State.linkUp_modFn (i : Nat) (g : Func → Func) : (s.modFn i g).linkUp = s.linkUp := rfl
@[simp] theorem State.numVfs_modFn (i : Nat) (g : Func → Func) : (s.modFn i g).numVfs = s.numVfs := rfl
@[simp] theorem State.funs_modFn (i : Nat) (g : Func → Func) : (s.modFn i g).funs = Tab.set s.funs i (g (s.fn i)) := rfl
@[simp] theorem State.hostOut_modFn (i : Nat) (g : Func → Func) : (s.modFn i g).hostOut = s.hostOut := rfl
@[simp] theorem State.parts_modFn (i : Nat) (g : Func → Func) : (s.modFn i g).parts = s.parts := rfl
@[simp] theorem State.ctxs_modFn (i : Nat) (g : Func → Func) : (s.modFn i g).ctxs = s.ctxs := rfl
@[simp] theorem State.rings_modFn (i : Nat) (g : Func → Func) : (s.modFn i g).rings = s.rings := rfl
@[simp] theorem State.clients_modFn (i : Nat) (g : Func → Func) : (s.modFn i g).clients = s.clients := rfl
@[simp] theorem State.slots_modFn (i : Nat) (g : Func → Func) : (s.modFn i g).slots = s.slots := rfl
@[simp] theorem State.regions_modFn (i : Nat) (g : Func → Func) : (s.modFn i g).regions = s.regions := rfl
@[simp] theorem State.lend_modFn (i : Nat) (g : Func → Func) : (s.modFn i g).lend = s.lend := rfl
@[simp] theorem State.tiles_modFn (i : Nat) (g : Func → Func) : (s.modFn i g).tiles = s.tiles := rfl
@[simp] theorem State.dies_modFn (i : Nat) (g : Func → Func) : (s.modFn i g).dies = s.dies := rfl
@[simp] theorem State.clusters_modFn (i : Nat) (g : Func → Func) : (s.modFn i g).clusters = s.clusters := rfl
@[simp] theorem State.ports_modFn (i : Nat) (g : Func → Func) : (s.modFn i g).ports = s.ports := rfl
@[simp] theorem State.lasers_modFn (i : Nat) (g : Func → Func) : (s.modFn i g).lasers = s.lasers := rfl
@[simp] theorem State.carts_modFn (i : Nat) (g : Func → Func) : (s.modFn i g).carts = s.carts := rfl
@[simp] theorem State.time_modFn (i : Nat) (g : Func → Func) : (s.modFn i g).time = s.time := rfl
@[simp] theorem State.net_modFn (i : Nat) (g : Func → Func) : (s.modFn i g).net = s.net := rfl
@[simp] theorem State.twin_modFn (i : Nat) (g : Func → Func) : (s.modFn i g).twin = s.twin := rfl
@[simp] theorem State.jr_modFn (i : Nat) (g : Func → Func) : (s.modFn i g).jr = s.jr := rfl
@[simp] theorem State.errs_modFn (i : Nat) (g : Func → Func) : (s.modFn i g).errs = s.errs := rfl
@[simp] theorem State.logbook_modFn (i : Nat) (g : Func → Func) : (s.modFn i g).logbook = s.logbook := rfl
@[simp] theorem State.logRegs_modFn (i : Nat) (g : Func → Func) : (s.modFn i g).logRegs = s.logRegs := rfl
@[simp] theorem State.power_modFn (i : Nat) (g : Func → Func) : (s.modFn i g).power = s.power := rfl
@[simp] theorem State.telem_modFn (i : Nat) (g : Func → Func) : (s.modFn i g).telem = s.telem := rfl
@[simp] theorem State.arb_modFn (i : Nat) (g : Func → Func) : (s.modFn i g).arb = s.arb := rfl
@[simp] theorem State.freeCtr_modFn (i : Nat) (g : Func → Func) : (s.modFn i g).freeCtr = s.freeCtr := rfl

/-! ### State.setCtx -/

@[simp] theorem State.pending_setCtx (i : Nat) (a : Ctx) : (s.setCtx i a).pending = s.pending := rfl
@[simp] theorem State.order1536_setCtx (i : Nat) (a : Ctx) : (s.setCtx i a).order1536 = s.order1536 := rfl
@[simp] theorem State.fuses_setCtx (i : Nat) (a : Ctx) : (s.setCtx i a).fuses = s.fuses := rfl
@[simp] theorem State.flash_setCtx (i : Nat) (a : Ctx) : (s.setCtx i a).flash = s.flash := rfl
@[simp] theorem State.boot_setCtx (i : Nat) (a : Ctx) : (s.setCtx i a).boot = s.boot := rfl
@[simp] theorem State.linkUp_setCtx (i : Nat) (a : Ctx) : (s.setCtx i a).linkUp = s.linkUp := rfl
@[simp] theorem State.numVfs_setCtx (i : Nat) (a : Ctx) : (s.setCtx i a).numVfs = s.numVfs := rfl
@[simp] theorem State.funs_setCtx (i : Nat) (a : Ctx) : (s.setCtx i a).funs = s.funs := rfl
@[simp] theorem State.hostOut_setCtx (i : Nat) (a : Ctx) : (s.setCtx i a).hostOut = s.hostOut := rfl
@[simp] theorem State.parts_setCtx (i : Nat) (a : Ctx) : (s.setCtx i a).parts = s.parts := rfl
@[simp] theorem State.ctxs_setCtx (i : Nat) (a : Ctx) : (s.setCtx i a).ctxs = Tab.set s.ctxs i a := rfl
@[simp] theorem State.rings_setCtx (i : Nat) (a : Ctx) : (s.setCtx i a).rings = s.rings := rfl
@[simp] theorem State.clients_setCtx (i : Nat) (a : Ctx) : (s.setCtx i a).clients = s.clients := rfl
@[simp] theorem State.slots_setCtx (i : Nat) (a : Ctx) : (s.setCtx i a).slots = s.slots := rfl
@[simp] theorem State.regions_setCtx (i : Nat) (a : Ctx) : (s.setCtx i a).regions = s.regions := rfl
@[simp] theorem State.lend_setCtx (i : Nat) (a : Ctx) : (s.setCtx i a).lend = s.lend := rfl
@[simp] theorem State.tiles_setCtx (i : Nat) (a : Ctx) : (s.setCtx i a).tiles = s.tiles := rfl
@[simp] theorem State.dies_setCtx (i : Nat) (a : Ctx) : (s.setCtx i a).dies = s.dies := rfl
@[simp] theorem State.clusters_setCtx (i : Nat) (a : Ctx) : (s.setCtx i a).clusters = s.clusters := rfl
@[simp] theorem State.ports_setCtx (i : Nat) (a : Ctx) : (s.setCtx i a).ports = s.ports := rfl
@[simp] theorem State.lasers_setCtx (i : Nat) (a : Ctx) : (s.setCtx i a).lasers = s.lasers := rfl
@[simp] theorem State.carts_setCtx (i : Nat) (a : Ctx) : (s.setCtx i a).carts = s.carts := rfl
@[simp] theorem State.time_setCtx (i : Nat) (a : Ctx) : (s.setCtx i a).time = s.time := rfl
@[simp] theorem State.net_setCtx (i : Nat) (a : Ctx) : (s.setCtx i a).net = s.net := rfl
@[simp] theorem State.twin_setCtx (i : Nat) (a : Ctx) : (s.setCtx i a).twin = s.twin := rfl
@[simp] theorem State.jr_setCtx (i : Nat) (a : Ctx) : (s.setCtx i a).jr = s.jr := rfl
@[simp] theorem State.errs_setCtx (i : Nat) (a : Ctx) : (s.setCtx i a).errs = s.errs := rfl
@[simp] theorem State.logbook_setCtx (i : Nat) (a : Ctx) : (s.setCtx i a).logbook = s.logbook := rfl
@[simp] theorem State.logRegs_setCtx (i : Nat) (a : Ctx) : (s.setCtx i a).logRegs = s.logRegs := rfl
@[simp] theorem State.power_setCtx (i : Nat) (a : Ctx) : (s.setCtx i a).power = s.power := rfl
@[simp] theorem State.telem_setCtx (i : Nat) (a : Ctx) : (s.setCtx i a).telem = s.telem := rfl
@[simp] theorem State.arb_setCtx (i : Nat) (a : Ctx) : (s.setCtx i a).arb = s.arb := rfl
@[simp] theorem State.freeCtr_setCtx (i : Nat) (a : Ctx) : (s.setCtx i a).freeCtr = s.freeCtr := rfl

/-! ### State.modCtx -/

@[simp] theorem State.pending_modCtx (i : Nat) (g : Ctx → Ctx) : (s.modCtx i g).pending = s.pending := rfl
@[simp] theorem State.order1536_modCtx (i : Nat) (g : Ctx → Ctx) : (s.modCtx i g).order1536 = s.order1536 := rfl
@[simp] theorem State.fuses_modCtx (i : Nat) (g : Ctx → Ctx) : (s.modCtx i g).fuses = s.fuses := rfl
@[simp] theorem State.flash_modCtx (i : Nat) (g : Ctx → Ctx) : (s.modCtx i g).flash = s.flash := rfl
@[simp] theorem State.boot_modCtx (i : Nat) (g : Ctx → Ctx) : (s.modCtx i g).boot = s.boot := rfl
@[simp] theorem State.linkUp_modCtx (i : Nat) (g : Ctx → Ctx) : (s.modCtx i g).linkUp = s.linkUp := rfl
@[simp] theorem State.numVfs_modCtx (i : Nat) (g : Ctx → Ctx) : (s.modCtx i g).numVfs = s.numVfs := rfl
@[simp] theorem State.funs_modCtx (i : Nat) (g : Ctx → Ctx) : (s.modCtx i g).funs = s.funs := rfl
@[simp] theorem State.hostOut_modCtx (i : Nat) (g : Ctx → Ctx) : (s.modCtx i g).hostOut = s.hostOut := rfl
@[simp] theorem State.parts_modCtx (i : Nat) (g : Ctx → Ctx) : (s.modCtx i g).parts = s.parts := rfl
@[simp] theorem State.ctxs_modCtx (i : Nat) (g : Ctx → Ctx) : (s.modCtx i g).ctxs = Tab.modify s.ctxs i g := rfl
@[simp] theorem State.rings_modCtx (i : Nat) (g : Ctx → Ctx) : (s.modCtx i g).rings = s.rings := rfl
@[simp] theorem State.clients_modCtx (i : Nat) (g : Ctx → Ctx) : (s.modCtx i g).clients = s.clients := rfl
@[simp] theorem State.slots_modCtx (i : Nat) (g : Ctx → Ctx) : (s.modCtx i g).slots = s.slots := rfl
@[simp] theorem State.regions_modCtx (i : Nat) (g : Ctx → Ctx) : (s.modCtx i g).regions = s.regions := rfl
@[simp] theorem State.lend_modCtx (i : Nat) (g : Ctx → Ctx) : (s.modCtx i g).lend = s.lend := rfl
@[simp] theorem State.tiles_modCtx (i : Nat) (g : Ctx → Ctx) : (s.modCtx i g).tiles = s.tiles := rfl
@[simp] theorem State.dies_modCtx (i : Nat) (g : Ctx → Ctx) : (s.modCtx i g).dies = s.dies := rfl
@[simp] theorem State.clusters_modCtx (i : Nat) (g : Ctx → Ctx) : (s.modCtx i g).clusters = s.clusters := rfl
@[simp] theorem State.ports_modCtx (i : Nat) (g : Ctx → Ctx) : (s.modCtx i g).ports = s.ports := rfl
@[simp] theorem State.lasers_modCtx (i : Nat) (g : Ctx → Ctx) : (s.modCtx i g).lasers = s.lasers := rfl
@[simp] theorem State.carts_modCtx (i : Nat) (g : Ctx → Ctx) : (s.modCtx i g).carts = s.carts := rfl
@[simp] theorem State.time_modCtx (i : Nat) (g : Ctx → Ctx) : (s.modCtx i g).time = s.time := rfl
@[simp] theorem State.net_modCtx (i : Nat) (g : Ctx → Ctx) : (s.modCtx i g).net = s.net := rfl
@[simp] theorem State.twin_modCtx (i : Nat) (g : Ctx → Ctx) : (s.modCtx i g).twin = s.twin := rfl
@[simp] theorem State.jr_modCtx (i : Nat) (g : Ctx → Ctx) : (s.modCtx i g).jr = s.jr := rfl
@[simp] theorem State.errs_modCtx (i : Nat) (g : Ctx → Ctx) : (s.modCtx i g).errs = s.errs := rfl
@[simp] theorem State.logbook_modCtx (i : Nat) (g : Ctx → Ctx) : (s.modCtx i g).logbook = s.logbook := rfl
@[simp] theorem State.logRegs_modCtx (i : Nat) (g : Ctx → Ctx) : (s.modCtx i g).logRegs = s.logRegs := rfl
@[simp] theorem State.power_modCtx (i : Nat) (g : Ctx → Ctx) : (s.modCtx i g).power = s.power := rfl
@[simp] theorem State.telem_modCtx (i : Nat) (g : Ctx → Ctx) : (s.modCtx i g).telem = s.telem := rfl
@[simp] theorem State.arb_modCtx (i : Nat) (g : Ctx → Ctx) : (s.modCtx i g).arb = s.arb := rfl
@[simp] theorem State.freeCtr_modCtx (i : Nat) (g : Ctx → Ctx) : (s.modCtx i g).freeCtr = s.freeCtr := rfl

/-! ### State.setRing -/

@[simp] theorem State.pending_setRing (i : Nat) (a : Ring) : (s.setRing i a).pending = s.pending := rfl
@[simp] theorem State.order1536_setRing (i : Nat) (a : Ring) : (s.setRing i a).order1536 = s.order1536 := rfl
@[simp] theorem State.fuses_setRing (i : Nat) (a : Ring) : (s.setRing i a).fuses = s.fuses := rfl
@[simp] theorem State.flash_setRing (i : Nat) (a : Ring) : (s.setRing i a).flash = s.flash := rfl
@[simp] theorem State.boot_setRing (i : Nat) (a : Ring) : (s.setRing i a).boot = s.boot := rfl
@[simp] theorem State.linkUp_setRing (i : Nat) (a : Ring) : (s.setRing i a).linkUp = s.linkUp := rfl
@[simp] theorem State.numVfs_setRing (i : Nat) (a : Ring) : (s.setRing i a).numVfs = s.numVfs := rfl
@[simp] theorem State.funs_setRing (i : Nat) (a : Ring) : (s.setRing i a).funs = s.funs := rfl
@[simp] theorem State.hostOut_setRing (i : Nat) (a : Ring) : (s.setRing i a).hostOut = s.hostOut := rfl
@[simp] theorem State.parts_setRing (i : Nat) (a : Ring) : (s.setRing i a).parts = s.parts := rfl
@[simp] theorem State.ctxs_setRing (i : Nat) (a : Ring) : (s.setRing i a).ctxs = s.ctxs := rfl
@[simp] theorem State.rings_setRing (i : Nat) (a : Ring) : (s.setRing i a).rings = Tab.set s.rings i a := rfl
@[simp] theorem State.clients_setRing (i : Nat) (a : Ring) : (s.setRing i a).clients = s.clients := rfl
@[simp] theorem State.slots_setRing (i : Nat) (a : Ring) : (s.setRing i a).slots = s.slots := rfl
@[simp] theorem State.regions_setRing (i : Nat) (a : Ring) : (s.setRing i a).regions = s.regions := rfl
@[simp] theorem State.lend_setRing (i : Nat) (a : Ring) : (s.setRing i a).lend = s.lend := rfl
@[simp] theorem State.tiles_setRing (i : Nat) (a : Ring) : (s.setRing i a).tiles = s.tiles := rfl
@[simp] theorem State.dies_setRing (i : Nat) (a : Ring) : (s.setRing i a).dies = s.dies := rfl
@[simp] theorem State.clusters_setRing (i : Nat) (a : Ring) : (s.setRing i a).clusters = s.clusters := rfl
@[simp] theorem State.ports_setRing (i : Nat) (a : Ring) : (s.setRing i a).ports = s.ports := rfl
@[simp] theorem State.lasers_setRing (i : Nat) (a : Ring) : (s.setRing i a).lasers = s.lasers := rfl
@[simp] theorem State.carts_setRing (i : Nat) (a : Ring) : (s.setRing i a).carts = s.carts := rfl
@[simp] theorem State.time_setRing (i : Nat) (a : Ring) : (s.setRing i a).time = s.time := rfl
@[simp] theorem State.net_setRing (i : Nat) (a : Ring) : (s.setRing i a).net = s.net := rfl
@[simp] theorem State.twin_setRing (i : Nat) (a : Ring) : (s.setRing i a).twin = s.twin := rfl
@[simp] theorem State.jr_setRing (i : Nat) (a : Ring) : (s.setRing i a).jr = s.jr := rfl
@[simp] theorem State.errs_setRing (i : Nat) (a : Ring) : (s.setRing i a).errs = s.errs := rfl
@[simp] theorem State.logbook_setRing (i : Nat) (a : Ring) : (s.setRing i a).logbook = s.logbook := rfl
@[simp] theorem State.logRegs_setRing (i : Nat) (a : Ring) : (s.setRing i a).logRegs = s.logRegs := rfl
@[simp] theorem State.power_setRing (i : Nat) (a : Ring) : (s.setRing i a).power = s.power := rfl
@[simp] theorem State.telem_setRing (i : Nat) (a : Ring) : (s.setRing i a).telem = s.telem := rfl
@[simp] theorem State.arb_setRing (i : Nat) (a : Ring) : (s.setRing i a).arb = s.arb := rfl
@[simp] theorem State.freeCtr_setRing (i : Nat) (a : Ring) : (s.setRing i a).freeCtr = s.freeCtr := rfl

/-! ### State.modRing -/

@[simp] theorem State.pending_modRing (i : Nat) (g : Ring → Ring) : (s.modRing i g).pending = s.pending := rfl
@[simp] theorem State.order1536_modRing (i : Nat) (g : Ring → Ring) : (s.modRing i g).order1536 = s.order1536 := rfl
@[simp] theorem State.fuses_modRing (i : Nat) (g : Ring → Ring) : (s.modRing i g).fuses = s.fuses := rfl
@[simp] theorem State.flash_modRing (i : Nat) (g : Ring → Ring) : (s.modRing i g).flash = s.flash := rfl
@[simp] theorem State.boot_modRing (i : Nat) (g : Ring → Ring) : (s.modRing i g).boot = s.boot := rfl
@[simp] theorem State.linkUp_modRing (i : Nat) (g : Ring → Ring) : (s.modRing i g).linkUp = s.linkUp := rfl
@[simp] theorem State.numVfs_modRing (i : Nat) (g : Ring → Ring) : (s.modRing i g).numVfs = s.numVfs := rfl
@[simp] theorem State.funs_modRing (i : Nat) (g : Ring → Ring) : (s.modRing i g).funs = s.funs := rfl
@[simp] theorem State.hostOut_modRing (i : Nat) (g : Ring → Ring) : (s.modRing i g).hostOut = s.hostOut := rfl
@[simp] theorem State.parts_modRing (i : Nat) (g : Ring → Ring) : (s.modRing i g).parts = s.parts := rfl
@[simp] theorem State.ctxs_modRing (i : Nat) (g : Ring → Ring) : (s.modRing i g).ctxs = s.ctxs := rfl
@[simp] theorem State.rings_modRing (i : Nat) (g : Ring → Ring) : (s.modRing i g).rings = Tab.modify s.rings i g := rfl
@[simp] theorem State.clients_modRing (i : Nat) (g : Ring → Ring) : (s.modRing i g).clients = s.clients := rfl
@[simp] theorem State.slots_modRing (i : Nat) (g : Ring → Ring) : (s.modRing i g).slots = s.slots := rfl
@[simp] theorem State.regions_modRing (i : Nat) (g : Ring → Ring) : (s.modRing i g).regions = s.regions := rfl
@[simp] theorem State.lend_modRing (i : Nat) (g : Ring → Ring) : (s.modRing i g).lend = s.lend := rfl
@[simp] theorem State.tiles_modRing (i : Nat) (g : Ring → Ring) : (s.modRing i g).tiles = s.tiles := rfl
@[simp] theorem State.dies_modRing (i : Nat) (g : Ring → Ring) : (s.modRing i g).dies = s.dies := rfl
@[simp] theorem State.clusters_modRing (i : Nat) (g : Ring → Ring) : (s.modRing i g).clusters = s.clusters := rfl
@[simp] theorem State.ports_modRing (i : Nat) (g : Ring → Ring) : (s.modRing i g).ports = s.ports := rfl
@[simp] theorem State.lasers_modRing (i : Nat) (g : Ring → Ring) : (s.modRing i g).lasers = s.lasers := rfl
@[simp] theorem State.carts_modRing (i : Nat) (g : Ring → Ring) : (s.modRing i g).carts = s.carts := rfl
@[simp] theorem State.time_modRing (i : Nat) (g : Ring → Ring) : (s.modRing i g).time = s.time := rfl
@[simp] theorem State.net_modRing (i : Nat) (g : Ring → Ring) : (s.modRing i g).net = s.net := rfl
@[simp] theorem State.twin_modRing (i : Nat) (g : Ring → Ring) : (s.modRing i g).twin = s.twin := rfl
@[simp] theorem State.jr_modRing (i : Nat) (g : Ring → Ring) : (s.modRing i g).jr = s.jr := rfl
@[simp] theorem State.errs_modRing (i : Nat) (g : Ring → Ring) : (s.modRing i g).errs = s.errs := rfl
@[simp] theorem State.logbook_modRing (i : Nat) (g : Ring → Ring) : (s.modRing i g).logbook = s.logbook := rfl
@[simp] theorem State.logRegs_modRing (i : Nat) (g : Ring → Ring) : (s.modRing i g).logRegs = s.logRegs := rfl
@[simp] theorem State.power_modRing (i : Nat) (g : Ring → Ring) : (s.modRing i g).power = s.power := rfl
@[simp] theorem State.telem_modRing (i : Nat) (g : Ring → Ring) : (s.modRing i g).telem = s.telem := rfl
@[simp] theorem State.arb_modRing (i : Nat) (g : Ring → Ring) : (s.modRing i g).arb = s.arb := rfl
@[simp] theorem State.freeCtr_modRing (i : Nat) (g : Ring → Ring) : (s.modRing i g).freeCtr = s.freeCtr := rfl

/-! ### State.setPart -/

@[simp] theorem State.pending_setPart (i : Nat) (a : Part) : (s.setPart i a).pending = s.pending := rfl
@[simp] theorem State.order1536_setPart (i : Nat) (a : Part) : (s.setPart i a).order1536 = s.order1536 := rfl
@[simp] theorem State.fuses_setPart (i : Nat) (a : Part) : (s.setPart i a).fuses = s.fuses := rfl
@[simp] theorem State.flash_setPart (i : Nat) (a : Part) : (s.setPart i a).flash = s.flash := rfl
@[simp] theorem State.boot_setPart (i : Nat) (a : Part) : (s.setPart i a).boot = s.boot := rfl
@[simp] theorem State.linkUp_setPart (i : Nat) (a : Part) : (s.setPart i a).linkUp = s.linkUp := rfl
@[simp] theorem State.numVfs_setPart (i : Nat) (a : Part) : (s.setPart i a).numVfs = s.numVfs := rfl
@[simp] theorem State.funs_setPart (i : Nat) (a : Part) : (s.setPart i a).funs = s.funs := rfl
@[simp] theorem State.hostOut_setPart (i : Nat) (a : Part) : (s.setPart i a).hostOut = s.hostOut := rfl
@[simp] theorem State.parts_setPart (i : Nat) (a : Part) : (s.setPart i a).parts = Tab.set s.parts i a := rfl
@[simp] theorem State.ctxs_setPart (i : Nat) (a : Part) : (s.setPart i a).ctxs = s.ctxs := rfl
@[simp] theorem State.rings_setPart (i : Nat) (a : Part) : (s.setPart i a).rings = s.rings := rfl
@[simp] theorem State.clients_setPart (i : Nat) (a : Part) : (s.setPart i a).clients = s.clients := rfl
@[simp] theorem State.slots_setPart (i : Nat) (a : Part) : (s.setPart i a).slots = s.slots := rfl
@[simp] theorem State.regions_setPart (i : Nat) (a : Part) : (s.setPart i a).regions = s.regions := rfl
@[simp] theorem State.lend_setPart (i : Nat) (a : Part) : (s.setPart i a).lend = s.lend := rfl
@[simp] theorem State.tiles_setPart (i : Nat) (a : Part) : (s.setPart i a).tiles = s.tiles := rfl
@[simp] theorem State.dies_setPart (i : Nat) (a : Part) : (s.setPart i a).dies = s.dies := rfl
@[simp] theorem State.clusters_setPart (i : Nat) (a : Part) : (s.setPart i a).clusters = s.clusters := rfl
@[simp] theorem State.ports_setPart (i : Nat) (a : Part) : (s.setPart i a).ports = s.ports := rfl
@[simp] theorem State.lasers_setPart (i : Nat) (a : Part) : (s.setPart i a).lasers = s.lasers := rfl
@[simp] theorem State.carts_setPart (i : Nat) (a : Part) : (s.setPart i a).carts = s.carts := rfl
@[simp] theorem State.time_setPart (i : Nat) (a : Part) : (s.setPart i a).time = s.time := rfl
@[simp] theorem State.net_setPart (i : Nat) (a : Part) : (s.setPart i a).net = s.net := rfl
@[simp] theorem State.twin_setPart (i : Nat) (a : Part) : (s.setPart i a).twin = s.twin := rfl
@[simp] theorem State.jr_setPart (i : Nat) (a : Part) : (s.setPart i a).jr = s.jr := rfl
@[simp] theorem State.errs_setPart (i : Nat) (a : Part) : (s.setPart i a).errs = s.errs := rfl
@[simp] theorem State.logbook_setPart (i : Nat) (a : Part) : (s.setPart i a).logbook = s.logbook := rfl
@[simp] theorem State.logRegs_setPart (i : Nat) (a : Part) : (s.setPart i a).logRegs = s.logRegs := rfl
@[simp] theorem State.power_setPart (i : Nat) (a : Part) : (s.setPart i a).power = s.power := rfl
@[simp] theorem State.telem_setPart (i : Nat) (a : Part) : (s.setPart i a).telem = s.telem := rfl
@[simp] theorem State.arb_setPart (i : Nat) (a : Part) : (s.setPart i a).arb = s.arb := rfl
@[simp] theorem State.freeCtr_setPart (i : Nat) (a : Part) : (s.setPart i a).freeCtr = s.freeCtr := rfl

/-! ### State.modPart -/

@[simp] theorem State.pending_modPart (i : Nat) (g : Part → Part) : (s.modPart i g).pending = s.pending := rfl
@[simp] theorem State.order1536_modPart (i : Nat) (g : Part → Part) : (s.modPart i g).order1536 = s.order1536 := rfl
@[simp] theorem State.fuses_modPart (i : Nat) (g : Part → Part) : (s.modPart i g).fuses = s.fuses := rfl
@[simp] theorem State.flash_modPart (i : Nat) (g : Part → Part) : (s.modPart i g).flash = s.flash := rfl
@[simp] theorem State.boot_modPart (i : Nat) (g : Part → Part) : (s.modPart i g).boot = s.boot := rfl
@[simp] theorem State.linkUp_modPart (i : Nat) (g : Part → Part) : (s.modPart i g).linkUp = s.linkUp := rfl
@[simp] theorem State.numVfs_modPart (i : Nat) (g : Part → Part) : (s.modPart i g).numVfs = s.numVfs := rfl
@[simp] theorem State.funs_modPart (i : Nat) (g : Part → Part) : (s.modPart i g).funs = s.funs := rfl
@[simp] theorem State.hostOut_modPart (i : Nat) (g : Part → Part) : (s.modPart i g).hostOut = s.hostOut := rfl
@[simp] theorem State.parts_modPart (i : Nat) (g : Part → Part) : (s.modPart i g).parts = Tab.modify s.parts i g := rfl
@[simp] theorem State.ctxs_modPart (i : Nat) (g : Part → Part) : (s.modPart i g).ctxs = s.ctxs := rfl
@[simp] theorem State.rings_modPart (i : Nat) (g : Part → Part) : (s.modPart i g).rings = s.rings := rfl
@[simp] theorem State.clients_modPart (i : Nat) (g : Part → Part) : (s.modPart i g).clients = s.clients := rfl
@[simp] theorem State.slots_modPart (i : Nat) (g : Part → Part) : (s.modPart i g).slots = s.slots := rfl
@[simp] theorem State.regions_modPart (i : Nat) (g : Part → Part) : (s.modPart i g).regions = s.regions := rfl
@[simp] theorem State.lend_modPart (i : Nat) (g : Part → Part) : (s.modPart i g).lend = s.lend := rfl
@[simp] theorem State.tiles_modPart (i : Nat) (g : Part → Part) : (s.modPart i g).tiles = s.tiles := rfl
@[simp] theorem State.dies_modPart (i : Nat) (g : Part → Part) : (s.modPart i g).dies = s.dies := rfl
@[simp] theorem State.clusters_modPart (i : Nat) (g : Part → Part) : (s.modPart i g).clusters = s.clusters := rfl
@[simp] theorem State.ports_modPart (i : Nat) (g : Part → Part) : (s.modPart i g).ports = s.ports := rfl
@[simp] theorem State.lasers_modPart (i : Nat) (g : Part → Part) : (s.modPart i g).lasers = s.lasers := rfl
@[simp] theorem State.carts_modPart (i : Nat) (g : Part → Part) : (s.modPart i g).carts = s.carts := rfl
@[simp] theorem State.time_modPart (i : Nat) (g : Part → Part) : (s.modPart i g).time = s.time := rfl
@[simp] theorem State.net_modPart (i : Nat) (g : Part → Part) : (s.modPart i g).net = s.net := rfl
@[simp] theorem State.twin_modPart (i : Nat) (g : Part → Part) : (s.modPart i g).twin = s.twin := rfl
@[simp] theorem State.jr_modPart (i : Nat) (g : Part → Part) : (s.modPart i g).jr = s.jr := rfl
@[simp] theorem State.errs_modPart (i : Nat) (g : Part → Part) : (s.modPart i g).errs = s.errs := rfl
@[simp] theorem State.logbook_modPart (i : Nat) (g : Part → Part) : (s.modPart i g).logbook = s.logbook := rfl
@[simp] theorem State.logRegs_modPart (i : Nat) (g : Part → Part) : (s.modPart i g).logRegs = s.logRegs := rfl
@[simp] theorem State.power_modPart (i : Nat) (g : Part → Part) : (s.modPart i g).power = s.power := rfl
@[simp] theorem State.telem_modPart (i : Nat) (g : Part → Part) : (s.modPart i g).telem = s.telem := rfl
@[simp] theorem State.arb_modPart (i : Nat) (g : Part → Part) : (s.modPart i g).arb = s.arb := rfl
@[simp] theorem State.freeCtr_modPart (i : Nat) (g : Part → Part) : (s.modPart i g).freeCtr = s.freeCtr := rfl

/-! ### State.setTile -/

@[simp] theorem State.pending_setTile (i : Nat) (a : Tile) : (s.setTile i a).pending = s.pending := rfl
@[simp] theorem State.order1536_setTile (i : Nat) (a : Tile) : (s.setTile i a).order1536 = s.order1536 := rfl
@[simp] theorem State.fuses_setTile (i : Nat) (a : Tile) : (s.setTile i a).fuses = s.fuses := rfl
@[simp] theorem State.flash_setTile (i : Nat) (a : Tile) : (s.setTile i a).flash = s.flash := rfl
@[simp] theorem State.boot_setTile (i : Nat) (a : Tile) : (s.setTile i a).boot = s.boot := rfl
@[simp] theorem State.linkUp_setTile (i : Nat) (a : Tile) : (s.setTile i a).linkUp = s.linkUp := rfl
@[simp] theorem State.numVfs_setTile (i : Nat) (a : Tile) : (s.setTile i a).numVfs = s.numVfs := rfl
@[simp] theorem State.funs_setTile (i : Nat) (a : Tile) : (s.setTile i a).funs = s.funs := rfl
@[simp] theorem State.hostOut_setTile (i : Nat) (a : Tile) : (s.setTile i a).hostOut = s.hostOut := rfl
@[simp] theorem State.parts_setTile (i : Nat) (a : Tile) : (s.setTile i a).parts = s.parts := rfl
@[simp] theorem State.ctxs_setTile (i : Nat) (a : Tile) : (s.setTile i a).ctxs = s.ctxs := rfl
@[simp] theorem State.rings_setTile (i : Nat) (a : Tile) : (s.setTile i a).rings = s.rings := rfl
@[simp] theorem State.clients_setTile (i : Nat) (a : Tile) : (s.setTile i a).clients = s.clients := rfl
@[simp] theorem State.slots_setTile (i : Nat) (a : Tile) : (s.setTile i a).slots = s.slots := rfl
@[simp] theorem State.regions_setTile (i : Nat) (a : Tile) : (s.setTile i a).regions = s.regions := rfl
@[simp] theorem State.lend_setTile (i : Nat) (a : Tile) : (s.setTile i a).lend = s.lend := rfl
@[simp] theorem State.tiles_setTile (i : Nat) (a : Tile) : (s.setTile i a).tiles = Tab.set s.tiles i a := rfl
@[simp] theorem State.dies_setTile (i : Nat) (a : Tile) : (s.setTile i a).dies = s.dies := rfl
@[simp] theorem State.clusters_setTile (i : Nat) (a : Tile) : (s.setTile i a).clusters = s.clusters := rfl
@[simp] theorem State.ports_setTile (i : Nat) (a : Tile) : (s.setTile i a).ports = s.ports := rfl
@[simp] theorem State.lasers_setTile (i : Nat) (a : Tile) : (s.setTile i a).lasers = s.lasers := rfl
@[simp] theorem State.carts_setTile (i : Nat) (a : Tile) : (s.setTile i a).carts = s.carts := rfl
@[simp] theorem State.time_setTile (i : Nat) (a : Tile) : (s.setTile i a).time = s.time := rfl
@[simp] theorem State.net_setTile (i : Nat) (a : Tile) : (s.setTile i a).net = s.net := rfl
@[simp] theorem State.twin_setTile (i : Nat) (a : Tile) : (s.setTile i a).twin = s.twin := rfl
@[simp] theorem State.jr_setTile (i : Nat) (a : Tile) : (s.setTile i a).jr = s.jr := rfl
@[simp] theorem State.errs_setTile (i : Nat) (a : Tile) : (s.setTile i a).errs = s.errs := rfl
@[simp] theorem State.logbook_setTile (i : Nat) (a : Tile) : (s.setTile i a).logbook = s.logbook := rfl
@[simp] theorem State.logRegs_setTile (i : Nat) (a : Tile) : (s.setTile i a).logRegs = s.logRegs := rfl
@[simp] theorem State.power_setTile (i : Nat) (a : Tile) : (s.setTile i a).power = s.power := rfl
@[simp] theorem State.telem_setTile (i : Nat) (a : Tile) : (s.setTile i a).telem = s.telem := rfl
@[simp] theorem State.arb_setTile (i : Nat) (a : Tile) : (s.setTile i a).arb = s.arb := rfl
@[simp] theorem State.freeCtr_setTile (i : Nat) (a : Tile) : (s.setTile i a).freeCtr = s.freeCtr := rfl

/-! ### State.setDie -/

@[simp] theorem State.pending_setDie (i : Nat) (a : Die) : (s.setDie i a).pending = s.pending := rfl
@[simp] theorem State.order1536_setDie (i : Nat) (a : Die) : (s.setDie i a).order1536 = s.order1536 := rfl
@[simp] theorem State.fuses_setDie (i : Nat) (a : Die) : (s.setDie i a).fuses = s.fuses := rfl
@[simp] theorem State.flash_setDie (i : Nat) (a : Die) : (s.setDie i a).flash = s.flash := rfl
@[simp] theorem State.boot_setDie (i : Nat) (a : Die) : (s.setDie i a).boot = s.boot := rfl
@[simp] theorem State.linkUp_setDie (i : Nat) (a : Die) : (s.setDie i a).linkUp = s.linkUp := rfl
@[simp] theorem State.numVfs_setDie (i : Nat) (a : Die) : (s.setDie i a).numVfs = s.numVfs := rfl
@[simp] theorem State.funs_setDie (i : Nat) (a : Die) : (s.setDie i a).funs = s.funs := rfl
@[simp] theorem State.hostOut_setDie (i : Nat) (a : Die) : (s.setDie i a).hostOut = s.hostOut := rfl
@[simp] theorem State.parts_setDie (i : Nat) (a : Die) : (s.setDie i a).parts = s.parts := rfl
@[simp] theorem State.ctxs_setDie (i : Nat) (a : Die) : (s.setDie i a).ctxs = s.ctxs := rfl
@[simp] theorem State.rings_setDie (i : Nat) (a : Die) : (s.setDie i a).rings = s.rings := rfl
@[simp] theorem State.clients_setDie (i : Nat) (a : Die) : (s.setDie i a).clients = s.clients := rfl
@[simp] theorem State.slots_setDie (i : Nat) (a : Die) : (s.setDie i a).slots = s.slots := rfl
@[simp] theorem State.regions_setDie (i : Nat) (a : Die) : (s.setDie i a).regions = s.regions := rfl
@[simp] theorem State.lend_setDie (i : Nat) (a : Die) : (s.setDie i a).lend = s.lend := rfl
@[simp] theorem State.tiles_setDie (i : Nat) (a : Die) : (s.setDie i a).tiles = s.tiles := rfl
@[simp] theorem State.dies_setDie (i : Nat) (a : Die) : (s.setDie i a).dies = Tab.set s.dies i a := rfl
@[simp] theorem State.clusters_setDie (i : Nat) (a : Die) : (s.setDie i a).clusters = s.clusters := rfl
@[simp] theorem State.ports_setDie (i : Nat) (a : Die) : (s.setDie i a).ports = s.ports := rfl
@[simp] theorem State.lasers_setDie (i : Nat) (a : Die) : (s.setDie i a).lasers = s.lasers := rfl
@[simp] theorem State.carts_setDie (i : Nat) (a : Die) : (s.setDie i a).carts = s.carts := rfl
@[simp] theorem State.time_setDie (i : Nat) (a : Die) : (s.setDie i a).time = s.time := rfl
@[simp] theorem State.net_setDie (i : Nat) (a : Die) : (s.setDie i a).net = s.net := rfl
@[simp] theorem State.twin_setDie (i : Nat) (a : Die) : (s.setDie i a).twin = s.twin := rfl
@[simp] theorem State.jr_setDie (i : Nat) (a : Die) : (s.setDie i a).jr = s.jr := rfl
@[simp] theorem State.errs_setDie (i : Nat) (a : Die) : (s.setDie i a).errs = s.errs := rfl
@[simp] theorem State.logbook_setDie (i : Nat) (a : Die) : (s.setDie i a).logbook = s.logbook := rfl
@[simp] theorem State.logRegs_setDie (i : Nat) (a : Die) : (s.setDie i a).logRegs = s.logRegs := rfl
@[simp] theorem State.power_setDie (i : Nat) (a : Die) : (s.setDie i a).power = s.power := rfl
@[simp] theorem State.telem_setDie (i : Nat) (a : Die) : (s.setDie i a).telem = s.telem := rfl
@[simp] theorem State.arb_setDie (i : Nat) (a : Die) : (s.setDie i a).arb = s.arb := rfl
@[simp] theorem State.freeCtr_setDie (i : Nat) (a : Die) : (s.setDie i a).freeCtr = s.freeCtr := rfl

/-! ### State.setCluster -/

@[simp] theorem State.pending_setCluster (i : Nat) (a : Cluster) : (s.setCluster i a).pending = s.pending := rfl
@[simp] theorem State.order1536_setCluster (i : Nat) (a : Cluster) : (s.setCluster i a).order1536 = s.order1536 := rfl
@[simp] theorem State.fuses_setCluster (i : Nat) (a : Cluster) : (s.setCluster i a).fuses = s.fuses := rfl
@[simp] theorem State.flash_setCluster (i : Nat) (a : Cluster) : (s.setCluster i a).flash = s.flash := rfl
@[simp] theorem State.boot_setCluster (i : Nat) (a : Cluster) : (s.setCluster i a).boot = s.boot := rfl
@[simp] theorem State.linkUp_setCluster (i : Nat) (a : Cluster) : (s.setCluster i a).linkUp = s.linkUp := rfl
@[simp] theorem State.numVfs_setCluster (i : Nat) (a : Cluster) : (s.setCluster i a).numVfs = s.numVfs := rfl
@[simp] theorem State.funs_setCluster (i : Nat) (a : Cluster) : (s.setCluster i a).funs = s.funs := rfl
@[simp] theorem State.hostOut_setCluster (i : Nat) (a : Cluster) : (s.setCluster i a).hostOut = s.hostOut := rfl
@[simp] theorem State.parts_setCluster (i : Nat) (a : Cluster) : (s.setCluster i a).parts = s.parts := rfl
@[simp] theorem State.ctxs_setCluster (i : Nat) (a : Cluster) : (s.setCluster i a).ctxs = s.ctxs := rfl
@[simp] theorem State.rings_setCluster (i : Nat) (a : Cluster) : (s.setCluster i a).rings = s.rings := rfl
@[simp] theorem State.clients_setCluster (i : Nat) (a : Cluster) : (s.setCluster i a).clients = s.clients := rfl
@[simp] theorem State.slots_setCluster (i : Nat) (a : Cluster) : (s.setCluster i a).slots = s.slots := rfl
@[simp] theorem State.regions_setCluster (i : Nat) (a : Cluster) : (s.setCluster i a).regions = s.regions := rfl
@[simp] theorem State.lend_setCluster (i : Nat) (a : Cluster) : (s.setCluster i a).lend = s.lend := rfl
@[simp] theorem State.tiles_setCluster (i : Nat) (a : Cluster) : (s.setCluster i a).tiles = s.tiles := rfl
@[simp] theorem State.dies_setCluster (i : Nat) (a : Cluster) : (s.setCluster i a).dies = s.dies := rfl
@[simp] theorem State.clusters_setCluster (i : Nat) (a : Cluster) : (s.setCluster i a).clusters = Tab.set s.clusters i a := rfl
@[simp] theorem State.ports_setCluster (i : Nat) (a : Cluster) : (s.setCluster i a).ports = s.ports := rfl
@[simp] theorem State.lasers_setCluster (i : Nat) (a : Cluster) : (s.setCluster i a).lasers = s.lasers := rfl
@[simp] theorem State.carts_setCluster (i : Nat) (a : Cluster) : (s.setCluster i a).carts = s.carts := rfl
@[simp] theorem State.time_setCluster (i : Nat) (a : Cluster) : (s.setCluster i a).time = s.time := rfl
@[simp] theorem State.net_setCluster (i : Nat) (a : Cluster) : (s.setCluster i a).net = s.net := rfl
@[simp] theorem State.twin_setCluster (i : Nat) (a : Cluster) : (s.setCluster i a).twin = s.twin := rfl
@[simp] theorem State.jr_setCluster (i : Nat) (a : Cluster) : (s.setCluster i a).jr = s.jr := rfl
@[simp] theorem State.errs_setCluster (i : Nat) (a : Cluster) : (s.setCluster i a).errs = s.errs := rfl
@[simp] theorem State.logbook_setCluster (i : Nat) (a : Cluster) : (s.setCluster i a).logbook = s.logbook := rfl
@[simp] theorem State.logRegs_setCluster (i : Nat) (a : Cluster) : (s.setCluster i a).logRegs = s.logRegs := rfl
@[simp] theorem State.power_setCluster (i : Nat) (a : Cluster) : (s.setCluster i a).power = s.power := rfl
@[simp] theorem State.telem_setCluster (i : Nat) (a : Cluster) : (s.setCluster i a).telem = s.telem := rfl
@[simp] theorem State.arb_setCluster (i : Nat) (a : Cluster) : (s.setCluster i a).arb = s.arb := rfl
@[simp] theorem State.freeCtr_setCluster (i : Nat) (a : Cluster) : (s.setCluster i a).freeCtr = s.freeCtr := rfl

/-! ### State.setPort -/

@[simp] theorem State.pending_setPort (i : Nat) (a : Port) : (s.setPort i a).pending = s.pending := rfl
@[simp] theorem State.order1536_setPort (i : Nat) (a : Port) : (s.setPort i a).order1536 = s.order1536 := rfl
@[simp] theorem State.fuses_setPort (i : Nat) (a : Port) : (s.setPort i a).fuses = s.fuses := rfl
@[simp] theorem State.flash_setPort (i : Nat) (a : Port) : (s.setPort i a).flash = s.flash := rfl
@[simp] theorem State.boot_setPort (i : Nat) (a : Port) : (s.setPort i a).boot = s.boot := rfl
@[simp] theorem State.linkUp_setPort (i : Nat) (a : Port) : (s.setPort i a).linkUp = s.linkUp := rfl
@[simp] theorem State.numVfs_setPort (i : Nat) (a : Port) : (s.setPort i a).numVfs = s.numVfs := rfl
@[simp] theorem State.funs_setPort (i : Nat) (a : Port) : (s.setPort i a).funs = s.funs := rfl
@[simp] theorem State.hostOut_setPort (i : Nat) (a : Port) : (s.setPort i a).hostOut = s.hostOut := rfl
@[simp] theorem State.parts_setPort (i : Nat) (a : Port) : (s.setPort i a).parts = s.parts := rfl
@[simp] theorem State.ctxs_setPort (i : Nat) (a : Port) : (s.setPort i a).ctxs = s.ctxs := rfl
@[simp] theorem State.rings_setPort (i : Nat) (a : Port) : (s.setPort i a).rings = s.rings := rfl
@[simp] theorem State.clients_setPort (i : Nat) (a : Port) : (s.setPort i a).clients = s.clients := rfl
@[simp] theorem State.slots_setPort (i : Nat) (a : Port) : (s.setPort i a).slots = s.slots := rfl
@[simp] theorem State.regions_setPort (i : Nat) (a : Port) : (s.setPort i a).regions = s.regions := rfl
@[simp] theorem State.lend_setPort (i : Nat) (a : Port) : (s.setPort i a).lend = s.lend := rfl
@[simp] theorem State.tiles_setPort (i : Nat) (a : Port) : (s.setPort i a).tiles = s.tiles := rfl
@[simp] theorem State.dies_setPort (i : Nat) (a : Port) : (s.setPort i a).dies = s.dies := rfl
@[simp] theorem State.clusters_setPort (i : Nat) (a : Port) : (s.setPort i a).clusters = s.clusters := rfl
@[simp] theorem State.ports_setPort (i : Nat) (a : Port) : (s.setPort i a).ports = Tab.set s.ports i a := rfl
@[simp] theorem State.lasers_setPort (i : Nat) (a : Port) : (s.setPort i a).lasers = s.lasers := rfl
@[simp] theorem State.carts_setPort (i : Nat) (a : Port) : (s.setPort i a).carts = s.carts := rfl
@[simp] theorem State.time_setPort (i : Nat) (a : Port) : (s.setPort i a).time = s.time := rfl
@[simp] theorem State.net_setPort (i : Nat) (a : Port) : (s.setPort i a).net = s.net := rfl
@[simp] theorem State.twin_setPort (i : Nat) (a : Port) : (s.setPort i a).twin = s.twin := rfl
@[simp] theorem State.jr_setPort (i : Nat) (a : Port) : (s.setPort i a).jr = s.jr := rfl
@[simp] theorem State.errs_setPort (i : Nat) (a : Port) : (s.setPort i a).errs = s.errs := rfl
@[simp] theorem State.logbook_setPort (i : Nat) (a : Port) : (s.setPort i a).logbook = s.logbook := rfl
@[simp] theorem State.logRegs_setPort (i : Nat) (a : Port) : (s.setPort i a).logRegs = s.logRegs := rfl
@[simp] theorem State.power_setPort (i : Nat) (a : Port) : (s.setPort i a).power = s.power := rfl
@[simp] theorem State.telem_setPort (i : Nat) (a : Port) : (s.setPort i a).telem = s.telem := rfl
@[simp] theorem State.arb_setPort (i : Nat) (a : Port) : (s.setPort i a).arb = s.arb := rfl
@[simp] theorem State.freeCtr_setPort (i : Nat) (a : Port) : (s.setPort i a).freeCtr = s.freeCtr := rfl

/-! ### State.modPort -/

@[simp] theorem State.pending_modPort (i : Nat) (g : Port → Port) : (s.modPort i g).pending = s.pending := rfl
@[simp] theorem State.order1536_modPort (i : Nat) (g : Port → Port) : (s.modPort i g).order1536 = s.order1536 := rfl
@[simp] theorem State.fuses_modPort (i : Nat) (g : Port → Port) : (s.modPort i g).fuses = s.fuses := rfl
@[simp] theorem State.flash_modPort (i : Nat) (g : Port → Port) : (s.modPort i g).flash = s.flash := rfl
@[simp] theorem State.boot_modPort (i : Nat) (g : Port → Port) : (s.modPort i g).boot = s.boot := rfl
@[simp] theorem State.linkUp_modPort (i : Nat) (g : Port → Port) : (s.modPort i g).linkUp = s.linkUp := rfl
@[simp] theorem State.numVfs_modPort (i : Nat) (g : Port → Port) : (s.modPort i g).numVfs = s.numVfs := rfl
@[simp] theorem State.funs_modPort (i : Nat) (g : Port → Port) : (s.modPort i g).funs = s.funs := rfl
@[simp] theorem State.hostOut_modPort (i : Nat) (g : Port → Port) : (s.modPort i g).hostOut = s.hostOut := rfl
@[simp] theorem State.parts_modPort (i : Nat) (g : Port → Port) : (s.modPort i g).parts = s.parts := rfl
@[simp] theorem State.ctxs_modPort (i : Nat) (g : Port → Port) : (s.modPort i g).ctxs = s.ctxs := rfl
@[simp] theorem State.rings_modPort (i : Nat) (g : Port → Port) : (s.modPort i g).rings = s.rings := rfl
@[simp] theorem State.clients_modPort (i : Nat) (g : Port → Port) : (s.modPort i g).clients = s.clients := rfl
@[simp] theorem State.slots_modPort (i : Nat) (g : Port → Port) : (s.modPort i g).slots = s.slots := rfl
@[simp] theorem State.regions_modPort (i : Nat) (g : Port → Port) : (s.modPort i g).regions = s.regions := rfl
@[simp] theorem State.lend_modPort (i : Nat) (g : Port → Port) : (s.modPort i g).lend = s.lend := rfl
@[simp] theorem State.tiles_modPort (i : Nat) (g : Port → Port) : (s.modPort i g).tiles = s.tiles := rfl
@[simp] theorem State.dies_modPort (i : Nat) (g : Port → Port) : (s.modPort i g).dies = s.dies := rfl
@[simp] theorem State.clusters_modPort (i : Nat) (g : Port → Port) : (s.modPort i g).clusters = s.clusters := rfl
@[simp] theorem State.ports_modPort (i : Nat) (g : Port → Port) : (s.modPort i g).ports = Tab.set s.ports i (g (s.port i)) := rfl
@[simp] theorem State.lasers_modPort (i : Nat) (g : Port → Port) : (s.modPort i g).lasers = s.lasers := rfl
@[simp] theorem State.carts_modPort (i : Nat) (g : Port → Port) : (s.modPort i g).carts = s.carts := rfl
@[simp] theorem State.time_modPort (i : Nat) (g : Port → Port) : (s.modPort i g).time = s.time := rfl
@[simp] theorem State.net_modPort (i : Nat) (g : Port → Port) : (s.modPort i g).net = s.net := rfl
@[simp] theorem State.twin_modPort (i : Nat) (g : Port → Port) : (s.modPort i g).twin = s.twin := rfl
@[simp] theorem State.jr_modPort (i : Nat) (g : Port → Port) : (s.modPort i g).jr = s.jr := rfl
@[simp] theorem State.errs_modPort (i : Nat) (g : Port → Port) : (s.modPort i g).errs = s.errs := rfl
@[simp] theorem State.logbook_modPort (i : Nat) (g : Port → Port) : (s.modPort i g).logbook = s.logbook := rfl
@[simp] theorem State.logRegs_modPort (i : Nat) (g : Port → Port) : (s.modPort i g).logRegs = s.logRegs := rfl
@[simp] theorem State.power_modPort (i : Nat) (g : Port → Port) : (s.modPort i g).power = s.power := rfl
@[simp] theorem State.telem_modPort (i : Nat) (g : Port → Port) : (s.modPort i g).telem = s.telem := rfl
@[simp] theorem State.arb_modPort (i : Nat) (g : Port → Port) : (s.modPort i g).arb = s.arb := rfl
@[simp] theorem State.freeCtr_modPort (i : Nat) (g : Port → Port) : (s.modPort i g).freeCtr = s.freeCtr := rfl

/-! ### State.emit -/

@[simp] theorem State.pending_emit (l : List HostItem) : (s.emit l).pending = s.pending := rfl
@[simp] theorem State.order1536_emit (l : List HostItem) : (s.emit l).order1536 = s.order1536 := rfl
@[simp] theorem State.fuses_emit (l : List HostItem) : (s.emit l).fuses = s.fuses := rfl
@[simp] theorem State.flash_emit (l : List HostItem) : (s.emit l).flash = s.flash := rfl
@[simp] theorem State.boot_emit (l : List HostItem) : (s.emit l).boot = s.boot := rfl
@[simp] theorem State.linkUp_emit (l : List HostItem) : (s.emit l).linkUp = s.linkUp := rfl
@[simp] theorem State.numVfs_emit (l : List HostItem) : (s.emit l).numVfs = s.numVfs := rfl
@[simp] theorem State.funs_emit (l : List HostItem) : (s.emit l).funs = s.funs := rfl
@[simp] theorem State.hostOut_emit (l : List HostItem) : (s.emit l).hostOut = s.hostOut ++ l := rfl
@[simp] theorem State.parts_emit (l : List HostItem) : (s.emit l).parts = s.parts := rfl
@[simp] theorem State.ctxs_emit (l : List HostItem) : (s.emit l).ctxs = s.ctxs := rfl
@[simp] theorem State.rings_emit (l : List HostItem) : (s.emit l).rings = s.rings := rfl
@[simp] theorem State.clients_emit (l : List HostItem) : (s.emit l).clients = s.clients := rfl
@[simp] theorem State.slots_emit (l : List HostItem) : (s.emit l).slots = s.slots := rfl
@[simp] theorem State.regions_emit (l : List HostItem) : (s.emit l).regions = s.regions := rfl
@[simp] theorem State.lend_emit (l : List HostItem) : (s.emit l).lend = s.lend := rfl
@[simp] theorem State.tiles_emit (l : List HostItem) : (s.emit l).tiles = s.tiles := rfl
@[simp] theorem State.dies_emit (l : List HostItem) : (s.emit l).dies = s.dies := rfl
@[simp] theorem State.clusters_emit (l : List HostItem) : (s.emit l).clusters = s.clusters := rfl
@[simp] theorem State.ports_emit (l : List HostItem) : (s.emit l).ports = s.ports := rfl
@[simp] theorem State.lasers_emit (l : List HostItem) : (s.emit l).lasers = s.lasers := rfl
@[simp] theorem State.carts_emit (l : List HostItem) : (s.emit l).carts = s.carts := rfl
@[simp] theorem State.time_emit (l : List HostItem) : (s.emit l).time = s.time := rfl
@[simp] theorem State.net_emit (l : List HostItem) : (s.emit l).net = s.net := rfl
@[simp] theorem State.twin_emit (l : List HostItem) : (s.emit l).twin = s.twin := rfl
@[simp] theorem State.jr_emit (l : List HostItem) : (s.emit l).jr = s.jr := rfl
@[simp] theorem State.errs_emit (l : List HostItem) : (s.emit l).errs = s.errs := rfl
@[simp] theorem State.logbook_emit (l : List HostItem) : (s.emit l).logbook = s.logbook := rfl
@[simp] theorem State.logRegs_emit (l : List HostItem) : (s.emit l).logRegs = s.logRegs := rfl
@[simp] theorem State.power_emit (l : List HostItem) : (s.emit l).power = s.power := rfl
@[simp] theorem State.telem_emit (l : List HostItem) : (s.emit l).telem = s.telem := rfl
@[simp] theorem State.arb_emit (l : List HostItem) : (s.emit l).arb = s.arb := rfl
@[simp] theorem State.freeCtr_emit (l : List HostItem) : (s.emit l).freeCtr = s.freeCtr := rfl

/-! ### State.modTwin -/

@[simp] theorem State.pending_modTwin (g : Twin → Twin) : (s.modTwin g).pending = s.pending := rfl
@[simp] theorem State.order1536_modTwin (g : Twin → Twin) : (s.modTwin g).order1536 = s.order1536 := rfl
@[simp] theorem State.fuses_modTwin (g : Twin → Twin) : (s.modTwin g).fuses = s.fuses := rfl
@[simp] theorem State.flash_modTwin (g : Twin → Twin) : (s.modTwin g).flash = s.flash := rfl
@[simp] theorem State.boot_modTwin (g : Twin → Twin) : (s.modTwin g).boot = s.boot := rfl
@[simp] theorem State.linkUp_modTwin (g : Twin → Twin) : (s.modTwin g).linkUp = s.linkUp := rfl
@[simp] theorem State.numVfs_modTwin (g : Twin → Twin) : (s.modTwin g).numVfs = s.numVfs := rfl
@[simp] theorem State.funs_modTwin (g : Twin → Twin) : (s.modTwin g).funs = s.funs := rfl
@[simp] theorem State.hostOut_modTwin (g : Twin → Twin) : (s.modTwin g).hostOut = s.hostOut := rfl
@[simp] theorem State.parts_modTwin (g : Twin → Twin) : (s.modTwin g).parts = s.parts := rfl
@[simp] theorem State.ctxs_modTwin (g : Twin → Twin) : (s.modTwin g).ctxs = s.ctxs := rfl
@[simp] theorem State.rings_modTwin (g : Twin → Twin) : (s.modTwin g).rings = s.rings := rfl
@[simp] theorem State.clients_modTwin (g : Twin → Twin) : (s.modTwin g).clients = s.clients := rfl
@[simp] theorem State.slots_modTwin (g : Twin → Twin) : (s.modTwin g).slots = s.slots := rfl
@[simp] theorem State.regions_modTwin (g : Twin → Twin) : (s.modTwin g).regions = s.regions := rfl
@[simp] theorem State.lend_modTwin (g : Twin → Twin) : (s.modTwin g).lend = s.lend := rfl
@[simp] theorem State.tiles_modTwin (g : Twin → Twin) : (s.modTwin g).tiles = s.tiles := rfl
@[simp] theorem State.dies_modTwin (g : Twin → Twin) : (s.modTwin g).dies = s.dies := rfl
@[simp] theorem State.clusters_modTwin (g : Twin → Twin) : (s.modTwin g).clusters = s.clusters := rfl
@[simp] theorem State.ports_modTwin (g : Twin → Twin) : (s.modTwin g).ports = s.ports := rfl
@[simp] theorem State.lasers_modTwin (g : Twin → Twin) : (s.modTwin g).lasers = s.lasers := rfl
@[simp] theorem State.carts_modTwin (g : Twin → Twin) : (s.modTwin g).carts = s.carts := rfl
@[simp] theorem State.time_modTwin (g : Twin → Twin) : (s.modTwin g).time = s.time := rfl
@[simp] theorem State.net_modTwin (g : Twin → Twin) : (s.modTwin g).net = s.net := rfl
@[simp] theorem State.twin_modTwin (g : Twin → Twin) : (s.modTwin g).twin = g s.twin := rfl
@[simp] theorem State.jr_modTwin (g : Twin → Twin) : (s.modTwin g).jr = s.jr := rfl
@[simp] theorem State.errs_modTwin (g : Twin → Twin) : (s.modTwin g).errs = s.errs := rfl
@[simp] theorem State.logbook_modTwin (g : Twin → Twin) : (s.modTwin g).logbook = s.logbook := rfl
@[simp] theorem State.logRegs_modTwin (g : Twin → Twin) : (s.modTwin g).logRegs = s.logRegs := rfl
@[simp] theorem State.power_modTwin (g : Twin → Twin) : (s.modTwin g).power = s.power := rfl
@[simp] theorem State.telem_modTwin (g : Twin → Twin) : (s.modTwin g).telem = s.telem := rfl
@[simp] theorem State.arb_modTwin (g : Twin → Twin) : (s.modTwin g).arb = s.arb := rfl
@[simp] theorem State.freeCtr_modTwin (g : Twin → Twin) : (s.modTwin g).freeCtr = s.freeCtr := rfl

/-! ### State.setInbox -/

@[simp] theorem State.pending_setInbox (l : List Arrived) : (s.setInbox l).pending = s.pending := rfl
@[simp] theorem State.order1536_setInbox (l : List Arrived) : (s.setInbox l).order1536 = s.order1536 := rfl
@[simp] theorem State.fuses_setInbox (l : List Arrived) : (s.setInbox l).fuses = s.fuses := rfl
@[simp] theorem State.flash_setInbox (l : List Arrived) : (s.setInbox l).flash = s.flash := rfl
@[simp] theorem State.boot_setInbox (l : List Arrived) : (s.setInbox l).boot = s.boot := rfl
@[simp] theorem State.linkUp_setInbox (l : List Arrived) : (s.setInbox l).linkUp = s.linkUp := rfl
@[simp] theorem State.numVfs_setInbox (l : List Arrived) : (s.setInbox l).numVfs = s.numVfs := rfl
@[simp] theorem State.funs_setInbox (l : List Arrived) : (s.setInbox l).funs = s.funs := rfl
@[simp] theorem State.hostOut_setInbox (l : List Arrived) : (s.setInbox l).hostOut = s.hostOut := rfl
@[simp] theorem State.parts_setInbox (l : List Arrived) : (s.setInbox l).parts = s.parts := rfl
@[simp] theorem State.ctxs_setInbox (l : List Arrived) : (s.setInbox l).ctxs = s.ctxs := rfl
@[simp] theorem State.rings_setInbox (l : List Arrived) : (s.setInbox l).rings = s.rings := rfl
@[simp] theorem State.clients_setInbox (l : List Arrived) : (s.setInbox l).clients = s.clients := rfl
@[simp] theorem State.slots_setInbox (l : List Arrived) : (s.setInbox l).slots = s.slots := rfl
@[simp] theorem State.regions_setInbox (l : List Arrived) : (s.setInbox l).regions = s.regions := rfl
@[simp] theorem State.lend_setInbox (l : List Arrived) : (s.setInbox l).lend = s.lend := rfl
@[simp] theorem State.tiles_setInbox (l : List Arrived) : (s.setInbox l).tiles = s.tiles := rfl
@[simp] theorem State.dies_setInbox (l : List Arrived) : (s.setInbox l).dies = s.dies := rfl
@[simp] theorem State.clusters_setInbox (l : List Arrived) : (s.setInbox l).clusters = s.clusters := rfl
@[simp] theorem State.ports_setInbox (l : List Arrived) : (s.setInbox l).ports = s.ports := rfl
@[simp] theorem State.lasers_setInbox (l : List Arrived) : (s.setInbox l).lasers = s.lasers := rfl
@[simp] theorem State.carts_setInbox (l : List Arrived) : (s.setInbox l).carts = s.carts := rfl
@[simp] theorem State.time_setInbox (l : List Arrived) : (s.setInbox l).time = s.time := rfl
@[simp] theorem State.net_setInbox (l : List Arrived) : (s.setInbox l).net = { s.net with inbox := l } := rfl
@[simp] theorem State.twin_setInbox (l : List Arrived) : (s.setInbox l).twin = s.twin := rfl
@[simp] theorem State.jr_setInbox (l : List Arrived) : (s.setInbox l).jr = s.jr := rfl
@[simp] theorem State.errs_setInbox (l : List Arrived) : (s.setInbox l).errs = s.errs := rfl
@[simp] theorem State.logbook_setInbox (l : List Arrived) : (s.setInbox l).logbook = s.logbook := rfl
@[simp] theorem State.logRegs_setInbox (l : List Arrived) : (s.setInbox l).logRegs = s.logRegs := rfl
@[simp] theorem State.power_setInbox (l : List Arrived) : (s.setInbox l).power = s.power := rfl
@[simp] theorem State.telem_setInbox (l : List Arrived) : (s.setInbox l).telem = s.telem := rfl
@[simp] theorem State.arb_setInbox (l : List Arrived) : (s.setInbox l).arb = s.arb := rfl
@[simp] theorem State.freeCtr_setInbox (l : List Arrived) : (s.setInbox l).freeCtr = s.freeCtr := rfl

end Sys2Proof.Machine
end

