-- ==== Sys2Proof/Machine/Linear.lean ====
section
/-! DEFINITION. The linear side unit: what one output's lane computes (R87, R88). No row of the opcode table and
no descriptor of the spec starts this unit; the arithmetic stands here as the spec gives it. -/

namespace Sys2Proof.Machine

/-- A binary32 pattern of a sign and a magnitude. -/
def pattern32 (neg : Bool) (mag : Nat) : Nat := (if neg then 2 ^ 31 else 0) + mag

/-- One rounding into binary32 under roundTiesToEven; past the largest finite value it is Inf. -/
def round32 (x : Exact) : Nat := (toEdge .fp32 .nearestEven true x).1

/-- The exact product of two patterns; a zero keeps its sign, Inf times 0 is no number. -/
def product32 (a b : Nat) : Val :=
  match decodeEdge .fp32 a, decodeEdge .fp32 b with
  | .zero m, .zero n => .zero (m != n)
  | .zero m, .fin y => .zero (m != y.neg)
  | .fin x, .zero n => .zero (x.neg != n)
  | u, v => mulVal u v

/-- A value written as binary32; every NaN is 0x7FC0_0000. -/
def write32 : Val → Nat
  | .nar => 0x7FC00000
  | .inf n => pattern32 n 0x7F800000
  | .zero n => pattern32 n 0
  | .fin x => round32 x

/-- The sum of two values, rounded once: zeros of one sign keep it, an exact cancellation is +0. -/
def sum32 (a b : Val) : Nat :=
  match a, b with
  | .zero m, .zero n => pattern32 (m && n) 0
  | u, v => write32 (addVal u v)

/-- binary32 fusedMultiplyAdd: a × b + c, rounded once. -/
def fma32 (a b c : Nat) : Nat := sum32 (product32 a b) (decodeEdge .fp32 c)

/-- A lane in FP32 mode: k ascending from 0, from an accumulator of +0. -/
def linearFp32 (ps : List (Nat × Nat)) : Nat := ps.foldl (fun acc p => fma32 p.1 p.2 acc) 0

/-- A lane in BF16 mode: each product a binary32 multiplication, each addition rounded, k ascending. -/
def linearBf16 (ps : List (Nat × Nat)) : Nat :=
  ps.foldl (fun acc p => sum32 (decodeEdge .fp32 acc) (decodeEdge .fp32 (write32 (product32 (p.1 * 2 ^ 16) (p.2 * 2 ^ 16))))) 0

end Sys2Proof.Machine
end

