-- ==== Sys2Proof/Machine/Panel.lean ====
section
/-! DEFINITION. What a host and a board see of the module without a command: the identity of its PCIe functions and
their apertures, the fibre positions of its ports (R384, R385, R462, R465). No command reads these. -/

namespace Sys2Proof.Machine

/-- Device ID of a function (Table 13.1). -/
def pciDevice (fn : Nat) : Nat := if fn = 0 then 0x2001 else 0x2081

/-- Revision ID and class code (Table 13.1). -/
def pciRevision : Nat := 0x0A
def pciClass : Nat := 0x120000

/-- Subsystem ID by order code (Tables 0.1, 13.1). -/
def State.pciSubsystem (s : State) : Nat := if s.order1536 then 0x0001 else 0x0000

/-- Bytes of an aperture of a function: BAR0, BAR2, none other (Table 13.2). -/
def barBytes (bar : Nat) : Nat := if bar = 0 then 2 ^ 26 else if bar = 2 then 2 ^ 36 else 0

/-- The routing number of a function above the physical function's, and the functions that answer: function 0, and
the virtual functions that SR-IOV has enabled, with first offset 1 and stride 1 (Table 13.1). -/
def State.pciAnswers (s : State) (fn : Nat) : Bool := s.linkUp && fn ≤ s.numVfs

/-- The largest payload of a packet, in bytes (Table 13.1). -/
def maxPayload : Nat := 512

/-- The receptacle (0 to 3 FC0 to FC3, 4 TC) and the fibre pair of a port (Table 16.6). -/
def fibrePair (port : Nat) : Nat × Nat := if port < 32 then (port / 8, port % 8 + 1) else (4, port - 31)

/-- The positions a port transmits and receives on in its receptacle (R465). -/
def fibrePositions (port : Nat) : Nat × Nat := ((fibrePair port).2, 17 - (fibrePair port).2)

/-- The ports of a receptacle, which lose their light when its plug is pulled (Tables 16.6, 16.11). -/
def receptaclePorts (r : Nat) : List Nat :=
  if r < 4 then (List.range 8).map (fun i => 8 * r + i) else (List.range 4).map (32 + ·)

end Sys2Proof.Machine
end

