-- ==== Sys2Proof/Tests/Slice0.lean ====
section
/-! SUPPORT. Tests of single commands against the spec's own figures, ill-formed commands refused by each check of
`WellFormed`, and for every statement with hypotheses a state and operands that meet them. -/


namespace Sys2Proof.Tests

set_option linter.unusedVariables false
set_option Elab.async false

open Sys2Proof Sys2Proof.Machine

/-! ### A small module -/

/-- A command block of the physical function. -/
def hd : CmdHead := ⟨0, false, 0, false⟩
/-- A mailbox with one block pending. -/
def mb : Mbox := { enable := true, logDepth := 4, tail := 1 }
def evq0 : EvQ := { enable := true, logDepth := 4 }
def fn0 : Func := { avail := true, mbox := mb, evq := evq0 }
def part0 : Part :=
  { params := ⟨1, 1, 200, 18, 4, 2, 1000, 3⟩, dies := [0], channels := [0], quantum := 1000, slice := some ⟨0, 0, 1000000⟩ }
def cparams : ContextParams := ⟨0, 4095, 1, 0, 1000, 100, 32, 50, 20⟩
/-- An ordinary tensor of a format and shape. -/
def obj (f : Fmt) (dims : List Nat) : TObj := ⟨.ordinary, f, dims, 0, false, false, ⟨0, 0, 0, 0, 0⟩, 0⟩
def tens (f : Fmt) (dims : List Nat) : Tensor := { obj := obj f dims, exts := [(0, { home := .hbm 0 })] }
def ctx0 : Ctx :=
  { owner := 0, params := cparams, priority := 1, state := .runnable, resident := true, nextHandle := 7
    tensors := [(1, tens .fp32 [1]), (2, tens .fp32 [1]), (3, tens .fp32 [1]), (4, tens .l8 [1, 1]), (5, tens .l8 [1, 1]), (6, tens .fp32 [1, 1])] }
def ring0 : Ring := { params := ⟨0, 16, 0, 0, 0, 0⟩ }
/-- A slot of context 0. -/
def slot0 : Slot := { ctx := 0, restart := false, obj := ⟨0, [], []⟩ }
/-- A module that serves commands: identity 5 of 10, one partition on die 0, one context with its ring. -/
def base : State :=
  { boot := { stage := .ready }, flash := { ident := some (5, 10) }, funs := [(0, fn0)], parts := [(0, part0)], ctxs := [(0, ctx0)]
    rings := [(0, ring0)], slots := [(0, slot0)], dies := [(0, { state := .run })]
    clusters := (List.range 8).map (fun i => (i, { state := .run })) }
/-- The module with another context. -/
def baseX (x : Ctx) : State := { base with ctxs := [(0, x)] }
/-- The module with one port. -/
def baseP (i : Nat) (p : Port) : State := { base with ports := [(i, p)], carts := (List.range 4).map (fun c => (c, { present := true, locked := true })) }
/-- The module as the twin of module 6. -/
def baseT : State := { base with twin := { state := .paired, twinId := some 6 } }
/-- A message that has arrived from module 6. -/
def from6 (vc : Nat) (m : Msg) : Arrived := ⟨6, vc, 32, m, true, []⟩
def withMsg (s : State) (vc : Nat) (m : Msg) : State := { s with net := { s.net with inbox := [from6 vc m] } }

def header0 : JobHeader :=
  { params := cparams, gatherHbm := 0, tensors := [], nextHandle := 6, groups := [], epoch := 0, pendingEpoch := false
    queues := [], pools := [], slots := [], gathered := [] }
def kept9 : Kept := ⟨9, 0, [], header0, 0⟩

/-- A descriptor from its first seven words. -/
def dsc (w0 w1 w2 w3 w4 w5 w6 : Nat) : Desc :=
  ⟨BitVec.ofNat 64 w0, BitVec.ofNat 64 w1, BitVec.ofNat 64 w2, BitVec.ofNat 64 w3, BitVec.ofNat 64 w4, BitVec.ofNat 64 w5, BitVec.ofNat 64 w6, 0⟩
/-- A job ticket with descriptors, accepted. -/
def job (ds : List Desc) : Ticket := ⟨1, 1, false, false, ds.length, 0, 0, 0, 0, false⟩
def run1 (ds : List Desc) : Run := { ring := 0, tseq := 1, ticket := job ds, descs := ds, states := ds.map (fun _ => .waiting) }
def ctxD (ds : List Desc) : Ctx := { ctx0 with runs := [run1 ds] }
/-- CONVERT of tensor 1 into tensor 2, both FP32; ADD of 1 and 3 into 2; SUM and SOFTMAX of 1 into 2 (Tables 5.1, 2.5). -/
def dConvert : Desc := dsc 0x8800000030 1 2 0 0 0 0
def dAdd : Desc := dsc 0x8000000130 (1 + 3 * 2 ^ 32) 2 0 0 0 0
def dSum : Desc := dsc 0x8000000032 1 2 0 0 0 0
def dSoftmax : Desc := dsc 0x8000000033 1 2 0 0 0 0
/-- A matrix product of tensors 4 and 5 into 6, 1 by 1 by 1 (Table 4.9); with its drain left to an epilogue; the epilogue. -/
def dMat : Desc := dsc 0x8000000020 (4 + 5 * 2 ^ 32) 6 (1 + 2 ^ 24 + 2 ^ 48) 1 0 0
def dMatE : Desc := dsc 0x4020 (4 + 5 * 2 ^ 32) 0 (1 + 2 ^ 24 + 2 ^ 48) 1 0 0
def dEpi : Desc := dsc 0x8000000031 0 6 0 0 0 0
def mat1 : MatDesc := (dMat.mat).getD ((dMatE.mat).getD
  ⟨0, false, false, 0, false, false, .l8, .l8, false, false, 0, false, 0, 0, 0, 0, 0, 0, 0, 0, 0, 0, 0, 0, 0⟩)
def task1 : TaskId := ⟨0, 0, 1, 0, 0, 0, 0, 0⟩
def op1 : MatOp := { ring := 0, tseq := 1, pos := 0, d := mat1, placed := [(task1, 0)] }
def ctxM (o : MatOp) : Ctx := { ctxD [dMat] with ops := [o], runs := [{ run1 [dMat] with next := 1, states := [.running] }] }
/-- The same with two chunks, so that the merge path is used. -/
def op2 : MatOp := { op1 with d := { mat1 with k := 64, kChunk := 32 } }
def task2 : TaskId := { task1 with chunk := 1 }

def commit9 : Commit := ⟨9, 0, 1, header0, [⟨false, 1, 0⟩], [], false, [], [], false, none, [], 0⟩

/-- Two computations in a row that both answer. -/
theorem bindOf {α β : Type} {a : Option α} {f : α → Option β} (h : (a.bind f).isSome = true) : ∃ x y, a = some x ∧ f x = some y := by
  cases a with
  | none => simp at h
  | some x => exact ⟨x, (f x).get (by simpa using h), rfl, (Option.some_get _).symm⟩
/-- `Taken`, computed. -/
theorem takenOf {h : CmdHead} {pf : Bool} {s : State}
    (hb : (decide (h.fn ≤ 62) && !h.reserved && s.canTake h.fn && (!pf || h.fn == 0)) = true) : Taken h pf s := by
  simp only [Bool.and_eq_true, decide_eq_true_eq, Bool.not_eq_true', Bool.or_eq_true, beq_iff_eq] at hb
  exact ⟨hb.1.1.1, hb.1.1.2, hb.1.2, fun hp => hb.2.resolve_left (by simp [hp])⟩
/-- `Owned` by the physical function. -/
theorem ownedOf {h : CmdHead} {ctx : Nat} {x : Ctx} {s : State} (h1 : s.ctx? ctx = some x) (h2 : h.fn = 0) : Owned h ctx x s := ⟨h1, .inr h2⟩
/-- `Delivered`, computed. -/
theorem deliveredOf {src vc : Nat} {a : Arrived} {rest : List Arrived} {s : State} (h1 : s.live = true)
    (h2 : takeFrom src vc s.net.inbox = some (a, rest)) (h3 : a.authOk = true) : Delivered src vc a rest s := ⟨h1, h2, fun _ => h3⟩

/-! ### States for the witnesses -/

theorem lowestFree_full {n : Nat} {used : List Nat} (h : ∀ j < n, j ∈ used) : lowestFree n used = none := by
  simp only [lowestFree, List.find?_eq_none, List.mem_range]
  intro j hj
  simp [h j hj]

/-- A command of the physical function waits. -/
def waitW (w : WaitCmd) : State := { base with funs := [(0, { fn0 with mbox := { mb with waiting := some (hd, w) } })] }
/-- The module asks module 6 to restore it; the module during a restore; the module serving one. -/
def restW (r : Restoring) : State := { waitW (.restore 6) with twin := { restoring := some r } }
def restS (r : Restoring) : State := { base with twin := { state := .restoring, twinId := some 6, restoring := some r } }
def servS (v : Serving) : State := { base with twin := { serving := some v, holdsPartner := true, partnerOf := some 6 } }
def resT : RestoreTables := ⟨{}, [], [], []⟩
def req6 : RestoreReq := ⟨6, 5, 0x0A, base.ballastCode⟩
/-- The module holds module 6's partner journal. -/
def holds6 : State := { base with twin := { holdsPartner := true, partnerOf := some 6 } }
def pairW : State := { base with twin := { state := .pairing, twinId := some 6 } }
def rec1 (b : JBody) : JRec := ⟨4, 0, 1, 0, 0, 1, 0, b⟩
def withJr (s : State) (j : Journals) : State := { s with jr := j }
def repX (b : JBody) (x : Ctx) : Ctx := { x with replay := some ⟨none, [rec1 b], none⟩ }
def e1 : ExtentId := ⟨false, 1, 0⟩
def mir (image : Bool) (e : Option ExtentId) : MirrorMsg := ⟨image, 0, 9, some header0, e, []⟩
def dueX : Ctx := { ctx0 with rollbackDue := some (.image 9) }
def baseTX (x : Ctx) : State := { baseT with ctxs := [(0, x)] }
def commitT : Commit := { commit9 with transferring := true }
def commitRun : Run := { run1 [] with ticket := ⟨1, 3, false, false, 0, 0, 0, 9, 0, false⟩ }
def commitBig : Commit := { commit9 with dirty := List.replicate 258049 e1 }
def errAt (p : Place) : ErrorReport := ⟨false, p, 0, 0, 0, 0, none⟩
def pair6 (asks : Bool) : PairInfo := ⟨asks, some 6, some 5, 0x0A, 0, none⟩
def tetherP : State :=
  { baseP 32 { state := .inService, light := true } with twin := { state := .pairing, twinId := some 6 }, lasers := [] }
/-- Two contexts and one seat, held by context 0; with something of context 0 to spill and no room. -/
def lowX : Ctx := { ctx0 with resident := false, priority := 3 }
def partY : Part := { part0 with params := { part0.params with seats := 1 }, yield := some (.preempt 1) }
def baseY : State := { base with parts := [(0, partY)], ctxs := [(0, ctx0), (1, lowX)] }
def dirtyX : Ctx := { ctx0 with tensors := [(1, { tens .fp32 [1] with exts := [(0, { home := .hbm 0, sram := [(0, 0)], dirty := [(0, 0)] })] })] }
def partZ : Part := { partY with params := { partY.params with spillHbm := 0 } }
def baseZ : State := { base with parts := [(0, partZ)], ctxs := [(0, dirtyX), (1, lowX)] }
def planP : PlanParams := ⟨3, [5, 6], [⟨0, 2, 1⟩], 65535, 64⟩
def planR : PlanResult := ⟨3, [5, 6], [0, 0], 1, [], 0, []⟩
def plan0 (r : Option PlanResult) : Plan := ⟨planP, [], [], r, false, []⟩
def ctxPlan (r : Option PlanResult) : Ctx := { ctx0 with plans := [(3, plan0 r)] }
/-- A job that awaits CHAIN words of module 6, and one without a chain area. -/
def chm (m : Nat) : ChainMsg := ⟨0, 0, 4, 1, m, 1, [⟨0, 0, 0, 0⟩]⟩
def opR : MatOp := { op1 with d := { mat1 with link := 2, prev := 6, tag := 4 }, placed := [] }
def opRS : MatOp := { opR with sums := [(0, ⟨1, some [.empty]⟩)] }
def noArea (x : Ctx) : Ctx := { x with params := { x.params with chainArea := 0 } }
def xOps (o : MatOp) : Ctx := { ctx0 with ops := [o] }
def chS (x : Ctx) (m : Nat) : State := withMsg (baseX x) 2 (.chain (chm m))
def gone1 : Gathered := ⟨.group, 0, 7, 0, 1, 9, [], false, none, [], [(0, 1, 9)], none, [], [], [], []⟩
def grp7 : XGroup := ⟨⟨[5, 6], 0⟩, [[5, 6]], []⟩
/-- An engine with one open group of a task. -/
def openE (k : TaskId) (g : Group) (st : List Staged) : Tile := { engines := [(0, { current := some 0, groups := [(0, { g with state := .opened, owner := some k })], stage := st })] }
def closedE (k : TaskId) : Tile := { engines := [(0, { groups := [(7, { state := .closed, owner := some k })] })] }
def onTile (x : Ctx) (t : Tile) : State := { baseX x with tiles := [(0, t)] }
def opMax : MatOp := { op1 with maxPass := true }
/-- A BODY of a stash entry that its scope dropped. -/
def stashE (t : StashTier) (due : Bool) (scope : List Desc) : StashEntry :=
  { handle := 1, charge := 4, tier := t, recomputable := true, ring := 0, tseq := 1, pos := 0, scope := scope, inputs := [], moveDue := due, rebuilt := false }
def dLayer : Desc := dsc 0x100000040 2 0 0 0 0 0
def scope1 (back : Bool) : Scope := ⟨0, 1, 0, 1, back, 0, false, false, [2], 0, 0, 0, 0, 0, []⟩
def runL : Run := { run1 [dLayer, dConvert] with next := 2, states := [.running, .ended] }
def ctxL (back : Bool) : Ctx := { ctx0 with runs := [runL], scope := some (scope1 back) }
def slotI : SlotImage := ⟨false, .fp32, [1], 0, [[0x3F800000]], []⟩
def queueS : Queue := ⟨⟨3, true, 6, 8, 64, 3⟩, 7, [], [(0, 1, 0)]⟩
def queueR (l : List SlotImage) : Queue := ⟨⟨3, false, 6, 8, 64, 3⟩, 0, l, []⟩
def ctxQ (q : Queue) (ds : List Desc) : Ctx := { ctxD ds with queues := [(3, q)] }
def goneQ : State := baseX { ctx0 with goneQueues := [3] }
def dSend : Desc := dsc 0x30048 1 0 0 0 0 0
def dRecv : Desc := dsc 0x30049 1 0 0 0 0 0
def replayG : FecGroup := ⟨[some 0x3C0, some 0, some 0, some 0], 0⟩
def okG : FecGroup := ⟨[some 0, some 0, some 0, some 0], 0⟩
def train6 (id rev port : Nat) : TrainFlit := ⟨some id, rev, port, false, 0, 0, 0, 0⟩
def pkt (dest seq : Nat) (m : Msg) (ty vc : Nat) : Packet := ⟨dest, 6, 1, ty, vc, seq, 0, 32, m, []⟩
/-- A flash whose image has an empty body and its digest. -/
def flashV : Flash := { image := Mem.putAll pageDflt [] 0x14 [0x60] |> fun m => Mem.putAll pageDflt m 0x20 (shake256 [] 512) }
def maskedT : Tensor := { tens .fp32 [1] with obj := { obj .fp32 [1] with kind := .wide }, img := Mem.putAll (fun _ => 0) [] 0 (leBytes 8 (2 ^ 59)) }

/-! ### WellFormed: each check refuses a command -/

theorem test_wf_function : (Instr.partitionQuantum ⟨63, false, 0, false⟩ 0 1000).wf = false ∧ (Instr.registerWrite 63 0 4 0).wf = false := by decide
theorem test_wf_tile : (Instr.taskDispatch 320).wf = false ∧ (Instr.taskDispatch 319).wf = true := by decide
theorem test_wf_engine : (Instr.roundStart 0 3).wf = false := by decide
theorem test_wf_group : (Instr.groupPark 0 0 8).wf = false := by decide
theorem test_wf_channel : (Instr.queueSlot 6 8).wf = false := by decide
theorem test_wf_port : (Instr.lightDetected 36).wf = false ∧ (Instr.lightDetected 35).wf = true := by decide
theorem test_wf_laser : (Instr.laserBiasLimit 48 0).wf = false := by decide
theorem test_wf_cartridge : (Instr.cartridgeInsert 4 0 []).wf = false := by decide
theorem test_wf_cluster : (Instr.clusterSleep 80).wf = false := by decide
theorem test_wf_die : (Instr.dieNap 10).wf = false := by decide
theorem test_wf_admits : (Instr.partitionQuantum ⟨62, false, 0, false⟩ 0 1000).wf = true := by decide

/-! ### Formats and conversions (the worked conversions of chapter 2) -/

def fp (bits : Nat) : Val := decodeElem .fp32 bits 0
/-- The FP32 code of a value. -/
def toFp (v : Val) : Nat := (convElem .fp32 0 .nearestEven false 0 v).code
def intoL8 (rnd : Rnd) (tb : Int) (bits : Nat) : Nat := (convElem .l8 tb rnd false 0 (fp bits)).code

-- Table 2.15: 6.0, 0.75, -0.1, 10^-4, -0.0, +Inf, NaN
theorem test_l8_nearest : intoL8 .nearestEven 0 0x40C00000 = 0x55 ∧ intoL8 .nearestEven 0 0x3F400000 = 0x3D
    ∧ intoL8 .nearestEven 0 0xBDCCCCCD = 0xA5 ∧ intoL8 .nearestEven 0 0x38D1B717 = 0 := by decide +kernel
theorem test_l8_toward_zero : intoL8 .towardZero 0 0x40C00000 = 0x54 ∧ intoL8 .towardZero 0 0x3F400000 = 0x3C
    ∧ intoL8 .towardZero 0 0xBDCCCCCD = 0xA5 := by decide +kernel
theorem test_l8_specials : intoL8 .nearestEven 0 0x80000000 = 0 ∧ intoL8 .nearestEven 0 0x7F800000 = 0x7F
    ∧ intoL8 .nearestEven 0 0x7FC00000 = 0x80 := by decide +kernel
-- "Block scales": 1,000, 3.0 and 0.01 under B = 3 into L8, under B = 0 into LG8
theorem test_block_l8 : blockScale .l8 0 [fp 0x447A0000, fp 0x40400000, fp 0x3C23D70A] = (3, false)
    ∧ intoL8 .nearestEven 3 0x447A0000 = 0x78 ∧ intoL8 .nearestEven 3 0x40400000 = 0x35 ∧ intoL8 .nearestEven 3 0x3C23D70A = 0 := by decide +kernel
theorem test_block_lg8 : blockScale .lg8 0 [fp 0x447A0000, fp 0x40400000, fp 0x3C23D70A] = (0, false)
    ∧ (convElem .lg8 0 .nearestEven false 0 (fp 0x447A0000)).code = 0x68 ∧ (convElem .lg8 0 .nearestEven false 0 (fp 0x3C23D70A)).code = 0x25 := by
  decide +kernel
-- Table 2.16: ties
theorem test_ties : (convElem .l8 0 .nearestEven false 0 (l16Val 0x4220)).code = 0x48 ∧ (convElem .l8 0 .nearestEven false 0 (l16Val 0x4260)).code = 0x4A
    ∧ (convElem .l8 0 .towardZero false 0 (l16Val 0x4260)).code = 0x49 ∧ (convElem .l8 0 .nearestEven false 0 (l16Val 0xC220)).code = 0xC8 := by
  decide +kernel
theorem test_tie_stochastic : (convElem .l8 0 .stochastic false 32767 (l16Val 0x4220)).code = 0x49
    ∧ (convElem .l8 0 .stochastic false 32768 (l16Val 0x4220)).code = 0x48 := by decide +kernel
-- Table 2.17: 2^1.625 into BF16, FP16, E4M3, E5M2
theorem test_log_to_edge : let v := decodeElem .l8 0x4D 0
    (convElem .bf16 0 .nearestEven false 0 v).code = 0x4045 ∧ (convElem .fp16 0 .nearestEven false 0 v).code = 0x422B
    ∧ (convElem .e4m3 0 .nearestEven false 0 v).code = 0x44 ∧ (convElem .e5m2 0 .nearestEven false 0 v).code = 0x42 := by decide +kernel
-- R38: the largest W8P2 magnitude is 16, as 0x77 and 0xFF; 0x33 and 0x40 both mean 1.0
theorem test_w8p2 : toFp (decodeElem .w8p2 0x77 0) = 0x41800000 ∧ toFp (decodeElem .w8p2 0xFF 0) = 0xC1800000
    ∧ (convElem .w8p2 0 .nearestEven false 0 (decodeElem .w8p2 0x33 0)).code = 0x40 := by decide +kernel

/-! ### Products and sums (chapter 3) -/

-- Table 3.9: four terms under E = 10, and the drained value 53.90625
theorem test_four_terms : narrowTerm 10 false 37 = 3158 ∧ narrowTerm 10 true (-19) = -25 ∧ narrowTerm 10 false 18 = 609 := by decide +kernel
theorem test_drain : toFp (Chain.mk (.fin (6900 * 2 ^ 16)) (some 10)).drain = 0x4257A000 := by decide +kernel
-- R86: 40 matches and 24 mismatches with T_a + T_b = -1 drain to 8.0
theorem test_popcount_drain : toFp (Chain.mk (.fin 16) (some 32)).drain = 0x41000000 := by decide +kernel
-- LADD: 0x432C plus 1.0 gives 0x4400; 0x432C minus 2.0 takes the X40 path to 0x4001
theorem test_ladd : (convElem .l16 0 .nearestEven false 0 (laddVal false .l16 0 (l16Val 0x432C) .l16 0 (l16Val 0x4000)).value).code = 0x4400 := by
  decide +kernel
theorem test_ladd_near : (convElem .l16 0 .nearestEven false 0 (laddVal false .l16 0 (l16Val 0x432C) .l16 0 (l16Val 0xC200)).value).code = 0x4001 := by
  decide +kernel
-- the epilogue example of chapter 5: 2.953125 drains to 0x4C; by R51 the fraction is 0.497939, so stochastic rounding
-- gives 0x4D when r < 32,632 (the example's 32,634 takes a fraction of 0.49797)
theorem test_epilogue_drain : intoL8 .nearestEven 0 0x403D0000 = 0x4C ∧ (convElem .l8 0 .stochastic false 32631 (fp 0x403D0000)).code = 0x4D
    ∧ (convElem .l8 0 .stochastic false 32632 (fp 0x403D0000)).code = 0x4C := by decide +kernel

-- R87 by hand: 1 × 2 + 3 = 5; 1 × 2 + 3 × 3 = 11 in BF16; Inf × 0 writes 0x7FC0_0000
theorem test_linear : fma32 0x3F800000 0x40000000 0x40400000 = 0x40A00000 ∧ linearBf16 [(0x3F80, 0x4000), (0x4040, 0x4040)] = 0x41300000
    ∧ fma32 0x7F800000 0 0 = 0x7FC00000 := by decide +kernel

/-! ### Rows (chapter 5) -/

def el (bits : Nat) : RowElem := ⟨fp bits, false⟩
-- MEANVAR of 1.0, 2.0, 4.0 and a masked element into FP32: 7/3 and 14/9, correctly rounded there
theorem test_meanvar : let r := reduceRow .meanvar false 0 [el 0x3F800000, el 0x40000000, el 0x40800000, ⟨fp 0x41000000, true⟩]
    (convElem .fp32 0 .nearestEven false 0 r.val).code = 0x40155555 ∧ (convElem .fp32 0 .nearestEven false 0 r.val2).code = 0x3FC71C72 := by decide +kernel
def lseRow4 : List RowElem :=
  [⟨decodeElem .l8 0x48 0, false⟩, ⟨decodeElem .l8 0x40 0, false⟩, ⟨decodeElem .l8 0x40 0, false⟩, ⟨decodeElem .l8 0x58 0, true⟩]
-- Table 5.12
theorem test_lse : (convElem .l16 0 .nearestEven false 0 (reduceRow .lse true 0 lseRow4).val).code = 0x432B := by decide +kernel
theorem test_softmax : (softmaxRow true 0 none lseRow4).1.map (fun v => (convElem .l8 0 .nearestEven false 0 v).code) = [0x38, 0x30, 0x30, 0] := by
  decide +kernel

/-! ### Exchange words and nodes (chapters 7 and 9) -/

-- Table 7.4
theorem test_words : wordOf false (some 3) (l16Val 0x4400) = 2 ^ 39 ∧ wordOf false (some 3) (l16Val 0x3E00) = 2 ^ 36
    ∧ wordOf false (some 3) (l16Val 0xC200) = -2 ^ 38 ∧ wordOf true (some 3) (l16Val 0xC200) = -2 ^ 21 := by decide +kernel
theorem test_hallmarks : hallmark (2 ^ 39) = 128 ∧ hallmark (2 ^ 36) = 16 ∧ hallmark (-2 ^ 38) = 191 ∧ hadd (hadd 128 16) 191 = 80 := by decide +kernel
theorem test_sum : (convElem .l16 0 .nearestEven false 0 (sumVal (some 3) (5 * 2 ^ 36))).code = 0x42A5 := by decide +kernel
-- Table 9.3: the nodes of modules 1,024 to 1,087 in two class-0 domains
theorem test_nodes : (nodesOver (fun a b => a != b && (decide (a < 1048) == decide (b < 1048))) ((List.range 64).map (· + 1024))).map
    (fun n => (n.headD 0, n.length)) = [(1024, 16), (1040, 8), (1048, 16), (1064, 16), (1080, 8)] := by decide +kernel
-- R305's worked view: 63 rows of W = 1,024 fit a page
theorem test_kv_rows : kvRowsPerPage .l8 1024 = 63 := by decide +kernel

/-! ### Words and digests -/

-- the check value of CRC-32C over the digits 1 to 9 (R228's polynomial)
theorem test_crc32c : crc32c [0x31, 0x32, 0x33, 0x34, 0x35, 0x36, 0x37, 0x38, 0x39] = 0xE3069283 := by decide +kernel
-- SHAKE256 of nothing (FIPS 202)
theorem test_shake256 : shake256 [] 64 = [0x46, 0xb9, 0xdd, 0x2b, 0x0b, 0xa8, 0x8d, 0x13] := by decide +kernel
-- Table 4.8: 1.0 as a CHAIN word under E = 0; a word without E_SET and a value is invalid
theorem test_chain_word : chainBits ⟨.fin (2 ^ 33), some 0⟩ = 2 ^ 58 + 2 ^ 33 ∧ chainOfBits 1 = none := by decide +kernel

-- R478, R352: a TENSOR_CREATE block byte by byte: job 7, KIND 0, FORMAT 1, RANK 2, 32 by 64, T = -1, persistent
theorem test_block : blockInstr 3 ([1, 2, 1, 0, 5, 0, 0, 0] ++ List.replicate 24 0 ++ [7, 0, 0, 1, 2, 0, 0, 0, 32, 0, 0, 0, 64, 0, 0, 0]
      ++ List.replicate 16 0 ++ [255, 1] ++ List.replicate 190 0) (fun _ _ => none)
    = .tensorCreate ⟨3, true, 5, false⟩ 7 ⟨0, 1, [32, 64], -1, true, false, ⟨0, 0, 0, 0, 0⟩⟩ := by decide +kernel
-- a byte of the block that no field takes makes it malformed
theorem test_block_reserved : (match blockInstr 3 ([3, 2] ++ List.replicate 253 0 ++ [1]) (fun _ _ => none) with
    | .tensorMap h _ _ _ => h.reserved | _ => false) = true := by decide +kernel
-- R64: equal values are not ordered
theorem test_equal_values : Val.lt (fp 0xC0400000) (fp 0xC0400000) = false ∧ Val.lt (fp 0xC0400000) (fp 0xC0000000) = true := by decide +kernel

/-! ### Addresses and clocks -/

-- Table 10.9: the top of a stack is its module area; the last ballast byte of a -768 is mirror; past it is reserved
theorem test_areas : State.reset.areaOf 0xFFFFFFFFF = .moduleArea 0 ∧ State.reset.areaOf 0x2BFFFFFFFFF = .mirrorArea 11
    ∧ State.reset.areaOf 0x2C000000000 = .reserved ∧ State.reset.areaOf 0x4109FFFFFFF = .sram 319 := by decide +kernel
-- Table 15.7: step 13 is 653.125 MHz, step 12 687.5 MHz
theorem test_clock : computeKhz 13 = 653125 ∧ computeKhz 12 = 687500 := by decide
-- a new partition of die 0 reaches its HBM, and not the stack's module area
theorem test_region : let t := exec (.partitionCreate hd ⟨1, 1, 0, 36, 0, 2, 1000, 1⟩) { base with parts := [], ctxs := [], rings := [], slots := [] }
    (match t with | .next u => (u.reaches (some 0) 0, u.reaches (some 0) 0xFFFFFFFFF, u.reaches (some 1) 0) | _ => (false, true, true)) = (true, false, false) := by
  decide +kernel

/-! ### Commands, one step each -/

/-- A field of the state that a step answers. -/
def after {α : Type} (o : Host.Outcome State Fault Refusal) (f : State → α) : Option α :=
  match o with
  | .next t => some (f t)
  | _ => none

/-- STATUS and CAUSE of the block that a command completes with (R353). -/
def statusOfCmd (c : Instr) (s : State) : Option (List (Nat × List Byte)) :=
  after (exec c s) (fun t => t.hostOut.filterMap (fun w => match w with
    | .write _ a b => if a = 8 ∨ a = 10 then some (a, b) else none
    | _ => none))

theorem test_quantum : after (exec (.partitionQuantum hd 0 100000) base) (fun t => (Tab.get t.parts 0).map (·.quantum)) = some (some 100000) := by
  decide +kernel
theorem test_quantum_range : after (exec (.partitionQuantum hd 0 100001) base) (fun t => (Tab.get t.parts 0).map (·.quantum)) = some (some 1000) := by
  decide +kernel
theorem test_priority : after (exec (.contextPriority hd 0 3) base) (fun t => (t.ctx? 0).map (·.priority)) = some (some 3) := by decide +kernel
theorem test_no_object : statusOfCmd (.contextPriority hd 9 3) base = some [(10, [0x12, 0]), (8, [1, 0])] := by decide +kernel
theorem test_tensor_handle : after (exec (.tensorCreate hd 0 ⟨0, 0, [32, 32], 0, false, false, ⟨0, 0, 0, 0, 0⟩⟩) base)
    (fun t => (t.ctx? 0).map (fun x => (x.nextHandle, Tab.has x.tensors 7))) = some (some (8, true)) := by decide +kernel
theorem test_head_advances : after (exec (.contextPriority hd 0 3) base) (fun t => (t.fn 0).mbox.head) = some 1 := by decide +kernel
theorem test_keep_awake : after (exec (.keepAwakeWrite 0 0x3FF) base) (fun t => t.power.keepAwake) = some 0x3FF := by decide +kernel
theorem test_power_lost : after (exec (.inputDisconnect 4499 50) base) (fun t => t.boot.powered) = some false := by decide +kernel
-- R450: at 115 degrees the module halts
theorem test_thermal : after (exec (.thermalShutdown ⟨700, 5400, [115], []⟩) base) (fun t => t.errs.halted) = some true := by decide +kernel
theorem test_thermal_below : after (exec (.thermalShutdown ⟨700, 5400, [114], [99]⟩) base) (fun t => t.errs.halted) = some false := by decide +kernel
-- 1.0 + 2.0 = 3.0 in FP32
def sumTensor (code : Nat) : Tensor := { tens .fp32 [1] with img := Mem.putAll (fun _ => 0) [] 0 (leBytes 4 code) }
theorem test_add : after (exec (.add 0) (baseX { ctxD [dAdd] with tensors := [(1, sumTensor 0x3F800000), (2, tens .fp32 [1]), (3, sumTensor 0x40000000)] }))
    (fun t => (t.ctx? 0).bind (fun x => (x.tensor? 2).map (fun k => Mem.read k.obj.dflt k.img 0 4))) = some (some [0, 0, 0x40, 0x40]) := by decide +kernel
theorem test_no_unit : exec (.registerWrite 63 0 4 0) base = .fault .noSuchUnit := by rfl
theorem test_idle : after (step State.reset) (fun t => t.time.now) = some 1 := by decide +kernel

-- R465, worked example: FP13 is pair 6 of FC1, transmits on 6 and receives on 11
theorem test_fibre : (fibrePair 13, fibrePositions 13) = ((1, 6), (6, 11)) := by decide
theorem readableOf {s : State} {x : Ctx} {hs : List Nat} (h : (hs.all (fun h => h == 0 || (s.readTensor x h).isSome)) = true) :
    s.readable x hs := by
  intro k hk h0
  have := List.all_eq_true.mp h k hk
  simpa [h0] using this
/-- A ticket of one descriptor as its bytes stand in the host's memory (R337, R338). -/
def fetched1 : Fetched := ⟨leBytes 8 1 ++ [1, 0, 1, 0] ++ List.replicate 116 0, leBytes 8 0x8800000030 ++ leBytes 8 1 ++ leBytes 8 2 ++ List.replicate 40 0⟩
/-- Two chunks of which the first is summed; the next waits in the chain area, or stands on a tile. -/
def op2P : MatOp := { op2 with parked := [(op2.chunkKey task1, [.empty])] }
def op2S : MatOp := { op2 with sums := [(0, ⟨1, some [.empty]⟩)], parked := [(op2.chunkKey task2, [.empty])] }
def op2F : MatOp := { op2 with sums := [(0, ⟨1, some [.empty]⟩)], maxPass := true }
/-- A chain with one more term to come by link. -/
def opL : MatOp := { op1 with d := { mat1 with link := 2, prev := 6 }, sums := [(0, ⟨1, some [.empty]⟩)], received := [(0, .empty)] }
def taskL : TaskId := { task1 with chunk := 1 }
/-- A job whose tensor 4 is a view of a page that is not there. -/
def viewT : Tensor := { tens .l8 [] with obj := { obj .l8 [] with kind := .kvView, kv := ⟨0, 0, 0, 1, 1⟩ } }
def ctxV : Ctx := { ctxD [dMat] with tensors := [(4, viewT), (5, tens .l8 [1, 1]), (6, tens .fp32 [1, 1])] }
def runE : Run := { run1 [dMatE, dEpi] with next := 1, states := [.ended, .waiting] }
def opE : MatOp := { op1 with d := (dMatE.mat).getD mat1, placed := [], finals := [(0, [⟨.fin 0, none⟩])], drained := true }
def ctxE : Ctx := { ctx0 with runs := [runE], ops := [opE] }
def dReduce : Desc := dsc 0x8000000050 (1 + 2 * 2 ^ 32) (7 + 2 ^ 32) 0x4000 0 0 0
def dGather : Desc := dsc 0x51 (1 + 2 * 2 ^ 32) (7 + 2 ^ 32) 0 0 0 0
def dPermute : Desc := dsc 0x52 1 (7 + 2 ^ 32) 0 0 (1 + 8 * 2 ^ 16 + 2 ^ 32) 1
def inGroup (x : Ctx) : Ctx := { x with groups := [(7, grp7), (8, ⟨⟨[6, 5], 0⟩, [[6, 5]], []⟩)] }
def xv1 : Msg := .xv ⟨⟨0, 7, 0, 0, 0, 0⟩, [1], []⟩
def ask0 (h : Nat) : ReadReq := ⟨0, 7, 0, h, false, 0, 0, 1, 0⟩
def data0 (gone : Bool) (writes : Nat) : ReadData := ⟨gone, 0, 1, 0, 0, 0, [0], [], writes⟩
def awaits1 (l : GatherLevel) : Gathered := { gone1 with level := l, awaiting := [0] }
def gatherX (l : GatherLevel) : Ctx := { ctx0 with gathered := [(1, awaits1 l)] }
/-- A command block of an opcode, its other bytes zero. -/
def block0 (op : Nat) : List Byte := leBytes 2 op ++ List.replicate 254 0

/-- A partner's commit whose extents fill all mirror slots. -/
def fullMap (n : Nat) : List (ExtentId × Nat) := (List.range n).map (fun i => (e1, i))
def fullJr (n : Nat) : Journals := { incoming := [⟨0, 8, none, fullMap n⟩] }
theorem fullJr_named (n : Nat) : (fullJr n).named = List.range n := by
  simp [Journals.named, fullJr, fullMap, Function.comp_def]
theorem lowestFree_fullJr (n : Nat) : lowestFree n (fullJr n).named = none :=
  lowestFree_full fun j hj => by rw [fullJr_named]; exact List.mem_range.mpr hj
/-- A partner journal of n records. -/
def fullP (n : Nat) : Journals := { partner := List.replicate n { rec1 (.freeze 9) with seq := 3 } }
theorem fullP_length (n : Nat) : (fullP n).partner.length = n := List.length_replicate ..
theorem fullP_new (n : Nat) : [rec1 (.freeze 9)] = [rec1 (.freeze 9)].filter (fun r => !(fullP n).partner.any (fun q => q.seq = r.seq)) := by
  simp [fullP, rec1]
theorem fullP_over {n : Nat} {s : State} (r : JRec) (h : s.journalCap = n) :
    (withJr s (fullP n)).journalCap < (withJr s (fullP n)).jr.partner.length + [r].length := by
  show s.journalCap < (fullP n).partner.length + 1
  rw [fullP_length, h]; exact Nat.lt_succ_self n
theorem xv1_bytes : 1 ≤ HeldMsg.areaBytes ⟨6, 32, xv1⟩ := Nat.le_trans (Nat.le_max_left _ _) (Nat.le_add_right _ _)
theorem xv1_full : (noArea ctx0).chainRoom (HeldMsg.areaBytes ⟨6, 32, xv1⟩) = false :=
  decide_eq_false (fun h => absurd (Nat.le_trans xv1_bytes (Nat.le_trans (Nat.le_add_left ..) h)) (by decide))
/-- A job whose ACC holds an invalid word. -/
def accT : Tensor := { obj := { obj .l8 [1, 1] with kind := .wide }, img := [(7, 0x80)] }
def opA : MatOp := { op1 with d := { mat1 with acc := 9, accIn := true }, parked := [(0, [.empty])] }
def ctxA : Ctx := { ctxM opA with tensors := [(9, accT)] }

/-! ### States and operands that meet the hypotheses of every statement, clause by clause -/

/-! `StepRunsFront` -/

theorem witness_StepRunsFront_0 : ∃ (c : Instr) (rest : List Instr) (s : State), s.pending = c :: rest :=
  ⟨.powerApplied, [], { base with pending := [.powerApplied] },
    rfl⟩

/-! `IdleStepTicks` -/

theorem witness_IdleStepTicks_0 : ∃ (s : State), s.pending = [] :=
  ⟨base,
    rfl⟩

/-! `PartitionCommandsComplete` -/

theorem witness_PartitionCommandsComplete_0 : ∃ (h : CmdHead) (p : PartitionParams) (n : Nat) (s : State), Taken h true s ∧ partitionBad s p = false ∧
    lowestFree 10 (Tab.keys s.parts) = some n ∧ p.dies ≤ s.freeDies.length ∧ p.channels ≤ s.freeChannels.length ∧ p.spillHbm + p.cowHbm ≤ 32640 * (2 *
    p.dies) ∧ (s.parts.map (fun q => q.2.params.seats)).sum + p.seats ≤ 256 ∧ p.seats * p.dies * 18 ≤ p.spillHbm * 2 ∧ s.journalRoom 1 = true :=
  ⟨hd, ⟨10, 1, 0, 360, 0, 2, 1000, 1⟩, 0, { base with parts := [], ctxs := [] },
    takenOf rfl, by decide +kernel, by decide +kernel, by decide +kernel, by decide +kernel, by decide +kernel, by decide +kernel, by decide +kernel,
      by decide +kernel⟩
theorem witness_PartitionCommandsComplete_1 : ∃ (h : CmdHead) (n : Nat) (s : State), Taken h true s ∧ Tab.has s.parts n = true ∧ s.ctxsOf n = [] ∧
    s.journalRoom 1 = true :=
  ⟨hd, 0, { base with ctxs := [] },
    takenOf rfl, by decide +kernel, rfl, by decide +kernel⟩
theorem witness_PartitionCommandsComplete_2 : ∃ (h : CmdHead) (n q : Nat) (p : Part) (s : State), Taken h true s ∧ 100 ≤ q ∧ q ≤ 100000 ∧ Tab.get
    s.parts n = some p ∧ s.journalRoom 1 = true :=
  ⟨hd, 0, 100000, part0, base,
    takenOf rfl, by decide +kernel, by decide +kernel, rfl, by decide +kernel⟩

/-! `ContextCommandsComplete` -/

theorem witness_ContextCommandsComplete_0 : ∃ (h : CmdHead) (p : ContextParams) (part : Part) (n : Nat) (s : State), Taken h false s ∧ p.client ≤ 4095
    ∧ p.priority ≤ 3 ∧ 32 ≤ p.chainArea ∧ Tab.get s.parts p.partition = some part ∧ part.params.functions.getLsbD h.fn = true ∧ lowestFree 1024
    (Tab.keys s.ctxs) = some n ∧ s.quotaExceeded part p = false ∧ s.journalRoom 1 = true :=
  ⟨hd, { cparams with priority := 3 }, part0, 1, base,
    takenOf rfl, by decide +kernel, by decide +kernel, by decide +kernel, rfl, by decide +kernel, by decide +kernel, by decide +kernel,
      by decide +kernel⟩
theorem witness_ContextCommandsComplete_1 : ∃ (h : CmdHead) (ctx : Nat) (x : Ctx) (s : State), Taken h false s ∧ Owned h ctx x s ∧ s.key ctx = none ∧
    s.journalRoom 1 = true :=
  ⟨hd, 0, ctx0, { base with rings := [] },
    takenOf rfl, ownedOf rfl rfl, rfl, by decide +kernel⟩
theorem witness_ContextCommandsComplete_2 : ∃ (h : CmdHead) (ctx prio : Nat) (x : Ctx) (s : State), Taken h false s ∧ Owned h ctx x s ∧ prio ≤ 3 ∧
    s.journalRoom 1 = true :=
  ⟨hd, 0, 1, ctx0, base,
    takenOf rfl, ownedOf rfl rfl, by decide +kernel, by decide +kernel⟩
theorem witness_ContextCommandsComplete_3 : ∃ (h : CmdHead) (ctx : Nat) (x : Ctx) (s : State), Taken h false s ∧ Owned h ctx x s :=
  ⟨hd, 0, ctx0, base,
    takenOf rfl, ownedOf rfl rfl⟩

/-! `RingCommandsComplete` -/

theorem witness_RingCommandsComplete_0 : ∃ (h : CmdHead) (p : RingParams) (x : Ctx) (g : Nat) (s : State), Taken h false s ∧ Owned h p.ctx x s ∧
    ringDepthOk p.depth = true ∧ p.ticketAddr % 128 = 0 ∧ p.complAddr % 32 = 0 ∧ p.ctrlAddr % 128 = 0 ∧ p.ticketAddr < 2 ^ 64 ∧ p.complAddr < 2 ^ 64 ∧
    p.ctrlAddr < 2 ^ 64 ∧ vectorOk x.owner p.vector = true ∧ lowestFree 16384 (Tab.keys s.rings) = some g ∧ s.journalRoom 1 = true :=
  ⟨hd, ⟨0, 65536, 128, 32, 128, 63⟩, ctx0, 1, base,
    takenOf rfl, ownedOf rfl rfl, by decide +kernel, by decide +kernel, by decide +kernel, by decide +kernel, by decide +kernel, by decide +kernel,
      by decide +kernel, by decide +kernel, by decide +kernel, by decide +kernel⟩
theorem witness_RingCommandsComplete_1 : ∃ (h : CmdHead) (g : Nat) (r : Ring) (x : Ctx) (s : State), Taken h false s ∧ Tab.get s.rings g = some r ∧
    Owned h r.params.ctx x s ∧ r.journaling = none ∧ (∀ q ∈ x.runs, q.ring ≠ g) ∧ s.journalRoom 1 = true :=
  ⟨hd, 0, ring0, ctx0, base,
    takenOf rfl, rfl, ownedOf rfl rfl, rfl, by decide +kernel, by decide +kernel⟩
theorem witness_RingCommandsComplete_2 : ∃ (h : CmdHead) (client : Nat) (s : State), Taken h true s ∧ client ≤ 4095 :=
  ⟨hd, 4095, base,
    takenOf rfl, by decide +kernel⟩

/-! `TensorCommandsComplete` -/

theorem witness_TensorCommandsComplete_0 : ∃ (h : CmdHead) (ctx : Nat) (p : TensorParams) (x : Ctx) (s : State), Taken h false s ∧ Owned h ctx x s ∧
    tensorBad p = false ∧ (p.kind = 2 → Tab.has x.pools p.kv.pool = true ∧ (Tab.get s.slots p.kv.slot).map (·.ctx) = some ctx) ∧ x.quotaOk p.obj.bytes
    = true ∧ (p.pin = true → x.pinCount + pinUnits p.obj.bytes ≤ 124 * (((Tab.get s.parts x.params.partition).map (fun q => q.tiles.length)).getD 0))
    ∧ s.tensorCount < 4194304 ∧ x.nextHandle < 2 ^ 32 ∧ (p.persistent = true → s.persistentSlots + p.obj.extents ≤ s.mirrorSlots) ∧ s.journalRoom 1 =
    true :=
  ⟨hd, 0, ⟨0, 0, [32, 32], 127, false, false, ⟨0, 0, 0, 0, 0⟩⟩, ctx0, base,
    takenOf rfl, ownedOf rfl rfl, by decide +kernel, by decide +kernel, by decide +kernel, by decide +kernel, by decide +kernel, by decide +kernel,
      by decide +kernel, by decide +kernel⟩
theorem witness_TensorCommandsComplete_1 : ∃ (h : CmdHead) (ctx handle : Nat) (x : Ctx) (k : Tensor) (s : State), Taken h false s ∧ Owned h ctx x s ∧
    x.tensor? handle = some k ∧ k.deletedAt = none ∧ handle < 2 ^ 32 ∧ s.journalRoom 1 = true :=
  ⟨hd, 0, 1, ctx0, tens .fp32 [1], base,
    takenOf rfl, ownedOf rfl rfl, rfl, rfl, by decide +kernel, by decide +kernel⟩
theorem witness_TensorCommandsComplete_2 : ∃ (h : CmdHead) (ctx handle offset : Nat) (x : Ctx) (k : Tensor) (s : State), Taken h false s ∧ Owned h ctx
    x s ∧ x.named? handle = some k ∧ offset % 65536 = 0 ∧ offset + mapSpan k.obj.bytes ≤ 2 ^ 36 ∧ (s.fn h.fn).overlaps offset k.obj.bytes = false ∧
    (s.fn h.fn).maps.length < 4096 ∧ x.inUse handle = false :=
  ⟨hd, 0, 1, 2 ^ 36 - 65536, ctx0, tens .fp32 [1], base,
    takenOf rfl, ownedOf rfl rfl, rfl, by decide +kernel, by decide +kernel, by decide +kernel, by decide +kernel, by decide +kernel⟩
theorem witness_TensorCommandsComplete_3 : ∃ (h : CmdHead) (ctx handle offset : Nat) (x : Ctx) (k : Tensor) (s : State), Taken h false s ∧ Owned h ctx
    x s ∧ x.named? handle = some k ∧ offset % 65536 = 0 ∧ offset + mapSpan k.obj.bytes ≤ 2 ^ 36 ∧ (s.fn h.fn).overlaps offset k.obj.bytes = false ∧
    (s.fn h.fn).maps.length < 4096 ∧ x.inUse handle = true :=
  ⟨hd, 0, 4, 2 ^ 36 - 65536, ctxM op1, tens .l8 [1, 1], baseX (ctxM op1),
    takenOf rfl, ownedOf rfl rfl, rfl, by decide +kernel, by decide +kernel, by decide +kernel, by decide +kernel, by decide +kernel⟩
theorem witness_TensorCommandsComplete_4 : ∃ (h : CmdHead) (ctx handle offset : Nat) (x : Ctx) (m : Mapping) (s : State), Taken h false s ∧ Owned h
    ctx x s ∧ (s.fn h.fn).maps.find? (fun m => m.2.ctx = ctx && m.2.handle = handle) = some (offset, m) ∧ s.journalRoom (s.unmapBodies m).length =
    true :=
  ⟨hd, 0, 1, 65536, ctx0, ⟨0, 1, 65536, []⟩, { base with funs := [(0, { fn0 with maps := [(65536, ⟨0, 1, 65536, []⟩)] })] },
    takenOf rfl, ownedOf rfl rfl, rfl, by decide +kernel⟩
theorem witness_TensorCommandsComplete_5 : ∃ (h : CmdHead) (ctx handle : Nat) (x : Ctx) (k : Tensor) (s : State), Taken h false s ∧ Owned h ctx x s ∧
    x.named? handle = some k :=
  ⟨hd, 0, 1, ctx0, tens .fp32 [1], base,
    takenOf rfl, ownedOf rfl rfl, rfl⟩

/-! `PoolAndSlotCommandsComplete` -/

theorem witness_PoolAndSlotCommandsComplete_0 : ∃ (h : CmdHead) (ctx pages per n : Nat) (x : Ctx) (s : State), Taken h false s ∧ Owned h ctx x s ∧ 1 ≤
    pages ∧ pages ≤ 2 ^ 24 ∧ per ≤ 1 ∧ lowestFree 65536 (Tab.keys x.pools) = some n ∧ x.poolBytes + pages * 65536 ≤ x.placementShare ∧ x.hbmHeld +
    x.ballastHeld + pages * 65536 ≤ x.placementShare + x.params.ballastQuota * unitBytes ∧ s.journalRoom 1 = true ∧ (per = 1 → s.persistentSlots +
    ceilDiv (pages * 65536) unitBytes ≤ s.mirrorSlots) :=
  ⟨hd, 0, 16, 1, 0, ctx0, base,
    takenOf rfl, ownedOf rfl rfl, by decide +kernel, by decide +kernel, by decide +kernel, by decide +kernel, by decide +kernel, by decide +kernel,
      by decide +kernel, by decide +kernel⟩
theorem witness_PoolAndSlotCommandsComplete_1 : ∃ (h : CmdHead) (ctx slot first count : Nat) (es : List Word32) (x : Ctx) (l : Slot) (s : State),
    Taken h false s ∧ Owned h ctx x s ∧ first + count ≤ 32768 ∧ Tab.get s.slots slot = some l ∧ l.ctx = ctx ∧ (∀ e ∈ es.take count, fieldOf e.toNat 30
    24 = 0) ∧ s.journalRoom 1 = true :=
  ⟨hd, 0, 0, 32767, 1, [0x80000001], ctx0, slot0, base,
    takenOf rfl, ownedOf rfl rfl, by decide +kernel, rfl, rfl, by intro e he; simp only [List.take, List.mem_singleton] at he; subst he; decide,
      by decide +kernel⟩
theorem witness_PoolAndSlotCommandsComplete_2 : ∃ (h : CmdHead) (ctx pool : Nat) (x : Ctx) (s : State), Taken h false s ∧ Owned h ctx x s ∧ Tab.has
    x.pools pool = true ∧ (∀ t ∈ x.tensors, t.2.obj.kind = .kvView → t.2.obj.kv.pool ≠ pool) ∧ s.journalRoom 1 = true :=
  ⟨hd, 0, 7, { ctx0 with pools := [(7, { obj := ⟨1, false⟩ })] }, baseX { ctx0 with pools := [(7, { obj := ⟨1, false⟩ })] },
    takenOf rfl, ownedOf rfl rfl, by decide +kernel, by decide +kernel, by decide +kernel⟩
theorem witness_PoolAndSlotCommandsComplete_3 : ∃ (h : CmdHead) (ctx bytes n : Nat) (prompt : List Byte) (x : Ctx) (s : State), Taken h false s ∧
    Owned h ctx x s ∧ bytes ≤ 262144 ∧ lowestFree 8192 (Tab.keys s.slots) = some n ∧ s.journalRoom (1 + (promptBodies n ((prompt.take bytes).length +
    1) (prompt.take bytes)).length) = true :=
  ⟨hd, 0, 262144, 1, [], ctx0, base,
    takenOf rfl, ownedOf rfl rfl, by decide +kernel, by decide +kernel, by decide +kernel⟩
theorem witness_PoolAndSlotCommandsComplete_4 : ∃ (h : CmdHead) (ctx slot : Nat) (x : Ctx) (l : Slot) (s : State), Taken h false s ∧ Owned h ctx x s ∧
    Tab.get s.slots slot = some l ∧ l.ctx = ctx ∧ x.namesSlot slot = false ∧ s.journalRoom 1 = true :=
  ⟨hd, 0, 0, ctx0, slot0, base,
    takenOf rfl, ownedOf rfl rfl, rfl, rfl, by decide +kernel, by decide +kernel⟩
theorem witness_PoolAndSlotCommandsComplete_5 : ∃ (h : CmdHead) (ctx slot addr : Nat) (x : Ctx) (l : Slot) (s : State), Taken h false s ∧ Owned h ctx
    x s ∧ Tab.get s.slots slot = some l ∧ l.ctx = ctx :=
  ⟨hd, 0, 0, 64, ctx0, slot0, base,
    takenOf rfl, ownedOf rfl rfl, rfl, rfl⟩

/-! `QueueGroupPlanCommandsComplete` -/

theorem witness_QueueGroupPlanCommandsComplete_0 : ∃ (h : CmdHead) (ctx : Nat) (p : QueueParams) (x : Ctx) (s : State), Taken h false s ∧ Owned h ctx
    x s ∧ queueBad p = false ∧ Tab.has x.queues p.id = false ∧ s.journalRoom 1 = true ∧ (p.send = false → x.hbmHeld + x.queueBytes + p.depth *
    p.entryBytes + (x.params.stashHbm + x.params.chainArea + x.gatherHbm) * unitBytes ≤ x.params.hbmQuota * unitBytes) :=
  ⟨hd, 0, ⟨65535, true, 262143, 1024, 65536, 3⟩, ctx0, base,
    takenOf rfl, ownedOf rfl rfl, by decide +kernel, by decide +kernel, by decide +kernel, by decide +kernel⟩
theorem witness_QueueGroupPlanCommandsComplete_1 : ∃ (h : CmdHead) (ctx q : Nat) (x : Ctx) (s : State), Taken h false s ∧ Owned h ctx x s ∧ q < 2 ^ 16
    ∧ Tab.has x.queues q = true ∧ x.namedBy (fun d => (d.opcode = 0x48 || d.opcode = 0x49) && d.f 0 31 16 = q) = false ∧ s.journalRoom 1 = true :=
  ⟨hd, 0, 7, { ctx0 with queues := [(7, ⟨⟨7, true, 6, 1, 65536, 0⟩, 1, [], []⟩)] },
    baseX { ctx0 with queues := [(7, ⟨⟨7, true, 6, 1, 65536, 0⟩, 1, [], []⟩)] },
    takenOf rfl, ownedOf rfl rfl, by decide +kernel, by decide +kernel, by decide +kernel, by decide +kernel⟩
theorem witness_QueueGroupPlanCommandsComplete_2 : ∃ (h : CmdHead) (ctx g count : Nat) (l : List Nat) (x : Ctx) (s : State), Taken h false s ∧ Owned h
    ctx x s ∧ g < 2 ^ 16 ∧ 1 ≤ count ∧ count ≤ 262144 ∧ (∀ m ∈ l.take count, m < 2 ^ 18) ∧ Tab.has x.groups g = false ∧ s.membersOk (l.take count) =
    true ∧ s.overfull ((s.makeGroup ctx g (l.take count)).journalOp ctx (.xgroupCreate ctx g (l.take count))) = false :=
  ⟨hd, 0, 65535, 2, [5, 262143], ctx0, base,
    takenOf rfl, ownedOf rfl rfl, by decide +kernel, by decide +kernel, by decide +kernel, by decide +kernel, by decide +kernel, by decide +kernel,
      by decide +kernel⟩
theorem witness_QueueGroupPlanCommandsComplete_3 : ∃ (h : CmdHead) (ctx g : Nat) (x : Ctx) (s : State), Taken h false s ∧ Owned h ctx x s ∧ g < 2 ^ 16
    ∧ Tab.has x.groups g = true ∧ x.namedBy (fun d => d.namesGroup g) = false ∧ (∀ c ∈ x.colls, c.head.group ≠ g) ∧ (∀ e ∈ x.gathered, e.2.group ≠ g)
    ∧ s.journalRoom 1 = true :=
  ⟨hd, 0, 7, { ctx0 with groups := [(7, ⟨⟨[5, 6], 0⟩, [], []⟩)] }, baseX { ctx0 with groups := [(7, ⟨⟨[5, 6], 0⟩, [], []⟩)] },
    takenOf rfl, ownedOf rfl rfl, by decide +kernel, by decide +kernel, by decide +kernel, by decide +kernel, by decide +kernel, by decide +kernel⟩
theorem witness_QueueGroupPlanCommandsComplete_4 : ∃ (h : CmdHead) (ctx u : Nat) (x : Ctx) (s : State), Taken h false s ∧ Owned h ctx x s ∧ u < 2 ^ 32
    ∧ u ≤ x.params.hbmQuota ∧ x.hbmHeld + x.queueBytes + (x.params.stashHbm + x.params.chainArea + u) * unitBytes ≤ x.params.hbmQuota * unitBytes ∧
    s.journalRoom 1 = true :=
  ⟨hd, 0, 868, { ctx0 with tensors := [] }, baseX { ctx0 with tensors := [] },
    takenOf rfl, ownedOf rfl rfl, by decide +kernel, by decide +kernel, by decide +kernel, by decide +kernel⟩
theorem witness_QueueGroupPlanCommandsComplete_5 : ∃ (h : CmdHead) (ctx : Nat) (p : PlanParams) (x : Ctx) (s : State), Taken h false s ∧ Owned h ctx x
    s ∧ planBad p = false ∧ s.planInvalid x p = false ∧ Tab.has x.plans p.id = false ∧ x.refusedPlan p.id = none :=
  ⟨hd, 0, ⟨3, [5, 6], [⟨0, 2, 1⟩], 65535, 64⟩, ctx0, base,
    takenOf rfl, ownedOf rfl rfl, by decide +kernel, by decide +kernel, by decide +kernel, rfl⟩
theorem witness_QueueGroupPlanCommandsComplete_6 : ∃ (h : CmdHead) (ctx : Nat) (p : PlanParams) (x : Ctx) (s : State), ∃ b, Taken h false s ∧ Owned h
    ctx x s ∧ planBad p = false ∧ s.planInvalid x p = false ∧ Tab.has x.plans p.id = false ∧ x.refusedPlan p.id = some b :=
  ⟨hd, 0, planP, { ctx0 with waitingMsgs := [⟨5, 0, .winch (.planRefused 0 3 true)⟩] },
    baseX { ctx0 with waitingMsgs := [⟨5, 0, .winch (.planRefused 0 3 true)⟩] }, true,
    takenOf rfl, ownedOf rfl rfl, by decide +kernel, by decide +kernel, by decide +kernel, rfl⟩
theorem witness_QueueGroupPlanCommandsComplete_7 : ∃ (h : CmdHead) (ctx i : Nat) (q : Plan) (x : Ctx) (s : State), Taken h false s ∧ Owned h ctx x s ∧
    i < 2 ^ 16 ∧ Tab.get x.plans i = some q ∧ q.result.isSome = true ∧ (∀ e ∈ x.plans, e.2.params.prior = i → e.2.result.isSome = true) ∧
    s.journalRoom 1 = true :=
  ⟨hd, 0, 3, plan0 (some planR), ctxPlan (some planR), baseX (ctxPlan (some planR)),
    takenOf rfl, ownedOf rfl rfl, by decide +kernel, rfl, by decide +kernel, by decide +kernel, by decide +kernel⟩
theorem witness_QueueGroupPlanCommandsComplete_8 : ∃ (ctx i : Nat) (x : Ctx) (q : Plan) (h : CmdHead) (s : State), s.live = true ∧ s.ctx? ctx = some x
    ∧ Tab.get x.plans i = some q ∧ s.ident = some q.params.lead ∧ q.result = none ∧ s.planWaiter ctx i = some h ∧ (∃ m ∈ q.params.modules, Tab.has
    q.reports m = false) :=
  ⟨0, 3, ctxPlan none, plan0 none, hd, { waitW (.plan 0 3) with ctxs := [(0, ctxPlan none)] },
    by decide +kernel, rfl, rfl, rfl, rfl, rfl, by decide +kernel⟩

/-! `LinkCommandsComplete` -/

theorem witness_LinkCommandsComplete_0 : ∃ (h : CmdHead) (ident size : Nat) (s : State), Taken h true s ∧ 1 ≤ size ∧ size ≤ 262144 ∧ ident < size ∧
    (s.ident = some ident ∨ (s.parts = [] ∧ s.twin.state = .unpaired)) :=
  ⟨hd, 5, 262144, base,
    takenOf rfl, by decide +kernel, by decide +kernel, by decide +kernel, by decide +kernel⟩
theorem witness_LinkCommandsComplete_1 : ∃ (h : CmdHead) (n share lend : Nat) (p : Part) (s : State), Taken h true s ∧ share ≤ 64 ∧ lend ≤ 1 ∧ Tab.get
    s.parts n = some p ∧ ((s.parts.filter (fun p => p.1 != n)).map (fun p => p.2.share)).sum + share ≤ 64 ∧ s.journalRoom 1 = true :=
  ⟨hd, 0, 64, 1, part0, base,
    takenOf rfl, by decide +kernel, by decide +kernel, rfl, by decide +kernel, by decide +kernel⟩
theorem witness_LinkCommandsComplete_2 : ∃ (h : CmdHead) (i : Nat) (s : State), Taken h true s ∧ i ≤ 35 ∧ (s.port i).state = .down :=
  ⟨hd, 35, base,
    takenOf rfl, by decide +kernel, rfl⟩
theorem witness_LinkCommandsComplete_3 : ∃ (h : CmdHead) (i : Nat) (s : State), Taken h true s ∧ i ≤ 35 ∧ (s.port i).state ≠ .down :=
  ⟨hd, 35, baseP 35 { state := .inService },
    takenOf rfl, by decide +kernel, by decide +kernel⟩
theorem witness_LinkCommandsComplete_4 : ∃ (h : CmdHead) (c : Nat) (s : State), Taken h true s ∧ c ≤ 3 :=
  ⟨hd, 3, base,
    takenOf rfl, by decide +kernel⟩

/-! `TwinCommandsComplete` -/

theorem witness_TwinCommandsComplete_0 : ∃ (h : CmdHead) (ident : Nat) (s : State), Taken h true s ∧ ident < 2 ^ 18 ∧ s.twin.state = .unpaired :=
  ⟨hd, 262143, base,
    takenOf rfl, by decide +kernel, rfl⟩
theorem witness_TwinCommandsComplete_1 : ∃ (h : CmdHead) (discard : Nat) (s : State), Taken h true s ∧ discard ≤ 1 ∧ s.twin.state ≠ .restoring ∧
    s.overfull (s.unpair (discard = 1)) = false :=
  ⟨hd, 1, base,
    takenOf rfl, by decide +kernel, by decide +kernel, by decide +kernel⟩
theorem witness_TwinCommandsComplete_2 : ∃ (h : CmdHead) (s : State), Taken h true s ∧ s.twin.state = .twinLost ∧ s.overfull (s.ctxs.foldl (fun a c =>
    a.endCommits c.1 0x12) (s.setTwin .solo)) = false :=
  ⟨hd, { base with twin := { state := .twinLost } },
    takenOf rfl, rfl, by decide +kernel⟩
theorem witness_TwinCommandsComplete_3 : ∃ (h : CmdHead) (survivor me : Nat) (s : State), Taken h true s ∧ survivor < 2 ^ 18 ∧ s.jr.own = [] ∧ s.parts
    = [] ∧ s.twin.state = .unpaired ∧ 0 < s.tetherUp ∧ s.ident = some me :=
  ⟨hd, 262143, 5, { baseP 35 { state := .inService } with parts := [] },
    takenOf rfl, by decide +kernel, rfl, rfl, rfl, by decide +kernel, rfl⟩
theorem witness_TwinCommandsComplete_4 : ∃ (h : CmdHead) (survivor : Nat) (s : State), Taken h true s ∧ survivor < 2 ^ 18 ∧ (s.jr.own ≠ [] ∨ s.parts ≠
    []) :=
  ⟨hd, 262143, base,
    takenOf rfl, by decide +kernel, by decide +kernel⟩

/-! `JobCommandsComplete` -/

theorem witness_JobCommandsComplete_0 : ∃ (h : CmdHead) (ctx commit : Nat) (x : Ctx) (k : Kept) (s : State), Taken h false s ∧ Owned h ctx x s ∧
    commit < 2 ^ 64 ∧ x.kept.find? (fun k => k.id = commit) = some k ∧ s.twin.state = .paired ∧ s.overfull (((s.journal 0xFFFF ctx 0 [.rollback
    k.id]).returnTo ctx x k).refresh ctx) = false :=
  ⟨hd, 0, 9, { ctx0 with kept := [kept9] }, kept9, { baseT with ctxs := [(0, { ctx0 with kept := [kept9] })] },
    takenOf rfl, ownedOf rfl rfl, by decide +kernel, rfl, rfl, by decide +kernel⟩
theorem witness_JobCommandsComplete_1 : ∃ (h : CmdHead) (ctx commit : Nat) (x : Ctx) (k : Kept) (s : State), Taken h false s ∧ Owned h ctx x s ∧
    commit < 2 ^ 64 ∧ x.kept.find? (fun k => k.id = commit) = some k ∧ s.journalRoom 1 = true :=
  ⟨hd, 0, 9, { ctx0 with kept := [kept9] }, kept9, baseX { ctx0 with kept := [kept9] },
    takenOf rfl, ownedOf rfl rfl, by decide +kernel, rfl, by decide +kernel⟩
theorem witness_JobCommandsComplete_2 : ∃ (h : CmdHead) (ctx : Nat) (x : Ctx) (s : State), Taken h false s ∧ Owned h ctx x s :=
  ⟨hd, 0, ctx0, base,
    takenOf rfl, ownedOf rfl rfl⟩
theorem witness_JobCommandsComplete_3 : ∃ (h : CmdHead) (g : Nat) (r : Ring) (x : Ctx) (s : State), Taken h false s ∧ Tab.get s.rings g = some r ∧
    Owned h r.params.ctx x s :=
  ⟨hd, 0, ring0, ctx0, base,
    takenOf rfl, rfl, ownedOf rfl rfl⟩

/-! `SystemCommandsComplete` -/

theorem witness_SystemCommandsComplete_0 : ∃ (h : CmdHead) (addr len : Nat) (image : List Byte) (s : State), Taken h true s ∧ len ≤ 67108864 ∧ addr <
    2 ^ 64 :=
  ⟨hd, 2 ^ 64 - 1, 67108864, [], base,
    takenOf rfl, by decide +kernel, by decide +kernel⟩
theorem witness_SystemCommandsComplete_1 : ∃ (h : CmdHead) (addr len : Nat) (s : State), Taken h true s ∧ len ≤ 67108864 ∧ addr < 2 ^ 64 :=
  ⟨hd, 2 ^ 64 - 1, 67108864, base,
    takenOf rfl, by decide +kernel, by decide +kernel⟩
theorem witness_SystemCommandsComplete_2 : ∃ (h : CmdHead) (s : State), Taken h true s :=
  ⟨hd, base,
    takenOf rfl⟩
theorem witness_SystemCommandsComplete_3 : ∃ (h : CmdHead) (discard : Nat) (s : State), Taken h false s ∧ discard ≤ 1 ∧ (s.fn h.fn).hold = [] :=
  ⟨hd, 1, base,
    takenOf rfl, by decide +kernel, rfl⟩
theorem witness_SystemCommandsComplete_4 : ∃ (h : CmdHead) (s : State), Taken h false s ∧ (s.fn h.fn).hold ≠ [] :=
  ⟨hd, { base with funs := [(0, { fn0 with hold := [.write 0 64 [1]] })] },
    takenOf rfl, by decide +kernel⟩
theorem witness_SystemCommandsComplete_5 : ∃ (h : CmdHead) (s : State), Taken h false s ∧ (s.fn h.fn).hold ≠ [] :=
  ⟨hd, { base with funs := [(0, { fn0 with hold := [.write 0 64 [1]] })] },
    takenOf rfl, by decide +kernel⟩
theorem witness_SystemCommandsComplete_6 : ∃ (h : CmdHead) (addr : Nat) (s : State), Taken h false s ∧ addr < 2 ^ 64 :=
  ⟨hd, 2 ^ 64 - 1, base,
    takenOf rfl, by decide +kernel⟩
theorem witness_SystemCommandsComplete_7 : ∃ (h : CmdHead) (nonce : List Byte) (scope ctx addr : Nat) (s : State), Taken h false s ∧ addr % 64 = 0 ∧
    addr < 2 ^ 64 ∧ (scope = 0 ∨ (scope = 1 ∧ ∃ x, Owned h ctx x s)) :=
  ⟨hd, [], 1, 0, 64, base,
    takenOf rfl, by decide +kernel, by decide +kernel, .inr ⟨rfl, ctx0, ownedOf rfl rfl⟩⟩
theorem witness_SystemCommandsComplete_8 : ∃ (h : CmdHead) (addr : Nat) (s : State), Taken h true s ∧ addr < 2 ^ 64 :=
  ⟨hd, 0, base,
    takenOf rfl, by decide +kernel⟩

/-! `FunctionRegisterRowsComplete` -/

theorem witness_FunctionRegisterRowsComplete_0 : ∃ (fn : Nat) (v : Word32) (s : State), fn ≤ 62 ∧ s.live = true ∧ (s.fn fn).mbox.enable = false ∧
    bitOf v.toNat 31 = true ∧ 4 ≤ fieldOf v.toNat 3 0 ∧ fieldOf v.toNat 3 0 ≤ 10 ∧ vectorOk fn (fieldOf v.toNat 26 16) = true :=
  ⟨62, 0x801F000A, base,
    by decide +kernel, by decide +kernel, by decide +kernel, by decide +kernel, by decide +kernel, by decide +kernel, by decide +kernel⟩
theorem witness_FunctionRegisterRowsComplete_1 : ∃ (fn : Nat) (v : Word32) (s : State), fn ≤ 62 ∧ s.live = true ∧ (s.fn fn).evq.enable = false ∧ bitOf
    v.toNat 31 = true ∧ 4 ≤ fieldOf v.toNat 3 0 ∧ fieldOf v.toNat 3 0 ≤ 12 ∧ vectorOk fn (fieldOf v.toNat 26 16) = true :=
  ⟨62, 0x801F000C, base,
    by decide +kernel, by decide +kernel, by decide +kernel, by decide +kernel, by decide +kernel, by decide +kernel, by decide +kernel⟩
theorem witness_FunctionRegisterRowsComplete_2 : ∃ (fn : Nat) (v : Word32) (s : State), fn ≤ 62 ∧ s.live = true ∧ ((s.fn fn).mbox.badBlock = none ∨
    (s.fn fn).mbox.badBlock ≠ some (s.fn fn).mbox.head) :=
  ⟨62, 0x801F000A, base,
    by decide +kernel, by decide +kernel, by decide +kernel⟩
theorem witness_FunctionRegisterRowsComplete_3 : ∃ (fn : Nat) (v : Word32) (s : State), fn ≤ 62 ∧ s.live = true ∧ (s.fn fn).mbox.enable = true ∧ (s.fn
    fn).mbox.badBlock = none ∧ (s.fn fn).mbox.waiting = none ∧ (s.fn fn).mbox.head = (s.fn fn).mbox.tail ∧ fieldOf v.toNat 9 0 % 2 ^ (s.fn
    fn).mbox.logDepth ≠ (s.fn fn).mbox.tail :=
  ⟨0, 0x801F000A, { base with funs := [(0, { fn0 with mbox := { mb with tail := 0 } })] },
    by decide +kernel, by decide +kernel, by decide +kernel, rfl, rfl, rfl, by decide +kernel⟩
theorem witness_FunctionRegisterRowsComplete_4 : ∃ (fn g tail : Nat) (r : Ring) (s : State), fn ≤ 62 ∧ s.live = true ∧ Tab.get s.rings g = some r ∧
    s.ownerOf r.params.ctx = fn ∧ r.accepted < tail ∧ tail < 2 ^ 64 :=
  ⟨0, 0, 2 ^ 64 - 1, ring0, base,
    by decide +kernel, by decide +kernel, rfl, rfl, by decide +kernel, by decide +kernel⟩
theorem witness_FunctionRegisterRowsComplete_5 : ∃ (fn g width tail : Nat) (s : State), fn ≤ 62 ∧ s.live = true ∧ (Tab.get s.rings g = none ∨ (∃ r,
    Tab.get s.rings g = some r ∧ (width ≠ 8 ∨ s.ownerOf r.params.ctx ≠ fn))) :=
  ⟨62, 16383, 8, 0, base,
    by decide +kernel, by decide +kernel, by decide +kernel⟩

/-! `ModuleRegisterRowsComplete` -/

theorem witness_ModuleRegisterRowsComplete_0 : ∃ (fn : Nat) (s : State), fn ≤ 62 ∧ s.live = true :=
  ⟨62, base,
    by decide +kernel, by decide +kernel⟩
theorem witness_ModuleRegisterRowsComplete_1 : ∃ (v : Word32) (s : State), s.boot.powered = true ∧ (s.live = true ∨ s.errs.halted = true) ∧ bitOf
    v.toNat 0 = true :=
  ⟨1, base,
    by decide +kernel, by decide +kernel, by decide +kernel⟩
theorem witness_ModuleRegisterRowsComplete_3 : ∃ (s : State), s.boot.powered = true ∧ (s.live = true ∨ s.errs.halted = true) :=
  ⟨base,
    by decide +kernel, by decide +kernel⟩
theorem witness_ModuleRegisterRowsComplete_4 : ∃ (fn : Nat) (s : State), 1 ≤ fn ∧ fn ≤ 62 ∧ s.boot.powered = true :=
  ⟨62, base,
    by decide +kernel, by decide +kernel, by decide +kernel⟩
theorem witness_ModuleRegisterRowsComplete_5 : ∃ (v : Word32) (s : State), s.live = true ∧ s.telem.enable = false ∧ bitOf v.toNat 31 = true ∧ 2 ≤
    fieldOf v.toNat 3 0 ∧ fieldOf v.toNat 3 0 ≤ 10 ∧ fieldOf v.toNat 26 16 < 64 :=
  ⟨0x803F000A, base,
    by decide +kernel, by decide +kernel, by decide +kernel, by decide +kernel, by decide +kernel, by decide +kernel⟩
theorem witness_ModuleRegisterRowsComplete_6 : ∃ (v : Word32) (s : State), s.live = true ∧ s.telem.enable = false ∧ 1 ≤ fieldOf v.toNat 13 0 ∧ fieldOf
    v.toNat 13 0 ≤ 10000 :=
  ⟨10000, base,
    by decide +kernel, by decide +kernel, by decide +kernel, by decide +kernel⟩
theorem witness_ModuleRegisterRowsComplete_7 : ∃ (v : Word32) (s : State), s.live = true :=
  ⟨0x3FF, base,
    by decide +kernel⟩

/-! `RegisterWriteCompletes` -/

theorem witness_RegisterWriteCompletes_0 : ∃ (v : Nat) (s : State), s.live = true :=
  ⟨0, base,
    by decide +kernel⟩
theorem witness_RegisterWriteCompletes_1 : ∃ (v : Nat) (s : State), s.live = true :=
  ⟨0, base,
    by decide +kernel⟩
theorem witness_RegisterWriteCompletes_2 : ∃ (v : Nat) (s : State), s.live = true ∧ s.telem.enable = false :=
  ⟨0, base,
    by decide +kernel, by decide +kernel⟩
theorem witness_RegisterWriteCompletes_3 : ∃ (fn v : Nat) (s : State), fn ≤ 62 ∧ s.live = true ∧ (s.fn fn).mbox.enable = false :=
  ⟨62, 0, base,
    by decide +kernel, by decide +kernel, by decide +kernel⟩
theorem witness_RegisterWriteCompletes_4 : ∃ (fn v : Nat) (s : State), fn ≤ 62 ∧ s.live = true :=
  ⟨62, 0, base,
    by decide +kernel, by decide +kernel⟩
theorem witness_RegisterWriteCompletes_5 : ∃ (fn off v : Nat) (s : State), fn ≤ 62 ∧ off < 67108864 ∧ off % 8 = 0 ∧ doorbellAt off = none :=
  ⟨62, 67108856, 0, base,
    by decide +kernel, by decide +kernel, by decide +kernel, rfl⟩
theorem witness_RegisterWriteCompletes_6 : ∃ (fn off width v : Nat) (s : State), fn ≤ 62 ∧ ((width ≠ 4 ∧ width ≠ 8) ∨ off % width ≠ 0 ∨ 67108864 ≤ off
    ∨ s.boot.powered = false ∨ (1 ≤ fn ∧ isModuleOff off = true ∧ width = 4)) :=
  ⟨62, 0x110, 4, 0, base,
    by decide +kernel, by decide +kernel⟩

/-! `Bar2RowsComplete` -/

theorem witness_Bar2RowsComplete_0 : ∃ (fn off len : Nat) (s : State), fn ≤ 62 ∧ s.live = true ∧ len ≤ 512 :=
  ⟨62, 2 ^ 36 - 1, 512, base,
    by decide +kernel, by decide +kernel, by decide +kernel⟩
theorem witness_Bar2RowsComplete_1 : ∃ (fn off ctx : Nat) (bytes : List Byte) (m : Nat × Mapping) (x : Ctx) (k : Tensor) (s : State), fn ≤ 62 ∧ s.live
    = true ∧ bytes.length ≤ 512 ∧ (∀ i < bytes.length, (s.fn fn).mapAt (off + i) = some m) ∧ m.2.ctx = ctx ∧ s.ctx? ctx = some x ∧ x.tensor?
    m.2.handle = some k ∧ off + bytes.length ≤ m.1 + k.obj.bytes ∧ m.1 ≤ off ∧ m.2.size = k.obj.bytes :=
  ⟨0, 3, 0, [0xFF], (0, ⟨0, 1, 4, []⟩), ctx0, tens .fp32 [1], { base with funs := [(0, { fn0 with maps := [(0, ⟨0, 1, 4, []⟩)] })] },
    by decide +kernel, by decide +kernel, by decide +kernel, by decide +kernel, rfl, rfl, rfl, by decide +kernel, by decide +kernel, rfl⟩

/-! `WakeAndSleepRowsComplete` -/

theorem witness_WakeAndSleepRowsComplete_0 : ∃ (d : Nat) (s : State), d < 10 ∧ (s.die d).state = .ramping :=
  ⟨9, { base with dies := [(9, { state := .ramping })] },
    by decide +kernel, rfl⟩
theorem witness_WakeAndSleepRowsComplete_1 : ∃ (d : Nat) (s : State), d < 10 ∧ (s.die d).state = .waking :=
  ⟨9, { base with dies := [(9, { state := .waking })] },
    by decide +kernel, rfl⟩
theorem witness_WakeAndSleepRowsComplete_2 : ∃ (c : Nat) (s : State), c < 80 ∧ (s.cluster c).state = .waking ∧ (s.die (c / 8)).state = .run :=
  ⟨79, { base with dies := [(9, { state := .run })], clusters := [(79, { state := .waking })] },
    by decide +kernel, rfl, rfl⟩
theorem witness_WakeAndSleepRowsComplete_3 : ∃ (c : Nat) (s : State), c < 80 ∧ (s.cluster c).state = .run ∧ s.keptAwake (c / 8) = false ∧ 0 < fieldOf
    (s.power.policyAt (s.cluster c).idleSince) 7 0 ∧ (s.cluster c).idleSince + 100000 * fieldOf (s.power.policyAt (s.cluster c).idleSince) 7 0 ≤
    s.time.now ∧ (∀ i < 4, s.tileBusy (4 * c + i) = false) :=
  ⟨79, { base with clusters := [(79, { state := .run })], time := { now := 1000000 } },
    by decide +kernel, rfl, by decide +kernel, by decide +kernel, by decide +kernel, by decide +kernel⟩
theorem witness_WakeAndSleepRowsComplete_4 : ∃ (d : Nat) (s : State), d < 10 ∧ (s.die d).state = .run ∧ s.keptAwake d = false ∧ 0 < fieldOf
    (s.power.policyAt (s.die d).idleSince) 15 8 ∧ (s.die d).idleSince + 1000000 * fieldOf (s.power.policyAt (s.die d).idleSince) 15 8 ≤ s.time.now ∧
    (∀ i < 8, (s.cluster (8 * d + i)).state = .sleep) ∧ s.poolDirty d = false :=
  ⟨9, { base with dies := [(9, { state := .run })], time := { now := 10000000 } },
    by decide +kernel, rfl, by decide +kernel, by decide +kernel, by decide +kernel, by decide +kernel, by decide +kernel⟩
theorem witness_WakeAndSleepRowsComplete_5 : ∃ (d : Nat) (s : State), d < 10 ∧ (s.die d).state = .nap ∧ s.keptAwake d = false ∧ 0 < fieldOf
    (s.power.policyAt (s.die d).idleSince) 23 16 ∧ (s.die d).idleSince + 100000000 * fieldOf (s.power.policyAt (s.die d).idleSince) 23 16 ≤ s.time.now
    :=
  ⟨9, { base with dies := [(9, { state := .nap })], time := { now := 1000000000 } },
    by decide +kernel, rfl, by decide +kernel, by decide +kernel, by decide +kernel⟩
theorem witness_WakeAndSleepRowsComplete_6 : ∃ (i e : Nat) (s : State), i < 320 ∧ e < 3 ∧ ((s.tile i).engine e).current = none ∧ ((s.tile i).engine
    e).starting = false :=
  ⟨319, 2, base,
    by decide +kernel, by decide +kernel, rfl, by decide +kernel⟩
theorem witness_WakeAndSleepRowsComplete_7 : ∃ (i e : Nat) (s : State), i < 320 ∧ e < 3 ∧ ((s.tile i).engine e).starting = true ∧
    s.recentStarts.length < 16 ∧ s.firstStarter i e = true :=
  ⟨319, 2, { base with tiles := [(319, { engines := [(2, { starting := true })] })] },
    by decide +kernel, by decide +kernel, by decide +kernel, by decide +kernel, by decide +kernel⟩

/-! `GovernorRowsComplete` -/

theorem witness_GovernorRowsComplete_0 : ∃ (r : Sensors) (s : State), s.boot.powered = true :=
  ⟨⟨700, 5400, [], []⟩, base,
    by decide +kernel⟩
theorem witness_GovernorRowsComplete_1 : ∃ (s : State), s.boot.powered = true :=
  ⟨base,
    by decide +kernel⟩
theorem witness_GovernorRowsComplete_2 : ∃ (s : State), s.boot.powered = true :=
  ⟨base,
    by decide +kernel⟩
theorem witness_GovernorRowsComplete_3 : ∃ (s : State), s.boot.powered = true :=
  ⟨base,
    by decide +kernel⟩

/-! `ThermalShutdownHalts` -/

theorem witness_ThermalShutdownHalts_0 : ∃ (r : Sensors) (s : State), s.boot.powered = true ∧ s.errs.halted = false ∧ (115 ≤ maxTemp r.dieTemps ∨ 100
    ≤ maxTemp r.stackTemps) :=
  ⟨⟨700, 5400, [115], []⟩, base,
    by decide +kernel, by decide +kernel, by decide +kernel⟩

/-! `LogbookAndTelemetryRowsComplete` -/

theorem witness_LogbookAndTelemetryRowsComplete_0 : ∃ (s : State), s.boot.powered = true :=
  ⟨base,
    by decide +kernel⟩
theorem witness_LogbookAndTelemetryRowsComplete_1 : ∃ (s : State), s.boot.powered = true :=
  ⟨base,
    by decide +kernel⟩
theorem witness_LogbookAndTelemetryRowsComplete_2 : ∃ (s : State), s.boot.powered = true :=
  ⟨base,
    by decide +kernel⟩
theorem witness_LogbookAndTelemetryRowsComplete_3 : ∃ (start : Nat) (s : State), s.live = true ∧ s.telem.start = some start ∧ 0 < s.telem.period ∧
    s.windowEnd start ≤ s.time.now :=
  ⟨0, { base with telem := { enable := true, start := some 0, logDepth := 4 }, time := { now := 1000000 } },
    by decide +kernel, rfl, by decide +kernel, by decide +kernel⟩

/-! `PowerAndResetRowsComplete` -/

theorem witness_PowerAndResetRowsComplete_0 : ∃ (vin micros : Nat) (s : State), s.boot.powered = true ∧ (vin < 4500 ∨ 6300 < vin) ∧ 50 ≤ micros :=
  ⟨4499, 50, base,
    by decide +kernel, by decide +kernel, by decide +kernel⟩
theorem witness_PowerAndResetRowsComplete_1 : ∃ (s : State), s.boot.powered = false :=
  ⟨{ base with boot := { powered := false } },
    by decide +kernel⟩
theorem witness_PowerAndResetRowsComplete_2 : ∃ (s : State), s.boot.powered = true ∧ s.boot.resetDue = true ∧ s.errs.halted = false :=
  ⟨{ base with boot := { stage := .ready, resetDue := true } },
    by decide +kernel, by decide +kernel, by decide +kernel⟩

/-! `FunctionRowsComplete` -/

theorem witness_FunctionRowsComplete_0 : ∃ (fn : Nat) (s : State), fn ≤ 62 ∧ s.boot.powered = true ∧ (s.fn fn).avail = true :=
  ⟨0, base,
    by decide +kernel, by decide +kernel, by decide +kernel⟩
theorem witness_FunctionRowsComplete_1 : ∃ (fn : Nat) (s : State), fn ≤ 62 ∧ s.boot.powered = true :=
  ⟨62, base,
    by decide +kernel, by decide +kernel⟩
theorem witness_FunctionRowsComplete_2 : ∃ (fn : Nat) (s : State), 1 ≤ fn ∧ fn ≤ 62 ∧ s.boot.powered = true :=
  ⟨62, base,
    by decide +kernel, by decide +kernel, by decide +kernel⟩
theorem witness_FunctionRowsComplete_3 : ∃ (s : State), s.boot.powered = true :=
  ⟨base,
    by decide +kernel⟩
theorem witness_FunctionRowsComplete_4 : ∃ (s : State), s.boot.powered = true :=
  ⟨base,
    by decide +kernel⟩

/-! `BootRowsComplete` -/

theorem witness_BootRowsComplete_0 : ∃ (s : State), s.boot.powered = true ∧ s.errs.halted = false ∧ s.boot.stage = .rom :=
  ⟨State.reset,
    by decide +kernel, by decide +kernel, rfl⟩
theorem witness_BootRowsComplete_1 : ∃ (s : State), s.boot.powered = true ∧ s.errs.halted = false ∧ s.boot.stage = .verify ∧ bodyOk s.flashImage =
    true :=
  ⟨{ base with boot := { stage := .verify }, flash := flashV },
    by decide +kernel, by decide +kernel, rfl, by decide +kernel⟩
theorem witness_BootRowsComplete_2 : ∃ (s : State), s.boot.powered = true ∧ s.errs.halted = false ∧ s.boot.stage = .verify ∧ bodyOk s.flashImage =
    false :=
  ⟨{ base with boot := { stage := .verify } },
    by decide +kernel, by decide +kernel, rfl, by decide +kernel⟩
theorem witness_BootRowsComplete_3 : ∃ (r : Running) (s : State), s.boot.running = some r ∧ s.boot.powered = true ∧ s.errs.halted = false ∧
    s.boot.stage = .firmwareStart :=
  ⟨⟨1, 1, [], false, false, false, []⟩, { base with boot := { stage := .firmwareStart, running := some ⟨1, 1, [], false, false, false, []⟩ } },
    rfl, by decide +kernel, by decide +kernel, rfl⟩

/-! `RecoveryRowsComplete` -/

theorem witness_RecoveryRowsComplete_0 : ∃ (v : Word32) (s : State), s.boot.powered = true ∧ s.errs.halted = false ∧ s.boot.stage = .recovery ∧ bitOf
    v.toNat 0 = true ∧ s.boot.recSource = none :=
  ⟨1, { base with boot := { stage := .recovery, recBusy := true } },
    by decide +kernel, by decide +kernel, rfl, by decide +kernel, rfl⟩
theorem witness_RecoveryRowsComplete_1 : ∃ (src : RecSource) (hd : List Byte) (s : State), s.boot.powered = true ∧ s.errs.halted = false ∧
    s.boot.stage = .recovery ∧ s.boot.recSource = none ∧ s.offered src = true :=
  ⟨.host, [], { base with boot := { stage := .recovery, recBusy := true } },
    by decide +kernel, by decide +kernel, rfl, rfl, by decide +kernel⟩
theorem witness_RecoveryRowsComplete_2 : ∃ (src : RecSource) (body img : List Byte) (s : State), s.boot.powered = true ∧ s.errs.halted = false ∧
    s.boot.stage = .recovery ∧ s.boot.recSource = some src ∧ img = (s.boot.recHeader ++ body.drop 4096).take (fieldAt s.boot.recHeader 0x14 4) :=
  ⟨.host, [], [], { base with boot := { stage := .recovery, recSource := some .host } },
    by decide +kernel, by decide +kernel, rfl, rfl, rfl⟩
theorem witness_RecoveryRowsComplete_3 : ∃ (ident : Nat) (r : Running) (s : State), s.live = true ∧ s.boot.running = some r ∧ (s.twin.twinId = some
    ident ∨ (s.twin.holdsPartner = true ∧ s.twin.partnerOf = some ident)) :=
  ⟨6, ⟨1, 1, [], false, false, false, []⟩, { baseT with boot := { stage := .ready, running := some ⟨1, 1, [], false, false, false, []⟩ } },
    by decide +kernel, rfl, by decide +kernel⟩

/-! `TrainingRowsComplete` -/

theorem witness_TrainingRowsComplete_0 : ∃ (i : Nat) (s : State), i < 36 ∧ (s.port i).state = .training ∧ (s.port i).step = 1 :=
  ⟨35, baseP 35 { state := .training, step := 1 },
    by decide +kernel, rfl, rfl⟩
theorem witness_TrainingRowsComplete_1 : ∃ (i : Nat) (s : State), i < 36 ∧ (s.port i).state = .down :=
  ⟨35, baseP 35 { },
    by decide +kernel, rfl⟩
theorem witness_TrainingRowsComplete_2 : ∃ (i : Nat) (s : State), i < 36 ∧ (s.port i).state = .inService :=
  ⟨35, baseP 35 { state := .inService },
    by decide +kernel, rfl⟩
theorem witness_TrainingRowsComplete_3 : ∃ (i : Nat) (s : State), i < 36 ∧ (s.port i).state = .training :=
  ⟨35, baseP 35 { state := .training, step := 1 },
    by decide +kernel, rfl⟩
theorem witness_TrainingRowsComplete_4 : ∃ (i : Nat) (s : State), i < 36 ∧ (s.port i).state = .training ∧ (s.port i).step = 2 :=
  ⟨35, baseP 35 { state := .training, step := 2 },
    by decide +kernel, rfl, rfl⟩
theorem witness_TrainingRowsComplete_5 : ∃ (i : Nat) (s : State), i < 36 ∧ (s.port i).state = .training ∧ (s.port i).step = 3 :=
  ⟨35, baseP 35 { state := .training, step := 3 },
    by decide +kernel, rfl, rfl⟩
theorem witness_TrainingRowsComplete_6 : ∃ (i : Nat) (s : State), i < 36 ∧ (s.port i).state = .training :=
  ⟨35, baseP 35 { state := .training, step := 1 },
    by decide +kernel, rfl⟩
theorem witness_TrainingRowsComplete_7 : ∃ (i : Nat) (s : State), i < 36 ∧ (s.port i).state = .training :=
  ⟨35, baseP 35 { state := .training, step := 1 },
    by decide +kernel, rfl⟩
theorem witness_TrainingRowsComplete_8 : ∃ (i : Nat) (s : State), i < 36 ∧ ((s.port i).state = .down ∨ (s.port i).state = .refused) ∧ s.mayTrain i =
    true :=
  ⟨35, baseP 35 { state := .refused },
    by decide +kernel, by decide +kernel, by decide +kernel⟩
theorem witness_TrainingRowsComplete_9 : ∃ (i : Nat) (f : TrainFlit) (s : State), ∃ c, i < 36 ∧ (s.port i).state = .training ∧ (s.port i).step = 4 ∧
    s.refusal i f = some c :=
  ⟨35, train6 6 0x0B 35, baseP 35 { state := .training, step := 4 }, _,
    by decide +kernel, rfl, rfl, rfl⟩
theorem witness_TrainingRowsComplete_10 : ∃ (i : Nat) (f : TrainFlit) (s : State), i < 36 ∧ (s.port i).state = .training ∧ (s.port i).step = 4 ∧
    s.refusal i f = none :=
  ⟨35, train6 6 0x0A 35, baseP 35 { state := .training, step := 4 },
    by decide +kernel, rfl, rfl, by decide +kernel⟩
theorem witness_TrainingRowsComplete_11 : ∃ (i : Nat) (t1 t2 t3 : Int) (s : State), i < 36 ∧ (s.port i).state = .training ∧ (s.port i).step = 5 ∧
    (s.port i).syncT1 = some t1 :=
  ⟨35, 0, 1, 2, baseP 35 { state := .training, step := 5, syncT1 := some 0 },
    by decide +kernel, rfl, rfl, rfl⟩

/-! `LinkLayerRowsComplete` -/

theorem witness_LinkLayerRowsComplete_0 : ∃ (i : Nat) (g : FecGroup) (s : State), i < 36 ∧ (s.port i).state = .inService :=
  ⟨35, okG, baseP 35 { state := .inService },
    by decide +kernel, rfl⟩
theorem witness_LinkLayerRowsComplete_1 : ∃ (i : Nat) (s : State), i < 36 ∧ (s.port i).state = .inService ∧ (s.port i).rxPending = true :=
  ⟨35, baseP 35 { state := .inService, rxPending := true },
    by decide +kernel, rfl, by decide +kernel⟩
theorem witness_LinkLayerRowsComplete_2 : ∃ (i : Nat) (s : State), i < 36 ∧ (s.port i).state = .inService ∧ 16 ≤ (s.port i).sinceAck :=
  ⟨35, baseP 35 { state := .inService, sinceAck := 16 },
    by decide +kernel, rfl, by decide +kernel⟩
theorem witness_LinkLayerRowsComplete_3 : ∃ (i g : Nat) (s : State), i < 36 ∧ (s.port i).state = .inService ∧ (s.cart (portCart i)).releasing = false
    :=
  ⟨35, 0, baseP 35 { state := .inService },
    by decide +kernel, rfl, by decide +kernel⟩
theorem witness_LinkLayerRowsComplete_4 : ∃ (i g : Nat) (s : State), i < 36 ∧ (s.port i).state = .inService ∧ ((s.port i).lastNak ≠ some g ∨ (s.port
    i).nakRun < 7) :=
  ⟨35, 0, baseP 35 { state := .inService, nakRun := 6, lastNak := some 0 },
    by decide +kernel, rfl, by decide +kernel⟩
theorem witness_LinkLayerRowsComplete_5 : ∃ (i n : Nat) (g : FecGroup) (s : State), i < 36 ∧ (s.port i).state = .inService ∧ (s.port i).rxPending =
    true ∧ (s.port i).rxGroup = n ∧ g.isReplay = true :=
  ⟨35, 0, replayG, baseP 35 { state := .inService, rxPending := true },
    by decide +kernel, rfl, by decide +kernel, rfl, by decide +kernel⟩
theorem witness_LinkLayerRowsComplete_6 : ∃ (i : Nat) (counts : List Nat) (s : State), i < 36 ∧ (s.port i).state = .inService :=
  ⟨35, [1], baseP 35 { state := .inService },
    by decide +kernel, rfl⟩
theorem witness_LinkLayerRowsComplete_7 : ∃ (i : Nat) (s : State), i < 36 ∧ (s.port i).state = .inService :=
  ⟨35, baseP 35 { state := .inService },
    by decide +kernel, rfl⟩
theorem witness_LinkLayerRowsComplete_8 : ∃ (i : Nat) (p : Packet) (s : State), i < 36 ∧ (s.port i).state = .inService ∧ (s.port i).rxPending = false
    ∧ s.ident = some p.dest ∧ typeOnVc p.msgType p.vc = true ∧ p.msgType = p.msg.typeCode ∧ s.net.holds p = false :=
  ⟨35, pkt 5 0 (.winch .unpaired) 0x08 1, baseP 35 { state := .inService },
    by decide +kernel, rfl, by decide +kernel, rfl, by decide +kernel, rfl, by decide +kernel⟩
theorem witness_LinkLayerRowsComplete_9 : ∃ (i : Nat) (p : Packet) (s : State), i < 36 ∧ (s.port i).state = .inService ∧ (s.port i).rxPending = false
    ∧ s.ident = some p.dest ∧ typeOnVc p.msgType p.vc = true ∧ p.msgType = p.msg.typeCode ∧ s.net.holds p = true :=
  ⟨35, pkt 5 0 (.winch .unpaired) 0x08 1,
    { baseP 35 { state := .inService } with net := { base.net with partials := [⟨6, 1, 0, 32, [(0, 32)], 35, .winch .unpaired, [], []⟩] } },
    by decide +kernel, rfl, by decide +kernel, rfl, by decide +kernel, rfl, by decide +kernel⟩
theorem witness_LinkLayerRowsComplete_10 : ∃ (i : Nat) (p : Packet) (s : State), i < 36 ∧ (s.port i).state = .inService ∧ (s.port i).rxPending = false
    ∧ (s.ident ≠ some p.dest ∨ typeOnVc p.msgType p.vc = false) :=
  ⟨35, pkt 6 0 (.winch .unpaired) 0x08 1, baseP 35 { state := .inService },
    by decide +kernel, rfl, by decide +kernel, by decide +kernel⟩
theorem witness_LinkLayerRowsComplete_11 : ∃ (i : Nat) (s : State), ∃ g, i < 36 ∧ (s.port i).state = .inService ∧ (s.port i).replayDue = some g :=
  ⟨35, baseP 35 { state := .inService, replayDue := some 4 }, 4,
    by decide +kernel, rfl, rfl⟩
theorem witness_LinkLayerRowsComplete_12 : ∃ (i : Nat) (s : State), ∃ g slots, i < 36 ∧ (s.port i).state = .inService ∧ (s.port i).replayDue = none ∧
    (s.port i).replayNext = some g ∧ (s.port i).kept.find? (fun k => k.1 = g) = some (g, slots) :=
  ⟨35, baseP 35 { state := .inService, replayNext := some 4, kept := [(4, [.idle])] }, 4, [.idle],
    by decide +kernel, rfl, rfl, rfl, rfl⟩
theorem witness_LinkLayerRowsComplete_13 : ∃ (i : Nat) (s : State), i < 36 ∧ (s.port i).state = .inService ∧ (s.port i).replayDue = none ∧ (s.port
    i).replayNext = none ∧ groupDist (s.port i).txAcked (s.port i).txGroup < 511 :=
  ⟨35, baseP 35 { state := .inService, rxPending := true },
    by decide +kernel, rfl, rfl, rfl, by decide +kernel⟩

/-! `FabricTimeRowsComplete` -/

theorem witness_FabricTimeRowsComplete_0 : ∃ (i : Nat) (f : SyncFlit) (s : State), i < 36 ∧ (s.port i).state = .inService :=
  ⟨35, ⟨0, none, 1, 0, true⟩, baseP 35 { state := .inService },
    by decide +kernel, rfl⟩
theorem witness_FabricTimeRowsComplete_1 : ∃ (i : Nat) (t1 t2 t3 : Int) (s : State), i < 36 ∧ (s.port i).state = .inService ∧ (s.port i).syncT1 = some
    t1 :=
  ⟨35, 0, 1, 2, baseP 35 { state := .inService, syncT1 := some 0 },
    by decide +kernel, rfl, rfl⟩
theorem witness_FabricTimeRowsComplete_2 : ∃ (i : Nat) (s : State), i < 36 ∧ (s.port i).state = .inService :=
  ⟨35, baseP 35 { state := .inService },
    by decide +kernel, rfl⟩
theorem witness_FabricTimeRowsComplete_3 : ∃ (me : Nat) (s : State), s.live = true ∧ s.ident = some me :=
  ⟨5, base,
    by decide +kernel, rfl⟩
theorem witness_FabricTimeRowsComplete_4 : ∃ (since : Nat) (s : State), s.live = true ∧ s.time.rootSince = some since ∧ since + 1000000000 ≤
    s.time.now :=
  ⟨5, { base with time := { now := 1000000005, rootSince := some 5 } },
    by decide +kernel, rfl, by decide +kernel⟩

/-! `PortHealthRowsComplete` -/

theorem witness_PortHealthRowsComplete_0 : ∃ (i : Nat) (s : State), i < 36 ∧ s.boot.powered = true :=
  ⟨35, baseP 35 { state := .inService },
    by decide +kernel, by decide +kernel⟩
theorem witness_PortHealthRowsComplete_1 : ∃ (l bias : Nat) (s : State), l < 48 ∧ 0 < (s.laser l).factory :=
  ⟨47, 100, { base with lasers := [(47, { factory := 1 })] },
    by decide +kernel, by decide +kernel⟩
theorem witness_PortHealthRowsComplete_2 : ∃ (c serial : Nat) (factory : List Nat) (s : State), c < 4 :=
  ⟨3, 0, [], base,
    by decide +kernel⟩
theorem witness_PortHealthRowsComplete_3 : ∃ (c : Nat) (s : State), c < 4 ∧ (s.cart c).present = true :=
  ⟨3, baseP 35 {},
    by decide +kernel, by decide +kernel⟩
theorem witness_PortHealthRowsComplete_4 : ∃ (c : Nat) (s : State), c < 4 ∧ (s.cart c).releasing = true :=
  ⟨3, { base with carts := [(3, { present := true, releasing := true })] },
    by decide +kernel, by decide +kernel⟩

/-! `TicketRowsComplete` -/

theorem witness_TicketRowsComplete_0 : ∃ (g : Nat) (f : Fetched) (tk : Ticket) (ds : List Desc) (r : Ring) (x : Ctx) (s : State), s.live = true ∧
    s.fetchWinner = some g ∧ Tab.get s.rings g = some r ∧ s.ctx? r.params.ctx = some x ∧ tk = ticketOf f.ticket ∧ ds = (descsOf f.descs).take
    tk.descCount ∧ tk.tseq = r.accepted + 1 ∧ ticketReject x tk ds = none ∧ x.ringHeld g = false ∧ s.journalRoom (ticketBodies tk ds).length = true :=
  ⟨0, fetched1, ticketOf fetched1.ticket, (descsOf fetched1.descs).take (ticketOf fetched1.ticket).descCount, { ring0 with tail := 1 }, ctx0,
    { base with rings := [(0, { ring0 with tail := 1 })] },
    by decide +kernel, rfl, rfl, rfl, rfl, rfl, by decide +kernel, by decide +kernel, by decide +kernel, by decide +kernel⟩
theorem witness_TicketRowsComplete_1 : ∃ (g : Nat) (j : Journaling) (r : Ring) (x : Ctx) (s : State), s.live = true ∧ Tab.get s.rings g = some r ∧
    r.journaling = some j ∧ j.written = true ∧ s.ctx? r.params.ctx = some x ∧ x.state ≠ .faulted ∧ x.ringHeld g = false ∧ s.durable j.lastSeq = true
    :=
  ⟨0, ⟨job [dAdd], [dAdd], 0, 1, true⟩, { ring0 with journaling := some ⟨job [dAdd], [dAdd], 0, 1, true⟩ }, ctx0,
    { base with rings := [(0, { ring0 with journaling := some ⟨job [dAdd], [dAdd], 0, 1, true⟩ })] },
    by decide +kernel, rfl, rfl, by decide +kernel, rfl, by decide +kernel, by decide +kernel, by decide +kernel⟩
theorem witness_TicketRowsComplete_2 : ∃ (g tseq n : Nat) (r : Ring) (x : Ctx) (q : Run) (s : State), s.live = true ∧ Tab.get s.rings g = some r ∧
    s.ctx? r.params.ctx = some x ∧ findRun x.runs g tseq = some q ∧ q.doneSeq = some n ∧ q.mode = .normal ∧ x.rollbackDue = none ∧ s.durable n = true
    ∧ (s.fn x.owner).avail = true ∧ (s.fn x.owner).awaitResync = false ∧ q.ticket.irqDone = false :=
  ⟨0, 1, 0, ring0, { ctx0 with runs := [{ run1 [dAdd] with doneSeq := some 0, states := [.ended], next := 1 }] },
    { run1 [dAdd] with doneSeq := some 0, states := [.ended], next := 1 },
    baseX { ctx0 with runs := [{ run1 [dAdd] with doneSeq := some 0, states := [.ended], next := 1 }] },
    by decide +kernel, rfl, rfl, rfl, rfl, rfl, rfl, by decide +kernel, by decide +kernel, by decide +kernel, by decide +kernel⟩

/-! `JournalAndSlotSetRowsComplete` -/

theorem witness_JournalAndSlotSetRowsComplete_0 : ∃ (src : Nat) (a : Arrived) (rest : List Arrived) (recs new : List JRec) (s : State), Delivered src
    0 a rest s ∧ a.msg = .journal recs ∧ s.isTwin src = true ∧ s.jr.refusedAt = none ∧ (recs.map (·.seq)).Nodup ∧ (∀ r ∈ recs, (∀ k, r.body ≠ .release
    k) ∧ (∀ k, r.body ≠ .rollback k) ∧ (∀ n, r.body ≠ .config (.contextDestroy n))) ∧ new = recs.filter (fun r => !s.jr.partner.any (fun q => q.seq =
    r.seq)) ∧ s.jr.partner.length + new.length ≤ s.journalCap :=
  ⟨6, from6 0 (.journal [rec1 (.freeze 9)]), [], [rec1 (.freeze 9)], [rec1 (.freeze 9)], withMsg baseT 0 (.journal [rec1 (.freeze 9)]),
    deliveredOf rfl rfl rfl, rfl, by decide +kernel, rfl, by decide +kernel,
      by intro r hr; simp only [List.mem_singleton] at hr; subst hr; simp [rec1], rfl, by decide +kernel⟩
theorem witness_JournalAndSlotSetRowsComplete_1 : ∃ (src : Nat) (a : Arrived) (rest : List Arrived) (recs new : List JRec) (s : State), Delivered src
    0 a rest s ∧ a.msg = .journal recs ∧ s.isTwin src = true ∧ s.jr.refusedAt = none ∧ (recs.map (·.seq)).Nodup ∧ (∀ r ∈ recs, (∀ k, r.body ≠ .release
    k) ∧ (∀ k, r.body ≠ .rollback k) ∧ (∀ n, r.body ≠ .config (.contextDestroy n))) ∧ new = recs.filter (fun r => !s.jr.partner.any (fun q => q.seq =
    r.seq)) ∧ s.journalCap < s.jr.partner.length + new.length :=
  ⟨6, from6 0 (.journal [rec1 (.freeze 9)]), [], [rec1 (.freeze 9)], [rec1 (.freeze 9)],
    withJr (withMsg baseT 0 (.journal [rec1 (.freeze 9)])) (fullP 33554432),
    deliveredOf rfl rfl rfl, rfl, by decide +kernel, rfl, by decide +kernel,
      by intro r hr; simp only [List.mem_singleton] at hr; subst hr; simp [rec1], fullP_new 33554432, fullP_over _ (by decide +kernel)⟩
theorem witness_JournalAndSlotSetRowsComplete_2 : ∃ (src : Nat) (a : Arrived) (rest : List Arrived) (r : JRec) (s : State), ∃ k, Delivered src 0 a
    rest s ∧ a.msg = .journal [r] ∧ s.isTwin src = true ∧ s.jr.refusedAt = none ∧ (∀ q ∈ s.jr.partner, q.seq ≠ r.seq) ∧ s.jr.partner.length <
    s.journalCap ∧ r.body = .release k :=
  ⟨6, from6 0 (.journal [rec1 (.release 9)]), [], rec1 (.release 9), withMsg baseT 0 (.journal [rec1 (.release 9)]), 9,
    deliveredOf rfl rfl rfl, rfl, by decide +kernel, rfl, by decide +kernel, by decide +kernel, rfl⟩
theorem witness_JournalAndSlotSetRowsComplete_3 : ∃ (src : Nat) (a : Arrived) (rest : List Arrived) (r : JRec) (s : State), ∃ k, Delivered src 0 a
    rest s ∧ a.msg = .journal [r] ∧ s.isTwin src = true ∧ s.jr.refusedAt = none ∧ (∀ q ∈ s.jr.partner, q.seq ≠ r.seq) ∧ s.jr.partner.length <
    s.journalCap ∧ r.body = .rollback k :=
  ⟨6, from6 0 (.journal [rec1 (.rollback 9)]), [], rec1 (.rollback 9), withMsg baseT 0 (.journal [rec1 (.rollback 9)]), 9,
    deliveredOf rfl rfl rfl, rfl, by decide +kernel, rfl, by decide +kernel, by decide +kernel, rfl⟩
theorem witness_JournalAndSlotSetRowsComplete_4 : ∃ (src : Nat) (a : Arrived) (rest : List Arrived) (s : State), ∃ n, Delivered src 0 a rest s ∧
    s.isTwin src = true ∧ a.msg = .journalAck n :=
  ⟨6, from6 0 (.journalAck 4), [], withMsg baseT 0 (.journalAck 4), 4,
    deliveredOf rfl rfl rfl, by decide +kernel, rfl⟩
theorem witness_JournalAndSlotSetRowsComplete_5 : ∃ (src : Nat) (a : Arrived) (rest : List Arrived) (s : State), Delivered src 0 a rest s ∧ s.isTwin
    src = true ∧ a.msg = .journalFull :=
  ⟨6, from6 0 .journalFull, [], withMsg baseT 0 .journalFull,
    deliveredOf rfl rfl rfl, by decide +kernel, rfl⟩
theorem witness_JournalAndSlotSetRowsComplete_6 : ∃ (src : Nat) (a : Arrived) (rest : List Arrived) (s : State), Delivered src 0 a rest s ∧ s.isTwin
    src = true ∧ a.msg = .journalRoom :=
  ⟨6, from6 0 .journalRoom, [], withMsg baseT 0 .journalRoom,
    deliveredOf rfl rfl rfl, by decide +kernel, rfl⟩
theorem witness_JournalAndSlotSetRowsComplete_7 : ∃ (src : Nat) (a : Arrived) (rest : List Arrived) (s : State), ∃ b, Delivered src 0 a rest s ∧
    s.isTwin src = true ∧ a.msg = .tables b :=
  ⟨6, from6 0 (.tables {}), [], withMsg baseT 0 (.tables {}), {},
    deliveredOf rfl rfl rfl, by decide +kernel, rfl⟩
theorem witness_JournalAndSlotSetRowsComplete_8 : ∃ (src : Nat) (a : Arrived) (rest : List Arrived) (b : RestoreTables) (r : Restoring) (s : State),
    Delivered src 0 a rest s ∧ a.msg = .restoreTables b ∧ s.twin.restoring = some r ∧ r.survivor = src ∧ r.step = 2 :=
  ⟨6, from6 0 (.restoreTables resT), [], resT, ⟨6, 2, true, true, none⟩, withMsg (restS ⟨6, 2, true, true, none⟩) 0 (.restoreTables resT),
    deliveredOf rfl rfl rfl, rfl, rfl, rfl, rfl⟩
theorem witness_JournalAndSlotSetRowsComplete_9 : ∃ (ctx : Nat) (x : Ctx) (r : Run) (d : Desc) (s : State), s.dispatchable ctx 0x60 none false = some
    (x, r, d) ∧ (r.next ≠ 0 ∨ ∀ n ∈ r.slots, s.slotOf ctx n = true → ∀ l, Tab.get s.slots n = some l → l.restart = false) ∧ (∀ e ∈ slotEntries d,
    s.slotOf ctx e.1 = true) :=
  ⟨0, { ctx0 with runs := [{ run1 [(dsc 0x160 (17 * 2 ^ 16) 0 0 0 0 0), (dsc 0x160 (17 * 2 ^ 16) 0 0 0 0 0)] with next := 1 }] },
    { run1 [(dsc 0x160 (17 * 2 ^ 16) 0 0 0 0 0), (dsc 0x160 (17 * 2 ^ 16) 0 0 0 0 0)] with next := 1 }, (dsc 0x160 (17 * 2 ^ 16) 0 0 0 0 0),
    baseX { ctx0 with runs := [{ run1 [(dsc 0x160 (17 * 2 ^ 16) 0 0 0 0 0), (dsc 0x160 (17 * 2 ^ 16) 0 0 0 0 0)] with next := 1 }] },
    rfl, by decide +kernel, by decide +kernel⟩
theorem witness_JournalAndSlotSetRowsComplete_10 : ∃ (ctx : Nat) (x : Ctx) (r : Run) (d : Desc) (s : State), s.dispatchable ctx 0x60 none false = some
    (x, r, d) ∧ (r.next ≠ 0 ∨ ∀ n ∈ r.slots, s.slotOf ctx n = true → ∀ l, Tab.get s.slots n = some l → l.restart = false) ∧ (∃ e ∈ slotEntries d,
    s.slotOf ctx e.1 = false) :=
  ⟨0, { ctx0 with runs := [{ run1 [dsc 0x160 (9 + 17 * 2 ^ 16) 0 0 0 0 0, dsc 0x160 (9 + 17 * 2 ^ 16) 0 0 0 0 0] with next := 1 }] }, _, _,
    baseX { ctx0 with runs := [{ run1 [dsc 0x160 (9 + 17 * 2 ^ 16) 0 0 0 0 0, dsc 0x160 (9 + 17 * 2 ^ 16) 0 0 0 0 0] with next := 1 }] },
    rfl, .inl (by decide), ⟨(9, 17), by decide +kernel, by decide +kernel⟩⟩
theorem witness_JournalAndSlotSetRowsComplete_11 : ∃ (ctx : Nat) (x : Ctx) (r : Run) (d : Desc) (s : State), s.dispatchable ctx 0x60 none false = some
    (x, r, d) ∧ (r.next = 0 ∧ ∃ n ∈ r.slots, s.slotOf ctx n = true ∧ ∃ l, Tab.get s.slots n = some l ∧ l.restart = true) :=
  ⟨0, ctxD [dsc 0x160 0 0 0 0 0 0], _, _, { baseX (ctxD [dsc 0x160 0 0 0 0 0 0]) with slots := [(0, { slot0 with restart := true })] },
    rfl, by decide +kernel⟩

/-! `JobReplayCompletes` -/

theorem witness_JobReplayCompletes_0 : ∃ (ctx : Nat) (consumed : Tab Nat) (x : Ctx) (p : Replay) (s : State), s.live = true ∧ s.ctx? ctx = some x ∧
    x.replay = some p ∧ x.rollbackDue = none ∧ p.records = [] ∧ (∀ r ∈ x.runs, r.takenUp = true) :=
  ⟨0, [], { ctx0 with replay := some ⟨none, [], none⟩ }, ⟨none, [], none⟩, baseX { ctx0 with replay := some ⟨none, [], none⟩ },
    by decide +kernel, rfl, rfl, rfl, rfl, by decide +kernel⟩
theorem witness_JobReplayCompletes_1 : ∃ (ctx n : Nat) (consumed : Tab Nat) (x y : Ctx) (p q : Replay) (r : JRec) (rest : List JRec) (s : State), ∃
    tk, s.live = true ∧ s.ctx? ctx = some x ∧ x.replay = some p ∧ x.rollbackDue = none ∧ p.records = r :: rest ∧ n = max 1 (r.count - r.part) ∧ q = {
    p with hostRead := some (p.hostRead.getD consumed) } ∧ y = { x with replay := some { q with records := (r :: rest).drop n } } ∧ r.body = .accept
    tk :=
  ⟨0, _, [], repX (.accept (job [])) ctx0, _, ⟨none, [rec1 (.accept (job []))], none⟩, _, rec1 (.accept (job [])), [],
    baseX (repX (.accept (job [])) ctx0), job [],
    by decide +kernel, rfl, rfl, rfl, rfl, rfl, rfl, rfl, rfl⟩
theorem witness_JobReplayCompletes_2 : ∃ (ctx n : Nat) (consumed : Tab Nat) (x y : Ctx) (p q : Replay) (r : JRec) (rest : List JRec) (s : State), ∃
    op, s.live = true ∧ s.ctx? ctx = some x ∧ x.replay = some p ∧ x.rollbackDue = none ∧ p.records = r :: rest ∧ n = max 1 (r.count - r.part) ∧ q = {
    p with hostRead := some (p.hostRead.getD consumed) } ∧ y = { x with replay := some { q with records := (r :: rest).drop n } } ∧ x.state ≠ .faulted
    ∧ (∀ k ∈ x.runs, k.over = true ∨ (k.ticket.kind = 3 ∧ k.frozen = true)) ∧ r.body = .config op :=
  ⟨0, _, [], repX (.config (.contextPriority 0 3)) ctx0, _, ⟨none, [rec1 (.config (.contextPriority 0 3))], none⟩, _,
    rec1 (.config (.contextPriority 0 3)), [], baseX (repX (.config (.contextPriority 0 3)) ctx0), .contextPriority 0 3,
    by decide +kernel, rfl, rfl, rfl, rfl, rfl, rfl, rfl, by decide +kernel, by decide +kernel, rfl⟩
theorem witness_JobReplayCompletes_3 : ∃ (ctx n : Nat) (consumed : Tab Nat) (x y : Ctx) (p q : Replay) (r : JRec) (rest : List JRec) (s : State), ∃ h
    off bs, s.live = true ∧ s.ctx? ctx = some x ∧ x.replay = some p ∧ x.rollbackDue = none ∧ p.records = r :: rest ∧ n = max 1 (r.count - r.part) ∧ q
    = { p with hostRead := some (p.hostRead.getD consumed) } ∧ y = { x with replay := some { q with records := (r :: rest).drop n } } ∧ x.state ≠
    .faulted ∧ (∀ k ∈ x.runs, k.over = true ∨ (k.ticket.kind = 3 ∧ k.frozen = true)) ∧ r.body = .hostWrite h off bs :=
  ⟨0, _, [], repX (.hostWrite 1 0 [1]) ctx0, _, ⟨none, [rec1 (.hostWrite 1 0 [1])], none⟩, _, rec1 (.hostWrite 1 0 [1]), [],
    baseX (repX (.hostWrite 1 0 [1]) ctx0), 1, 0, [1],
    by decide +kernel, rfl, rfl, rfl, rfl, rfl, rfl, rfl, by decide +kernel, by decide +kernel, rfl⟩
theorem witness_JobReplayCompletes_4 : ∃ (ctx n : Nat) (consumed : Tab Nat) (x y : Ctx) (p q : Replay) (r : JRec) (rest : List JRec) (s : State),
    s.live = true ∧ s.ctx? ctx = some x ∧ x.replay = some p ∧ x.rollbackDue = none ∧ p.records = r :: rest ∧ n = max 1 (r.count - r.part) ∧ q = { p
    with hostRead := some (p.hostRead.getD consumed) } ∧ y = { x with replay := some { q with records := (r :: rest).drop n } } ∧ x.state ≠ .faulted ∧
    (∃ k ∈ x.runs, k.over = false ∧ ¬(k.ticket.kind = 3 ∧ k.frozen = true)) ∧ (∃ op, r.body = .config op) :=
  ⟨0, _, [], repX (.config (.contextPriority 0 3)) (ctxD [dConvert]), _, ⟨none, [rec1 (.config (.contextPriority 0 3))], none⟩, _,
    rec1 (.config (.contextPriority 0 3)), [], baseX (repX (.config (.contextPriority 0 3)) (ctxD [dConvert])),
    by decide +kernel, rfl, rfl, rfl, rfl, rfl, rfl, rfl, by decide +kernel, by decide +kernel, ⟨_, rfl⟩⟩

/-! `CommitRowsComplete` -/

theorem witness_CommitRowsComplete_0 : ∃ (ctx : Nat) (x : Ctx) (r : Run) (s : State), s.live = true ∧ s.ctx? ctx = some x ∧ commitNext x.runs = some r
    ∧ x.commits.length < 2 ∧ x.rollbackDue = none ∧ x.state ≠ .faulted ∧ s.journalRoom 1 = true ∧ x.kept.any (fun k => k.id = r.ticket.commitId) =
    false ∧ x.stash = [] ∧ s.twin.state = .paired ∧ s.mirrorSlots ≥ x.dirty.length + ((Tab.set s.ctxs ctx x).map (fun c => c.2.latestMap.length)).sum
    :=
  ⟨0, { ctx0 with runs := [commitRun] }, commitRun, baseTX { ctx0 with runs := [commitRun] },
    by decide +kernel, rfl, rfl, by decide +kernel, rfl, by decide +kernel, by decide +kernel, by decide +kernel, rfl, rfl, by decide +kernel⟩
theorem witness_CommitRowsComplete_1 : ∃ (ctx : Nat) (e : ExtentId) (x : Ctx) (p : Part) (s : State), s.live = true ∧ s.ctx? ctx = some x ∧ Tab.get
    s.parts x.params.partition = some p ∧ ((s.ctxsOf x.params.partition).map (fun c => (c.2.commits.map (fun k => (k.cow.filter (fun e =>
    !k.sent.contains e)).length)).sum)).sum < p.params.cowHbm ∧ x.commits.any (fun c => c.dirty.contains e && !c.sent.contains e && !c.cow.contains e)
    = true :=
  ⟨0, ⟨false, 1, 0⟩, { ctx0 with commits := [commit9] }, part0, baseX { ctx0 with commits := [commit9] },
    by decide +kernel, rfl, rfl, by decide +kernel, by decide +kernel⟩
theorem witness_CommitRowsComplete_2 : ∃ (ctx tw : Nat) (x : Ctx) (c : Commit) (rest : List Commit) (s : State), s.live = true ∧ s.ctx? ctx = some x ∧
    s.twin.twinId = some tw ∧ s.twin.state = .paired ∧ x.commits = c :: rest ∧ c.transferring = false ∧ s.slotsUsed + c.dirty.length ≤ s.mirrorSlots
    :=
  ⟨0, 6, { ctx0 with commits := [commit9] }, commit9, [], { baseT with ctxs := [(0, { ctx0 with commits := [commit9] })] },
    by decide +kernel, rfl, rfl, rfl, rfl, by decide +kernel, by decide +kernel⟩
theorem witness_CommitRowsComplete_3 : ∃ (ctx tw : Nat) (x : Ctx) (c : Commit) (rest : List Commit) (s : State), s.live = true ∧ s.ctx? ctx = some x ∧
    s.twin.twinId = some tw ∧ s.twin.state = .paired ∧ x.commits = c :: rest ∧ c.transferring = false ∧ s.mirrorSlots < s.slotsUsed + c.dirty.length
    :=
  ⟨0, 6, { ctx0 with commits := [commitBig] }, commitBig, [], baseTX { ctx0 with commits := [commitBig] },
    by decide +kernel, rfl, rfl, rfl, rfl, by decide +kernel,
      by have h : commitBig.dirty.length = 258049 := List.length_replicate .. ; rw [h]; exact Nat.lt_of_lt_of_le (by decide : 258048 < 258049) (Nat.le_add_left ..)⟩
theorem witness_CommitRowsComplete_4 : ∃ (src : Nat) (a : Arrived) (rest : List Arrived) (m : MirrorMsg) (s : State), Delivered src 3 a rest s ∧ a.msg
    = .mirror m ∧ s.isTwin src = true ∧ m.image = false ∧ (m.extent = none ∨ (lowestFree s.mirrorSlots s.jr.named).isSome = true ∨ ∃ e n, m.extent =
    some e ∧ (e, n) ∈ (s.jr.incomingOf m.ctx m.commit).map) :=
  ⟨6, from6 3 (.mirror (mir false none)), [], mir false none, withMsg baseT 3 (.mirror (mir false none)),
    deliveredOf rfl rfl rfl, rfl, by decide +kernel, by decide +kernel, .inl rfl⟩
theorem witness_CommitRowsComplete_5 : ∃ (src : Nat) (a : Arrived) (rest : List Arrived) (m : MirrorMsg) (s : State), ∃ e, Delivered src 3 a rest s ∧
    a.msg = .mirror m ∧ s.isTwin src = true ∧ m.image = false ∧ m.extent = some e ∧ lowestFree s.mirrorSlots s.jr.named = none ∧ (∀ n, (e, n) ∉
    (s.jr.incomingOf m.ctx m.commit).map) :=
  ⟨6, from6 3 (.mirror (mir false (some e1))), [], mir false (some e1), { withMsg baseT 3 (.mirror (mir false (some e1))) with jr := fullJr 258048 },
    e1,
    deliveredOf rfl rfl rfl, rfl, by decide +kernel, by decide +kernel, rfl, lowestFree_fullJr 258048, fun n hn => by cases hn⟩
theorem witness_CommitRowsComplete_6 : ∃ (src : Nat) (a : Arrived) (rest : List Arrived) (m : MirrorMsg) (s : State) (x : Ctx), ∃ e, Delivered src 3 a
    rest s ∧ a.msg = .mirror m ∧ s.isTwin src = true ∧ m.image = true ∧ s.ctx? m.ctx = some x ∧ x.rollbackDue = some (.image m.commit) ∧ m.extent =
    some e :=
  ⟨6, from6 3 (.mirror (mir true (some e1))), [], mir true (some e1), withMsg (baseTX dueX) 3 (.mirror (mir true (some e1))), dueX, e1,
    deliveredOf rfl rfl rfl, rfl, by decide +kernel, by decide +kernel, rfl, rfl, rfl⟩
theorem witness_CommitRowsComplete_7 : ∃ (src : Nat) (a : Arrived) (rest : List Arrived) (m : MirrorMsg) (s : State) (x : Ctx), Delivered src 3 a rest
    s ∧ a.msg = .mirror m ∧ s.isTwin src = true ∧ m.image = true ∧ s.ctx? m.ctx = some x ∧ x.rollbackDue = some (.image m.commit) ∧ m.extent = none :=
  ⟨6, from6 3 (.mirror (mir true none)), [], mir true none, withMsg (baseTX dueX) 3 (.mirror (mir true none)), dueX,
    deliveredOf rfl rfl rfl, rfl, by decide +kernel, by decide +kernel, rfl, rfl, rfl⟩
theorem witness_CommitRowsComplete_8 : ∃ (src ctx commit : Nat) (ext : Option ExtentId) (a : Arrived) (rest : List Arrived) (x : Ctx) (c : Commit)
    (more : List Commit) (s : State), Delivered src 3 a rest s ∧ a.msg = .mirrorAck false ctx commit ext ∧ s.isTwin src = true ∧ s.ctx? ctx = some x ∧
    x.commits = c :: more ∧ c.id = commit ∧ c.transferring = true :=
  ⟨6, 0, 9, some e1, from6 3 (.mirrorAck false 0 9 (some e1)), [], { ctx0 with commits := [commitT] }, commitT, [],
    withMsg (baseTX { ctx0 with commits := [commitT] }) 3 (.mirrorAck false 0 9 (some e1)),
    deliveredOf rfl rfl rfl, rfl, by decide +kernel, rfl, rfl, rfl, by decide +kernel⟩
theorem witness_CommitRowsComplete_9 : ∃ (src ctx commit : Nat) (ext : Option ExtentId) (a : Arrived) (rest : List Arrived) (s : State), Delivered src
    3 a rest s ∧ a.msg = .mirrorAck true ctx commit ext ∧ s.isTwin src = true :=
  ⟨6, 0, 9, none, from6 3 (.mirrorAck true 0 9 none), [], withMsg baseT 3 (.mirrorAck true 0 9 none),
    deliveredOf rfl rfl rfl, rfl, by decide +kernel⟩
theorem witness_CommitRowsComplete_10 : ∃ (src ctx commit : Nat) (rc : JRec) (a : Arrived) (rest : List Arrived) (i : Incoming) (hd : JobHeader) (s :
    State), Delivered src 0 a rest s ∧ a.msg = .sealRequest ctx commit rc ∧ s.isTwin src = true ∧ s.jr.images.any (fun g => g.ctx = ctx && g.commit =
    commit) = false ∧ s.jr.partner.length < s.journalCap ∧ s.jr.incoming.find? (fun i => i.ctx = ctx && i.commit = commit) = some i ∧ i.header = some
    hd :=
  ⟨6, 0, 9, rec1 (.sealed 9), from6 0 (.sealRequest 0 9 (rec1 (.sealed 9))), [], ⟨0, 9, some header0, []⟩, header0,
    { withMsg baseT 0 (.sealRequest 0 9 (rec1 (.sealed 9))) with jr := { incoming := [⟨0, 9, some header0, []⟩] } },
    deliveredOf rfl rfl rfl, rfl, by decide +kernel, by decide +kernel, by decide +kernel, rfl, rfl⟩
theorem witness_CommitRowsComplete_11 : ∃ (src ctx commit : Nat) (a : Arrived) (rest : List Arrived) (x : Ctx) (c : Commit) (rq : JRec) (more : List
    Commit) (s : State), Delivered src 0 a rest s ∧ a.msg = .sealAck ctx commit ∧ s.isTwin src = true ∧ s.ctx? ctx = some x ∧ x.commits = c :: more ∧
    c.id = commit ∧ c.requested = some rq ∧ s.journalRoom 1 = true :=
  ⟨6, 0, 9, from6 0 (.sealAck 0 9), [], { ctx0 with commits := [{ commitT with requested := some (rec1 (.sealed 9)) }] },
    { commitT with requested := some (rec1 (.sealed 9)) }, rec1 (.sealed 9), [],
    withMsg (baseTX { ctx0 with commits := [{ commitT with requested := some (rec1 (.sealed 9)) }] }) 0 (.sealAck 0 9),
    deliveredOf rfl rfl rfl, rfl, by decide +kernel, rfl, rfl, rfl, rfl, by decide +kernel⟩

/-! `TwinAuthRowsComplete` -/

theorem witness_TwinAuthRowsComplete_0 : ∃ (src : Nat) (a : Arrived) (rest : List Arrived) (fresh : Bool) (certs key : List Byte) (s : State),
    Delivered src 1 a rest s ∧ a.msg = .auth (.hello fresh certs key) ∧ s.authPeer = some src :=
  ⟨6, from6 1 (.auth (.hello true [] [])), [], true, [], [], withMsg pairW 1 (.auth (.hello true [] [])),
    deliveredOf rfl rfl rfl, rfl, rfl⟩
theorem witness_TwinAuthRowsComplete_1 : ∃ (src : Nat) (a : Arrived) (rest : List Arrived) (c : List Byte) (s : State), Delivered src 1 a rest s ∧
    a.msg = .auth (.cipher c) ∧ s.authPeer = some src ∧ s.twin.auth.encDraw.isSome = true :=
  ⟨6, from6 1 (.auth (.cipher [])), [], [],
    withMsg { base with twin := { state := .pairing, twinId := some 6, auth := { encDraw := some 0 } } } 1 (.auth (.cipher [])),
    deliveredOf rfl rfl rfl, rfl, rfl, by decide +kernel⟩
theorem witness_TwinAuthRowsComplete_2 : ∃ (src : Nat) (a : Arrived) (rest : List Arrived) (sig : List Byte) (s : State), Delivered src 1 a rest s ∧
    a.msg = .auth (.signed sig) ∧ s.authPeer = some src ∧ (s.setInbox rest).authVerified src sig = false ∧ s.twin.restoring = none ∧ s.twin.serving =
    none :=
  ⟨6, from6 1 (.auth (.signed [])), [], [], withMsg pairW 1 (.auth (.signed [])),
    deliveredOf rfl rfl rfl, rfl, rfl, by decide +kernel, rfl, rfl⟩
theorem witness_TwinAuthRowsComplete_3 : ∃ (src : Nat) (a : Arrived) (rest : List Arrived) (sig : List Byte) (s : State), ∃ v, Delivered src 1 a rest
    s ∧ a.msg = .auth (.signed sig) ∧ s.authPeer = some src ∧ (s.setInbox rest).authVerified src sig = false ∧ s.twin.restoring = none ∧
    s.twin.serving = some v :=
  ⟨6, from6 1 (.auth (.signed [])), [], [], withMsg (servS ⟨req6, 1, true⟩) 1 (.auth (.signed [])), ⟨req6, 1, true⟩,
    deliveredOf rfl rfl rfl, rfl, rfl, by decide +kernel, rfl, rfl⟩
theorem witness_TwinAuthRowsComplete_4 : ∃ (src : Nat) (a : Arrived) (rest : List Arrived) (sig : List Byte) (s : State), ∃ r h sv, Delivered src 1 a
    rest s ∧ a.msg = .auth (.signed sig) ∧ s.authPeer = some src ∧ (s.setInbox rest).authVerified src sig = false ∧ s.twin.restoring = some r ∧ r.step
    = 1 ∧ s.restoreWaiter = some (h, sv) :=
  ⟨6, from6 1 (.auth (.signed [])), [], [], withMsg (restW ⟨6, 1, false, false, none⟩) 1 (.auth (.signed [])), ⟨6, 1, false, false, none⟩, hd, 6,
    deliveredOf rfl rfl rfl, rfl, rfl, by decide +kernel, rfl, rfl, rfl⟩
theorem witness_TwinAuthRowsComplete_5 : ∃ (p : Nat) (s : State), s.live = true ∧ (s.twin.state = .paired ∨ s.twin.state = .restoring) ∧
    s.twin.auth.sessionKey.isSome = true ∧ s.authPeer = some p :=
  ⟨6, { base with twin := { state := .paired, twinId := some 6, auth := { sessionKey := some [] } } },
    by decide +kernel, .inl rfl, by decide +kernel, rfl⟩
theorem witness_TwinAuthRowsComplete_6 : ∃ (s : State), s.live = true ∧ s.twin.state = .pairing :=
  ⟨{ base with twin := { state := .pairing } },
    by decide +kernel, rfl⟩
theorem witness_TwinAuthRowsComplete_7 : ∃ (since : Nat) (s : State), s.live = true ∧ s.twin.state = .paired ∧ s.twin.tetherDownAt = some since ∧
    since + 200000000 ≤ s.time.now :=
  ⟨5, { base with twin := { state := .paired, tetherDownAt := some 5 }, time := { now := 200000005 } },
    by decide +kernel, rfl, rfl, by decide +kernel⟩

/-! `RestoreRowsComplete` -/

theorem witness_RestoreRowsComplete_0 : ∃ (src : Nat) (a : Arrived) (rest : List Arrived) (r : RestoreReq) (s : State), Delivered src 1 a rest s ∧
    a.msg = .restoreRequest r ∧ s.twin.state = .restoring :=
  ⟨6, from6 1 (.restoreRequest req6), [], req6, withMsg (restS ⟨6, 1, false, false, none⟩) 1 (.restoreRequest req6),
    deliveredOf rfl rfl rfl, rfl, rfl⟩
theorem witness_RestoreRowsComplete_1 : ∃ (src : Nat) (a : Arrived) (rest : List Arrived) (r : RestoreReq) (s : State), Delivered src 1 a rest s ∧
    a.msg = .restoreRequest r ∧ (s.twin.state = .paired ∨ s.twin.state = .pairing) :=
  ⟨6, from6 1 (.restoreRequest req6), [], req6, withMsg baseT 1 (.restoreRequest req6),
    deliveredOf rfl rfl rfl, rfl, by decide +kernel⟩
theorem witness_RestoreRowsComplete_2 : ∃ (src : Nat) (a : Arrived) (rest : List Arrived) (r : RestoreReq) (s : State), Delivered src 1 a rest s ∧
    a.msg = .restoreRequest r ∧ (s.twin.state = .twinLost ∨ s.twin.state = .solo ∨ s.twin.state = .unpaired) ∧ ¬(s.twin.holdsPartner = true ∧
    s.twin.partnerOf = some r.ident) :=
  ⟨6, from6 1 (.restoreRequest req6), [], req6, withMsg base 1 (.restoreRequest req6),
    deliveredOf rfl rfl rfl, rfl, by decide +kernel, by decide +kernel⟩
theorem witness_RestoreRowsComplete_3 : ∃ (src : Nat) (a : Arrived) (rest : List Arrived) (r : RestoreReq) (s : State), Delivered src 1 a rest s ∧
    a.msg = .restoreRequest r ∧ (s.twin.state = .twinLost ∨ s.twin.state = .solo ∨ s.twin.state = .unpaired) ∧ s.twin.holdsPartner = true ∧
    s.twin.partnerOf = some r.ident ∧ r.revision = 0x0A ∧ r.ballast = s.ballastCode ∧ s.ident = some r.survivor :=
  ⟨6, from6 1 (.restoreRequest req6), [], req6, withMsg holds6 1 (.restoreRequest req6),
    deliveredOf rfl rfl rfl, rfl, by decide +kernel, by decide +kernel, rfl, rfl, rfl, rfl⟩
theorem witness_RestoreRowsComplete_4 : ∃ (src : Nat) (a : Arrived) (rest : List Arrived) (r : RestoreReq) (s : State), Delivered src 1 a rest s ∧
    a.msg = .restoreRequest r ∧ (s.twin.state = .twinLost ∨ s.twin.state = .solo ∨ s.twin.state = .unpaired) ∧ s.twin.holdsPartner = true ∧
    s.twin.partnerOf = some r.ident ∧ (r.revision ≠ 0x0A ∨ r.ballast ≠ s.ballastCode) ∧ s.ident = some r.survivor :=
  ⟨6, from6 1 (.restoreRequest { req6 with revision := 0x09 }), [], { req6 with revision := 0x09 },
    withMsg holds6 1 (.restoreRequest { req6 with revision := 0x09 }),
    deliveredOf rfl rfl rfl, rfl, by decide +kernel, by decide +kernel, rfl, by decide +kernel, rfl⟩
theorem witness_RestoreRowsComplete_5 : ∃ (h : CmdHead) (sv : Nat) (s : State), s.live = true ∧ s.restoreWaiter = some (h, sv) :=
  ⟨hd, 6, { base with funs := [(0, { fn0 with mbox := { mb with waiting := some (hd, .restore 6) } })] },
    by decide +kernel, rfl⟩
theorem witness_RestoreRowsComplete_6 : ∃ (src : Nat) (a : Arrived) (rest : List Arrived) (h : CmdHead) (s : State), Delivered src 1 a rest s ∧
    s.restoreWaiter = some (h, src) ∧ a.msg = .winch (.restoreAnswer none) :=
  ⟨6, from6 1 (.winch (.restoreAnswer none)), [], hd, withMsg (restW ⟨6, 1, false, false, none⟩) 1 (.winch (.restoreAnswer none)),
    deliveredOf rfl rfl rfl, rfl, rfl⟩
theorem witness_RestoreRowsComplete_7 : ∃ (src : Nat) (a : Arrived) (rest : List Arrived) (h : CmdHead) (s : State), ∃ f, Delivered src 1 a rest s ∧
    s.restoreWaiter = some (h, src) ∧ a.msg = .winch (.restoreAnswer (some f)) ∧ (f.1 ≠ 0x0A ∨ f.2 ≠ s.ballastCode) :=
  ⟨6, from6 1 (.winch (.restoreAnswer (some (0x09, 0)))), [], hd,
    withMsg (restW ⟨6, 1, false, false, none⟩) 1 (.winch (.restoreAnswer (some (0x09, 0)))), (0x09, 0),
    deliveredOf rfl rfl rfl, rfl, rfl, by decide +kernel⟩
theorem witness_RestoreRowsComplete_8 : ∃ (src : Nat) (a : Arrived) (rest : List Arrived) (h : CmdHead) (s : State), Delivered src 1 a rest s ∧
    s.restoreWaiter = some (h, src) ∧ a.msg = .winch (.restoreAnswer (some (0x0A, s.ballastCode))) :=
  ⟨6, from6 1 (.winch (.restoreAnswer (some (0x0A, base.ballastCode)))), [], hd,
    withMsg (restW ⟨6, 1, false, false, none⟩) 1 (.winch (.restoreAnswer (some (0x0A, base.ballastCode)))),
    deliveredOf rfl rfl rfl, rfl, rfl⟩
theorem witness_RestoreRowsComplete_9 : ∃ (src : Nat) (a : Arrived) (rest : List Arrived) (h : CmdHead) (s : State), ∃ r, Delivered src 1 a rest s ∧
    s.restoreWaiter = some (h, src) ∧ a.msg = .winch (.restoreChecked true) ∧ s.twin.restoring = some r ∧ r.survivor = src ∧ r.step = 1 ∧ r.ownOk =
    true :=
  ⟨6, from6 1 (.winch (.restoreChecked true)), [], hd, withMsg (restW ⟨6, 1, true, false, none⟩) 1 (.winch (.restoreChecked true)),
    ⟨6, 1, true, false, none⟩,
    deliveredOf rfl rfl rfl, rfl, rfl, rfl, rfl, rfl, by decide +kernel⟩
theorem witness_RestoreRowsComplete_10 : ∃ (src : Nat) (a : Arrived) (rest : List Arrived) (h : CmdHead) (s : State), ∃ r, Delivered src 1 a rest s ∧
    s.restoreWaiter = some (h, src) ∧ a.msg = .winch (.restoreChecked false) ∧ s.twin.restoring = some r ∧ r.survivor = src ∧ r.step = 1 :=
  ⟨6, from6 1 (.winch (.restoreChecked false)), [], hd, withMsg (restW ⟨6, 1, true, false, none⟩) 1 (.winch (.restoreChecked false)),
    ⟨6, 1, true, false, none⟩,
    deliveredOf rfl rfl rfl, rfl, rfl, rfl, rfl, rfl⟩
theorem witness_RestoreRowsComplete_11 : ∃ (r : Restoring) (s : State), ∃ n, s.live = true ∧ s.twin.restoring = some r ∧ n ≠ r.step :=
  ⟨⟨6, 2, true, true, none⟩, restS ⟨6, 2, true, true, none⟩, 3,
    by decide +kernel, rfl, by decide +kernel⟩
theorem witness_RestoreRowsComplete_12 : ∃ (r : Restoring) (s : State), ∃ tb, s.live = true ∧ s.twin.restoring = some r ∧ r.step = 2 ∧ r.tables = some
    tb :=
  ⟨⟨6, 2, true, true, some resT⟩, restS ⟨6, 2, true, true, some resT⟩, resT,
    by decide +kernel, rfl, rfl, rfl⟩
theorem witness_RestoreRowsComplete_13 : ∃ (r : Restoring) (s : State), s.live = true ∧ s.twin.restoring = some r ∧ r.step = 2 ∧ r.tables = none :=
  ⟨⟨6, 2, true, true, none⟩, restS ⟨6, 2, true, true, none⟩,
    by decide +kernel, rfl, rfl, rfl⟩
theorem witness_RestoreRowsComplete_14 : ∃ (r : Restoring) (s : State), s.live = true ∧ s.twin.restoring = some r ∧ r.step = 3 :=
  ⟨⟨6, 3, true, true, none⟩, restS ⟨6, 3, true, true, none⟩,
    by decide +kernel, rfl, rfl⟩
theorem witness_RestoreRowsComplete_15 : ∃ (r : Restoring) (s : State), s.live = true ∧ s.twin.restoring = some r ∧ r.step = 4 ∧
    s.jr.partnerTables.isSome = true :=
  ⟨⟨6, 4, true, true, none⟩, withJr (restS ⟨6, 4, true, true, none⟩) { partnerTables := some {} },
    by decide +kernel, rfl, rfl, by decide +kernel⟩
theorem witness_RestoreRowsComplete_16 : ∃ (r : Restoring) (s : State), s.live = true ∧ s.twin.restoring = some r ∧ r.step = 5 ∧ (∀ c ∈ s.ctxs,
    c.2.rollbackDue = none) ∧ s.twin.state = .restoring :=
  ⟨⟨6, 5, true, true, none⟩, restS ⟨6, 5, true, true, none⟩,
    by decide +kernel, rfl, rfl, by decide +kernel, rfl⟩
theorem witness_RestoreRowsComplete_17 : ∃ (v : Serving) (s : State), s.live = true ∧ s.twin.restoring = none ∧ s.twin.serving = some v ∧ v.checked =
    true ∧ v.step = 1 :=
  ⟨⟨req6, 1, true⟩, servS ⟨req6, 1, true⟩,
    by decide +kernel, rfl, rfl, by decide +kernel, rfl⟩
theorem witness_RestoreRowsComplete_18 : ∃ (v : Serving) (s : State), s.live = true ∧ s.twin.restoring = none ∧ s.twin.serving = some v ∧ v.checked =
    true ∧ v.step = 2 :=
  ⟨⟨req6, 2, true⟩, servS ⟨req6, 2, true⟩,
    by decide +kernel, rfl, rfl, by decide +kernel, rfl⟩

/-! `WinchControlCompletes` -/

theorem witness_WinchControlCompletes_0 : ∃ (src : Nat) (a : Arrived) (rest : List Arrived) (m : WinchMsg) (s u : State), ∃ i x, Delivered src 1 a
    rest s ∧ a.msg = .winch m ∧ u = s.setInbox rest ∧ m = .discovery i false x ∧ a.port < 32 ∧ i < 2 ^ 18 :=
  ⟨6, { from6 1 (.winch (.discovery 7 false 3)) with port := 31 }, [], .discovery 7 false 3,
    { base with net := { base.net with inbox := [{ from6 1 (.winch (.discovery 7 false 3)) with port := 31 }] } }, _, 7, 3,
    deliveredOf rfl rfl rfl, rfl, rfl, rfl, by decide +kernel, by decide +kernel⟩
theorem witness_WinchControlCompletes_1 : ∃ (src : Nat) (a : Arrived) (rest : List Arrived) (m : WinchMsg) (s u : State), ∃ i x, Delivered src 1 a
    rest s ∧ a.msg = .winch m ∧ u = s.setInbox rest ∧ m = .discovery i true x ∧ a.port < 32 ∧ i < 2 ^ 18 ∧ Tab.has s.net.direct i = false :=
  ⟨6, { from6 1 (.winch (.discovery 262143 true 3)) with port := 0 }, [], .discovery 262143 true 3,
    { base with net := { base.net with inbox := [{ from6 1 (.winch (.discovery 262143 true 3)) with port := 0 }] } }, _, 262143, 3,
    deliveredOf rfl rfl rfl, rfl, rfl, rfl, by decide +kernel, by decide +kernel, by decide +kernel⟩
theorem witness_WinchControlCompletes_2 : ∃ (src : Nat) (a : Arrived) (rest : List Arrived) (m : WinchMsg) (s u : State), ∃ ctx p classes, Delivered
    src 1 a rest s ∧ a.msg = .winch m ∧ u = s.setInbox rest ∧ m = .planReport ctx p classes :=
  ⟨6, from6 1 (.winch (.planReport 0 planP [])), [], .planReport 0 planP [], withMsg base 1 (.winch (.planReport 0 planP [])), _, 0, planP, [],
    deliveredOf rfl rfl rfl, rfl, rfl, rfl⟩
theorem witness_WinchControlCompletes_3 : ∃ (src : Nat) (a : Arrived) (rest : List Arrived) (m : WinchMsg) (s u : State), ∃ ctx r, Delivered src 1 a
    rest s ∧ a.msg = .winch m ∧ u = s.setInbox rest ∧ m = .planResult ctx r :=
  ⟨6, from6 1 (.winch (.planResult 0 planR)), [], .planResult 0 planR, withMsg base 1 (.winch (.planResult 0 planR)), _, 0, planR,
    deliveredOf rfl rfl rfl, rfl, rfl, rfl⟩
theorem witness_WinchControlCompletes_4 : ∃ (src : Nat) (a : Arrived) (rest : List Arrived) (m : WinchMsg) (s u : State), ∃ ctx i e, Delivered src 1 a
    rest s ∧ a.msg = .winch m ∧ u = s.setInbox rest ∧ m = .planRefused ctx i e :=
  ⟨6, from6 1 (.winch (.planRefused 0 3 true)), [], .planRefused 0 3 true, withMsg base 1 (.winch (.planRefused 0 3 true)), _, 0, 3, true,
    deliveredOf rfl rfl rfl, rfl, rfl, rfl⟩
theorem witness_WinchControlCompletes_5 : ∃ (src : Nat) (a : Arrived) (rest : List Arrived) (m : WinchMsg) (s u : State), ∃ ctx i classes, Delivered
    src 1 a rest s ∧ a.msg = .winch m ∧ u = s.setInbox rest ∧ m = .planClasses ctx i classes :=
  ⟨6, from6 1 (.winch (.planClasses 0 3 [])), [], .planClasses 0 3 [], withMsg base 1 (.winch (.planClasses 0 3 [])), _, 0, 3, [],
    deliveredOf rfl rfl rfl, rfl, rfl, rfl⟩
theorem witness_WinchControlCompletes_6 : ∃ (src : Nat) (a : Arrived) (rest : List Arrived) (m : WinchMsg) (s u : State), ∃ ctx g, ∃ ns, Delivered src
    1 a rest s ∧ a.msg = .winch m ∧ u = s.setInbox rest ∧ (∀ x, s.ctx? ctx = some x → g ∉ x.goneGroups) ∧ m = .groupNeighbours ctx g ns :=
  ⟨6, from6 1 (.winch (.groupNeighbours 0 7 [6])), [], .groupNeighbours 0 7 [6], withMsg base 1 (.winch (.groupNeighbours 0 7 [6])), _, 0, 7, [6],
    deliveredOf rfl rfl rfl, rfl, rfl, by intro x hx; cases hx; decide, rfl⟩
theorem witness_WinchControlCompletes_7 : ∃ (src : Nat) (a : Arrived) (rest : List Arrived) (m : WinchMsg) (s u : State), ∃ ctx g, ∃ nodes, Delivered
    src 1 a rest s ∧ a.msg = .winch m ∧ u = s.setInbox rest ∧ (∀ x, s.ctx? ctx = some x → g ∉ x.goneGroups) ∧ m = .groupNodes ctx g nodes :=
  ⟨6, from6 1 (.winch (.groupNodes 0 7 [[5, 6]])), [], .groupNodes 0 7 [[5, 6]], withMsg base 1 (.winch (.groupNodes 0 7 [[5, 6]])), _, 0, 7,
    [[5, 6]],
    deliveredOf rfl rfl rfl, rfl, rfl, by intro x hx; cases hx; decide, rfl⟩
theorem witness_WinchControlCompletes_8 : ∃ (src : Nat) (a : Arrived) (rest : List Arrived) (m : WinchMsg) (s u : State), ∃ ctx g, Delivered src 1 a
    rest s ∧ a.msg = .winch m ∧ u = s.setInbox rest ∧ (∀ x, s.ctx? ctx = some x → g ∉ x.goneGroups) ∧ m = .groupAsk ctx g :=
  ⟨6, from6 1 (.winch (.groupAsk 0 7)), [], .groupAsk 0 7, withMsg base 1 (.winch (.groupAsk 0 7)), _, 0, 7,
    deliveredOf rfl rfl rfl, rfl, rfl, by intro x hx; cases hx; decide, rfl⟩
theorem witness_WinchControlCompletes_9 : ∃ (src : Nat) (a : Arrived) (rest : List Arrived) (m : WinchMsg) (s u : State), ∃ ctx g x, Delivered src 1 a
    rest s ∧ a.msg = .winch m ∧ u = s.setInbox rest ∧ s.ctx? ctx = some x ∧ g ∈ x.goneGroups ∧ ((∃ ns, m = .groupNeighbours ctx g ns) ∨ (∃ nodes, m =
    .groupNodes ctx g nodes) ∨ m = .groupAsk ctx g) :=
  ⟨6, from6 1 (.winch (.groupAsk 0 7)), [], .groupAsk 0 7, withMsg (baseX { ctx0 with goneGroups := [7] }) 1 (.winch (.groupAsk 0 7)), _, 0, 7,
    { ctx0 with goneGroups := [7] },
    deliveredOf rfl rfl rfl, rfl, rfl, rfl, by decide +kernel, .inr (.inr rfl)⟩
theorem witness_WinchControlCompletes_10 : ∃ (src : Nat) (a : Arrived) (rest : List Arrived) (m : WinchMsg) (s u : State), ∃ i, Delivered src 1 a rest
    s ∧ a.msg = .winch m ∧ u = s.setInbox rest ∧ m = .pairInfo i ∧ s.twin.twinId = some src ∧ i.asks = false :=
  ⟨6, from6 1 (.winch (.pairInfo (pair6 false))), [], .pairInfo (pair6 false), withMsg pairW 1 (.winch (.pairInfo (pair6 false))), _, pair6 false,
    deliveredOf rfl rfl rfl, rfl, rfl, rfl, rfl, by decide +kernel⟩
theorem witness_WinchControlCompletes_11 : ∃ (src : Nat) (a : Arrived) (rest : List Arrived) (m : WinchMsg) (s u : State), ∃ i, Delivered src 1 a rest
    s ∧ a.msg = .winch m ∧ u = s.setInbox rest ∧ m = .pairInfo i ∧ s.twin.twinId = some src ∧ i.asks = true ∧ 0 < s.tetherUp :=
  ⟨6, from6 1 (.winch (.pairInfo (pair6 true))), [], .pairInfo (pair6 true), withMsg tetherP 1 (.winch (.pairInfo (pair6 true))), _, pair6 true,
    deliveredOf rfl rfl rfl, rfl, rfl, rfl, rfl, by decide +kernel, by decide +kernel⟩
theorem witness_WinchControlCompletes_12 : ∃ (src : Nat) (a : Arrived) (rest : List Arrived) (m : WinchMsg) (s u : State), Delivered src 1 a rest s ∧
    a.msg = .winch m ∧ u = s.setInbox rest ∧ m = .unpaired ∧ s.isTwin src = true ∧ s.twin.withheld = none :=
  ⟨6, from6 1 (.winch .unpaired), [], .unpaired, withMsg baseT 1 (.winch .unpaired), _,
    deliveredOf rfl rfl rfl, rfl, rfl, rfl, by decide +kernel, rfl⟩
theorem witness_WinchControlCompletes_13 : ∃ (src : Nat) (a : Arrived) (rest : List Arrived) (m : WinchMsg) (s u : State), ∃ partner seq q, Delivered
    src 1 a rest s ∧ a.msg = .winch m ∧ u = s.setInbox rest ∧ m = .recordRequest partner seq ∧ s.isTwin src = true ∧ (if partner then s.jr.partner
    else s.jr.own).find? (fun r => r.seq = seq) = some q :=
  ⟨6, from6 1 (.winch (.recordRequest false 4)), [], .recordRequest false 4,
    withJr (withMsg baseT 1 (.winch (.recordRequest false 4))) { own := [rec1 (.freeze 9)] }, _, false, 4, rec1 (.freeze 9),
    deliveredOf rfl rfl rfl, rfl, rfl, rfl, by decide +kernel, rfl⟩
theorem witness_WinchControlCompletes_14 : ∃ (src : Nat) (a : Arrived) (rest : List Arrived) (m : WinchMsg) (s u : State), ∃ partner q, Delivered src
    1 a rest s ∧ a.msg = .winch m ∧ u = s.setInbox rest ∧ m = .recordAnswer partner q ∧ s.isTwin src = true :=
  ⟨6, from6 1 (.winch (.recordAnswer true (rec1 (.freeze 9)))), [], .recordAnswer true (rec1 (.freeze 9)),
    withMsg baseT 1 (.winch (.recordAnswer true (rec1 (.freeze 9)))), _, true, rec1 (.freeze 9),
    deliveredOf rfl rfl rfl, rfl, rfl, rfl, by decide +kernel⟩
theorem witness_WinchControlCompletes_15 : ∃ (src : Nat) (a : Arrived) (rest : List Arrived) (m : WinchMsg) (s u : State), ∃ ctx commit e time x,
    Delivered src 1 a rest s ∧ a.msg = .winch m ∧ u = s.setInbox rest ∧ m = .mirrorFault ctx commit e time ∧ s.isTwin src = true ∧ s.ctx? ctx = some x
    :=
  ⟨6, from6 1 (.winch (.mirrorFault 0 9 e1 0)), [], .mirrorFault 0 9 e1 0, withMsg baseT 1 (.winch (.mirrorFault 0 9 e1 0)), _, 0, 9, e1, 0, ctx0,
    deliveredOf rfl rfl rfl, rfl, rfl, rfl, by decide +kernel, rfl⟩
theorem witness_WinchControlCompletes_16 : ∃ (src : Nat) (a : Arrived) (rest : List Arrived) (m : WinchMsg) (s u : State), ∃ ident r, Delivered src 1
    a rest s ∧ a.msg = .winch m ∧ u = s.setInbox rest ∧ m = .imageRequest ident ∧ s.boot.running = some r ∧ (s.twin.twinId = some ident ∨
    (s.twin.holdsPartner = true ∧ s.twin.partnerOf = some ident)) :=
  ⟨6, from6 1 (.winch (.imageRequest 6)), [], .imageRequest 6,
    withMsg { baseT with boot := { stage := .ready, running := some ⟨1, 1, [], false, false, false, []⟩ } } 1 (.winch (.imageRequest 6)), _, 6,
    ⟨1, 1, [], false, false, false, []⟩,
    deliveredOf rfl rfl rfl, rfl, rfl, rfl, rfl, by decide +kernel⟩
theorem witness_WinchControlCompletes_17 : ∃ (src : Nat) (a : Arrived) (rest : List Arrived) (m : WinchMsg) (s u : State), Delivered src 1 a rest s ∧
    a.msg = .winch m ∧ u = s.setInbox rest ∧ ((∃ i, m = .faultNotice i) ∨ (∃ b, m = .recoveryImage b)) :=
  ⟨6, from6 1 (.winch (.faultNotice 6)), [], .faultNotice 6, withMsg base 1 (.winch (.faultNotice 6)), _,
    deliveredOf rfl rfl rfl, rfl, rfl, .inl ⟨6, rfl⟩⟩

/-! `ErrorRowsComplete` -/

theorem witness_ErrorRowsComplete_0 : ∃ (r : ErrorReport) (s : State), s.live = true ∧ r.corrected = true :=
  ⟨⟨true, .moduleState, 0, 0, 0, 0, none⟩, base,
    by decide +kernel, by decide +kernel⟩
theorem witness_ErrorRowsComplete_1 : ∃ (r : ErrorReport) (s : State), ∃ ctx, s.live = true ∧ r.corrected = false ∧ r.place = .cleanCopy ctx :=
  ⟨errAt (.cleanCopy 0), base, 0,
    by decide +kernel, by decide +kernel, rfl⟩
theorem witness_ErrorRowsComplete_2 : ∃ (r : ErrorReport) (s : State), s.live = true ∧ r.corrected = false ∧ r.place = .secureWay :=
  ⟨errAt .secureWay, base,
    by decide +kernel, by decide +kernel, rfl⟩
theorem witness_ErrorRowsComplete_3 : ∃ (r : ErrorReport) (ctx : Nat) (x : Ctx) (s : State), s.live = true ∧ r.corrected = false ∧ (r.place =
    .jobState ctx ∨ (∃ e, r.place = .jobHome ctx e) ∨ r.place = .datapath (some ctx)) ∧ s.ctx? ctx = some x ∧ x.state ≠ .faulted ∧ (s.twin.state ≠
    .paired ∨ s.journalRoom 1 = false ∨ ∀ k, x.backTo = some k → x.replaysFrom k = false) :=
  ⟨errAt (.jobState 0), 0, ctx0, base,
    by decide +kernel, by decide +kernel, .inl rfl, rfl, by decide +kernel, .inl (by decide)⟩
theorem witness_ErrorRowsComplete_4 : ∃ (r : ErrorReport) (ctx : Nat) (x : Ctx) (s : State), ∃ k, s.live = true ∧ r.corrected = false ∧ (r.place =
    .jobState ctx ∨ (∃ e, r.place = .jobHome ctx e) ∨ r.place = .datapath (some ctx)) ∧ s.ctx? ctx = some x ∧ x.state ≠ .faulted ∧ s.twin.state =
    .paired ∧ s.journalRoom 1 = true ∧ x.backTo = some k ∧ x.replaysFrom k = true ∧ 2 ≤ k.rollbacks :=
  ⟨errAt (.jobState 0), 0, { ctx0 with kept := [{ kept9 with rollbacks := 2 }] }, baseTX { ctx0 with kept := [{ kept9 with rollbacks := 2 }] },
    { kept9 with rollbacks := 2 },
    by decide +kernel, by decide +kernel, .inl rfl, rfl, by decide +kernel, rfl, by decide +kernel, rfl, by decide +kernel, by decide +kernel⟩
theorem witness_ErrorRowsComplete_5 : ∃ (r : ErrorReport) (ctx : Nat) (x : Ctx) (s : State), ∃ k, s.live = true ∧ r.corrected = false ∧ (r.place =
    .jobState ctx ∨ (∃ e, r.place = .jobHome ctx e) ∨ r.place = .datapath (some ctx)) ∧ s.ctx? ctx = some x ∧ x.state ≠ .faulted ∧ s.twin.state =
    .paired ∧ s.journalRoom 1 = true ∧ x.backTo = some k ∧ x.replaysFrom k = true ∧ k.rollbacks < 2 :=
  ⟨errAt (.jobState 0), 0, { ctx0 with kept := [{ kept9 with rollbacks := 1 }] }, baseTX { ctx0 with kept := [{ kept9 with rollbacks := 1 }] },
    { kept9 with rollbacks := 1 },
    by decide +kernel, by decide +kernel, .inl rfl, rfl, by decide +kernel, rfl, by decide +kernel, rfl, by decide +kernel, by decide +kernel⟩
theorem witness_ErrorRowsComplete_6 : ∃ (r : ErrorReport) (part : Nat) (s : State), s.live = true ∧ r.corrected = false ∧ r.place = .moduleArea part ∧
    s.ctxsOf part ≠ [] :=
  ⟨errAt (.moduleArea 0), 0, base,
    by decide +kernel, by decide +kernel, rfl, by decide +kernel⟩
theorem witness_ErrorRowsComplete_7 : ∃ (r : ErrorReport) (part : Nat) (s : State), s.live = true ∧ r.corrected = false ∧ r.place = .moduleArea part ∧
    s.ctxsOf part = [] :=
  ⟨errAt (.moduleArea 1), 1, base,
    by decide +kernel, by decide +kernel, rfl, by decide +kernel⟩
theorem witness_ErrorRowsComplete_8 : ∃ (r : ErrorReport) (s : State), s.live = true ∧ r.corrected = false ∧ (r.place = .moduleState ∨ r.place =
    .datapath none) :=
  ⟨⟨false, .moduleState, 0, 0, 0, 0, none⟩, base,
    by decide +kernel, by decide +kernel, by decide +kernel⟩
theorem witness_ErrorRowsComplete_9 : ∃ (r : ErrorReport) (seq : Nat) (q : JRec) (s : State), ∃ tw, s.live = true ∧ r.corrected = false ∧ r.place =
    .ownRecord seq ∧ s.jr.own.find? (fun q => q.seq = seq) = some q ∧ s.twin.state = .paired ∧ s.twin.twinId = some tw :=
  ⟨errAt (.ownRecord 4), 4, rec1 (.freeze 9), withJr baseT { own := [rec1 (.freeze 9)] }, 6,
    by decide +kernel, by decide +kernel, rfl, rfl, rfl, rfl⟩
theorem witness_ErrorRowsComplete_10 : ∃ (r : ErrorReport) (seq : Nat) (q : JRec) (s : State), s.live = true ∧ r.corrected = false ∧ r.place =
    .ownRecord seq ∧ s.jr.own.find? (fun q => q.seq = seq) = some q ∧ s.twin.state ≠ .paired :=
  ⟨errAt (.ownRecord 4), 4, rec1 (.freeze 9), withJr base { own := [rec1 (.freeze 9)] },
    by decide +kernel, by decide +kernel, rfl, rfl, by decide +kernel⟩
theorem witness_ErrorRowsComplete_11 : ∃ (r : ErrorReport) (seq tw : Nat) (s : State), s.live = true ∧ r.corrected = false ∧ r.place = .partnerRecord
    seq ∧ s.twin.state = .paired ∧ s.twin.twinId = some tw :=
  ⟨⟨false, .partnerRecord 0, 0, 0, 0, 0, none⟩, 0, 6, baseT,
    by decide +kernel, by decide +kernel, rfl, rfl, rfl⟩
theorem witness_ErrorRowsComplete_12 : ∃ (r : ErrorReport) (slot tw ctx commit : Nat) (e : ExtentId) (s : State), s.live = true ∧ r.corrected = false
    ∧ r.place = .mirrorSlot slot ∧ s.slotOwner slot = some (ctx, commit, e) ∧ s.twin.state = .paired ∧ s.twin.twinId = some tw :=
  ⟨errAt (.mirrorSlot 3), 3, 6, 0, 9, e1, withJr baseT { images := [⟨0, 9, header0, [(e1, 3)], false⟩] },
    by decide +kernel, by decide +kernel, rfl, rfl, rfl, rfl⟩
theorem witness_ErrorRowsComplete_13 : ∃ (r : ErrorReport) (s : State), s.live = true :=
  ⟨⟨true, .moduleState, 0, 0, 0, 0, none⟩, base,
    by decide +kernel⟩
theorem witness_ErrorRowsComplete_14 : ∃ (d : Nat) (s : State) (r : ErrorReport), d < 10 ∧ s.live = true ∧ (s.wakeDie d false).live = true :=
  ⟨0, base, errAt .secureWay,
    by decide +kernel, by decide +kernel, by decide +kernel⟩
theorem witness_ErrorRowsComplete_16 : ∃ (s : State), s.live = true :=
  ⟨base,
    by decide +kernel⟩
theorem witness_ErrorRowsComplete_17 : ∃ (r : ErrorReport) (ctx : Nat) (s : State), s.live = true ∧ r.corrected = false ∧ r.place = .cowArea ctx :=
  ⟨errAt (.cowArea 0), 0, base,
    by decide +kernel, by decide +kernel, rfl⟩

/-! `SliceAndPlacementRowsComplete` -/

theorem witness_SliceAndPlacementRowsComplete_0 : ∃ (n : Nat) (p : Part) (sl : Slice) (s : State), s.live = true ∧ Tab.get s.parts n = some p ∧
    p.slice = some sl ∧ sl.start + sl.length ≤ s.time.now ∧ p.yield = none :=
  ⟨0, part0, ⟨0, 0, 1000000⟩, { base with time := { now := 1000000 } },
    by decide +kernel, rfl, rfl, by decide +kernel, rfl⟩
theorem witness_SliceAndPlacementRowsComplete_1 : ∃ (n : Nat) (p : Part) (sl : Slice) (s : State), s.live = true ∧ Tab.get s.parts n = some p ∧
    p.slice = some sl ∧ p.yield = some .sliceEnd ∧ s.atYield p sl.ctx = true ∧ ((s.saveGroups n sl.ctx).passSlice n).switching n = true :=
  ⟨0, { part0 with yield := some .sliceEnd }, ⟨0, 0, 1000000⟩,
    { base with parts := [(0, { part0 with yield := some .sliceEnd })], ctxs := [(0, ctx0), (1, ctx0)], rings := [(0, ring0), (1, { params := ⟨1, 16, 0, 0, 0, 0⟩ })] },
    by decide +kernel, rfl, rfl, rfl, by decide +kernel, by decide +kernel⟩
theorem witness_SliceAndPlacementRowsComplete_2 : ∃ (n : Nat) (p : Part) (sl : Slice) (s : State), s.live = true ∧ Tab.get s.parts n = some p ∧
    p.slice = some sl ∧ p.yield = some .sliceEnd ∧ s.atYield p sl.ctx = true ∧ ((s.saveGroups n sl.ctx).passSlice n).switching n = false :=
  ⟨0, { part0 with yield := some .sliceEnd }, ⟨0, 0, 1000000⟩, { base with parts := [(0, { part0 with yield := some .sliceEnd })] },
    by decide +kernel, rfl, rfl, rfl, by decide +kernel, by decide +kernel⟩
theorem witness_SliceAndPlacementRowsComplete_3 : ∃ (n c : Nat) (p : Part) (sl : Slice) (s : State), s.live = true ∧ Tab.get s.parts n = some p ∧
    p.slice = some sl ∧ p.yield = some (.preempt c) ∧ s.atYield p sl.ctx = true ∧ (s.canRun true c || s.canRun false c) = true ∧ s.preemptOut n c =
    none :=
  ⟨0, 1, { part0 with yield := some (.preempt 1) }, ⟨0, 0, 1000000⟩,
    { base with parts := [(0, { part0 with yield := some (.preempt 1) })], ctxs := [(0, ctx0), (1, ctx0)] },
    by decide +kernel, rfl, rfl, rfl, by decide +kernel, by decide +kernel, rfl⟩
theorem witness_SliceAndPlacementRowsComplete_4 : ∃ (n c : Nat) (p : Part) (sl : Slice) (s : State), ∃ v, s.live = true ∧ Tab.get s.parts n = some p ∧
    p.slice = some sl ∧ p.yield = some (.preempt c) ∧ s.atYield p sl.ctx = true ∧ (s.canRun true c || s.canRun false c) = true ∧ s.preemptOut n c =
    some v ∧ s.spillNeed p sl.ctx v ≤ s.spillFree n :=
  ⟨0, 1, partY, ⟨0, 0, 1000000⟩, baseY, _,
    by decide +kernel, rfl, rfl, rfl, by decide +kernel, by decide +kernel, rfl, by decide +kernel⟩
theorem witness_SliceAndPlacementRowsComplete_5 : ∃ (n c : Nat) (p : Part) (sl : Slice) (s : State), ∃ v, s.live = true ∧ Tab.get s.parts n = some p ∧
    p.slice = some sl ∧ p.yield = some (.preempt c) ∧ s.atYield p sl.ctx = true ∧ (s.canRun true c || s.canRun false c) = true ∧ s.preemptOut n c =
    some v ∧ s.spillFree n < s.spillNeed p sl.ctx v :=
  ⟨0, 1, partZ, ⟨0, 0, 1000000⟩, baseZ, _,
    by decide +kernel, rfl, rfl, rfl, by decide +kernel, by decide +kernel, rfl, by decide +kernel⟩
theorem witness_SliceAndPlacementRowsComplete_6 : ∃ (n len : Nat) (inc out : Option Nat) (p : Part) (s : State), ∃ c x, s.live = true ∧ Tab.get
    s.parts n = some p ∧ p.switch = some ⟨inc, len, out⟩ ∧ inc = some c ∧ s.ctx? c = some x ∧ x.state = .runnable :=
  ⟨0, 1000, some 0, none, { part0 with switch := some ⟨some 0, 1000, none⟩ },
    { base with parts := [(0, { part0 with switch := some ⟨some 0, 1000, none⟩ })] }, 0, ctx0,
    by decide +kernel, rfl, rfl, rfl, rfl, rfl⟩
theorem witness_SliceAndPlacementRowsComplete_7 : ∃ (n len : Nat) (inc out : Option Nat) (p : Part) (s : State), s.live = true ∧ Tab.get s.parts n =
    some p ∧ p.switch = some ⟨inc, len, out⟩ ∧ (inc = none ∨ ∃ c x, inc = some c ∧ s.ctx? c = some x ∧ x.state = .faulted) :=
  ⟨0, 1000, none, some 0, { part0 with switch := some ⟨none, 1000, some 0⟩ },
    { base with parts := [(0, { part0 with switch := some ⟨none, 1000, some 0⟩ })] },
    by decide +kernel, rfl, rfl, .inl rfl⟩
theorem witness_SliceAndPlacementRowsComplete_8 : ∃ (s : State), s.live = true :=
  ⟨base,
    by decide +kernel⟩
theorem witness_SliceAndPlacementRowsComplete_9 : ∃ (ctx : Nat) (e : ExtentId) (x : Ctx) (a : Ext) (nh : Home) (s : State), s.live = true ∧ s.ctx? ctx
    = some x ∧ x.ext? e = some a ∧ a.moving = some nh :=
  ⟨0, e1, { ctx0 with tensors := [(1, { tens .fp32 [1] with exts := [(0, { home := .hbm 0, moving := some (.ballast 0) })] })] },
    { home := .hbm 0, moving := some (.ballast 0) }, .ballast 0,
    baseX { ctx0 with tensors := [(1, { tens .fp32 [1] with exts := [(0, { home := .hbm 0, moving := some (.ballast 0) })] })] },
    by decide +kernel, rfl, rfl, rfl⟩
theorem witness_SliceAndPlacementRowsComplete_10 : ∃ (ctx : Nat) (e : ExtentId) (x : Ctx) (a : Ext) (s : State), s.live = true ∧ s.ctx? ctx = some x ∧
    x.ext? e = some a :=
  ⟨0, e1, ctx0, { home := .hbm 0 }, base,
    by decide +kernel, rfl, rfl⟩

/-! `MatrixDescriptorsComplete` -/

theorem witness_MatrixDescriptorsComplete_0 : ∃ (ctx : Nat) (x : Ctx) (r : Run) (d : Desc) (m : MatDesc) (s : State), s.dispatchable ctx 0x20 none
    true = some (x, r, d) ∧ d.mat = some m ∧ s.matOk x r d m = true ∧ (m.tileCount ≠ 0 → x.writesGathered d = false ∧ (s.seenBy r).pagesOk x (handles
    [m.a, m.b, if m.epiNext then 0 else m.c]) = true) ∧ m.tileCount ≠ 0 ∧ x.chains = [] :=
  ⟨0, ctxD [dMat], run1 [dMat], dMat, mat1, baseX (ctxD [dMat]),
    rfl, rfl, by decide +kernel, by decide +kernel, by decide +kernel, rfl⟩
theorem witness_MatrixDescriptorsComplete_1 : ∃ (ctx : Nat) (x : Ctx) (r : Run) (d : Desc) (m : MatDesc) (s : State), s.dispatchable ctx 0x20 none
    true = some (x, r, d) ∧ d.mat = some m ∧ s.matOk x r d m = false :=
  ⟨0, ctxD [dsc 0x8000000020 (4 + 5 * 2 ^ 32) 6 (1 + 2 ^ 24 + 2 ^ 48) 2 0 0], _, dsc 0x8000000020 (4 + 5 * 2 ^ 32) 6 (1 + 2 ^ 24 + 2 ^ 48) 2 0 0, _,
    baseX (ctxD [dsc 0x8000000020 (4 + 5 * 2 ^ 32) 6 (1 + 2 ^ 24 + 2 ^ 48) 2 0 0]),
    rfl, rfl, by decide +kernel⟩
theorem witness_MatrixDescriptorsComplete_2 : ∃ (ctx : Nat) (x : Ctx) (r : Run) (d : Desc) (m : MatDesc) (s : State), s.dispatchable ctx 0x20 none
    true = some (x, r, d) ∧ d.mat = some m ∧ s.matOk x r d m = true ∧ m.tileCount ≠ 0 ∧ x.writesGathered d = true :=
  ⟨0, { ctxD [dMat] with gathered := [(6, gone1)] }, run1 [dMat], dMat, mat1, baseX { ctxD [dMat] with gathered := [(6, gone1)] },
    rfl, rfl, by decide +kernel, by decide +kernel, by decide +kernel⟩
theorem witness_MatrixDescriptorsComplete_3 : ∃ (ctx : Nat) (x : Ctx) (r : Run) (d : Desc) (m : MatDesc) (s : State), s.dispatchable ctx 0x20 none
    true = some (x, r, d) ∧ d.mat = some m ∧ s.matOk x r d m = true ∧ m.tileCount ≠ 0 ∧ x.writesGathered d = false ∧ (s.seenBy r).pagesOk x (handles
    [m.a, m.b, if m.epiNext then 0 else m.c]) = false :=
  ⟨0, ctxV, run1 [dMat], dMat, mat1, { baseX ctxV with slots := [(0, { slot0 with obj := ⟨1, [], []⟩ })] },
    rfl, rfl, by decide +kernel, by decide +kernel, by decide +kernel, by decide +kernel⟩
theorem witness_MatrixDescriptorsComplete_4 : ∃ (ctx : Nat) (x x1 : Ctx) (r : Run) (d : Desc) (o : MatOp) (s : State), s.dispatchable ctx 0x31 (some
    0) true = some (x, r, d) ∧ x.opBefore r = some o ∧ s.epiOk x r d o.d = true ∧ x.writesGathered d = false ∧ ((s.dropOp ctx o).beginDesc ctx r
    d).ctx? ctx = some x1 ∧ ((s.seenBy r).readTensor x1 d.dst).isSome = true ∧ (s.seenBy r).readable x1 [d.srcA, d.srcB, d.flagH] :=
  ⟨0, ctxE, _, runE, dEpi, opE, baseX ctxE,
    rfl, rfl, by decide +kernel, by decide +kernel, rfl, by decide +kernel, readableOf (by decide +kernel)⟩
theorem witness_MatrixDescriptorsComplete_5 : ∃ (src : Nat) (a : Arrived) (rest : List Arrived) (m : ChainMsg) (x : Ctx) (s u : State), s.live = true
    ∧ takeFrom src 2 s.net.inbox = some (a, rest) ∧ a.msg = .chain m ∧ s.ctx? m.ctx = some x ∧ u = s.takeMsg 2 a.slots rest ∧ x.state = .faulted :=
  ⟨6, from6 2 (.chain (chm 1)), [], chm 1, { ctx0 with state := .faulted }, chS { ctx0 with state := .faulted } 1, _,
    by decide +kernel, rfl, rfl, rfl, rfl, rfl⟩
theorem witness_MatrixDescriptorsComplete_6 : ∃ (src : Nat) (a : Arrived) (rest : List Arrived) (m : ChainMsg) (x : Ctx) (s u : State), s.live = true
    ∧ takeFrom src 2 s.net.inbox = some (a, rest) ∧ a.msg = .chain m ∧ s.ctx? m.ctx = some x ∧ u = s.takeMsg 2 a.slots rest ∧ x.state ≠ .faulted ∧ (∀
    o ∈ x.chainOwed, ¬(o.src = src ∧ o.tag = m.tag)) ∧ x.ops.find? (fun o => o.awaits src m.tag) = none ∧ x.chainRoom m.areaBytes = true :=
  ⟨6, from6 2 (.chain (chm 1)), [], chm 1, ctx0, chS ctx0 1, _,
    by decide +kernel, rfl, rfl, rfl, rfl, by decide +kernel, by decide +kernel, rfl, by decide +kernel⟩
theorem witness_MatrixDescriptorsComplete_7 : ∃ (src : Nat) (a : Arrived) (rest : List Arrived) (m : ChainMsg) (x : Ctx) (s u : State), s.live = true
    ∧ takeFrom src 2 s.net.inbox = some (a, rest) ∧ a.msg = .chain m ∧ s.ctx? m.ctx = some x ∧ u = s.takeMsg 2 a.slots rest ∧ x.state ≠ .faulted ∧ (∀
    o ∈ x.chainOwed, ¬(o.src = src ∧ o.tag = m.tag)) ∧ x.ops.find? (fun o => o.awaits src m.tag) = none ∧ x.chainRoom m.areaBytes = false :=
  ⟨6, from6 2 (.chain (chm 1)), [], chm 1, noArea ctx0, chS (noArea ctx0) 1, _,
    by decide +kernel, rfl, rfl, rfl, rfl, by decide +kernel, by decide +kernel, rfl, by decide +kernel⟩
theorem witness_MatrixDescriptorsComplete_8 : ∃ (src : Nat) (a : Arrived) (rest : List Arrived) (m : ChainMsg) (x : Ctx) (s u : State), ∃ o, s.live =
    true ∧ takeFrom src 2 s.net.inbox = some (a, rest) ∧ a.msg = .chain m ∧ s.ctx? m.ctx = some x ∧ u = s.takeMsg 2 a.slots rest ∧ x.state ≠ .faulted
    ∧ (∀ o ∈ x.chainOwed, ¬(o.src = src ∧ o.tag = m.tag)) ∧ x.ops.find? (fun o => o.awaits src m.tag) = some o ∧ o.sameShape m = true ∧ (o.needsNow m
    = true ∨ x.chainRoom m.areaBytes = true) :=
  ⟨6, from6 2 (.chain (chm 1)), [], chm 1, xOps opR, chS (xOps opR) 1, _, opR,
    by decide +kernel, rfl, rfl, rfl, rfl, by decide +kernel, by decide +kernel, rfl, by decide +kernel, .inr (by decide +kernel)⟩
theorem witness_MatrixDescriptorsComplete_9 : ∃ (src : Nat) (a : Arrived) (rest : List Arrived) (m : ChainMsg) (x : Ctx) (s u : State), ∃ o, s.live =
    true ∧ takeFrom src 2 s.net.inbox = some (a, rest) ∧ a.msg = .chain m ∧ s.ctx? m.ctx = some x ∧ u = s.takeMsg 2 a.slots rest ∧ x.state ≠ .faulted
    ∧ (∀ o ∈ x.chainOwed, ¬(o.src = src ∧ o.tag = m.tag)) ∧ x.ops.find? (fun o => o.awaits src m.tag) = some o ∧ o.sameShape m = true ∧ o.needsNow m =
    false ∧ x.chainRoom m.areaBytes = false :=
  ⟨6, from6 2 (.chain (chm 1)), [], chm 1, noArea (xOps opR), chS (noArea (xOps opR)) 1, _, opR,
    by decide +kernel, rfl, rfl, rfl, rfl, by decide +kernel, by decide +kernel, rfl, by decide +kernel, by decide +kernel, by decide +kernel⟩
theorem witness_MatrixDescriptorsComplete_10 : ∃ (src : Nat) (a : Arrived) (rest : List Arrived) (m : ChainMsg) (x : Ctx) (s u : State), ∃ o, s.live =
    true ∧ takeFrom src 2 s.net.inbox = some (a, rest) ∧ a.msg = .chain m ∧ s.ctx? m.ctx = some x ∧ u = s.takeMsg 2 a.slots rest ∧ x.state ≠ .faulted
    ∧ (∀ o ∈ x.chainOwed, ¬(o.src = src ∧ o.tag = m.tag)) ∧ x.ops.find? (fun o => o.awaits src m.tag) = some o ∧ o.sameShape m = false :=
  ⟨6, from6 2 (.chain (chm 2)), [], chm 2, xOps opR, chS (xOps opR) 2, _, opR,
    by decide +kernel, rfl, rfl, rfl, rfl, by decide +kernel, by decide +kernel, rfl, by decide +kernel⟩
theorem witness_MatrixDescriptorsComplete_11 : ∃ (src : Nat) (a : Arrived) (rest : List Arrived) (m : ChainMsg) (x : Ctx) (s u : State), ∃ o, s.live =
    true ∧ takeFrom src 2 s.net.inbox = some (a, rest) ∧ a.msg = .chain m ∧ s.ctx? m.ctx = some x ∧ u = s.takeMsg 2 a.slots rest ∧ x.state ≠ .faulted
    ∧ x.chainOwed.find? (fun o => o.src = src && o.tag = m.tag) = some o ∧ o.batch = m.batch ∧ o.m = m.m ∧ o.n = m.n :=
  ⟨6, from6 2 (.chain (chm 1)), [], chm 1, { ctx0 with chainOwed := [⟨0, 6, 4, 1, 1, 1, []⟩] },
    chS { ctx0 with chainOwed := [⟨0, 6, 4, 1, 1, 1, []⟩] } 1, _, ⟨0, 6, 4, 1, 1, 1, []⟩,
    by decide +kernel, rfl, rfl, rfl, rfl, by decide +kernel, by decide +kernel, by decide +kernel⟩
theorem witness_MatrixDescriptorsComplete_12 : ∃ (src : Nat) (a : Arrived) (rest : List Arrived) (m : ChainMsg) (x : Ctx) (s u : State), ∃ o, s.live =
    true ∧ takeFrom src 2 s.net.inbox = some (a, rest) ∧ a.msg = .chain m ∧ s.ctx? m.ctx = some x ∧ u = s.takeMsg 2 a.slots rest ∧ x.state ≠ .faulted
    ∧ x.chainOwed.find? (fun o => o.src = src && o.tag = m.tag) = some o ∧ ¬(o.batch = m.batch ∧ o.m = m.m ∧ o.n = m.n) :=
  ⟨6, from6 2 (.chain (chm 2)), [], chm 2, { ctx0 with chainOwed := [⟨0, 6, 4, 1, 1, 1, []⟩] },
    chS { ctx0 with chainOwed := [⟨0, 6, 4, 1, 1, 1, []⟩] } 2, _, ⟨0, 6, 4, 1, 1, 1, []⟩,
    by decide +kernel, rfl, rfl, rfl, rfl, by decide +kernel, by decide +kernel, by decide +kernel⟩

/-! `TileRowsComplete` -/

theorem witness_TileRowsComplete_0 : ∃ (n : Nat) (k : TaskId) (o : MatOp) (x : Ctx) (s : State), n < 320 ∧ s.live = true ∧ s.opOf k = some o ∧ s.ctx?
    k.ctx = some x ∧ o.placed.contains (k, n) = true ∧ s.tileRuns n = true ∧ (x.homeDies ((s.seenByTask x k).leadPieces x o.d k)).all s.stacksUp =
    true :=
  ⟨0, task1, op1, ctxM op1, baseX (ctxM op1),
    by decide +kernel, by decide +kernel, rfl, rfl, by decide +kernel, by decide +kernel, by decide +kernel⟩
theorem witness_TileRowsComplete_1 : ∃ (n : Nat) (k : TaskId) (o : MatOp) (x : Ctx) (s : State), n < 320 ∧ s.live = true ∧ s.opOf k = some o ∧ s.ctx?
    k.ctx = some x ∧ o.placed.contains (k, n) = true ∧ s.tileRuns n = true ∧ (x.homeDies ((s.seenByTask x k).leadPieces x o.d k)).all s.stacksUp =
    false :=
  ⟨0, task1, op1,
    { ctxM op1 with tensors := [(4, { tens .l8 [1, 1] with exts := [(0, { home := .hbm 9 })] }), (5, tens .l8 [1, 1]), (6, tens .fp32 [1, 1])] },
    baseX { ctxM op1 with tensors := [(4, { tens .l8 [1, 1] with exts := [(0, { home := .hbm 9 })] }), (5, tens .l8 [1, 1]), (6, tens .fp32 [1, 1])] },
    by decide +kernel, by decide +kernel, rfl, rfl, by decide +kernel, by decide +kernel, by decide +kernel⟩
theorem witness_TileRowsComplete_2 : ∃ (n e : Nat) (k : TaskId) (o : MatOp) (x : Ctx) (s : State), n < 320 ∧ s.live = true ∧ s.tileRuns n = true ∧ e <
    3 ∧ (s.tile n).dispatchPtr = e ∧ (s.tile n).atDispatch e = true ∧ s.firstReady (s.tile n).ready (engineClass e) = some k ∧ s.opOf k = some o ∧
    s.ctx? k.ctx = some x :=
  ⟨0, 0, task1, op1, ctxM op1, { baseX (ctxM op1) with tiles := [(0, { ready := [task1] })] },
    by decide +kernel, by decide +kernel, by decide +kernel, by decide +kernel, rfl, by decide +kernel, rfl, rfl, rfl⟩
theorem witness_TileRowsComplete_3 : ∃ (n e : Nat) (r : Running2) (st : Staged) (s : State), n < 320 ∧ e < 3 ∧ s.running n e = some r ∧ s.stagedRound
    n e r.g.round = some st ∧ s.mayRun r.k.ctx = true ∧ s.tileRuns n = true ∧ r.g.inRound = false ∧ r.g.round < r.o.d.rounds r.k.chunk :=
  ⟨0, 0, ((onTile (ctxM op1) (openE task1 {} [⟨0, none, false⟩])).running 0 0).get (by decide +kernel), ⟨0, none, false⟩,
    onTile (ctxM op1) (openE task1 {} [⟨0, none, false⟩]),
    by decide +kernel, by decide +kernel, (Option.some_get _).symm, by decide +kernel, by decide +kernel, by decide +kernel, by decide +kernel,
      by decide +kernel⟩
theorem witness_TileRowsComplete_4 : ∃ (n e : Nat) (r : Running2) (s : State), n < 320 ∧ e < 3 ∧ s.running n e = some r ∧ s.live = true ∧ s.tileRuns n
    = true ∧ r.g.inRound = true :=
  ⟨0, 0, ((onTile (ctxM op1) (openE task1 { inRound := true } [])).running 0 0).get (by decide +kernel),
    onTile (ctxM op1) (openE task1 { inRound := true } []),
    by decide +kernel, by decide +kernel, (Option.some_get _).symm, by decide +kernel, by decide +kernel, by decide +kernel⟩
theorem witness_TileRowsComplete_5 : ∃ (n e : Nat) (r : Running2) (s : State), n < 320 ∧ e < 3 ∧ s.running n e = some r ∧ s.live = true ∧ s.tileRuns n
    = true ∧ r.g.inRound = false ∧ r.g.round = r.o.d.rounds r.k.chunk :=
  ⟨0, 0, ((onTile (ctxM op1) (openE task1 { round := 1 } [])).running 0 0).get (by decide +kernel), onTile (ctxM op1) (openE task1 { round := 1 } []),
    by decide +kernel, by decide +kernel, (Option.some_get _).symm, by decide +kernel, by decide +kernel, by decide +kernel, by decide +kernel⟩
theorem witness_TileRowsComplete_6 : ∃ (n e i : Nat) (g : Group) (k : TaskId) (o p : MatOp) (x : Ctx) (s : State), n < 320 ∧ e < 3 ∧ i < 8 ∧ s.live =
    true ∧ s.closedGroup n e i = some (g, k) ∧ s.opOf k = some o ∧ s.ctx? k.ctx = some x ∧ o.park k (g.outputs (o.d.mt * o.d.nt)) = some p ∧
    x.areaTakes o p = true :=
  ⟨0, 0, 7, _, task2, op2, _, ctxM op2, onTile (ctxM op2) (closedE task2),
    by decide +kernel, by decide +kernel, by decide +kernel, by decide +kernel, rfl, rfl, rfl, rfl, by decide +kernel⟩
theorem witness_TileRowsComplete_7 : ∃ (n e i : Nat) (g : Group) (k : TaskId) (o p : MatOp) (x : Ctx) (s : State), n < 320 ∧ e < 3 ∧ i < 8 ∧ s.live =
    true ∧ s.closedGroup n e i = some (g, k) ∧ s.opOf k = some o ∧ s.ctx? k.ctx = some x ∧ o.park k (g.outputs (o.d.mt * o.d.nt)) = some p ∧
    x.areaTakes o p = false :=
  ⟨0, 0, 7, _, task2, op2, _, noArea (ctxM op2), onTile (noArea (ctxM op2)) (closedE task2),
    by decide +kernel, by decide +kernel, by decide +kernel, by decide +kernel, rfl, rfl, rfl, rfl, by decide +kernel⟩
theorem witness_TileRowsComplete_8 : ∃ (n e i : Nat) (g : Group) (k : TaskId) (o p : MatOp) (x : Ctx) (s : State), n < 320 ∧ e < 3 ∧ i < 8 ∧ s.live =
    true ∧ s.closedGroup n e i = some (g, k) ∧ s.opOf k = some o ∧ s.ctx? k.ctx = some x ∧ o.park k (g.outputs (o.d.mt * o.d.nt)) = some p ∧ o.direct
    = false ∧ x.chainRoom o.d.tileBytes = true :=
  ⟨0, 0, 7, _, task2, op2, _, ctxM op2, onTile (ctxM op2) (closedE task2),
    by decide +kernel, by decide +kernel, by decide +kernel, by decide +kernel, rfl, rfl, rfl, rfl, by decide +kernel, by decide +kernel⟩
theorem witness_TileRowsComplete_9 : ∃ (n e i : Nat) (g : Group) (k : TaskId) (o p : MatOp) (x : Ctx) (s : State), n < 320 ∧ e < 3 ∧ i < 8 ∧ s.live =
    true ∧ s.closedGroup n e i = some (g, k) ∧ s.opOf k = some o ∧ s.ctx? k.ctx = some x ∧ o.park k (g.outputs (o.d.mt * o.d.nt)) = some p ∧ o.direct
    = true :=
  ⟨0, 0, 7, _, task1, opMax, _, ctxM opMax, onTile (ctxM opMax) (closedE task1),
    by decide +kernel, by decide +kernel, by decide +kernel, by decide +kernel, rfl, rfl, rfl, rfl, by decide +kernel⟩
theorem witness_TileRowsComplete_10 : ∃ (k : TaskId) (o o1 : MatOp) (x : Ctx) (ws : List Chain) (s s1 : State), s.live = true ∧ s.opOf k = some o ∧
    s.ctx? k.ctx = some x ∧ o.direct = false ∧ o.nextChunk (o.tileOf k) = k.chunk ∧ Tab.has o.finals (o.tileOf k) = false ∧ k.chunk ≠ o.d.chunkCount ∧
    s.takeChunk o k = some (ws, o1, s1) ∧ k.chunk = 0 ∧ o.d.accIn = false ∧ x.areaTakes o (o1.setSum k ws) = true :=
  ⟨task1, op2P, _, ctxM op2P, [.empty], baseX (ctxM op2P), _,
    by decide +kernel, rfl, rfl, by decide +kernel, rfl, by decide +kernel, by decide +kernel, rfl, rfl, by decide +kernel, by decide +kernel⟩
theorem witness_TileRowsComplete_11 : ∃ (k : TaskId) (o o1 : MatOp) (x : Ctx) (ws : List Chain) (s s1 : State), ∃ run, s.live = true ∧ s.opOf k = some
    o ∧ s.ctx? k.ctx = some x ∧ o.direct = false ∧ o.nextChunk (o.tileOf k) = k.chunk ∧ Tab.has o.finals (o.tileOf k) = false ∧ k.chunk ≠
    o.d.chunkCount ∧ s.takeChunk o k = some (ws, o1, s1) ∧ k.chunk ≠ 0 ∧ (Tab.get o.sums (o.tileOf k)).bind (·.words) = some run ∧ x.areaTakes o
    (o1.merge k run ws) = true :=
  ⟨task2, op2S, _, ctxM op2S, [.empty], baseX (ctxM op2S), _, [.empty],
    by decide +kernel, rfl, rfl, by decide +kernel, rfl, by decide +kernel, by decide +kernel, rfl, by decide +kernel, rfl, by decide +kernel⟩
theorem witness_TileRowsComplete_12 : ∃ (k : TaskId) (o o1 : MatOp) (x : Ctx) (ws : List Chain) (s s1 : State), ∃ run, s.live = true ∧ s.opOf k = some
    o ∧ s.ctx? k.ctx = some x ∧ o.direct = false ∧ o.nextChunk (o.tileOf k) = k.chunk ∧ Tab.has o.finals (o.tileOf k) = false ∧ k.chunk ≠
    o.d.chunkCount ∧ s.takeChunk o k = some (ws, o1, s1) ∧ k.chunk ≠ 0 ∧ (Tab.get o.sums (o.tileOf k)).bind (·.words) = some run ∧ x.areaTakes o
    (o1.merge k run ws) = false :=
  ⟨task2, op2F, _, noArea (ctxM op2F), _, onTile (noArea (ctxM op2F)) (closedE task2), _, [.empty],
    by decide +kernel, rfl, rfl, by decide +kernel, rfl, by decide +kernel, by decide +kernel, rfl, by decide +kernel, rfl, by decide +kernel⟩
theorem witness_TileRowsComplete_13 : ∃ (k : TaskId) (o : MatOp) (x : Ctx) (got run : List Chain) (s : State), s.live = true ∧ s.opOf k = some o ∧
    s.ctx? k.ctx = some x ∧ o.direct = false ∧ o.nextChunk (o.tileOf k) = k.chunk ∧ Tab.has o.finals (o.tileOf k) = false ∧ k.chunk = o.d.chunkCount ∧
    o.recvTile k = some got ∧ (Tab.get o.sums (o.tileOf k)).bind (·.words) = some run ∧ x.areaTakes o ((o.dropRecv k).merge k got run) = true :=
  ⟨taskL, opL, ctxM opL, (opL.recvTile taskL).get (by decide +kernel), [.empty], baseX (ctxM opL),
    by decide +kernel, rfl, rfl, by decide +kernel, rfl, by decide +kernel, rfl, (Option.some_get _).symm, rfl, by decide +kernel⟩
theorem witness_TileRowsComplete_14 : ∃ (n e i : Nat) (g : Group) (k : TaskId) (o : MatOp) (s : State), n < 320 ∧ s.live = true ∧ s.tileRuns n = true
    ∧ (s.tile n).stages.length < 2 ∧ (enginesFrom (s.tile n).drainPtr).find? (fun e => (s.awaitsDrain (s.tile n) e).isSome) = some e ∧ s.awaitsDrain
    (s.tile n) e = some (i, g, k) ∧ s.opOf k = some o :=
  ⟨0, 0, 7, _, task1, op1, onTile (ctxM op1) (closedE task1),
    by decide +kernel, by decide +kernel, by decide +kernel, by decide +kernel, rfl, rfl, rfl⟩
theorem witness_TileRowsComplete_15 : ∃ (n e i : Nat) (k : TaskId) (ws : List Chain) (s : State), n < 320 ∧ (s.tile n).stages.find? (fun g =>
    !g.2.2.1) = some (e, i, false, k, ws) :=
  ⟨319, 0, 7, task1, [], { base with tiles := [(319, { stages := [(0, 7, false, task1, [])] })] },
    by decide +kernel, rfl⟩
theorem witness_TileRowsComplete_16 : ∃ (n e i : Nat) (k : TaskId) (ws : List Chain) (o : MatOp) (s : State), n < 320 ∧ (s.tile n).stages.find? (fun g
    => g.2.2.1) = some (e, i, true, k, ws) ∧ s.opOf k = some o :=
  ⟨319, 0, 7, task1, [], op1, { baseX (ctxM op1) with tiles := [(319, { stages := [(0, 7, true, task1, [])] })] },
    by decide +kernel, rfl, rfl⟩

/-! `VectorRowsComplete` -/

theorem witness_VectorRowsComplete_0 : ∃ (ctx : Nat) (e : Instr × Nat) (x x1 : Ctx) (r : Run) (d : Desc) (s : State), e ∈ mapRows ctx ∧ s.dispatchable
    ctx 0x30 (some e.2) true = some (x, r, d) ∧ s.mapOk x r d = true ∧ x.writesGathered d = false ∧ (s.beginDesc ctx r d).ctx? ctx = some x1 ∧
    ((s.seenBy r).readTensor x1 d.dst).isSome = true ∧ (s.seenBy r).readable x1 [d.srcA, d.srcB, d.srcC, d.flagH] :=
  ⟨0, (.add 0, 1), ctxD [dAdd], _, run1 [dAdd], dAdd, baseX (ctxD [dAdd]),
    by simp [mapRows], rfl, by decide +kernel, by decide +kernel, rfl, by decide +kernel, readableOf (by decide +kernel)⟩
theorem witness_VectorRowsComplete_1 : ∃ (ctx : Nat) (e : Instr × Nat) (x x1 : Ctx) (r : Run) (d : Desc) (s : State), e ∈ reduceRows ctx ∧
    s.dispatchable ctx 0x32 (some e.2) true = some (x, r, d) ∧ s.rowOpOk x r d = true ∧ x.writesGathered d = false ∧ (s.beginDesc ctx r d).ctx? ctx =
    some x1 ∧ ((s.seenBy r).readTensor x1 d.dst).isSome = true ∧ (s.seenBy r).readable x1 [d.srcA, d.maskH, d.dst2, d.flagH] :=
  ⟨0, (.sum 0, 0), ctxD [dSum], _, run1 [dSum], dSum, baseX (ctxD [dSum]),
    by simp [reduceRows], rfl, by decide +kernel, by decide +kernel, rfl, by decide +kernel, readableOf (by decide +kernel)⟩
theorem witness_VectorRowsComplete_2 : ∃ (ctx : Nat) (x x1 : Ctx) (r : Run) (d : Desc) (s : State), s.dispatchable ctx 0x33 (some 0) true = some (x,
    r, d) ∧ s.rowOpOk x r d = true ∧ x.writesGathered d = false ∧ (s.beginDesc ctx r d).ctx? ctx = some x1 ∧ ((s.seenBy r).readTensor x1 d.dst).isSome
    = true ∧ (s.seenBy r).readable x1 [d.srcA, d.maskH, d.flagH] :=
  ⟨0, ctxD [dSoftmax], _, run1 [dSoftmax], dSoftmax, baseX (ctxD [dSoftmax]),
    rfl, by decide +kernel, by decide +kernel, rfl, by decide +kernel, readableOf (by decide +kernel)⟩
theorem witness_VectorRowsComplete_3 : ∃ (ctx : Nat) (e : Instr × Nat) (x : Ctx) (r : Run) (d : Desc) (s : State), e ∈ mapRows ctx ∧ s.dispatchable
    ctx 0x30 (some e.2) true = some (x, r, d) ∧ s.mapOk x r d = false :=
  ⟨0, (.add 0, 1), ctxD [dsc 0x8000000130 (1 + 99 * 2 ^ 32) 2 0 0 0 0], _, dsc 0x8000000130 (1 + 99 * 2 ^ 32) 2 0 0 0 0,
    baseX (ctxD [dsc 0x8000000130 (1 + 99 * 2 ^ 32) 2 0 0 0 0]),
    by simp [mapRows], rfl, by decide +kernel⟩
theorem witness_VectorRowsComplete_4 : ∃ (ctx : Nat) (e : Instr × Nat) (x : Ctx) (r : Run) (d : Desc) (s : State), e ∈ mapRows ctx ∧ s.dispatchable
    ctx 0x30 (some e.2) true = some (x, r, d) ∧ s.mapOk x r d = true ∧ x.writesGathered d = true :=
  ⟨0, (.add 0, 1), { ctxD [dAdd] with gathered := [(2, gone1)] }, run1 [dAdd], dAdd, baseX { ctxD [dAdd] with gathered := [(2, gone1)] },
    by simp [mapRows], rfl, by decide +kernel, by decide +kernel⟩
theorem witness_VectorRowsComplete_5 : ∃ (ctx : Nat) (e : Instr × Nat) (x : Ctx) (r : Run) (d : Desc) (s : State), e ∈ reduceRows ctx ∧ s.dispatchable
    ctx 0x32 (some e.2) true = some (x, r, d) ∧ s.rowOpOk x r d = false :=
  ⟨0, (.sum 0, 0), ctxD [dsc 0x8000000032 99 2 0 0 0 0], _, dsc 0x8000000032 99 2 0 0 0 0, baseX (ctxD [dsc 0x8000000032 99 2 0 0 0 0]),
    by simp [reduceRows], rfl, by decide +kernel⟩
theorem witness_VectorRowsComplete_6 : ∃ (ctx : Nat) (e : Instr × Nat) (x : Ctx) (r : Run) (d : Desc) (s : State), e ∈ reduceRows ctx ∧ s.dispatchable
    ctx 0x32 (some e.2) true = some (x, r, d) ∧ s.rowOpOk x r d = true ∧ x.writesGathered d = true :=
  ⟨0, (.sum 0, 0), { ctxD [dSum] with gathered := [(2, gone1)] }, run1 [dSum], dSum, baseX { ctxD [dSum] with gathered := [(2, gone1)] },
    by simp [reduceRows], rfl, by decide +kernel, by decide +kernel⟩

/-! `ScopeAndStashRowsComplete` -/

theorem witness_ScopeAndStashRowsComplete_0 : ∃ (ctx : Nat) (x : Ctx) (r : Run) (d : Desc) (s : State), s.dispatchable ctx 0x40 none false = some (x,
    r, d) ∧ s.layerOk (x.prune r) r d = true :=
  ⟨0, ctxD [(dsc 0x100000040 2 0 0 0 0 0), dConvert], run1 [(dsc 0x100000040 2 0 0 0 0 0), dConvert], (dsc 0x100000040 2 0 0 0 0 0),
    baseX (ctxD [(dsc 0x100000040 2 0 0 0 0 0), dConvert]),
    rfl, by decide +kernel⟩
theorem witness_ScopeAndStashRowsComplete_1 : ∃ (ctx : Nat) (x : Ctx) (sc : Scope) (r : Run) (s : State), ∃ p, s.live = true ∧ s.ctx? ctx = some x ∧
    x.scope = some sc ∧ findRun x.runs sc.ring sc.tseq = some r ∧ sc.over r = true ∧ sc.backward = false ∧ (x.prune r).placeAll sc ((r.descs.drop
    (sc.pos + 1)).take sc.len) = some p :=
  ⟨0, ctxL false, scope1 false, runL, baseX (ctxL false),
    (((ctxL false).prune runL).placeAll (scope1 false) ((runL.descs.drop ((scope1 false).pos + 1)).take (scope1 false).len)).get (by decide +kernel),
    by decide +kernel, rfl, rfl, rfl, by decide +kernel, by decide +kernel, (Option.some_get _).symm⟩
theorem witness_ScopeAndStashRowsComplete_2 : ∃ (ctx : Nat) (x : Ctx) (sc : Scope) (r : Run) (s : State), s.live = true ∧ s.ctx? ctx = some x ∧
    x.scope = some sc ∧ findRun x.runs sc.ring sc.tseq = some r ∧ sc.over r = true ∧ sc.backward = false ∧ (x.prune r).placeAll sc ((r.descs.drop
    (sc.pos + 1)).take sc.len) = none :=
  ⟨0, { ctxL false with params := { cparams with stashHbm := 0 } }, scope1 false, runL,
    baseX { ctxL false with params := { cparams with stashHbm := 0 } },
    by decide +kernel, rfl, rfl, rfl, by decide +kernel, by decide +kernel, by decide +kernel⟩
theorem witness_ScopeAndStashRowsComplete_3 : ∃ (ctx : Nat) (x y : Ctx) (sc : Scope) (r : Run) (s : State), s.live = true ∧ s.ctx? ctx = some x ∧
    x.scope = some sc ∧ findRun x.runs sc.ring sc.tseq = some r ∧ sc.over r = true ∧ sc.backward = true ∧ y = x.prune r :=
  ⟨0, ctxL true, _, scope1 true, runL, baseX (ctxL true),
    by decide +kernel, rfl, rfl, rfl, by decide +kernel, by decide +kernel, rfl⟩
theorem witness_ScopeAndStashRowsComplete_4 : ∃ (ctx h : Nat) (x : Ctx) (p : Part) (k : Tensor) (s : State), s.live = true ∧ s.ctx? ctx = some x ∧
    x.stash.any (fun e => e.handle = h && e.tier = .ballast && e.moveDue) = true ∧ Tab.get s.parts x.params.partition = some p ∧ p.channels ≠ [] ∧
    x.tensor? h = some k :=
  ⟨0, 1, { ctx0 with stash := [stashE .ballast true []] }, part0, tens .fp32 [1], baseX { ctx0 with stash := [stashE .ballast true []] },
    by decide +kernel, rfl, by decide +kernel, rfl, by decide +kernel, rfl⟩
theorem witness_ScopeAndStashRowsComplete_5 : ∃ (ctx h : Nat) (x : Ctx) (r : Run) (d : Desc) (s : State), s.live = true ∧ s.ctx? ctx = some x ∧
    x.nextDesc = some (r, d) ∧ s.holdsSlice ctx = true ∧ x.state ≠ .faulted ∧ d.reads.contains h = true ∧ x.dropped h = true ∧ s.recompute
    (x.stash.length + 1) x h = none :=
  ⟨0, 1, { ctxD [dConvert] with stash := [{ stashE .dropped false [] with inputs := [(2, 5)] }] }, run1 [dConvert], dConvert,
    baseX { ctxD [dConvert] with stash := [{ stashE .dropped false [] with inputs := [(2, 5)] }] },
    by decide +kernel, rfl, rfl, by decide +kernel, by decide +kernel, by decide +kernel, by decide +kernel, by decide +kernel⟩
theorem witness_ScopeAndStashRowsComplete_6 : ∃ (ctx h : Nat) (x : Ctx) (r : Run) (d : Desc) (s : State), ∃ y n k, s.live = true ∧ s.ctx? ctx = some x
    ∧ x.nextDesc = some (r, d) ∧ s.holdsSlice ctx = true ∧ x.state ≠ .faulted ∧ d.reads.contains h = true ∧ x.dropped h = true ∧ s.recompute
    (x.stash.length + 1) x h = some (y, n, k) :=
  ⟨0, 1, { ctxD [dConvert] with stash := [stashE .dropped false []] }, run1 [dConvert], dConvert,
    baseX { ctxD [dConvert] with stash := [stashE .dropped false []] }, _, _, _,
    by decide +kernel, rfl, rfl, by decide +kernel, by decide +kernel, by decide +kernel, by decide +kernel, rfl⟩

/-! `QueueRowsComplete` -/

theorem witness_QueueRowsComplete_0 : ∃ (ctx : Nat) (x : Ctx) (r : Run) (d : Desc) (q : Queue) (slot : SlotImage) (s : State), s.dispatchable ctx 0x48
    none false = some (x, r, d) ∧ Tab.get x.queues d.queueId = some q ∧ s.queueOk x r d true = true ∧ (s.seenBy r).imageForSlot x d.srcA = some slot
    :=
  ⟨0, ctxQ queueS [dSend], run1 [dSend], dSend, queueS, _, baseX (ctxQ queueS [dSend]),
    rfl, rfl, by decide +kernel, rfl⟩
theorem witness_QueueRowsComplete_1 : ∃ (ctx : Nat) (x x1 y : Ctx) (r : Run) (d : Desc) (q : Queue) (k : Tensor) (slot : SlotImage) (rest : List
    SlotImage) (s : State), s.dispatchable ctx 0x49 none false = some (x, r, d) ∧ Tab.get x.queues d.queueId = some q ∧ x.tensor? d.srcA = some k ∧
    s.queueOk x r d false = true ∧ x.writesGathered d = false ∧ q.slots = slot :: rest ∧ s.slotFits k.obj slot = true ∧ (s.beginDesc ctx r d).ctx? ctx
    = some x1 ∧ (s.seenBy r).fromSlot x1 d.srcA slot = some y :=
  ⟨0, ctxQ (queueR [slotI]) [dRecv], _, _, run1 [dRecv], dRecv, queueR [slotI], tens .fp32 [1], slotI, [], baseX (ctxQ (queueR [slotI]) [dRecv]),
    rfl, rfl, rfl, by decide +kernel, by decide +kernel, rfl, by decide +kernel, rfl, rfl⟩
theorem witness_QueueRowsComplete_2 : ∃ (ctx : Nat) (x x1 y : Ctx) (r : Run) (d : Desc) (q : Queue) (k : Tensor) (slot : SlotImage) (rest : List
    SlotImage) (s : State), s.dispatchable ctx 0x49 none false = some (x, r, d) ∧ Tab.get x.queues d.queueId = some q ∧ x.tensor? d.srcA = some k ∧
    s.queueOk x r d false = true ∧ x.writesGathered d = false ∧ q.slots = slot :: rest ∧ s.slotFits k.obj slot = false :=
  ⟨0, ctxQ (queueR [{ slotI with dims := [2] }]) [dRecv], ctx0, ctx0, run1 [dRecv], dRecv, queueR [{ slotI with dims := [2] }], tens .fp32 [1],
    { slotI with dims := [2] }, [], baseX (ctxQ (queueR [{ slotI with dims := [2] }]) [dRecv]),
    rfl, rfl, rfl, by decide +kernel, by decide +kernel, rfl, by decide +kernel⟩
theorem witness_QueueRowsComplete_3 : ∃ (src vc ctx id c : Nat) (slot : SlotImage) (a : Arrived) (rest : List Arrived) (x : Ctx) (q : Queue) (s :
    State), Delivered src vc a rest s ∧ a.msg = .queueSlot ctx id slot ∧ s.queueEnd src ctx id false = some c ∧ s.ctx? c = some x ∧ Tab.get x.queues
    id = some q :=
  ⟨6, 3, 0, 3, 0, slotI, from6 3 (.queueSlot 0 3 slotI), [], ctxQ (queueR []) [], queueR [],
    withMsg (baseX (ctxQ (queueR []) [])) 3 (.queueSlot 0 3 slotI),
    deliveredOf rfl rfl rfl, rfl, rfl, rfl, rfl⟩
theorem witness_QueueRowsComplete_4 : ∃ (src vc ctx id c ring tseq pos : Nat) (more : List (Nat × Nat × Nat)) (a : Arrived) (rest : List Arrived) (x :
    Ctx) (q : Queue) (s : State), Delivered src vc a rest s ∧ a.msg = .slotWritten ctx id ∧ s.queueEnd src ctx id true = some c ∧ s.ctx? c = some x ∧
    Tab.get x.queues id = some q ∧ q.unacked = (ring, tseq, pos) :: more :=
  ⟨6, 3, 0, 3, 0, 0, 1, 0, [], from6 3 (.slotWritten 0 3), [], ctxQ queueS [], queueS, withMsg (baseX (ctxQ queueS [])) 3 (.slotWritten 0 3),
    deliveredOf rfl rfl rfl, rfl, rfl, rfl, rfl, rfl⟩
theorem witness_QueueRowsComplete_5 : ∃ (src vc ctx id c : Nat) (a : Arrived) (rest : List Arrived) (x : Ctx) (q : Queue) (s : State), Delivered src
    vc a rest s ∧ a.msg = .queueCredit ctx id ∧ s.queueEnd src ctx id true = some c ∧ s.ctx? c = some x ∧ Tab.get x.queues id = some q :=
  ⟨6, 3, 0, 3, 0, from6 3 (.queueCredit 0 3), [], ctxQ queueS [], queueS, withMsg (baseX (ctxQ queueS [])) 3 (.queueCredit 0 3),
    deliveredOf rfl rfl rfl, rfl, rfl, rfl, rfl⟩
theorem witness_QueueRowsComplete_6 : ∃ (src vc ctx id : Nat) (a : Arrived) (rest : List Arrived) (s : State), ∃ slot, Delivered src vc a rest s ∧
    s.queueGone ctx id = true ∧ a.msg = .queueSlot ctx id slot ∧ s.queueEnd src ctx id false = none :=
  ⟨6, 3, 0, 3, from6 3 (.queueSlot 0 3 slotI), [], withMsg goneQ 3 (.queueSlot 0 3 slotI), slotI,
    deliveredOf rfl rfl rfl, by decide +kernel, rfl, rfl⟩
theorem witness_QueueRowsComplete_7 : ∃ (src vc ctx id : Nat) (a : Arrived) (rest : List Arrived) (s : State), Delivered src vc a rest s ∧ s.queueGone
    ctx id = true ∧ a.msg = .slotWritten ctx id ∧ s.queueEnd src ctx id true = none :=
  ⟨6, 3, 0, 3, from6 3 (.slotWritten 0 3), [], withMsg goneQ 3 (.slotWritten 0 3),
    deliveredOf rfl rfl rfl, by decide +kernel, rfl, rfl⟩
theorem witness_QueueRowsComplete_8 : ∃ (src vc ctx id : Nat) (a : Arrived) (rest : List Arrived) (s : State), Delivered src vc a rest s ∧ s.queueGone
    ctx id = true ∧ a.msg = .queueCredit ctx id ∧ s.queueEnd src ctx id true = none :=
  ⟨6, 3, 0, 3, from6 3 (.queueCredit 0 3), [], withMsg goneQ 3 (.queueCredit 0 3),
    deliveredOf rfl rfl rfl, by decide +kernel, rfl, rfl⟩

/-! `CollectiveRowsComplete` -/

theorem witness_CollectiveRowsComplete_0 : ∃ (ctx me : Nat) (x : Ctx) (r : Run) (d : Desc) (g : XGroup) (ep : Nat × Bool) (vals : List Val) (st :
    ConvStatus) (s : State), s.dispatchable ctx 0x50 none false = some (x, r, d) ∧ s.ident = some me ∧ Tab.get x.groups d.groupId = some g ∧
    s.xreduceOk x r d g.obj.members.length (rankOf g.obj.members me) = true ∧ x.writesGathered d = false ∧ x.epochFor d false = some ep ∧ s.firstRound
    x (newColl r d ctx me .xreduce g [] (d.digest (elemCount (((x.tensor? d.srcA).map (fun t => s.dimsOf t.obj)).getD [])) none)) = some (vals, st) :=
  ⟨0, 5, inGroup (ctxD [dReduce]), run1 [dReduce], dReduce, grp7, (0, false), _, _, baseX (inGroup (ctxD [dReduce])),
    rfl, rfl, rfl, by decide +kernel, by decide +kernel, rfl, rfl⟩
theorem witness_CollectiveRowsComplete_1 : ∃ (ctx me : Nat) (x : Ctx) (r : Run) (d : Desc) (g : XGroup) (k : Tensor) (ep : Nat × Bool) (s : State),
    s.dispatchable ctx 0x51 none false = some (x, r, d) ∧ s.ident = some me ∧ Tab.get x.groups d.groupId = some g ∧ x.tensor? d.srcB = some k ∧
    s.xgatherOk x r d g.obj.members.length (rankOf g.obj.members me) = true ∧ x.epochFor d false = some ep ∧ (d.srcA = 0 ∨ x.face d.srcA = x.face
    d.srcB) :=
  ⟨0, 5, inGroup (ctxD [dGather]), run1 [dGather], dGather, grp7, tens .fp32 [1], (0, false), baseX (inGroup (ctxD [dGather])),
    rfl, rfl, rfl, rfl, by decide +kernel, rfl, by decide +kernel⟩
theorem witness_CollectiveRowsComplete_2 : ∃ (ctx me : Nat) (x : Ctx) (r : Run) (d : Desc) (g g2 : XGroup) (ep : Nat × Bool) (s : State),
    s.dispatchable ctx 0x52 none false = some (x, r, d) ∧ s.ident = some me ∧ Tab.get x.groups d.groupId = some g ∧ Tab.get x.groups d.newGroup = some
    g2 ∧ s.permuteOk x r d g.obj.members g2.obj.members me = true ∧ x.writesGathered d = false ∧ x.epochFor d true = some ep ∧ (x.face d.srcA = none ∨
    x.face d.srcB = none ∨ x.face d.srcA = x.face d.srcB) :=
  ⟨0, 5, inGroup (ctxD [dPermute]), run1 [dPermute], dPermute, grp7, ⟨⟨[6, 5], 0⟩, [[6, 5]], []⟩, (0, true), baseX (inGroup (ctxD [dPermute])),
    rfl, rfl, rfl, rfl, by decide +kernel, by decide +kernel, rfl, by decide +kernel⟩
theorem witness_CollectiveRowsComplete_3 : ∃ (src me : Nat) (e : Instr × (Msg → Bool)) (a : Arrived) (rest : List Arrived) (h : CollHead) (x : Ctx) (s
    : State), e ∈ exchangeRows src ∧ Delivered src 2 a rest s ∧ e.2 a.msg = true ∧ a.msg.collHead = some h ∧ s.ctx? h.ctx = some x ∧ s.ident = some me
    ∧ x.state ≠ .faulted ∧ (x.wouldHold me a.msg = false ∨ x.chainRoom (HeldMsg.areaBytes ⟨src, a.port, a.msg⟩) = true) :=
  ⟨6, 5, (exchangeRows 6)[2], from6 2 xv1, [], ⟨0, 7, 0, 0, 0, 0⟩, { ctx0 with goneGroups := [7] },
    withMsg (baseX { ctx0 with goneGroups := [7] }) 2 xv1,
    by simp [exchangeRows], deliveredOf rfl rfl rfl, rfl, rfl, rfl, rfl, by decide +kernel, .inl (by decide +kernel)⟩
theorem witness_CollectiveRowsComplete_4 : ∃ (src me : Nat) (e : Instr × (Msg → Bool)) (a : Arrived) (rest : List Arrived) (h : CollHead) (x : Ctx) (s
    : State), e ∈ exchangeRows src ∧ Delivered src 2 a rest s ∧ e.2 a.msg = true ∧ a.msg.collHead = some h ∧ s.ctx? h.ctx = some x ∧ s.ident = some me
    ∧ x.state ≠ .faulted ∧ x.wouldHold me a.msg = true ∧ x.chainRoom (HeldMsg.areaBytes ⟨src, a.port, a.msg⟩) = false :=
  ⟨6, 5, (exchangeRows 6)[2], from6 2 xv1, [], ⟨0, 7, 0, 0, 0, 0⟩, noArea ctx0, withMsg (baseX (noArea ctx0)) 2 xv1,
    by simp [exchangeRows], deliveredOf rfl rfl rfl, rfl, rfl, rfl, rfl, by decide +kernel, by decide +kernel, xv1_full⟩

/-! `RegatherRowsComplete` -/

theorem witness_RegatherRowsComplete_0 : ∃ (ctx h me : Nat) (x : Ctx) (r : Run) (d : Desc) (g : Gathered) (q : XGroup) (s : State), s.live = true ∧
    s.ctx? ctx = some x ∧ s.ident = some me ∧ x.nextDesc = some (r, d) ∧ Tab.get x.gathered h = some g ∧ x.state ≠ .faulted ∧ d.reads.contains h =
    true ∧ g.held = false ∧ g.awaiting = [] ∧ x.rollbackDue = none ∧ Tab.get x.groups g.group = some q ∧ g.level ≠ .node ∧ Tab.has g.counts (rankOf
    q.obj.members me) = true ∧ (x.tensor? g.src = none ∨ g.unchanged (rankOf q.obj.members me) (x.writesOf g.src) = false) :=
  ⟨0, 1, 5, inGroup { ctxD [dConvert] with gathered := [(1, gone1)] }, run1 [dConvert], dConvert, gone1, grp7,
    baseX (inGroup { ctxD [dConvert] with gathered := [(1, gone1)] }),
    by decide +kernel, rfl, rfl, rfl, rfl, by decide +kernel, by decide +kernel, by decide +kernel, rfl, rfl, rfl, by decide +kernel,
      by decide +kernel, .inl rfl⟩
theorem witness_RegatherRowsComplete_1 : ∃ (src me rank : Nat) (a : Arrived) (rest : List Arrived) (q : ReadReq) (x : Ctx) (g : XGroup) (s u : State),
    ∃ d, s.live = true ∧ u = s.ctxs.foldl (fun b c => b.serveReads c.1) s ∧ Delivered src 3 a rest u ∧ a.msg = .readRequest q ∧ u.ctx? q.ctx = some x
    ∧ u.ident = some me ∧ Tab.get x.groups q.group = some g ∧ rank = rankOf g.obj.members me ∧ u.readFor x rank q = some d :=
  ⟨6, 5, 0, from6 3 (.readRequest (ask0 1)), [], ask0 1, inGroup ctx0, grp7, withMsg (baseX (inGroup ctx0)) 3 (.readRequest (ask0 1)),
    withMsg (baseX (inGroup ctx0)) 3 (.readRequest (ask0 1)), _,
    by decide +kernel, rfl, deliveredOf rfl rfl rfl, rfl, rfl, rfl, rfl, rfl, rfl⟩
theorem witness_RegatherRowsComplete_2 : ∃ (src me rank : Nat) (a : Arrived) (rest : List Arrived) (q : ReadReq) (x : Ctx) (g : XGroup) (s u : State),
    s.live = true ∧ u = s.ctxs.foldl (fun b c => b.serveReads c.1) s ∧ Delivered src 3 a rest u ∧ a.msg = .readRequest q ∧ u.ctx? q.ctx = some x ∧
    u.ident = some me ∧ Tab.get x.groups q.group = some g ∧ rank = rankOf g.obj.members me ∧ u.readFor x rank q = none :=
  ⟨6, 5, 0, from6 3 (.readRequest (ask0 1)), [], ask0 1, inGroup dueX, grp7, withMsg (baseX (inGroup dueX)) 3 (.readRequest (ask0 1)),
    withMsg (baseX (inGroup dueX)) 3 (.readRequest (ask0 1)),
    by decide +kernel, rfl, deliveredOf rfl rfl rfl, rfl, rfl, rfl, rfl, rfl, rfl⟩
theorem witness_RegatherRowsComplete_3 : ∃ (src me rank : Nat) (a : Arrived) (rest : List Arrived) (q : ReadReq) (x : Ctx) (g : XGroup) (s u : State),
    ∃ t, s.live = true ∧ u = s.ctxs.foldl (fun b c => b.serveReads c.1) s ∧ Delivered src 3 a rest u ∧ a.msg = .readRequest q ∧ u.ctx? q.ctx = some x
    ∧ u.ident = some me ∧ Tab.get x.groups q.group = some g ∧ rank = rankOf g.obj.members me ∧ q.node = false ∧ x.state ≠ .faulted ∧ x.rollbackDue =
    none ∧ q.writes ≤ x.writesOf q.handle ∧ u.readTensor x q.handle = some t :=
  ⟨6, 5, 0, from6 3 (.readRequest (ask0 1)), [], ask0 1, inGroup ctx0, grp7, withMsg (baseX (inGroup ctx0)) 3 (.readRequest (ask0 1)),
    withMsg (baseX (inGroup ctx0)) 3 (.readRequest (ask0 1)), _,
    by decide +kernel, rfl, deliveredOf rfl rfl rfl, rfl, rfl, rfl, rfl, rfl, by decide +kernel, by decide +kernel, rfl, by decide +kernel, rfl⟩
theorem witness_RegatherRowsComplete_4 : ∃ (src : Nat) (a : Arrived) (rest : List Arrived) (d : ReadData) (x : Ctx) (g : Gathered) (s : State),
    Delivered src 3 a rest s ∧ a.msg = .readData d ∧ s.ctx? d.ctx = some x ∧ Tab.get x.gathered d.handle = some g ∧ x.state ≠ .faulted ∧ g.number =
    d.tag ∧ g.awaiting.contains d.rank = true ∧ d.gone = false ∧ (g.level = .node ∨ g.unchanged d.rank d.writes = true) :=
  ⟨6, from6 3 (.readData (data0 false 1)), [], data0 false 1, gatherX .group, awaits1 .group,
    withMsg (baseX (gatherX .group)) 3 (.readData (data0 false 1)),
    deliveredOf rfl rfl rfl, rfl, rfl, rfl, by decide +kernel, rfl, by decide +kernel, by decide +kernel, .inr (by decide +kernel)⟩
theorem witness_RegatherRowsComplete_5 : ∃ (src : Nat) (a : Arrived) (rest : List Arrived) (d : ReadData) (x : Ctx) (g : Gathered) (s : State),
    Delivered src 3 a rest s ∧ a.msg = .readData d ∧ s.ctx? d.ctx = some x ∧ Tab.get x.gathered d.handle = some g ∧ x.state ≠ .faulted ∧ g.number =
    d.tag ∧ g.awaiting.contains d.rank = true ∧ g.level ≠ .node ∧ (d.gone = true ∨ g.unchanged d.rank d.writes = false) :=
  ⟨6, from6 3 (.readData (data0 true 1)), [], data0 true 1, gatherX .group, awaits1 .group,
    withMsg (baseX (gatherX .group)) 3 (.readData (data0 true 1)),
    deliveredOf rfl rfl rfl, rfl, rfl, rfl, by decide +kernel, rfl, by decide +kernel, by decide +kernel, .inl rfl⟩
theorem witness_RegatherRowsComplete_6 : ∃ (src : Nat) (a : Arrived) (rest : List Arrived) (d : ReadData) (x : Ctx) (g : Gathered) (s : State),
    Delivered src 3 a rest s ∧ a.msg = .readData d ∧ s.ctx? d.ctx = some x ∧ Tab.get x.gathered d.handle = some g ∧ x.state ≠ .faulted ∧ g.number =
    d.tag ∧ g.awaiting.contains d.rank = true ∧ g.level = .node ∧ d.gone = true :=
  ⟨6, from6 3 (.readData (data0 true 1)), [], data0 true 1, gatherX .node, awaits1 .node,
    withMsg (baseX (gatherX .node)) 3 (.readData (data0 true 1)),
    deliveredOf rfl rfl rfl, rfl, rfl, rfl, by decide +kernel, rfl, by decide +kernel, rfl, by decide +kernel⟩

/-! `EveryCommandCompletes` -/

theorem witness_EveryCommandCompletes_0 : ∃ (c : Instr) (s : State), c.wf = true :=
  ⟨.registerWrite 62 0 8 0, State.reset,
    by decide +kernel⟩
theorem witness_EveryCommandCompletes_2 : ∃ (fn off width v : Nat) (s : State), 62 < fn :=
  ⟨63, 0, 8, 0, State.reset,
    by decide +kernel⟩
theorem witness_EveryCommandCompletes_3 : ∃ (p : Nat) (s : State), 35 < p :=
  ⟨36, State.reset,
    by decide +kernel⟩
theorem witness_EveryCommandCompletes_4 : ∃ (n e : Nat) (s : State), 320 ≤ n :=
  ⟨320, 0, State.reset,
    by decide +kernel⟩

/-! `EveryStepLasts` -/

theorem witness_EveryStepLasts_0 : ∃ (s t : State), ∃ c rest, step s = .next t ∧ s.pending = c :: rest :=
  ⟨{ base with pending := [.add 0] }, _, .add 0, [],
    rfl, rfl⟩
theorem witness_EveryStepLasts_1 : ∃ (s t : State), step s = .next t ∧ s.pending = [] :=
  ⟨State.reset, _,
    rfl, rfl⟩
theorem witness_EveryStepLasts_2 : ∃ (s t : State), step s = .next t ∧ s.boot.powered = true ∧ s.errs.halted = true :=
  ⟨{ base with errs := { halted := true } }, _,
    rfl, by decide +kernel, by decide +kernel⟩

/-! `HardwareFrame` -/

theorem witness_HardwareFrame_0 : ∃ (c : Instr) (s t : State), changesHardware c = false ∧ exec c s = .next t :=
  ⟨.add 0, base, _,
    by decide +kernel, rfl⟩

/-! `VectorStoresFrame` -/

theorem witness_VectorStoresFrame_0 : ∃ (s : State) (x : Ctx) (r : Run) (d : Desc) (v : VecDone), ∃ h, (s.runMap x r d = some v ∨ s.runReduce x r d =
    some v ∨ s.runSoftmax x r d = some v) ∧ h ≠ d.dst ∧ h ≠ d.dst2 ∧ h ≠ d.flagH :=
  ⟨baseX (ctxD [dAdd]), ctxD [dAdd], run1 [dAdd], dAdd, ((baseX (ctxD [dAdd])).runMap (ctxD [dAdd]) (run1 [dAdd]) dAdd).get (by decide +kernel), 1,
    .inl (Option.some_get _).symm, by decide +kernel, by decide +kernel, by decide +kernel⟩
theorem witness_VectorStoresFrame_1 : ∃ (s : State) (x : Ctx) (r : Run) (d : Desc) (v : VecDone), ∃ p, (s.runMap x r d = some v ∨ s.runReduce x r d =
    some v ∨ s.runSoftmax x r d = some v) ∧ (∀ h k, (h = d.dst ∨ h = d.dst2 ∨ h = d.flagH) → x.tensor? h = some k → k.obj.kind = .kvView →
    k.obj.kv.pool ≠ p) :=
  ⟨baseX (ctxD [dAdd]), ctxD [dAdd], run1 [dAdd], dAdd, ((baseX (ctxD [dAdd])).runMap (ctxD [dAdd]) (run1 [dAdd]) dAdd).get (by decide +kernel), 0,
    .inl (Option.some_get _).symm, by rintro h k (rfl | rfl | rfl) hk hv <;> cases hk <;> cases hv⟩

/-! `LogSpecials` -/

theorem witness_LogSpecials_0 : ∃ (f : Fmt) (code : Nat) (tb tb2 : Int), f.isLog = true ∧ code < 2 ^ f.width ∧ (∀ y, decodeElem f code tb ≠ .fin y) :=
  ⟨.l8, 0x80, 127, -128,
    by decide +kernel, by decide +kernel, fun y h => by rw [show decodeElem .l8 0x80 127 = .nar by decide +kernel] at h; cases h⟩
theorem witness_LogSpecials_1 : ∃ (f : Fmt) (code : Nat) (tb tb2 : Int), ∃ y, f.isLog = true ∧ code < 2 ^ f.width ∧ decodeElem f code tb = .fin y :=
  ⟨.l8, 1, 127, -128, _,
    by decide +kernel, by decide +kernel, rfl⟩

/-! `SpecialsIntoEdge` -/

theorem witness_SpecialsIntoEdge_0 : ∃ (f : Fmt) (tb : Int) (rnd : Rnd) (ovf : Bool) (r16 : Nat), f.isEdge = true ∧ f ≠ .e4m3 :=
  ⟨.fp32, 0, .stochastic, true, 65535,
    by decide +kernel, by decide +kernel⟩
theorem witness_SpecialsIntoEdge_1 : ∃ (f : Fmt) (tb : Int) (rnd : Rnd) (ovf : Bool) (r16 : Nat), f.isEdge = true ∧ f = .e4m3 ∧ ovf = true :=
  ⟨.e4m3, 0, .nearestEven, true, 0,
    by decide +kernel, rfl, by decide +kernel⟩
theorem witness_SpecialsIntoEdge_2 : ∃ (f : Fmt) (tb : Int) (rnd : Rnd) (ovf : Bool) (r16 : Nat), f.isEdge = true ∧ f = .e4m3 ∧ ovf = false :=
  ⟨.e4m3, 0, .towardZero, false, 0,
    by decide +kernel, rfl, by decide +kernel⟩

/-! `ChainWords` -/

theorem witness_ChainWords_0 : ∃ (w : Wide) (e : Int), (∀ v, w = .fin v → inWRange v = true) ∧ -512 ≤ e ∧ e ≤ 511 :=
  ⟨.fin 0, 511,
    fun v h => by cases h; decide, by decide +kernel, by decide +kernel⟩
theorem witness_ChainWords_1 : ∃ (w : Nat), w < 2 ^ 64 :=
  ⟨2 ^ 64 - 1,
    by decide +kernel⟩
theorem witness_ChainWords_2 : ∃ (w : Nat) (v : Wide), w < 2 ^ 64 ∧ w / 2 ^ 59 = 0 ∧ bitOf w 58 = false ∧ wideOfBits (w % 2 ^ 48) = v ∧ (v = .nar ∨ ∃
    n, v = .inf n) :=
  ⟨2 ^ 47, .nar,
    by decide +kernel, rfl, by decide +kernel, by decide +kernel, by decide +kernel⟩
theorem witness_ChainWords_3 : ∃ (w : Nat), chainOfBits w = none :=
  ⟨2 ^ 63,
    rfl⟩
theorem witness_ChainWords_4 : ∃ (o : MatOp) (m : ChainMsg), (∃ w ∈ m.words, chainOfBits w.word.toNat = none) :=
  ⟨op1, (⟨0, 6, 3, 0, 1, 1, [⟨0, 0, 0, BitVec.ofNat 64 (2 ^ 63)⟩]⟩ : ChainMsg),
    by decide +kernel⟩
theorem witness_ChainWords_5 : ∃ (o : MatOp) (m : ChainMsg) (w : ChainWord), m.words = [w] ∧ chainOfBits w.word.toNat = none :=
  ⟨op1, (⟨0, 6, 3, 0, 1, 1, [⟨0, 0, 0, BitVec.ofNat 64 (2 ^ 63)⟩]⟩ : ChainMsg), ⟨0, 0, 0, BitVec.ofNat 64 (2 ^ 63)⟩,
    rfl, rfl⟩
theorem witness_ChainWords_6 : ∃ (x : Ctx) (o : MatOp) (k : TaskId) (t : Tensor) (p e : Nat), x.tensor? o.d.acc = some t ∧ (o.d.tileIdx k)[p]? = some
    (some e) ∧ chainOfBits (wideAt t e) = none :=
  ⟨ctxA, opA, task1, accT, 0, 0,
    rfl, by decide +kernel, by decide +kernel⟩
theorem witness_ChainWords_7 : ∃ (s s1 : State) (x : Ctx) (o o1 : MatOp) (k : TaskId) (ws : List Chain), s.live = true ∧ s.opOf k = some o ∧ s.ctx?
    k.ctx = some x ∧ o.direct = false ∧ o.nextChunk (o.tileOf k) = 0 ∧ k.chunk = 0 ∧ o.d.chunkCount ≠ 0 ∧ o.d.accIn = true ∧ Tab.has o.finals
    (o.tileOf k) = false ∧ s.takeChunk o k = some (ws, o1, s1) ∧ (x.loadAcc o k).2 = true :=
  ⟨baseX ctxA, _, ctxA, opA, _, task1, [.empty],
    by decide +kernel, rfl, rfl, by decide +kernel, rfl, rfl, by decide +kernel, by decide +kernel, by decide +kernel, rfl, by decide +kernel⟩
theorem witness_ChainWords_9 : ∃ (o : MatOp) (st : Nat), o.wideInvalid = true :=
  ⟨{ op1 with wideInvalid := true }, 0,
    by decide +kernel⟩

/-! `HallmarksAdd` -/

theorem witness_HallmarksAdd_2 : ∃ (n : Nat) (a b : Int), 0 < n ∧ -(2 : Int) ^ (n - 1) ≤ a + b ∧ a + b < 2 ^ (n - 1) :=
  ⟨40, -(2 ^ 39), 0,
    by decide +kernel, by decide +kernel, by decide +kernel⟩
theorem witness_HallmarksAdd_3 : ∃ (n : Nat) (l1 l2 : List Int), 0 < n ∧ l1.Perm l2 ∧ 2 * (l1.map Int.natAbs).sum < 2 ^ n :=
  ⟨40, [1, 2], [2, 1],
    by decide +kernel, by decide +kernel, by decide +kernel⟩
theorem witness_HallmarksAdd_4 : ∃ (w e : Int), ¬ (255 : Int) ∣ e :=
  ⟨7, 256,
    by decide +kernel⟩

/-! `ShardsPartition` -/

theorem witness_ShardsPartition_0 : ∃ (elems sc n : Nat), ∃ e, 0 < sc ∧ chunkNo elems ≤ n * sc ∧ e < elems :=
  ⟨33, 1, 2, 32,
    by decide +kernel, by decide +kernel, by decide +kernel⟩
theorem witness_ShardsPartition_1 : ∃ (elems sc n : Nat), 0 < sc ∧ chunkNo elems ≤ n * sc :=
  ⟨33, 1, 2,
    by decide +kernel, by decide +kernel⟩
theorem witness_ShardsPartition_2 : ∃ (elems sc n : Nat), 0 < sc ∧ chunkNo elems ≤ n * sc :=
  ⟨33, 1, 2,
    by decide +kernel, by decide +kernel⟩
theorem witness_ShardsPartition_3 : ∃ (elems sc n : Nat), ∃ e k, 0 < sc ∧ chunkNo elems ≤ n * sc ∧ (shardSpan elems sc k).1 ≤ e ∧ e < (shardSpan elems
    sc k).1 + (shardSpan elems sc k).2 :=
  ⟨33, 1, 2, 0, 0,
    by decide +kernel, by decide +kernel, by decide +kernel, by decide +kernel⟩
theorem witness_ShardsPartition_4 : ∃ (elems sc n : Nat), ∃ k, 0 < sc ∧ chunkNo elems ≤ n * sc ∧ chunkNo elems ≤ k * sc :=
  ⟨33, 1, 2, 2,
    by decide +kernel, by decide +kernel, by decide +kernel⟩

/-! `LedgerWithinBudgets` -/

theorem witness_LedgerWithinBudgets_0 : ∃ (hbm ballast : Nat) (fb : Bool) (e : StashEntry) (p q : Placed), placeEntry hbm ballast fb e p = some q ∧
    heldIn .hbm p.ledger ≤ hbm ∧ heldIn .ballast p.ledger ≤ ballast ∧ (p.ledger.map (·.handle)).Nodup ∧ (∀ o ∈ p.ledger, o.handle ≠ e.handle) ∧
    e.charge ≤ hbm - heldIn .hbm p.ledger :=
  ⟨4, 0, false, stashE .hbm false [], ⟨[], 0, 0⟩, _,
    rfl, by decide +kernel, by decide +kernel, by decide +kernel, by decide +kernel, by decide +kernel⟩
theorem witness_LedgerWithinBudgets_1 : ∃ (hbm ballast : Nat) (fb : Bool) (e : StashEntry) (p q : Placed), ∃ o, ∃ a, placeEntry hbm ballast fb e p =
    some q ∧ heldIn .hbm p.ledger ≤ hbm ∧ heldIn .ballast p.ledger ≤ ballast ∧ (p.ledger.map (·.handle)).Nodup ∧ (∀ o ∈ p.ledger, o.handle ≠ e.handle)
    ∧ o ∈ p.ledger ∧ o.recomputable = false ∧ a ∈ q.ledger ∧ a.handle = o.handle ∧ a.tier = .dropped :=
  ⟨4, 0, false, stashE .hbm false [], ⟨[{ stashE .dropped false [] with handle := 2, recomputable := false }], 0, 0⟩, _,
    { stashE .dropped false [] with handle := 2, recomputable := false }, { stashE .dropped false [] with handle := 2, recomputable := false },
    rfl, by decide +kernel, by decide +kernel, by decide +kernel, by decide +kernel, by decide +kernel, by decide +kernel, by decide +kernel, rfl, rfl⟩

/-! `EventRecords` -/

theorem witness_EventRecords_0 : ∃ (s : State) (fn ty ctx detail detail2 : Nat), ∃ g, g ≠ fn :=
  ⟨base, 0, 1, 0, 0, 0, 1,
    by decide +kernel⟩
theorem witness_EventRecords_1 : ∃ (s : State) (fn ty ctx detail detail2 : Nat), (s.fn fn).avail = true ∧ (s.fn fn).evq.enable = true ∧ ((s.fn
    fn).evq.tail + 1) % 2 ^ (s.fn fn).evq.logDepth ≠ (s.fn fn).evq.head % 2 ^ (s.fn fn).evq.logDepth :=
  ⟨base, 0, 1, 0, 0, 0,
    by decide +kernel, by decide +kernel, by decide +kernel⟩
theorem witness_EventRecords_2 : ∃ (s : State) (fn ty ctx detail detail2 : Nat), ((s.fn fn).evq.enable = false ∨ ((s.fn fn).evq.tail + 1) % 2 ^ (s.fn
    fn).evq.logDepth = (s.fn fn).evq.head % 2 ^ (s.fn fn).evq.logDepth) :=
  ⟨{ base with funs := [(0, { fn0 with evq := {} })] }, 0, 1, 0, 0, 0,
    .inl rfl⟩

/-! `CommandBlocks` -/

theorem witness_CommandBlocks_0 : ∃ (h : CmdHead) (p : PartitionParams) (s : State), h.fn ≤ 62 ∧ s.canTake h.fn = false :=
  ⟨⟨62, false, 0, false⟩, part0.params, base,
    by decide +kernel, by decide +kernel⟩
theorem witness_CommandBlocks_1 : ∃ (h : CmdHead) (n q : Nat) (s : State), h.fn ≤ 62 ∧ s.canTake h.fn = true ∧ h.reserved = true :=
  ⟨⟨0, false, 0, true⟩, 0, 100, base,
    by decide +kernel, by decide +kernel, by decide +kernel⟩
theorem witness_CommandBlocks_2 : ∃ (h : CmdHead) (n q : Nat) (s : State), h.fn ≤ 62 ∧ h.fn ≠ 0 ∧ s.canTake h.fn = true ∧ h.reserved = false ∧ 100 ≤ q
    ∧ q ≤ 100000 :=
  ⟨⟨1, false, 0, false⟩, 0, 100000, { base with funs := [(0, { fn0 with mbox := { mb with tail := 0 } }), (1, fn0)] },
    by decide +kernel, by decide +kernel, by decide +kernel, by decide +kernel, by decide +kernel, by decide +kernel⟩
theorem witness_CommandBlocks_3 : ∃ (h : CmdHead) (ctx prio : Nat) (x : Ctx) (s : State), Taken h false s ∧ s.ctx? ctx = some x ∧ h.fn ≠ x.owner ∧
    h.fn ≠ 0 ∧ prio ≤ 3 :=
  ⟨⟨1, false, 0, false⟩, 0, 3, ctx0, { base with funs := [(0, { fn0 with mbox := { mb with tail := 0 } }), (1, fn0)] },
    takenOf rfl, rfl, by decide +kernel, by decide +kernel, by decide +kernel⟩
theorem witness_CommandBlocks_4 : ∃ (h : CmdHead) (ctx prio : Nat) (s : State), Taken h false s ∧ s.ctx? ctx = none ∧ prio ≤ 3 :=
  ⟨⟨1, false, 0, false⟩, 4095, 3, { base with funs := [(0, { fn0 with mbox := { mb with tail := 0 } }), (1, fn0)] },
    takenOf rfl, rfl, by decide +kernel⟩
theorem witness_CommandBlocks_5 : ∃ (h : CmdHead) (st cause a : Nat) (res : List Byte) (s : State), (s.fn h.fn).avail = true ∧ h.irq = false ∧
    res.length ≤ 16 ∧ (s.fn h.fn).mbox.endAddr = some a :=
  ⟨hd, 1, 0, _, [], base,
    by decide +kernel, by decide +kernel, by decide +kernel, rfl⟩
theorem witness_CommandBlocks_6 : ∃ (m : Mbox), m.waiting = none :=
  ⟨mb,
    rfl⟩
theorem witness_CommandBlocks_7 : ∃ (m : Mbox), m.waiting.isSome = true :=
  ⟨{ mb with waiting := some (hd, .restore 6) },
    by decide +kernel⟩
theorem witness_CommandBlocks_8 : ∃ (fn : Nat) (b : List Byte) (mem : HostRead), fieldAt b 0 2 = 0x0201 ∧ fieldAt b 36 1 ≤ 6 :=
  ⟨0, block0 0x0201, fun _ _ => none,
    by decide, by decide⟩
theorem witness_CommandBlocks_9 : ∃ (fn : Nat) (b : List Byte) (mem : HostRead) (s : State), fn ≤ 62 ∧ s.canTake fn = true ∧ blockLayout (fieldAt b 0
    2) = none :=
  ⟨62, block0 0xFFFF, fun _ _ => none, { base with funs := [(62, fn0)] },
    by decide +kernel, by decide +kernel, by decide +kernel⟩

/-! `FusesAtReady` -/

theorem witness_FusesAtReady_0 : ∃ (r : Running) (s : State), s.boot.running = some r ∧ s.boot.powered = true ∧ s.errs.halted = false ∧ s.boot.stage =
    .firmwareStart :=
  ⟨⟨1, 1, [], false, false, false, []⟩, { base with boot := { stage := .firmwareStart, running := some ⟨1, 1, [], false, false, false, []⟩ } },
    rfl, by decide +kernel, by decide +kernel, rfl⟩

/-! `LowestNumbers` -/

theorem witness_LowestNumbers_2 : ∃ (fuel c : Nat) (done : List Nat), ∃ d, done.length ≤ fuel ∧ done.Nodup ∧ (∀ d ∈ done, c < d) ∧ c < d ∧ d ≤
    (closeGaps fuel c done).1 :=
  ⟨1, 0, [1], 1,
    by decide +kernel, by decide +kernel, by decide +kernel, by decide +kernel, by decide +kernel⟩

/-! `NewTensorReads` -/

theorem witness_NewTensorReads_0 : ∃ (o : TObj) (a : Nat), a < planeStart o.fmt o.dims :=
  ⟨obj .l8 [1], 0,
    by decide +kernel⟩
theorem witness_NewTensorReads_1 : ∃ (o : TObj) (row : List Nat) (c : Nat), o.kind = .ordinary ∧ (o.fmt.isLog || o.fmt.isWeight) = true ∧ row ∈
    (readImage o []).codes ∧ c ∈ row :=
  ⟨obj .l8 [1, 1], [0], 0,
    rfl, by decide +kernel, by decide +kernel, by decide +kernel⟩
theorem witness_NewTensorReads_2 : ∃ (o : TObj) (row : List Nat) (n : Nat), o.kind = .ordinary ∧ o.fmt.hasBlocks = true ∧ row ∈ (readImage o []).nibs
    ∧ n ∈ row :=
  ⟨obj .l8 [1], [15], 15,
    rfl, by decide +kernel, by decide +kernel, by decide +kernel⟩
theorem witness_NewTensorReads_3 : ∃ (o : TObj) (row : List Nat) (c : Nat), o.kind = .ordinary ∧ o.fmt.isEdge = true ∧ row ∈ (readImage o []).codes ∧
    c ∈ row :=
  ⟨obj .fp32 [1], [0], 0,
    rfl, by decide +kernel, by decide +kernel, by decide +kernel⟩
theorem witness_NewTensorReads_4 : ∃ (o : TObj) (row : List Nat) (c : Nat), o.kind = .ordinary ∧ o.fmt.isInt = true ∧ row ∈ (readImage o []).codes ∧ c
    ∈ row :=
  ⟨obj .int8 [1], [0], 0,
    rfl, by decide +kernel, by decide +kernel, by decide +kernel⟩
theorem witness_NewTensorReads_5 : ∃ (o : TObj) (row : List Nat) (c : Nat), o.kind = .ordinary ∧ o.fmt = .b1 ∧ row ∈ (readImage o []).codes ∧ c ∈ row
    :=
  ⟨obj .b1 [1, 1], [0], 0,
    rfl, rfl, by decide +kernel, by decide +kernel⟩
theorem witness_NewTensorReads_6 : ∃ (k : Tensor) (e : Nat), k.obj.kind = .wide ∧ k.img = [] :=
  ⟨{ obj := { obj .l8 [1] with kind := .wide } }, 0,
    rfl, rfl⟩

end Sys2Proof.Tests
end

namespace Sys2Proof.Machine

/-! SUPPORT. Writes to the registers of BAR0 (R9, R386): which register file a write reaches, by function, stage and
offset, and what its size and its alignment decide. -/

section RegisterFiles

variable {s : State}

theorem State.live_iff : s.live = true ↔ s.boot.powered = true ∧ s.boot.stage = .ready ∧ s.errs.halted = false := by
  simp [State.live, and_assoc]

theorem State.live_eq_false_of_unpowered (h : s.boot.powered = false) : s.live = false := by
  simp [State.live, h]

@[simp] theorem State.live_telem (s : State) (t : Telem) : ({ s with telem := t } : State).live = s.live := rfl

/-! ### One 32-bit write -/

theorem State.writeReg_of_unpowered (h : s.boot.powered = false) (fn off : Nat) (v : Word32) :
    s.writeReg fn off v = s := by
  simp [State.writeReg, h]

/-- A live module takes the physical function's write of a module register to the module's file. -/
theorem State.writeReg_module (hl : s.live = true) {off : Nat} (hm : isModuleOff off = true) (v : Word32) :
    s.writeReg 0 off v = s.writeModule off v := by
  obtain ⟨hp, hs, hh⟩ := State.live_iff.mp hl
  simp [State.writeReg, hp, hs, hh, hm]

/-- A live module takes any function's write outside the module registers to the function's own file. -/
theorem State.writeReg_fn (hl : s.live = true) {off : Nat} (hm : isModuleOff off = false) (fn : Nat) (v : Word32) :
    s.writeReg fn off v = s.writeFn fn off v := by
  obtain ⟨hp, hs, hh⟩ := State.live_iff.mp hl
  simp [State.writeReg, hp, hs, hh, hm]

/-- In every stage, HALTED or not, a virtual function's write of a module register is dropped (R386). -/
theorem State.writeReg_module_of_vf {fn off : Nat} (hfn : 1 ≤ fn) (hm : isModuleOff off = true) (v : Word32) :
    s.writeReg fn off v = s := by
  have hne : fn ≠ 0 := by omega
  simp only [State.writeReg, if_neg hne, if_pos hm]
  split
  case isTrue => rfl
  case isFalse =>
    split
    case isTrue => rfl
    case isFalse => split <;> rfl

end RegisterFiles

/-! ### Offsets -/

theorem lt_of_isModuleOff {off : Nat} (h : isModuleOff off = true) : off < 0x22000 := by
  simp [isModuleOff] at h
  omega

/-- The registers lie below the doorbells. -/
theorem doorbellAt_eq_none_of_lt {off : Nat} (h : off < 0x1000000) : doorbellAt off = none :=
  if_neg fun hd => by omega

theorem doorbellAt_eq_none_of_isModuleOff {off : Nat} (h : isModuleOff off = true) : doorbellAt off = none :=
  doorbellAt_eq_none_of_lt ((lt_of_isModuleOff h).trans (by omega))

/-! ### A write of any size -/

/-- R386: a size other than 4 and 8 bytes, a misaligned write and one past the end of BAR0 are dropped. -/
theorem State.writeBar0_of_malformed (s : State) {fn off width v : Nat}
    (h : (width ≠ 4 ∧ width ≠ 8) ∨ off % width ≠ 0 ∨ 67108864 ≤ off) : s.writeBar0 fn off width v = s := by
  refine if_pos ?_
  simpa [or_assoc] using h

theorem State.writeBar0_four (s : State) {off : Nat} (hoff : off < 67108864) (ha : off % 4 = 0)
    (hd : doorbellAt off = none) (fn v : Nat) :
    s.writeBar0 fn off 4 v = s.writeReg fn off (BitVec.ofNat 32 v) := by
  simp [State.writeBar0, hd, ha, hoff]

theorem State.writeBar0_eight (s : State) {off : Nat} (hoff : off < 67108864) (ha : off % 8 = 0)
    (hd : doorbellAt off = none) (fn v : Nat) :
    s.writeBar0 fn off 8 v
      = (s.writeReg fn off (BitVec.ofNat 32 v)).writeReg fn (off + 4) (BitVec.ofNat 32 (v / 2 ^ 32)) := by
  simp [State.writeBar0, hd, ha, hoff]

/-- Without power every write is dropped, whatever it reaches. -/
theorem State.writeBar0_of_unpowered {s : State} (h : s.boot.powered = false) (fn off width v : Nat) :
    s.writeBar0 fn off width v = s := by
  unfold State.writeBar0
  split
  case isTrue => rfl
  case isFalse =>
    split
    case h_1 => simp [State.live_eq_false_of_unpowered h]
    case h_2 => simp [State.writeReg_of_unpowered h]

theorem State.writeBar0_module_of_vf (s : State) {fn off : Nat} (hfn : 1 ≤ fn) (hm : isModuleOff off = true)
    (v : Nat) : s.writeBar0 fn off 4 v = s := by
  by_cases hbad : off % 4 ≠ 0 ∨ 67108864 ≤ off
  · exact s.writeBar0_of_malformed (.inr hbad)
  · obtain ⟨ha, hoff⟩ := not_or.mp hbad
    rw [s.writeBar0_four (by omega) (by omega) (doorbellAt_eq_none_of_isModuleOff hm),
      State.writeReg_module_of_vf hfn hm]

/-! ### The row -/

/-- REGISTER_WRITE of one of the 63 functions is the write to BAR0. -/
theorem exec_registerWrite {fn : Nat} (hfn : fn ≤ 62) (off width v : Nat) (s : State) :
    exec (.registerWrite fn off width v) s = .next (s.writeBar0 fn off width v) :=
  withUnit_next _ (decide_eq_true hfn)

theorem exec_registerWrite_module {s : State} (hl : s.live = true) {off : Nat} (hm : isModuleOff off = true)
    (ha : off % 4 = 0) (v : Nat) :
    exec (.registerWrite 0 off 4 v) s = .next (s.writeModule off (BitVec.ofNat 32 v)) := by
  have hoff : off < 67108864 := (lt_of_isModuleOff hm).trans (by omega)
  rw [exec_registerWrite (by omega), s.writeBar0_four hoff ha (doorbellAt_eq_none_of_isModuleOff hm),
    State.writeReg_module hl hm]

theorem exec_registerWrite_fn {s : State} (hl : s.live = true) {fn off : Nat} (hfn : fn ≤ 62)
    (hm : isModuleOff off = false) (ha : off % 4 = 0) (hlt : off < 0x1000000) (v : Nat) :
    exec (.registerWrite fn off 4 v) s = .next (s.writeFn fn off (BitVec.ofNat 32 v)) := by
  rw [exec_registerWrite hfn, s.writeBar0_four (by omega) ha (doorbellAt_eq_none_of_lt hlt),
    State.writeReg_fn hl hm]

theorem exec_registerWrite_eight {fn off : Nat} (hfn : fn ≤ 62) (hoff : off < 67108864) (ha : off % 8 = 0)
    (hd : doorbellAt off = none) (v : Nat) (s : State) :
    exec (.registerWrite fn off 8 v) s
      = .next ((s.writeReg fn off (BitVec.ofNat 32 v)).writeReg fn (off + 4) (BitVec.ofNat 32 (v / 2 ^ 32))) := by
  rw [exec_registerWrite hfn, s.writeBar0_eight hoff ha hd]

/-! ### The base of the telemetry ring (R451) -/

theorem State.writeModule_telemBaseLo {s : State} (he : s.telem.enable = false) (v : Word32) :
    s.writeModule 0x140 v = { s with telem := { s.telem with baseLo := v &&& 0xFFFFF000 } } := by
  simp [State.writeModule, he]

theorem State.writeModule_telemBaseHi {s : State} (he : s.telem.enable = false) (v : Word32) :
    s.writeModule 0x144 v = { s with telem := { s.telem with baseHi := v } } := by
  simp [State.writeModule, he]

/-- The two halves of the base, written in turn: the first write leaves the module live and the ring disabled. -/
theorem State.writeReg_telemBase {s : State} (hl : s.live = true) (he : s.telem.enable = false) (lo hi : Word32) :
    (s.writeReg 0 0x140 lo).writeReg 0 0x144 hi
      = { s with telem := { s.telem with baseLo := lo &&& 0xFFFFF000, baseHi := hi } } := by
  rw [State.writeReg_module hl rfl, State.writeModule_telemBaseLo he,
    State.writeReg_module ((s.live_telem _).trans hl) rfl, State.writeModule_telemBaseHi]
  exact he

/-- Settles O15: each write is taken to its register file, where the field named by the offset takes the value; the
8-byte write of the telemetry base is the write of its two halves. -/
theorem registerWriteCompletes : Obligations.RegisterWriteCompletes := by
  unfold Obligations.RegisterWriteCompletes
  refine ⟨?select, ?policy, ?telemBase, ?mboxBase, ?evqHead, ?eight, ?dropped⟩
  case select =>
    intro v s hl
    exact exec_registerWrite_module hl rfl rfl v
  case policy =>
    intro v s hl
    exact exec_registerWrite_module hl rfl rfl v
  case telemBase =>
    intro v s hl he
    rw [exec_registerWrite_eight (by omega) (by omega) rfl rfl, State.writeReg_telemBase hl he]
  case mboxBase =>
    intro fn v s hfn hl he
    rw [exec_registerWrite_fn hl hfn rfl rfl (by omega)]
    simp [State.writeFn, he]
  case evqHead =>
    intro fn v s hfn hl
    exact exec_registerWrite_fn hl hfn rfl rfl (by omega) v
  case eight =>
    intro fn off v s hfn hoff ha hd
    exact exec_registerWrite_eight hfn hoff ha hd v s
  case dropped =>
    intro fn off width v s hfn h
    rw [exec_registerWrite hfn]
    obtain hw | ha | hoff | hp | ⟨hvf, hm, rfl⟩ := h
    · rw [s.writeBar0_of_malformed (.inl hw)]
    · rw [s.writeBar0_of_malformed (.inr (.inl ha))]
    · rw [s.writeBar0_of_malformed (.inr (.inr hoff))]
    · rw [State.writeBar0_of_unpowered hp]
    · rw [s.writeBar0_module_of_vf hvf hm]

end Sys2Proof.Machine

namespace Sys2Proof.Machine

/-! SUPPORT. What any command can answer (R15, R16, R22). -/

/-- A unit that the module does not have: the one fault (log entry 89). -/
theorem withUnit_noSuchUnit {c : Bool} (s : State) (h : c = false) : withUnit c s = .fault .noSuchUnit := by
  simp [withUnit, h]

theorem withUnit_ne_refused (c : Bool) (s : State) (r : Refusal) : withUnit c s ≠ .refused r := by
  cases c <;> simp [withUnit]

/-- The two shapes of a command's meaning: a row that numbers no unit of the module, or only a virtual channel, answers a
next state whatever its operands; any other row answers one exactly when the units it numbers exist. -/
theorem exec_next_or_withUnit (i : Instr) (s : State) :
    (∃ t, exec i s = .next t) ∨ ∃ t, exec i s = withUnit i.wf t := by
  cases i with
  | logSnapDone | ticketFetch | ticketAccept | ticketComplete | journalRecords | matrix | mergeCombine | convert |
  add | sub | mul | div | mulAdd | max | min | ladd | square | sqrt | recip | exp | log | act | abs | epilogue |
  sum | sumsq | reduceMax | reduceMin | count | lse | meanvar | softmax | layer | scopeComplete | stashMove |
  recompute | qsend | qrecv | queueSlot | slotWrittenAck | queueCredit | xreduce | xgather | permute | xs | xd |
  xv | xgatherData | permuteData | chainWords | regather | slotSet | commitFreeze | cowCopy | commitTransfer |
  memoryWrite | mirrorExtentAck | commitCoordination | commitSealed | memoryReadRequest | memoryReadData |
  winchControl | twinAuth | sessionRekey | twinPairRetry | twinLost | restoreRequest | twinRestoreTimeout |
  restoreStepDone | jobReplay | partitionYieldPoint | sliceEnd | switchDone | rootTimeout | rootInSync |
  mapPlanTimeout | placementWindow | extentMoveDone | errorDetected | errorWindowClose | logbookCommit |
  logbookSecondSample | logbookHourlySample | powerSample | governorInterval | stepUpCheck | clockStepApply |
  thermalShutdown | telemetryWindowEnd | powerApplied | inputDisconnect | bootHeaderRead | bootBodyVerified |
  firmwareReady | recoveryHeader | recoveryImageReceived | recoveryImageRequest | warmReset | linkReset |
  spillMergeDone =>
    exact .inl ⟨_, rfl⟩
  | partitionCreate | partitionDestroy | partitionQuantum | contextCreate | contextDestroy | contextPriority |
  contextQuery | ringCreate | ringDestroy | clientCounts | tensorCreate | tensorDelete | tensorMap | tensorUnmap |
  tensorQuery | kvPoolCreate | kvMap | kvPoolDestroy | slotAssign | slotRelease | slotQuery | queueCreate |
  xgroupCreate | gatherBudget | mapPlan | queueDestroy | xgroupDestroy | mapPlanDrop | moduleIdSet | fabricReserve |
  portReset | cartridgeRelease | twinPair | twinUnpair | twinSolo | twinRestore | jobRollback | commitRelease |
  journalQuery | fwUpdate | moduleReset | functionResync | certRead | attestQuote | regionQuery |
  winchMboxCfgWrite | winchEvqCfgWrite | ringDoorbell | fabricTimeLoRead | logSnap | logDataRead | xdTelemCfgWrite |
  xdTelemPeriodWrite | keepAwakeWrite | recoveryGo | registerWrite | bar2Read | bar2Write | operandsReady |
  taskDispatch | roundStart | windowClose | groupClose | groupPark | groupDrainStart | groupDrainReadDone |
  drainStageDone | lightDetected | lightLost | trainingStepTimeout | trainingTimeout | portRetry | train |
  fecGroupReceive | packetReceive | ack | replay | nakResendTimeout | ackInterval | credit | packetTransmit | down |
  timeSync | timeReply | timeSyncTimer | portWindowEnd | laserBiasLimit | cartridgeInsert | laserLock |
  patrolScrub | engineGate | engineStart | clusterSleep | dieNap | dieOff | dieRailUp | dieWakeDone |
  clusterWakeDone | functionLevelReset | functionUnavailable | functionAvailable | winchMboxTailWrite |
  equaliserLocked | codewordBoundariesFound | cartridgeReleaseTimeout =>
    exact .inr ⟨_, rfl⟩

theorem exec_next_of_wf {i : Instr} (h : i.wf = true) (s : State) : ∃ t, exec i s = .next t := by
  obtain hnext | ⟨t, ht⟩ := exec_next_or_withUnit i s
  · exact hnext
  · exact ⟨t, ht.trans (withUnit_next t h)⟩

theorem exec_ne_refused (i : Instr) (s : State) (r : Refusal) : exec i s ≠ .refused r := by
  obtain ⟨t, ht⟩ | ⟨t, ht⟩ := exec_next_or_withUnit i s
  · simp [ht]
  · exact ht ▸ withUnit_ne_refused i.wf t r

/-- Settles O45: a meaning answers a next state outright or asks whether its units exist, so a well-formed command answers
a next state and none is refused; function 63, port 36 and tile 320 are the first that the module does not have. -/
theorem everyCommandCompletes : Obligations.EveryCommandCompletes := by
  unfold Obligations.EveryCommandCompletes
  refine ⟨?wellFormed, ?notRefused, ?function, ?port, ?tile⟩
  case wellFormed => exact fun _ s h => exec_next_of_wf h s
  case notRefused => exact exec_ne_refused
  case function => exact fun fn _ _ _ _ h => withUnit_noSuchUnit _ (decide_eq_false (show ¬ fn ≤ 62 by omega))
  case port => exact fun p _ h => withUnit_noSuchUnit _ (decide_eq_false (show ¬ p < 36 by omega))
  case tile =>
    intro n e s h
    have hn : decide (n < 320) = false := decide_eq_false (by omega)
    exact withUnit_noSuchUnit _ (by rw [hn, Bool.false_and])

end Sys2Proof.Machine

namespace Sys2Proof.Machine

/-! SUPPORT. The special codes of the log formats and the specials written into the edge formats
(R34, R35, R58, Table 2.10). -/

/-! ### The sign bit and the magnitude below it -/

/-- A code of n + 1 bits with magnitude 0 is its sign bit and nothing else. -/
theorem magnitude_zero_and_sign_iff {code n : Nat} (h : code < 2 ^ (n + 1)) (b : Bool) :
    (code % 2 ^ n = 0 ∧ bitOf code n = b) ↔ code = signBit b (n + 1) := by
  have hpos : 0 < 2 ^ n := Nat.two_pow_pos n
  have hsign : code / 2 ^ n < 2 := Nat.div_lt_of_lt_mul (by rwa [Nat.pow_succ] at h)
  have hcode : 2 ^ n * (code / 2 ^ n) + code % 2 ^ n = code := Nat.div_add_mod code (2 ^ n)
  have hbit : bitOf code n = decide (code / 2 ^ n = 1) := by
    rw [bitOf, Nat.shiftRight_eq_div_pow, Nat.mod_eq_of_lt hsign]
  constructor
  · rintro ⟨hmag, rfl⟩
    obtain hq | hq := Nat.le_one_iff_eq_zero_or_eq_one.mp (Nat.lt_succ_iff.mp hsign)
    all_goals
      rw [hq, hmag] at hcode
      simpa [hbit, hq, signBit] using hcode.symm
  · rintro rfl
    cases b <;> simp [signBit, bitOf, Nat.shiftRight_eq_div_pow, hpos]

/-! ### Reading a log code -/

theorem decodeElem_of_isLog {f : Fmt} (hf : f.isLog = true) (code : Nat) (tb : Int) :
    decodeElem f code tb = decodeLog f code tb := by
  cases f with
  | l8 | lg8 | l16 | l32 => rfl
  | w4p1 | w8p2 | b1 | fp32 | bf16 | fp16 | e4m3 | e5m2 | int8 | int4 => nomatch hf

theorem Fmt.width_pos (f : Fmt) : 0 < f.width := by
  cases f <;> decide

theorem decodeLog_eq_zero_iff (f : Fmt) (code : Nat) (tb : Int) (n : Bool) :
    decodeLog f code tb = .zero n ↔
      (code % 2 ^ (f.width - 1) = 0 ∧ bitOf code (f.width - 1) = false) ∧ n = false := by
  simp only [decodeLog]
  cases n <;> split_ifs <;> simp_all

theorem decodeLog_eq_nar_iff (f : Fmt) (code : Nat) (tb : Int) :
    decodeLog f code tb = .nar ↔ code % 2 ^ (f.width - 1) = 0 ∧ bitOf code (f.width - 1) = true := by
  simp only [decodeLog]
  split_ifs <;> simp_all

/-- A log code is a special, the same under every scale, or under every scale finite with the code's own sign. -/
theorem decodeLog_special_or_fin (f : Fmt) (code : Nat) :
    (∃ v, (∀ y, v ≠ .fin y) ∧ ∀ tb, decodeLog f code tb = v) ∨
      ∀ tb, ∃ p, decodeLog f code tb = .fin (Exact.pow (bitOf code (f.width - 1)) p f.unitBits) := by
  simp only [decodeLog]
  split_ifs
  · exact .inl ⟨.nar, nofun, fun _ => rfl⟩
  · exact .inl ⟨.zero false, nofun, fun _ => rfl⟩
  · exact .inl ⟨.inf _, nofun, fun _ => rfl⟩
  · exact .inr fun _ => ⟨_, rfl⟩

/-- Settles O50: zero and NaR are the two codes of magnitude 0, told apart by the sign; the scale enters only where the
code is finite, and there it moves the exponent and leaves the sign. -/
theorem logSpecials : Obligations.LogSpecials := by
  unfold Obligations.LogSpecials
  intro f code tb tb2 hf hcode
  simp only [decodeElem_of_isLog hf]
  obtain ⟨n, hn⟩ : ∃ n, f.width = n + 1 := Nat.exists_eq_succ_of_ne_zero f.width_pos.ne'
  have hsign := magnitude_zero_and_sign_iff (hn ▸ hcode)
  refine ⟨?zero, ?nar, ?special, ?finite⟩
  case zero => simp [decodeLog_eq_zero_iff, hn, hsign, signBit]
  case nar => simp [decodeLog_eq_nar_iff, hn, hsign, signBit]
  case special =>
    intro hspecial
    obtain ⟨v, -, hv⟩ | hfin := decodeLog_special_or_fin f code
    · rw [hv tb, hv tb2]
    · obtain ⟨p, hp⟩ := hfin tb
      exact absurd hp (hspecial _)
  case finite =>
    intro y hy
    obtain ⟨v, hv, hall⟩ | hfin := decodeLog_special_or_fin f code
    · exact absurd (hall tb ▸ hy) (hv y)
    · obtain ⟨p, hp⟩ := hfin tb
      obtain ⟨p2, hp2⟩ := hfin tb2
      obtain rfl : Exact.pow _ p _ = y := Val.fin.inj (hp ▸ hy)
      exact ⟨_, hp2, rfl⟩

/-! ### Specials written into an edge format (R58) -/

theorem Fmt.isEdge_iff {f : Fmt} :
    f.isEdge = true ↔ f = .e4m3 ∨ f = .fp32 ∨ f = .bf16 ∨ f = .fp16 ∨ f = .e5m2 := by
  cases f <;> decide

section EdgeWrites

variable {f : Fmt} (tb : Int) (rnd : Rnd) (ovf : Bool) (r16 : Nat)

theorem convElem_zero_of_isEdge (hf : f.isEdge = true) (n : Bool) :
    convElem f tb rnd ovf r16 (.zero n) = ⟨signBit n f.width, false, false⟩ := by
  obtain rfl | rfl | rfl | rfl | rfl := Fmt.isEdge_iff.mp hf <;> rfl

theorem convElem_nar_of_isEdge (hf : f.isEdge = true) :
    convElem f tb rnd ovf r16 .nar = ⟨f.edgeNan, false, false⟩ := by
  obtain rfl | rfl | rfl | rfl | rfl := Fmt.isEdge_iff.mp hf <;> rfl

theorem convElem_inf_of_isEdge (hf : f.isEdge = true) (hne : f ≠ .e4m3) (n : Bool) :
    convElem f tb rnd ovf r16 (.inf n) = ⟨signBit n f.width + f.edgeInf, false, false⟩ := by
  obtain rfl | rfl | rfl | rfl | rfl := Fmt.isEdge_iff.mp hf
  · exact absurd rfl hne
  all_goals rfl

/-- E4M3 has no Inf: the overflow policy chooses between its NaN and the largest finite value of the sign. -/
theorem convElem_inf_e4m3 (n : Bool) :
    convElem .e4m3 tb rnd ovf r16 (.inf n) = ⟨if ovf then 0x7F else signBit n 8 + 0x7E, true, false⟩ := rfl

end EdgeWrites

/-! ### The patterns of Table 2.10 read back -/

theorem decodeEdge_zero {f : Fmt} (hf : f.isEdge = true) (n : Bool) : decodeEdge f (signBit n f.width) = .zero n := by
  revert n
  obtain rfl | rfl | rfl | rfl | rfl := Fmt.isEdge_iff.mp hf <;> decide

theorem decodeEdge_edgeNan {f : Fmt} (hf : f.isEdge = true) : decodeEdge f f.edgeNan = .nar := by
  obtain rfl | rfl | rfl | rfl | rfl := Fmt.isEdge_iff.mp hf <;> decide

theorem decodeEdge_edgeInf {f : Fmt} (hf : f.isEdge = true) (hne : f ≠ .e4m3) (n : Bool) :
    decodeEdge f (signBit n f.width + f.edgeInf) = .inf n := by
  revert n
  obtain rfl | rfl | rfl | rfl | rfl := Fmt.isEdge_iff.mp hf
  · exact absurd rfl hne
  all_goals decide

/-- The largest E4M3 magnitude is 14 · 2^5 = 448. -/
theorem decodeEdge_e4m3_max (n : Bool) : decodeEdge .e4m3 (signBit n 8 + 0x7E) = .fin (Exact.dyadic n 14 5) := by
  revert n
  decide

/-- Settles O51: each special is written as its row of Table 2.10, and that row reads back as the special; E4M3 alone has
no Inf, so there the row is 0x7F or ±448 and the conversion counts as an overflow. -/
theorem specialsIntoEdge : Obligations.SpecialsIntoEdge := by
  unfold Obligations.SpecialsIntoEdge
  intro f tb rnd ovf r16 hf
  refine ⟨?zero, ?narCode, decodeEdge_edgeNan hf, ?inf, ?infE4m3⟩
  case zero => rw [convElem_zero_of_isEdge tb rnd ovf r16 hf, decodeEdge_zero hf]
  case narCode => rw [convElem_nar_of_isEdge tb rnd ovf r16 hf]
  case inf =>
    intro hne n
    rw [convElem_inf_of_isEdge tb rnd ovf r16 hf hne]
    exact ⟨decodeEdge_edgeInf hf hne n, rfl⟩
  case infE4m3 =>
    rintro rfl n
    rw [convElem_inf_e4m3]
    refine ⟨rfl, fun h => if_pos h, ?_⟩
    rintro rfl
    exact decodeEdge_e4m3_max n

end Sys2Proof.Machine

namespace Sys2Proof.Machine

/-! SUPPORT. Jobs, operations and tiles after a change: what a replaced operation, a changed context, an engine's new
groups and the copies brought to a tile leave (R107, R166, R295). -/

/-! ### Entries of a job -/

theorem Tab.get_modify {α : Type} (t : Tab α) (i j : Nat) (f : α → α) :
    Tab.get (Tab.modify t i f) j = if j = i then (Tab.get t j).map f else Tab.get t j := by
  unfold Tab.modify
  by_cases hj : j = i
  · subst hj
    cases h : Tab.get t j <;> simp [h]
  · cases h : Tab.get t i <;> simp [hj, Tab.get_set_ne]

theorem Tab.length_set_le {α : Type} (t : Tab α) (i : Nat) (a : α) : (Tab.set t i a).length ≤ t.length + 1 := by
  induction t with
  | nil => simp [Tab.set]
  | cons e t ih =>
    rw [Tab.set]
    split
    · simp
    · split <;> simp [ih]

theorem State.ctx?_modCtx (s : State) (i c : Nat) (g : Ctx → Ctx) :
    (s.modCtx i g).ctx? c = if c = i then (s.ctx? c).map g else s.ctx? c :=
  Tab.get_modify _ _ _ _

/-- What a change of a context leaves in every context, a field of it among others. -/
theorem State.map_ctx?_modCtx {β : Type} (f : Ctx → β) {g : Ctx → Ctx} (hg : ∀ y, f (g y) = f y) (s : State) (i c : Nat) :
    ((s.modCtx i g).ctx? c).map f = (s.ctx? c).map f := by
  rw [State.ctx?_modCtx]
  split
  · cases s.ctx? c <;> simp [hg]
  · rfl

/-- What each step of a fold leaves, the fold leaves. -/
theorem foldl_keeps {σ α β : Type} {f : σ → α → σ} (P : σ → β) (h : ∀ s a, P (f s a) = P s) (l : List α) (s : σ) :
    P (l.foldl f s) = P s := by
  induction l generalizing s with
  | nil => rfl
  | cons a l ih => rw [List.foldl_cons, ih, h]

/-! ### Extents -/

@[simp] theorem Ctx.ops_modExt (x : Ctx) (e : ExtentId) (f : Ext → Ext) : (x.modExt e f).ops = x.ops := by
  unfold Ctx.modExt
  split <;> rfl

@[simp] theorem Ctx.ops_modPieces (x : Ctx) (ps : List PieceId) (f : PieceId → Ext → Ext) : (x.modPieces ps f).ops = x.ops := by
  unfold Ctx.modPieces
  exact foldl_keeps Ctx.ops (fun y p => y.ops_modExt p.ext (f p)) ps x

theorem State.ops_modExt (s : State) (i : Nat) (e : ExtentId) (f : Ext → Ext) (c : Nat) :
    ((s.modExt i e f).ctx? c).map Ctx.ops = (s.ctx? c).map Ctx.ops :=
  State.map_ctx?_modCtx Ctx.ops (fun y => y.ops_modExt e f) s i c

@[simp] theorem State.tiles_copyTo (s : State) (c n : Nat) (p : PieceId) : (s.copyTo c n p).tiles = s.tiles := by
  unfold State.copyTo
  repeat' split
  all_goals rfl

theorem State.ops_copyTo (s : State) (i n : Nat) (p : PieceId) (c : Nat) :
    ((s.copyTo i n p).ctx? c).map Ctx.ops = (s.ctx? c).map Ctx.ops := by
  unfold State.copyTo
  repeat' split
  all_goals simp [State.ops_modExt]

@[simp] theorem State.tiles_bringIn (s : State) (c n : Nat) (ps : List PieceId) : (s.bringIn c n ps).tiles = s.tiles :=
  foldl_keeps State.tiles (fun s p => s.tiles_copyTo c n p) ps s

@[simp] theorem State.tile_bringIn (s : State) (c n : Nat) (ps : List PieceId) (m : Nat) : (s.bringIn c n ps).tile m = s.tile m := by
  simp [State.tile]

theorem State.ops_bringIn (s : State) (i n : Nat) (ps : List PieceId) (c : Nat) :
    ((s.bringIn i n ps).ctx? c).map Ctx.ops = (s.ctx? c).map Ctx.ops :=
  foldl_keeps (fun s => (s.ctx? c).map Ctx.ops) (fun s p => s.ops_copyTo i n p c) ps s

/-! ### Operations -/

theorem State.opOf_congr {s t : State} {k : TaskId} (h : (t.ctx? k.ctx).map Ctx.ops = (s.ctx? k.ctx).map Ctx.ops) :
    t.opOf k = s.opOf k := by
  have hmap : ∀ a : Option Ctx, a.bind (fun x => x.ops.find? (fun o => o.owns k))
      = (a.map Ctx.ops).bind (fun l => l.find? (fun o => o.owns k)) := by
    intro a; cases a <;> rfl
  unfold State.opOf
  rw [hmap, hmap, h]

/-- Two operations with the same ticket and position: they stand for the same descriptor. -/
def MatOp.same (p o : MatOp) : Prop := p.ring = o.ring ∧ p.tseq = o.tseq ∧ p.pos = o.pos

/-- The operation of a task, once replaced, is the new one. -/
theorem State.opOf_setOp {s : State} {k : TaskId} {o p : MatOp} (ho : s.opOf k = some o) (hp : p.same o) :
    (s.setOp k.ctx p).opOf k = some p := by
  obtain ⟨hring, htseq, hpos⟩ := hp
  unfold State.opOf at ho ⊢
  rw [State.setOp, State.ctx?_modCtx, if_pos rfl]
  obtain ⟨x, hx, hfind⟩ := Option.bind_eq_some_iff.mp ho
  have howns : o.owns k = true := List.find?_some (p := fun q => MatOp.owns q k) hfind
  have hsame : ∀ q : MatOp, MatOp.owns (if q.ring = p.ring ∧ q.tseq = p.tseq ∧ q.pos = p.pos then p else q) k = q.owns k := by
    intro q
    split
    case isTrue h => simp [MatOp.owns, h]
    case isFalse => rfl
  simp only [hx, Option.map_some, Option.bind_some, List.find?_map, Function.comp_def, hsame, hfind]
  simp [hring, htseq, hpos]

/-! ### Tiles and engines -/

@[simp] theorem Tile.engine_setEngine_self (t : Tile) (e : Nat) (g : Engine) : (t.setEngine e g).engine e = g := by
  simp [Tile.engine, Tile.setEngine]

theorem Tile.engine_setEngine_ne (t : Tile) {e i : Nat} (g : Engine) (h : i ≠ e) : (t.setEngine e g).engine i = t.engine i := by
  simp [Tile.engine, Tile.setEngine, Tab.getD_set_ne _ _ _ h]

@[simp] theorem Tile.ready_setEngine (t : Tile) (e : Nat) (g : Engine) : (t.setEngine e g).ready = t.ready := rfl

@[simp] theorem Tile.stages_setEngine (t : Tile) (e : Nat) (g : Engine) : (t.setEngine e g).stages = t.stages := rfl

@[simp] theorem State.tile_touchTile (s : State) (n m : Nat) : (s.touchTile n).tile m = s.tile m := rfl
@[simp] theorem State.ctxs_touchTile (s : State) (n : Nat) : (s.touchTile n).ctxs = s.ctxs := rfl
@[simp] theorem State.parts_touchTile (s : State) (n : Nat) : (s.touchTile n).parts = s.parts := rfl
@[simp] theorem State.opOf_touchTile (s : State) (n : Nat) (k : TaskId) : (s.touchTile n).opOf k = s.opOf k := rfl
@[simp] theorem State.opOf_setTile (s : State) (n : Nat) (t : Tile) (k : TaskId) : (s.setTile n t).opOf k = s.opOf k := rfl
@[simp] theorem State.tile_modCtx (s : State) (i : Nat) (g : Ctx → Ctx) (n : Nat) : (s.modCtx i g).tile n = s.tile n := rfl
@[simp] theorem State.tile_setOp (s : State) (c : Nat) (o : MatOp) (n : Nat) : (s.setOp c o).tile n = s.tile n := rfl

/-- A group put back into its engine. -/
theorem State.tile_putGroup (s : State) (n e i : Nat) (g : Group) :
    (s.putGroup n e i g).tile n
      = (s.tile n).setEngine e { (s.tile n).engine e with groups := Tab.set ((s.tile n).engine e).groups i g } := by
  simp [State.putGroup]

@[simp] theorem State.ctxs_putGroup (s : State) (n e i : Nat) (g : Group) : (s.putGroup n e i g).ctxs = s.ctxs := rfl

theorem State.getD_groups_freeAt (s : State) (n e i : Nat) :
    Tab.getD (((s.freeAt n e i).tile n).engine e).groups i {} = {} := by
  simp [State.freeAt, State.tile_putGroup]

end Sys2Proof.Machine

namespace Sys2Proof.Machine

/-! SUPPORT. Work on a tile: dispatch, rounds and windows, groups that close, park, merge and drain
(R104 to R122, R148, R166 to R169). -/

/-! ### The operand stage (R107) -/

/-- What filling an operand stage leaves of a tile: its ready list, its groups, which of them run. -/
theorem State.fillStage_keeps (s : State) (n i m e : Nat) :
    ((s.fillStage n i).tile m).ready = (s.tile m).ready
      ∧ (((s.fillStage n i).tile m).engine e).groups = ((s.tile m).engine e).groups
      ∧ (((s.fillStage n i).tile m).engine e).current = ((s.tile m).engine e).current := by
  have hset : ∀ st : List Staged,
      let u := s.setTile n ((s.tile n).setEngine i { (s.tile n).engine i with stage := st })
      (u.tile m).ready = (s.tile m).ready ∧ ((u.tile m).engine e).groups = ((s.tile m).engine e).groups
        ∧ ((u.tile m).engine e).current = ((s.tile m).engine e).current := by
    intro st
    by_cases hm : m = n
    · subst hm
      by_cases he : e = i
      · subst he; simp
      · simp [Tile.engine_setEngine_ne _ _ he]
    · simp [State.tile_setTile_ne _ _ hm]
  unfold State.fillStage
  split
  · exact ⟨rfl, rfl, rfl⟩
  · dsimp only
    split
    · simpa only [State.tile_bringIn] using hset _
    · exact hset _

theorem State.fillStages_keep (s : State) (n : Nat) (is : List Nat) (m e : Nat) :
    ((is.foldl (fun a i => a.fillStage n i) s).tile m).ready = (s.tile m).ready
      ∧ (((is.foldl (fun a i => a.fillStage n i) s).tile m).engine e).groups = ((s.tile m).engine e).groups
      ∧ (((is.foldl (fun a i => a.fillStage n i) s).tile m).engine e).current = ((s.tile m).engine e).current := by
  induction is generalizing s with
  | nil => exact ⟨rfl, rfl, rfl⟩
  | cons i is ih =>
    obtain ⟨hready, hgroups, hcurrent⟩ := s.fillStage_keeps n i m e
    rw [List.foldl_cons, ← hready, ← hgroups, ← hcurrent]
    exact ih (s.fillStage n i)

/-! ### Dispatch (R167 to R169) -/

/-- The group that an engine opens for a task (R77, R115). -/
def openedFor (k : TaskId) (d : MatDesc) (ta tb : Int) : Group :=
  { state := .opened, owner := some k, e := if d.mode = .pop ∧ d.rounds k.chunk ≠ 0 then some (ta + tb + 33) else none }

theorem Tile.take_of_freeGroup {t : Tile} {e i : Nat} (h : (t.engine e).freeGroup = some i) (k : TaskId) (d : MatDesc) (ta tb : Int) :
    t.take e k d ta tb = { t.setEngine e { t.engine e with
        groups := Tab.set (t.engine e).groups i (openedFor k d ta tb), current := some i, stage := []
        starting := (t.engine e).gated } with
      ready := t.ready.filter (· != k), dispatchPtr := (e + 1) % 3 } := by
  simp [Tile.take, h, openedFor]

theorem Tile.take_of_no_freeGroup {t : Tile} {e : Nat} (h : (t.engine e).freeGroup = none) (k : TaskId) (d : MatDesc) (ta tb : Int) :
    t.take e k d ta tb = t := by
  simp [Tile.take, h]

theorem Tile.engine_take_ne (t : Tile) {e i : Nat} (hne : i ≠ e) (k : TaskId) (d : MatDesc) (ta tb : Int) :
    (t.take e k d ta tb).engine i = t.engine i := by
  cases h : (t.engine e).freeGroup with
  | none => rw [Tile.take_of_no_freeGroup h]
  | some j =>
    rw [Tile.take_of_freeGroup h]
    exact Tile.engine_setEngine_ne t _ hne

theorem Tile.not_mem_ready_take {t : Tile} {q : TaskId} (hq : q ∉ t.ready) (e : Nat) (k : TaskId) (d : MatDesc) (ta tb : Int) :
    q ∉ (t.take e k d ta tb).ready := by
  cases h : (t.engine e).freeGroup with
  | none => rwa [Tile.take_of_no_freeGroup h]
  | some j => simp [Tile.take_of_freeGroup h, hq]

theorem Tile.atDispatch_of_current {t : Tile} {e i : Nat} (h : (t.engine e).current = some i) : t.atDispatch e = false := by
  simp [Tile.atDispatch, h]

/-- An engine that has a group open keeps it through a pass of the arbiter, and a task that is not ready does not become so. -/
theorem State.dispatchPass_keeps (s : State) (own : Bool) {e i : Nat} {k : TaskId} (es : List Nat) (t : Tile)
    (hcur : (t.engine e).current = some i) (hk : k ∉ t.ready) :
    (s.dispatchPass own t es).engine e = t.engine e ∧ k ∉ (s.dispatchPass own t es).ready := by
  induction es generalizing t with
  | nil => exact ⟨rfl, hk⟩
  | cons j es ih =>
    rw [State.dispatchPass]
    split
    case h_2 => exact ih t hcur hk
    case h_1 q hq =>
      split
      case h_2 => exact ih t hcur hk
      case h_1 o x _ _ =>
        have hne : e ≠ j := by
          rintro rfl
          simp [Tile.atDispatch_of_current hcur] at hq
        have heng := t.engine_take_ne hne q o.d (x.scaleOf o.d.a) (x.scaleOf o.d.b)
        rw [← heng]
        exact ih _ (heng ▸ hcur) (Tile.not_mem_ready_take hk _ _ _ _ _)

/-- The first engine of a pass takes the first ready task of its class. -/
theorem State.dispatchPass_cons {s : State} {own : Bool} {t : Tile} {e : Nat} {k : TaskId} {o : MatOp} {x : Ctx} (es : List Nat)
    (hat : t.atDispatch e = true) (hk : s.firstReady t.ready (if own then engineClass e else 1 - engineClass e) = some k)
    (ho : s.opOf k = some o) (hx : s.ctx? k.ctx = some x) :
    s.dispatchPass own t (e :: es) = s.dispatchPass own (t.take e k o.d (x.scaleOf o.d.a) (x.scaleOf o.d.b)) es := by
  rw [State.dispatchPass]
  simp [hat, hk, ho, hx]

theorem enginesFrom_of_lt {e : Nat} (h : e < 3) : enginesFrom e = e :: [(e + 1) % 3, (e + 2) % 3] := by
  simp [enginesFrom, List.range_succ, Nat.mod_eq_of_lt h]

/-! ### Rounds and windows (R74, R104, R110) -/

@[simp] theorem Group.round_closeWindow (g : Group) : g.closeWindow.round = g.round := rfl
@[simp] theorem Group.narrows_closeWindow (g : Group) : g.closeWindow.narrows = [] := rfl

/-- A round that is skipped changes the counters alone (R109, R110). -/
theorem Operands.runRound_skip (o : Operands) (r : RoundAt) {st : Staged} (g : Group) (hz : o.d.zskipDis = false) (hst : st.zero = true) :
    o.runRound r st g = { g.countTerms o.d r with skipped := g.skipped + 1, round := g.round + 1 } := by
  simp [Operands.runRound, hz, hst, Group.countTerms]

theorem Operands.endWindow_next (o : Operands) (r : RoundAt) {g : Group} (h : g.window + 1 < 2 * o.d.termsPer) :
    o.endWindow r g = g.closeWindow.openWindow (o.roundLanes r (o.skippable r)) (g.window + 1) := if_pos h

theorem Operands.endWindow_last (o : Operands) (r : RoundAt) {g : Group} (h : 2 * o.d.termsPer ≤ g.window + 1) :
    o.endWindow r g = { g.closeWindow with inRound := false, window := 0, round := g.round + 1 } := if_neg (Nat.not_lt.mpr h)

/-- The operands of a running group are those of its operation. -/
theorem State.opened_some {s : State} {n e : Nat} {r : Running2} (h : s.opened n e = some r) :
    s.opOf r.k = some r.o ∧ r.ops.d = r.o.d := by
  unfold State.opened at h
  dsimp only at h
  repeat' split at h
  case h_1.isTrue =>
    obtain rfl := Option.some.inj h
    exact ⟨by assumption, rfl⟩
  all_goals cases h

theorem State.running_some {s : State} {n e : Nat} {r : Running2} (h : s.running n e = some r) :
    s.opOf r.k = some r.o ∧ r.ops.d = r.o.d := by
  unfold State.running at h
  split at h
  case isTrue => exact absurd h (by simp)
  case isFalse => exact State.opened_some h

/-! ### Groups that close and park (R105, R121, R122, R161) -/

/-- After the partial tree only the words of the outputs are left. -/
theorem MatDesc.lt_of_mem_closeGroup {d : MatDesc} {g : Group} {w : Nat × Wide} (h : w ∈ (d.closeGroup g).wides) : w.1 < d.mt * d.nt := by
  simpa using (List.mem_filter.mp h).2

theorem MatOp.park_of_direct {o p : MatOp} {k : TaskId} {ws : List Chain} (hd : o.direct = true) (h : o.park k ws = some p) :
    o.maxPass = true ∧ p = { o with finals := Tab.set o.finals (o.tileOf k) ws } := by
  simp only [MatOp.park, hd, if_true] at h
  split at h
  case isTrue hm => exact ⟨hm, (Option.some.inj h).symm⟩
  case isFalse => exact absurd h (by simp)

theorem MatOp.park_of_not_direct {o p : MatOp} {k : TaskId} {ws : List Chain} (hd : o.direct = false) (h : o.park k ws = some p) :
    o.nextChunk (o.tileOf k) < k.chunk ∧ p = { o with parked := Tab.set o.parked (o.chunkKey k) ws } := by
  simp only [MatOp.park, hd] at h
  split at h
  case isTrue hf => exact absurd hf (by simp)
  case isFalse =>
    split at h
    case isTrue hm => exact ⟨hm, (Option.some.inj h).symm⟩
    case isFalse => exact absurd h (by simp)

/-- A parked chunk takes at most the bytes of one tile (R289). -/
theorem MatOp.areaBytes_parked_le (o : MatOp) (i : Nat) (ws : List Chain) :
    ({ o with parked := Tab.set o.parked i ws } : MatOp).areaBytes ≤ o.areaBytes + o.d.tileBytes := by
  have hlen := Tab.length_set_le o.parked i ws
  have hmul := Nat.mul_le_mul_right o.d.tileBytes
    (Nat.add_le_add_right hlen (if o.maxPass then o.finals.length else 0))
  simp only [MatOp.areaBytes]
  calc _ ≤ (o.parked.length + 1 + if o.maxPass then o.finals.length else 0) * o.d.tileBytes + 8 * o.received.length :=
        Nat.add_le_add_right hmul _
    _ = _ := by ring

theorem Ctx.areaTakes_of_chainRoom {x : Ctx} {o p : MatOp} {n : Nat} (hp : p.areaBytes ≤ o.areaBytes + n) (hr : x.chainRoom n = true) :
    x.areaTakes o p = true := by
  simp only [Ctx.areaTakes, Ctx.chainRoom, Bool.or_eq_true, decide_eq_true_eq] at hr ⊢
  omega

theorem State.putMerged_of_takes {s s1 : State} {x : Ctx} {c : Nat} {o p : MatOp} (h : x.areaTakes o p = true) :
    s.putMerged x c o p s1 = s1.putOp c p := if_pos h

theorem State.putMerged_of_full {s s1 : State} {x : Ctx} {c : Nat} {o p : MatOp} (h : x.areaTakes o p = false) :
    s.putMerged x c o p s1 = s := if_neg (by simp [h])

/-! ### Drains (R148) -/

theorem length_modFirst {α : Type} (p : α → Bool) (f : α → α) (l : List α) : (modFirst p f l).length = l.length := by
  induction l with
  | nil => rfl
  | cons a l ih =>
    rw [modFirst]
    split <;> simp [ih]

/-- What `modFirst` changes is what `find?` finds. -/
theorem mem_modFirst {α : Type} {p : α → Bool} {l : List α} {a : α} (f : α → α) (h : l.find? p = some a) : f a ∈ modFirst p f l := by
  induction l with
  | nil => simp at h
  | cons b l ih =>
    rw [List.find?_cons] at h
    rw [modFirst]
    cases hb : p b with
    | true => simp_all
    | false => simp_all

/-! ### The rows -/

section Rows

variable {s : State} {n e : Nat}

/-- OPERANDS_READY while the stacks of its operands are reachable: the task leaves the placed ones and joins the ready list. -/
theorem exec_operandsReady {k : TaskId} {o : MatOp} {x : Ctx} (hn : n < 320) (hl : s.live = true) (ho : s.opOf k = some o)
    (hx : s.ctx? k.ctx = some x) (hp : o.placed.contains (k, n) = true) (ht : s.tileRuns n = true)
    (hup : (x.homeDies ((s.seenByTask x k).leadPieces x o.d k)).all s.stacksUp = true) :
    ∃ (t : State) (p : MatOp), exec (.operandsReady n k) s = .next t ∧ (t.tile n).ready = (s.tile n).ready ++ [k]
      ∧ (t.tile n).engines = (s.tile n).engines ∧ t.opOf k = some p
      ∧ p = { o with placed := o.placed.filter (· != (k, n)) } := by
  let v := s.seenByTask x k
  let read := fun y : Ctx => y.readBy n (v.taskPieces x o.d k (o.d.chunkPos k) (fun _ => none))
  let u := ((s.setOp k.ctx { o with placed := o.placed.filter (· != (k, n)) }).modCtx k.ctx read).bringIn k.ctx n (v.leadPieces x o.d k)
  have hu : u.tile n = s.tile n := by simp [u]
  refine ⟨(u.setTile n { u.tile n with ready := (u.tile n).ready ++ [k] }).touchTile n, _, ?_, ?_, ?_, ?_, rfl⟩
  · show withUnit _ _ = _
    rw [withUnit_next _ (decide_eq_true hn)]
    simp only [ho, hx, hl, hp, ht, hup, Bool.and_true, if_true]
    rfl
  · simp [hu]
  · simp [hu]
  · rw [State.opOf_touchTile, State.opOf_setTile]
    refine (State.opOf_congr ?_).trans (State.opOf_setOp (o := o) ho ⟨rfl, rfl, rfl⟩)
    rw [State.ops_bringIn, State.map_ctx?_modCtx Ctx.ops]
    exact fun y => y.ops_modPieces _ _

theorem exec_operandsReady_asleep {k : TaskId} {o : MatOp} {x : Ctx} (hn : n < 320) (hl : s.live = true) (ho : s.opOf k = some o)
    (hx : s.ctx? k.ctx = some x) (hp : o.placed.contains (k, n) = true) (ht : s.tileRuns n = true)
    (hup : (x.homeDies ((s.seenByTask x k).leadPieces x o.d k)).all s.stacksUp = false) :
    exec (.operandsReady n k) s = .next (s.wake ⟨[], x.homeDies ((s.seenByTask x k).leadPieces x o.d k)⟩) := by
  show withUnit _ _ = _
  rw [withUnit_next _ (decide_eq_true hn)]
  simp only [ho, hx, hl, hp, ht, hup, Bool.and_true, if_true]
  rfl

/-- TASK_DISPATCH: the engine whose turn it is opens a group for the first ready task of its class, and keeps it while
the other engines take theirs and borrow. -/
theorem exec_taskDispatch {k : TaskId} {o : MatOp} {x : Ctx} (hn : n < 320) (hl : s.live = true) (ht : s.tileRuns n = true)
    (he : e < 3) (hptr : (s.tile n).dispatchPtr = e) (hat : (s.tile n).atDispatch e = true)
    (hk : s.firstReady (s.tile n).ready (engineClass e) = some k) (ho : s.opOf k = some o) (hx : s.ctx? k.ctx = some x) :
    ∃ (t : State) (i : Nat) (g : Group), exec (.taskDispatch n) s = .next t ∧ ((t.tile n).engine e).current = some i
      ∧ Tab.get ((t.tile n).engine e).groups i = some g ∧ g.owner = some k ∧ g.state = .opened ∧ g.round = 0
      ∧ k ∉ (t.tile n).ready := by
  obtain ⟨i, hfree⟩ : ∃ i, ((s.tile n).engine e).freeGroup = some i := by
    simp only [Tile.atDispatch, Bool.and_eq_true] at hat
    exact Option.isSome_iff_exists.mp hat.2
  let t1 := (s.tile n).take e k o.d (x.scaleOf o.d.a) (x.scaleOf o.d.b)
  have ht1 : t1 = _ := Tile.take_of_freeGroup hfree k o.d (x.scaleOf o.d.a) (x.scaleOf o.d.b)
  have hcur : (t1.engine e).current = some i := by rw [ht1]; simp [Tile.engine, Tile.setEngine]
  have hgrp : Tab.get (t1.engine e).groups i = some (openedFor k o.d (x.scaleOf o.d.a) (x.scaleOf o.d.b)) := by
    rw [ht1]; simp [Tile.engine, Tile.setEngine]
  have hready : k ∉ t1.ready := by rw [ht1]; simp
  obtain ⟨hown, hownReady⟩ := s.dispatchPass_keeps true [(e + 1) % 3, (e + 2) % 3] t1 hcur hready
  obtain ⟨hall, hallReady⟩ := s.dispatchPass_keeps false
    (enginesFrom (s.dispatchPass true t1 [(e + 1) % 3, (e + 2) % 3]).dispatchPtr) _ (hown ▸ hcur) hownReady
  let t2 := s.dispatchPass true t1 [(e + 1) % 3, (e + 2) % 3]
  let t3 := s.dispatchPass false t2 (enginesFrom t2.dispatchPtr)
  obtain ⟨hfReady, hfGroups, hfCurrent⟩ := State.fillStages_keep (s.setTile n t3) n [0, 1, 2] n e
  rw [State.tile_setTile_self] at hfReady hfGroups hfCurrent
  have ht3 : t3.engine e = t1.engine e := hall.trans hown
  refine ⟨([0, 1, 2].foldl (fun a i => a.fillStage n i) (s.setTile n t3)).touchTile n, i, openedFor k o.d (x.scaleOf o.d.a) (x.scaleOf o.d.b), ?_, ?_, ?_, rfl, rfl, rfl, ?_⟩
  · show withUnit _ _ = _
    rw [withUnit_next _ (decide_eq_true hn)]
    simp only [hl, ht, Bool.and_true, if_true, hptr, enginesFrom_of_lt he]
    rw [State.dispatchPass_cons [(e + 1) % 3, (e + 2) % 3] hat hk ho hx]
  · rw [State.tile_touchTile, hfCurrent, ht3, hcur]
  · rw [State.tile_touchTile, hfGroups, ht3, hgrp]
  · rw [State.tile_touchTile, hfReady]
    exact hallReady

theorem exec_roundStart {r : Running2} {st : Staged} (hn : n < 320) (he : e < 3) (hr : s.running n e = some r)
    (hst : s.stagedRound n e r.g.round = some st) (hmay : s.mayRun r.k.ctx = true) (ht : s.tileRuns n = true)
    (hin : r.g.inRound = false) (hround : r.g.round < r.o.d.rounds r.k.chunk) :
    exec (.roundStart n e) s
      = .next ((s.putGroup n e r.idx (r.ops.runRound (r.o.d.roundAt r.k r.g.round) st r.g)).fillStage n e) := by
  show withUnit _ _ = _
  rw [withUnit_next _ (by simp [hn, he])]
  simp [hr, hst, hmay, ht, hin, hround]

theorem exec_windowClose {r : Running2} (hn : n < 320) (he : e < 3) (hr : s.running n e = some r) (hl : s.live = true)
    (ht : s.tileRuns n = true) (hin : r.g.inRound = true) :
    exec (.windowClose n e) s
      = .next ((s.putGroup n e r.idx (r.ops.endWindow (r.o.d.roundAt r.k r.g.round) r.g)).fillStage n e) := by
  show withUnit _ _ = _
  rw [withUnit_next _ (by simp [hn, he])]
  simp [hr, hl, ht, hin]

/-- GROUP_CLOSE: the group is CLOSED with the words of its outputs, the engine is free for another, the figures have
entered the operation. -/
theorem exec_groupClose {r : Running2} (hn : n < 320) (he : e < 3) (hr : s.running n e = some r) (hl : s.live = true)
    (ht : s.tileRuns n = true) (hin : r.g.inRound = false) (hround : r.g.round = r.o.d.rounds r.k.chunk) :
    ∃ (t : State) (g : Group) (p : MatOp), exec (.groupClose n e) s = .next t ∧ ((t.tile n).engine e).current = none
      ∧ Tab.get ((t.tile n).engine e).groups r.idx = some g ∧ g = { r.o.d.closeGroup r.g with state := .closed, closedAt := (s.tile n).closeCtr }
      ∧ (∀ w ∈ g.wides, w.1 < r.o.d.mt * r.o.d.nt) ∧ t.opOf r.k = some p
      ∧ p = { r.o.countGroup g with ves := Tab.set r.o.ves (r.o.d.tileNo r.k.b r.k.ti r.k.tj) n } := by
  obtain ⟨ho, -⟩ := State.running_some hr
  let t := s.tile n
  let en := t.engine e
  let g := { r.o.d.closeGroup r.g with state := .closed, closedAt := t.closeCtr }
  let s1 := s.setTile n { t.setEngine e { en with groups := Tab.set en.groups r.idx g, current := none, stage := [] } with
    closeCtr := t.closeCtr + 1 }
  refine ⟨(s1.setOp r.k.ctx { r.o.countGroup g with ves := Tab.set r.o.ves (r.o.d.tileNo r.k.b r.k.ti r.k.tj) n }).touchTile n,
    g, _, ?_, ?_, ?_, rfl, fun w hw => MatDesc.lt_of_mem_closeGroup hw, ?_, rfl⟩
  · show withUnit _ _ = _
    rw [withUnit_next _ (by simp [hn, he])]
    simp only [hr, hl, ht, hin, hround, Bool.not_false, Bool.and_true, decide_true, if_true]
    rfl
  · simp [s1, Tile.engine, Tile.setEngine]
  · simp [s1, Tile.engine, Tile.setEngine]
  · rw [State.opOf_touchTile]
    exact State.opOf_setOp (o := r.o) ho ⟨rfl, rfl, rfl⟩

theorem exec_groupPark {i : Nat} {g : Group} {k : TaskId} {o p : MatOp} {x : Ctx} (hn : n < 320) (he : e < 3) (hi : i < 8)
    (hl : s.live = true) (hg : s.closedGroup n e i = some (g, k)) (ho : s.opOf k = some o) (hx : s.ctx? k.ctx = some x)
    (hp : o.park k (g.outputs (o.d.mt * o.d.nt)) = some p) :
    exec (.groupPark n e i) s = .next (if x.areaTakes o p then (s.freeAt n e i).putOp k.ctx p else s) := by
  show withUnit _ _ = _
  rw [withUnit_next _ (by simp [hn, he, hi])]
  simp [hg, ho, hx, hp, hl]

/-- MERGE_COMBINE of a chunk whose turn it is: what the merge path does with the chunk's state. -/
theorem exec_mergeCombine_chunk {k : TaskId} {o o1 : MatOp} {x : Ctx} {ws : List Chain} {s1 : State} (hl : s.live = true)
    (ho : s.opOf k = some o) (hx : s.ctx? k.ctx = some x) (hd : o.direct = false) (hnext : o.nextChunk (o.tileOf k) = k.chunk)
    (hf : Tab.has o.finals (o.tileOf k) = false) (hc : k.chunk ≠ o.d.chunkCount) (htake : s.takeChunk o k = some (ws, o1, s1)) :
    (k.chunk = 0 → o.d.accIn = false → exec (.mergeCombine k) s = .next (s.putMerged x k.ctx o (o1.setSum k ws) s1))
    ∧ (k.chunk = 0 → o.d.accIn = true → exec (.mergeCombine k) s = .next (s.putMerged x k.ctx o
        { o1.merge k (x.loadAcc o k).1 ws with wideInvalid := o1.wideInvalid || (x.loadAcc o k).2 } s1))
    ∧ (∀ run, k.chunk ≠ 0 → (Tab.get o.sums (o.tileOf k)).bind (·.words) = some run →
        exec (.mergeCombine k) s = .next (s.putMerged x k.ctx o (o1.merge k run ws) s1)) := by
  refine ⟨fun h0 ha => ?_, fun h0 ha => ?_, fun run h0 hrun => ?_⟩
  · have hfirst : 0 ≠ o.d.chunkCount := h0 ▸ hc
    show Host.Outcome.next _ = _
    simp [ho, hx, hl, hf, hd, hnext, hfirst, htake, h0, ha]
  · have hfirst : 0 ≠ o.d.chunkCount := h0 ▸ hc
    show Host.Outcome.next _ = _
    simp [ho, hx, hl, hf, hd, hnext, hfirst, htake, h0, ha]
  · show Host.Outcome.next _ = _
    simp [ho, hx, hl, hf, hd, hnext, hc, htake, h0, hrun]

theorem exec_mergeCombine_received {k : TaskId} {o : MatOp} {x : Ctx} {got run : List Chain} (hl : s.live = true)
    (ho : s.opOf k = some o) (hx : s.ctx? k.ctx = some x) (hd : o.direct = false) (hnext : o.nextChunk (o.tileOf k) = k.chunk)
    (hf : Tab.has o.finals (o.tileOf k) = false) (hc : k.chunk = o.d.chunkCount) (hgot : o.recvTile k = some got)
    (hrun : (Tab.get o.sums (o.tileOf k)).bind (·.words) = some run) :
    exec (.mergeCombine k) s = .next (s.putMerged x k.ctx o ((o.dropRecv k).merge k got run) s) := by
  show Host.Outcome.next _ = _
  simp [ho, hx, hl, hf, hd, hnext, hc, hgot, hrun]

theorem exec_groupDrainStart {i : Nat} {g : Group} {k : TaskId} {o : MatOp} (hn : n < 320) (hl : s.live = true)
    (ht : s.tileRuns n = true) (hst : (s.tile n).stages.length < 2)
    (hfind : (enginesFrom (s.tile n).drainPtr).find? (fun e => (s.awaitsDrain (s.tile n) e).isSome) = some e)
    (haw : s.awaitsDrain (s.tile n) e = some (i, g, k)) (ho : s.opOf k = some o) :
    ∃ t : State, exec (.groupDrainStart n) s = .next t
      ∧ (t.tile n).stages = (s.tile n).stages ++ [(e, i, false, k, g.outputs (o.d.mt * o.d.nt))] ∧ (t.tile n).drainPtr = (e + 1) % 3
      ∧ Tab.get ((t.tile n).engine e).groups i = some { g with state := .draining } ∧ t.ctxs = s.ctxs := by
  let t := s.tile n
  let en := t.engine e
  refine ⟨(s.setTile n { t.setEngine e { en with groups := Tab.set en.groups i { g with state := .draining } } with
    stages := t.stages ++ [(e, i, false, k, g.outputs (o.d.mt * o.d.nt))], drainPtr := (e + 1) % 3 }).touchTile n, ?_, ?_, ?_, ?_, ?_⟩
  · show withUnit _ _ = _
    rw [withUnit_next _ (decide_eq_true hn)]
    simp only [hfind, haw, hl, ht, hst, ho, Bool.and_true, decide_true, if_true]
    rfl
  all_goals simp [t, Tile.engine, Tile.setEngine]

theorem exec_groupDrainReadDone {i : Nat} {k : TaskId} {ws : List Chain} (hn : n < 320)
    (hfind : (s.tile n).stages.find? (fun g => !g.2.2.1) = some (e, i, false, k, ws)) :
    ∃ t : State, exec (.groupDrainReadDone n) s = .next t ∧ (Tab.getD ((t.tile n).engine e).groups i {}).state = .free
      ∧ (e, i, true, k, ws) ∈ (t.tile n).stages ∧ (t.tile n).stages.length = (s.tile n).stages.length ∧ t.ctxs = s.ctxs := by
  let read := modFirst (fun g => !g.2.2.1) (fun g => (g.1, g.2.1, true, g.2.2.2)) (s.tile n).stages
  refine ⟨(s.setTile n { s.tile n with stages := read }).freeAt n e i, ?_, ?_, ?_, ?_, ?_⟩
  · show withUnit _ _ = _
    rw [withUnit_next _ (decide_eq_true hn)]
    simp only [hfind]
    rfl
  · rw [State.getD_groups_freeAt]
  · rw [State.freeAt, State.tile_putGroup]
    simpa using mem_modFirst (fun g => (g.1, g.2.1, true, g.2.2.2)) hfind
  · rw [State.freeAt, State.tile_putGroup]
    simp [read, length_modFirst]
  · rfl

theorem exec_drainStageDone {i : Nat} {k : TaskId} {ws : List Chain} {o : MatOp} (hn : n < 320)
    (hfind : (s.tile n).stages.find? (fun g => g.2.2.1) = some (e, i, true, k, ws)) (ho : s.opOf k = some o) :
    ∃ u : State, exec (.drainStageDone n) s = .next (u.putOp k.ctx { o with finals := Tab.set o.finals (o.tileOf k) ws })
      ∧ (u.tile n).stages = (s.tile n).stages.erase (e, i, true, k, ws) ∧ u.ctxs = s.ctxs := by
  refine ⟨(s.setTile n { s.tile n with stages := (s.tile n).stages.erase (e, i, true, k, ws) }).touchTile n, ?_, by simp, by simp⟩
  show withUnit _ _ = _
  rw [withUnit_next _ (decide_eq_true hn)]
  simp only [hfind]
  simp [ho]

end Rows

/-- Settles O39: each row takes the branch that its hypotheses name. What it leaves is read through the rules of the
operations (`opOf_setOp`, `tile_putGroup`, `fillStage_keeps`); an engine that has opened a group keeps it through the rest of
both passes of the arbiter (`dispatchPass_keeps`). -/
theorem tileRowsComplete : Obligations.TileRowsComplete := by
  unfold Obligations.TileRowsComplete
  refine ⟨?operandsReady, ?dispatch, ?roundStart, ?windowClose, ?groupClose, ?park, ?merge, ?received, ?drainStart, ?readDone, ?stageDone⟩
  case operandsReady =>
    intro n k o x s hn hl ho hx hp ht
    exact ⟨exec_operandsReady hn hl ho hx hp ht, exec_operandsReady_asleep hn hl ho hx hp ht⟩
  case dispatch =>
    intro n e k o x s hn hl ht he hptr hat hk ho hx
    exact exec_taskDispatch hn hl ht he hptr hat hk ho hx
  case roundStart =>
    intro n e r st s hn he hr hst hmay ht hin hround
    refine ⟨r.ops.runRound (r.o.d.roundAt r.k r.g.round) st r.g, rfl, exec_roundStart hn he hr hst hmay ht hin hround, fun hz hzero => ?_⟩
    obtain ⟨-, hd⟩ := State.running_some hr
    rw [Operands.runRound_skip _ _ _ (hd ▸ hz) hzero]
    exact ⟨rfl, rfl, rfl, rfl, hin⟩
  case windowClose =>
    intro n e r s hn he hr hl ht hin
    obtain ⟨-, hd⟩ := State.running_some hr
    refine ⟨r.ops.endWindow (r.o.d.roundAt r.k r.g.round) r.g, exec_windowClose hn he hr hl ht hin, rfl, fun hlast => ?_, fun hnext => ?_⟩
    · rw [Operands.endWindow_last _ _ (hd ▸ hlast)]
      exact ⟨rfl, rfl, rfl⟩
    · rw [Operands.endWindow_next _ _ (hd ▸ hnext)]
      exact ⟨rfl, rfl, rfl⟩
  case groupClose =>
    intro n e r s hn he hr hl ht hin hround
    exact exec_groupClose hn he hr hl ht hin hround
  case park =>
    intro n e i g k o p x s hn he hi hl hg ho hx hp
    have hexec := exec_groupPark hn he hi hl hg ho hx hp
    refine ⟨fun htake => ⟨by rw [hexec, if_pos htake], by rw [State.getD_groups_freeAt]⟩, fun hfull => by simp [hexec, hfull],
      fun hd => ?_, fun hd => ?_⟩
    · obtain ⟨hlt, rfl⟩ := MatOp.park_of_not_direct hd hp
      exact ⟨hlt, Tab.get_set_self _ _ _, Ctx.areaTakes_of_chainRoom (o.areaBytes_parked_le _ _)⟩
    · obtain ⟨hmax, rfl⟩ := MatOp.park_of_direct hd hp
      exact ⟨hmax, Tab.get_set_self _ _ _⟩
  case merge =>
    intro k o o1 x ws s s1 hl ho hx hd hnext hf hc htake
    obtain ⟨hfirst, -, hlater⟩ := exec_mergeCombine_chunk hl ho hx hd hnext hf hc htake
    refine ⟨fun h0 ha hroom => ?_, fun run h0 hrun hroom => ?_, fun run h0 hrun hfull => ?_⟩
    · rw [hfirst h0 ha, State.putMerged_of_takes hroom]
    · rw [hlater run h0 hrun, State.putMerged_of_takes hroom]
    · rw [hlater run h0 hrun, State.putMerged_of_full hfull]
  case received =>
    intro k o x got run s hl ho hx hd hnext hf hc hgot hrun hroom
    rw [exec_mergeCombine_received hl ho hx hd hnext hf hc hgot hrun, State.putMerged_of_takes hroom]
  case drainStart =>
    intro n e i g k o s hn hl ht hst hfind haw ho
    exact exec_groupDrainStart hn hl ht hst hfind haw ho
  case readDone =>
    intro n e i k ws s hn hfind
    exact exec_groupDrainReadDone hn hfind
  case stageDone =>
    intro n e i k ws o s hn hfind ho
    exact exec_drainStageDone hn hfind ho

end Sys2Proof.Machine

namespace Sys2Proof.Machine

/-! SUPPORT. A merge that loads an invalid CHAIN word while the chain area has no room for its result (R121, R124, R161,
R289): a well-formed MATRIX descriptor, its job and the module on which `ChainWords` fails. -/

/-- A MATRIX of L8 tensors 4 and 5 into 6 with ACC_IN from wide tensor 9: 1 by 1 by 9 in tiles of 8 by 8, so two tiles of
one chunk each. Its drain word has T_AUTO: the final states are parked for a maximum pass (R129, R161). -/
def fullAreaDesc : Desc := ⟨0x80001000720, 0x500000004, 0x900000006, 0x1000009000001, 1, 0, 0, 0⟩

def fullAreaRun : Run :=
  { ring := 0, tseq := 1, ticket := ⟨1, 1, false, false, 1, 0, 0, 0, 0, false⟩, descs := [fullAreaDesc], states := [.waiting] }

/-- The operation that the descriptor becomes, its tasks dispatched. -/
def fullAreaOp : MatOp := newOp fullAreaRun (fullAreaDesc.mat.get (by decide)) fullAreaDesc

/-- The task of the first tile, and its group, CLOSED. -/
def fullAreaTask : TaskId := fullAreaOp.task 0 0 0
def fullAreaGroup : Group := { state := .closed, owner := some fullAreaTask }
def fullAreaWords : List Chain := fullAreaGroup.outputs (fullAreaOp.d.mt * fullAreaOp.d.nt)

/-- A wide tensor whose first word has a reserved bit set. -/
def fullAreaAcc : Tensor := { obj := ⟨.wide, .l8, [1, 9], 0, false, false, ⟨0, 0, 0, 0, 0⟩, 0⟩, img := [(7, 0x80)] }

/-- The job, created with a CHAIN_AREA of 0. -/
def fullAreaCtx : Ctx :=
  { owner := 0, params := ⟨0, 4095, 1, 0, 1000, 100, 0, 50, 20⟩, state := .runnable, resident := true
    runs := [{ fullAreaRun with next := 1, states := [.running] }], tensors := [(9, fullAreaAcc)], ops := [fullAreaOp] }

def fullArea : State :=
  { boot := { stage := .ready }, ctxs := [(0, fullAreaCtx)], rings := [(0, { params := ⟨0, 16, 0, 0, 0, 0⟩ })]
    tiles := [(0, { engines := [(0, { groups := [(0, fullAreaGroup)] })] })] }

/-- The operation with the group's words merged into those that ACC_IN loads, one of them invalid. -/
def fullAreaMerged : MatOp :=
  { fullAreaOp.merge fullAreaTask (fullAreaCtx.loadAcc fullAreaOp fullAreaTask).1 fullAreaWords with wideInvalid := true }

theorem fullArea_loads_invalid : (fullAreaCtx.loadAcc fullAreaOp fullAreaTask).2 = true := by decide +kernel

theorem fullArea_takeChunk :
    fullArea.takeChunk fullAreaOp fullAreaTask = some (fullAreaWords, fullAreaOp, fullArea.freeAt 0 0 0) := rfl

/-- The merged state is final and would be parked: 512 bytes that the area does not have. -/
theorem fullArea_areaTakes : fullAreaCtx.areaTakes fullAreaOp fullAreaMerged = false := by decide +kernel

/-- The merge leaves the module as it is (R289). -/
theorem exec_mergeCombine_fullArea : exec (.mergeCombine fullAreaTask) fullArea = .next fullArea := by
  obtain ⟨-, hloads, -⟩ := exec_mergeCombine_chunk (s := fullArea) rfl rfl rfl (by decide) rfl rfl (by decide) fullArea_takeChunk
  rw [hloads rfl rfl, fullArea_loads_invalid, Bool.or_true]
  exact congrArg _ (State.putMerged_of_full fullArea_areaTakes)

/-- Had it been taken, the group would be FREE and the operation marked. -/
theorem fullArea_putOp_ne : (fullArea.freeAt 0 0 0).putOp 0 fullAreaMerged ≠ fullArea := by decide +kernel

/-- Refutes O52: where the merge of an ACC_IN tile makes a final state for a maximum pass and the chain area has no room to
park it, MERGE_COMBINE changes nothing yet (R289), so it does not answer the state with WIDE_INVALID set; the clause has no
hypothesis that the area takes the result. -/
theorem not_chainWords : ¬ Obligations.ChainWords := by
  unfold Obligations.ChainWords
  rintro ⟨-, -, -, -, -, -, -, hmerge, -⟩
  obtain ⟨p, hexec, -, rfl⟩ := hmerge fullArea _ fullAreaCtx fullAreaOp _ fullAreaTask _ rfl rfl rfl (by decide) rfl rfl
    (by decide) rfl rfl fullArea_takeChunk fullArea_loads_invalid
  rw [exec_mergeCombine_fullArea] at hexec
  exact fullArea_putOp_ne (Host.Outcome.next.inj hexec).symm

end Sys2Proof.Machine

namespace Sys2Proof.Machine

/-! SUPPORT. Bringing a job's state up to date (R303, R369, R374): the TENSOR_MAPs that it completes, what a slice that
passes leaves of every job, and why a job with work on the engines keeps its operations. -/

/-! ### TENSOR_MAPs that wait for a job (R303) -/

/-- The turn of one function in `retryMaps`. -/
def State.retryMap (ctx : Nat) (s : State) (fn : Nat) : State :=
  match (s.fn fn).mbox.waiting, s.ctx? ctx with
  | some (h, .map c handle off), some x =>
    if c = ctx && h.fn = fn && !x.inUse handle then
      match (x.tensor? handle).filter (·.deletedAt.isNone) with
      | some t => (if (s.fn h.fn).avail then s.makeMapping h.fn c handle off t.obj.bytes else s).finishCmd h 0 0 []
      | none => s.finishCmd h 1 0x12 []
    else s
  | _, _ => s

theorem State.retryMaps_eq (s : State) (ctx : Nat) : s.retryMaps ctx = s.funs.foldl (fun a f => a.retryMap ctx f.1) s := rfl

/-- Is a TENSOR_MAP of a function for the job to complete now? -/
def State.mapDue (ctx : Nat) (s : State) (fn : Nat) : Bool :=
  match (s.fn fn).mbox.waiting, (s.ctx? ctx).map Ctx.inUse with
  | some (h, .map c handle _), some used => c = ctx && h.fn = fn && !used handle
  | _, _ => false

theorem State.retryMap_of_not_due {s : State} {ctx fn : Nat} (h : s.mapDue ctx fn = false) : s.retryMap ctx fn = s := by
  unfold State.mapDue at h
  unfold State.retryMap
  split
  case h_1 hd c handle off x hw hx =>
    simp only [hw, hx, Option.map_some] at h
    simp only [h, Bool.false_eq_true, if_false]
  case h_2 => rfl

@[simp] theorem State.funs_fnWrite (s : State) (fn a : Nat) (b : List Byte) : (s.fnWrite fn a b).funs = s.funs := by
  unfold State.fnWrite
  split <;> rfl
@[simp] theorem State.ctxs_fnWrite (s : State) (fn a : Nat) (b : List Byte) : (s.fnWrite fn a b).ctxs = s.ctxs := by
  unfold State.fnWrite
  split <;> rfl
@[simp] theorem State.parts_fnWrite (s : State) (fn a : Nat) (b : List Byte) : (s.fnWrite fn a b).parts = s.parts := by
  unfold State.fnWrite
  split <;> rfl
@[simp] theorem State.funs_fnVector (s : State) (fn v : Nat) : (s.fnVector fn v).funs = s.funs := by
  unfold State.fnVector
  split <;> rfl
@[simp] theorem State.ctxs_fnVector (s : State) (fn v : Nat) : (s.fnVector fn v).ctxs = s.ctxs := by
  unfold State.fnVector
  split <;> rfl
@[simp] theorem State.parts_fnVector (s : State) (fn v : Nat) : (s.fnVector fn v).parts = s.parts := by
  unfold State.fnVector
  split <;> rfl

@[simp] theorem State.fn_fnWrite (s : State) (fn a : Nat) (b : List Byte) (i : Nat) : (s.fnWrite fn a b).fn i = s.fn i := by
  simp [State.fn]
@[simp] theorem State.funs_granted (s : State) (fn : Nat) : (s.granted fn).funs = s.funs := rfl
@[simp] theorem State.ctxs_granted (s : State) (fn : Nat) : (s.granted fn).ctxs = s.ctxs := rfl
@[simp] theorem State.parts_granted (s : State) (fn : Nat) : (s.granted fn).parts = s.parts := rfl

/-- Completing a command leaves the jobs and the partitions; the function has no command waiting. -/
theorem State.finishCmd_frame (s : State) (h : CmdHead) (status cause : Nat) (res : List Byte) :
    (s.finishCmd h status cause res).ctxs = s.ctxs ∧ (s.finishCmd h status cause res).parts = s.parts
      ∧ (s.finishCmd h status cause res).funs = Tab.set s.funs h.fn { s.fn h.fn with mbox := (s.fn h.fn).mbox.advance } := by
  unfold State.finishCmd
  dsimp only
  repeat' split
  all_goals simp

/-- A TENSOR_MAP that is due completes: no command of its function waits any more. -/
theorem State.retryMap_of_due {s : State} {ctx fn : Nat} (h : s.mapDue ctx fn = true) :
    (s.retryMap ctx fn).ctxs = s.ctxs ∧ (s.retryMap ctx fn).parts = s.parts
      ∧ ∃ f : Func, f.mbox.waiting = none ∧ (s.retryMap ctx fn).funs = Tab.set s.funs fn f := by
  unfold State.mapDue at h
  unfold State.retryMap
  split at h
  case h_2 => exact absurd h (by simp)
  case h_1 hd c handle off used hw hused =>
    obtain ⟨x, hx, rfl⟩ := Option.map_eq_some_iff.mp hused
    simp only [hw, hx, h, if_true]
    simp only [Bool.and_eq_true, decide_eq_true_eq] at h
    obtain ⟨⟨-, rfl⟩, -⟩ := h
    have hfin : ∀ (u : State) (status cause : Nat), u.ctxs = s.ctxs → u.parts = s.parts →
        (∀ f, Tab.set u.funs hd.fn f = Tab.set s.funs hd.fn f) →
        (u.finishCmd hd status cause []).ctxs = s.ctxs ∧ (u.finishCmd hd status cause []).parts = s.parts
          ∧ ∃ f : Func, f.mbox.waiting = none ∧ (u.finishCmd hd status cause []).funs = Tab.set s.funs hd.fn f := by
      intro u status cause hc hp hf
      obtain ⟨hctxs, hparts, hfuns⟩ := u.finishCmd_frame hd status cause []
      exact ⟨hctxs.trans hc, hparts.trans hp, _, rfl, by rw [hfuns, hf]⟩
    split
    case h_2 => exact hfin s 1 _ rfl rfl (fun _ => rfl)
    case h_1 =>
      split
      case isTrue => exact hfin _ 0 0 rfl rfl (fun f => Tab.set_set _ _ _ f)
      case isFalse => exact hfin s 0 0 rfl rfl (fun _ => rfl)

/-- What one function's turn leaves. -/
theorem State.retryMap_frame (s : State) (ctx fn : Nat) :
    (s.retryMap ctx fn).ctxs = s.ctxs ∧ (s.retryMap ctx fn).parts = s.parts := by
  cases h : s.mapDue ctx fn with
  | false => rw [State.retryMap_of_not_due h]; exact ⟨rfl, rfl⟩
  | true => exact ⟨(State.retryMap_of_due h).1, (State.retryMap_of_due h).2.1⟩

@[simp] theorem State.ctxs_retryMaps (s : State) (ctx : Nat) : (s.retryMaps ctx).ctxs = s.ctxs :=
  foldl_keeps (f := fun (a : State) (f : Nat × Func) => a.retryMap ctx f.1) State.ctxs (fun s f => (s.retryMap_frame ctx f.1).1) s.funs s

@[simp] theorem State.parts_retryMaps (s : State) (ctx : Nat) : (s.retryMaps ctx).parts = s.parts :=
  foldl_keeps (f := fun (a : State) (f : Nat × Func) => a.retryMap ctx f.1) State.parts (fun s f => (s.retryMap_frame ctx f.1).2) s.funs s

/-- No TENSOR_MAP of any function is due. -/
def State.mapsDone (ctx : Nat) (s : State) : Prop := ∀ fn ∈ s.funs.map (·.1), s.mapDue ctx fn = false

theorem State.retryMaps_of_done {s : State} {ctx : Nat} (h : s.mapsDone ctx) : s.retryMaps ctx = s := by
  have hfold : ∀ l : Tab Func, (∀ fn ∈ l.map (·.1), s.mapDue ctx fn = false) → l.foldl (fun a f => a.retryMap ctx f.1) s = s := by
    intro l hl
    induction l with
    | nil => rfl
    | cons f l ih =>
      rw [List.map_cons, List.forall_mem_cons] at hl
      rw [List.foldl_cons, State.retryMap_of_not_due hl.1, ih hl.2]
  exact hfold s.funs h

theorem State.mapDue_congr {s t : State} {ctx fn : Nat} (hfn : t.fn fn = s.fn fn)
    (hx : (t.ctx? ctx).map Ctx.inUse = (s.ctx? ctx).map Ctx.inUse) : t.mapDue ctx fn = s.mapDue ctx fn := by
  unfold State.mapDue
  rw [hfn, hx]

/-- A function's turn leaves its own TENSOR_MAP not due, makes no other due, and adds no function. -/
theorem State.retryMap_done (s : State) (ctx fn : Nat) :
    (s.retryMap ctx fn).mapDue ctx fn = false
      ∧ (∀ i, s.mapDue ctx i = false → (s.retryMap ctx fn).mapDue ctx i = false)
      ∧ (∀ i ∈ (s.retryMap ctx fn).funs.map (·.1), i = fn ∨ i ∈ s.funs.map (·.1)) := by
  cases h : s.mapDue ctx fn with
  | false =>
    rw [State.retryMap_of_not_due h]
    exact ⟨h, fun _ hi => hi, fun i hi => .inr hi⟩
  | true =>
    obtain ⟨hctxs, -, f, hwait, hfuns⟩ := State.retryMap_of_due h
    have hself : (s.retryMap ctx fn).fn fn = f := by simp [State.fn, hfuns]
    have hown : (s.retryMap ctx fn).mapDue ctx fn = false := by simp [State.mapDue, hself, hwait]
    refine ⟨hown, fun i hi => ?_, fun i hi => Tab.mem_keys_set _ _ _ _ (hfuns ▸ hi)⟩
    by_cases hne : i = fn
    · exact hne ▸ hown
    · rw [State.mapDue_congr (s := s) _ (by simp [State.ctx?, hctxs]), hi]
      simp [State.fn, hfuns, Tab.getD_set_ne _ _ _ hne]

/-- Once the waiting TENSOR_MAPs have been tried, none is due. -/
theorem State.mapsDone_retryMaps (s : State) (ctx : Nat) : (s.retryMaps ctx).mapsDone ctx := by
  have hfold : ∀ (l : Tab Func) (a : State) (done : List Nat),
      (∀ i ∈ a.funs.map (·.1), i ∈ done ∨ i ∈ l.map (·.1)) → (∀ i ∈ done, a.mapDue ctx i = false) →
      (l.foldl (fun a f => a.retryMap ctx f.1) a).mapsDone ctx := by
    intro l
    induction l with
    | nil => exact fun a done hk hd i hi => hd i (by simpa using hk i hi)
    | cons f l ih =>
      intro a done hk hd
      obtain ⟨hown, hkeep, hkeys⟩ := a.retryMap_done ctx f.1
      refine ih _ (f.1 :: done) (fun i hi => ?_) (fun i hi => ?_)
      · rcases hkeys i hi with rfl | hi
        · simp
        · have := hk i hi
          simp only [List.map_cons, List.mem_cons] at this ⊢
          tauto
      · rcases List.mem_cons.mp hi with rfl | hi
        · exact hown
        · exact hkeep i (hd i hi)
  exact hfold s.funs s [] (fun i hi => .inr hi) (by simp)

/-! ### What a slice that passes leaves of a job (R301, R370) -/

theorem Ctx.withPools_congr {x y : Ctx} (h : ∀ i, (y.tensor? i).map (·.obj) = (x.tensor? i).map (·.obj)) (hs : List Nat) :
    y.withPools hs = x.withPools hs := by
  refine List.flatMap_congr fun i _ => ?_
  have hi := h i
  cases hx : x.tensor? i with
  | none =>
    rw [hx, Option.map_none, Option.map_eq_none_iff] at hi
    rw [hi]
  | some t =>
    rw [hx, Option.map_some, Option.map_eq_some_iff] at hi
    obtain ⟨u, hu, hobj⟩ := hi
    simp only [hu, hobj]

/-- A job that leaves its seat. -/
def Ctx.unseated (room : Bool) (back : MatOp → List (TaskId × Nat)) (x : Ctx) : Ctx :=
  { x.mapExts (Ext.swapOut room) with resident := false, ops := x.ops.map (fun o => { o with placed := o.placed ++ back o }) }

/-- It uses the tensors that it used. -/
theorem Ctx.inUse_unseated (room : Bool) (back : MatOp → List (TaskId × Nat)) (x : Ctx) : (x.unseated room back).inUse = x.inUse := by
  have hpools : ∀ hs, (x.unseated room back).withPools hs = x.withPools hs :=
    Ctx.withPools_congr fun i => by
      simp only [Ctx.tensor?, Ctx.unseated, Ctx.mapExts, Tab.get_mapVals, Option.map_map]
      rfl
  funext h
  unfold Ctx.inUse
  simp only [hpools]
  simp only [Ctx.unseated, Ctx.mapExts, List.any_map]
  rfl

/-- What the end of a slice cannot change of a job: its state, its tickets and the tensors in use. -/
def Ctx.lasting (x : Ctx) : CState × List Run × (Nat → Bool) := (x.state, x.runs, x.inUse)

theorem State.map_ctx?_setCtx {β : Type} (f : Ctx → β) {s : State} {i : Nat} {x y : Ctx} (hx : s.ctx? i = some x) (hy : f y = f x) (c : Nat) :
    ((s.setCtx i y).ctx? c).map f = (s.ctx? c).map f := by
  by_cases h : c = i
  · subst h; simp [hx, hy]
  · rw [State.ctx?_setCtx_ne _ _ h]

theorem State.lasting_swapOut (s : State) (part v c : Nat) :
    ((s.swapOut part v).ctx? c).map Ctx.lasting = (s.ctx? c).map Ctx.lasting := by
  unfold State.swapOut
  split
  case h_1 => rfl
  case h_2 x hx =>
    refine State.map_ctx?_setCtx (x := x) Ctx.lasting hx ?_ c
    exact Prod.ext rfl (Prod.ext rfl (x.inUse_unseated _ _))

@[simp] theorem State.funs_swapOut (s : State) (part v : Nat) : (s.swapOut part v).funs = s.funs := by
  unfold State.swapOut
  split <;> rfl

/-- What the passing of a slice leaves of the functions and of every job. -/
def State.sliceKeeps (c : Nat) (s : State) : Tab Func × Option (CState × List Run × (Nat → Bool)) := (s.funs, (s.ctx? c).map Ctx.lasting)

@[simp] theorem State.sliceKeeps_modPart (s : State) (c part : Nat) (g : Part → Part) : (s.modPart part g).sliceKeeps c = s.sliceKeeps c := rfl

@[simp] theorem State.sliceKeeps_beginSwitch (s : State) (c part ctx len : Nat) (out : Option Nat) :
    (s.beginSwitch part ctx len out).sliceKeeps c = s.sliceKeeps c := by
  unfold State.beginSwitch
  rw [State.sliceKeeps_modPart]
  cases out with
  | none => rfl
  | some v => simp only [State.sliceKeeps, State.funs_swapOut, State.lasting_swapOut]

@[simp] theorem State.sliceKeeps_passSlice (s : State) (c part : Nat) : (s.passSlice part).sliceKeeps c = s.sliceKeeps c := by
  unfold State.passSlice
  dsimp only
  repeat' split
  all_goals simp

/-! ### The state of a job with work on the engines (Table 12.12, R369) -/

theorem State.rings_of_hw {s t : State} (h : t.hw = s.hw) : t.rings = s.rings := by
  simp only [State.hw, Prod.mk.injEq] at h
  tauto

theorem State.key_of_rings {s t : State} (h : t.rings = s.rings) (c : Nat) : t.key c = s.key c := by
  unfold State.key
  rw [h]

theorem State.holdsSlice_congr {s t : State} {c : Nat} (hp : t.parts = s.parts)
    (hx : (t.ctx? c).map (·.params.partition) = (s.ctx? c).map (·.params.partition)) : t.holdsSlice c = s.holdsSlice c := by
  unfold State.holdsSlice State.partOf
  rw [hp, hx]

section Refresh

variable {s : State} {ctx : Nat} {x : Ctx}

theorem State.cstate_of_no_key (hf : x.state ≠ .faulted) (hr : x.runs ≠ []) (hk : s.key ctx = none) : s.cstate ctx x = .blocked := by
  simp [State.cstate, hf, hr, hk]

theorem State.cstate_of_runs (hf : x.state ≠ .faulted) (hr : x.runs ≠ []) (hk : (s.key ctx).isSome = true)
    (ho : x.ops.any MatOp.runs = true) : s.cstate ctx x = .runnable := by
  have hne : (s.key ctx).isNone = false := by simpa [Option.isNone_eq_false_iff] using hk
  simp only [State.cstate, hf, hne, ho, List.isEmpty_eq_false_iff.mpr hr, if_false, if_true, Bool.false_eq_true]
  split
  · split <;> rfl
  · rfl

/-- A job whose state stands, and for which no TENSOR_MAP is due, is up to date. -/
theorem State.refresh_of_settled (hm : s.mapsDone ctx) (hx : s.ctx? ctx = some x) (hst : s.cstate ctx x = x.state) : s.refresh ctx = s := by
  unfold State.refresh
  simp [State.retryMaps_of_done hm, hx, hst]

/-- The job after its TENSOR_MAPs have been tried: the same, in the same partition. -/
theorem State.ctx?_retryMaps (s : State) (ctx c : Nat) : (s.retryMaps ctx).ctx? c = s.ctx? c := by
  simp [State.ctx?]

/-- The job as it enters a state: BLOCKED takes the time. -/
def State.entering (s : State) (x : Ctx) (st : CState) : Ctx :=
  { x with
    state := st
    blockTime := if st = .blocked then (match (s.fn x.owner).holdFullAt with | some t => t | none => s.time.now) else x.blockTime }

theorem State.refresh_of_state_eq (hx : s.ctx? ctx = some x) (hst : (s.retryMaps ctx).cstate ctx x = x.state) :
    s.refresh ctx = s.retryMaps ctx := by
  unfold State.refresh
  simp only [s.ctx?_retryMaps, hx, if_pos hst]

theorem State.refresh_of_runnable (hx : s.ctx? ctx = some x) (hst : (s.retryMaps ctx).cstate ctx x = .runnable)
    (hne : x.state ≠ .runnable) :
    s.refresh ctx = ((s.retryMaps ctx).setCtx ctx ((s.retryMaps ctx).entering x .runnable)).arrive ctx := by
  unfold State.refresh
  simp only [s.ctx?_retryMaps, hx, hst, if_neg hne.symm, if_true]
  rfl

/-- A job that enters a state other than RUNNABLE: its slice passes when it holds one. -/
theorem State.refresh_of_not_runnable {st : CState} (hx : s.ctx? ctx = some x) (hst : (s.retryMaps ctx).cstate ctx x = st)
    (hne : x.state ≠ st) (hrun : st ≠ .runnable) {s1 : State}
    (hs1 : s1 = (s.retryMaps ctx).setCtx ctx ((s.retryMaps ctx).entering x st)) :
    s.refresh ctx = if ((Tab.get s1.parts x.params.partition).bind (fun p => p.slice.map (·.ctx))) = some ctx
      then s1.passSlice x.params.partition else s1 := by
  unfold State.refresh
  simp only [s.ctx?_retryMaps, hx, hst, if_neg hne.symm, if_neg hrun, hs1]
  rfl

/-- A job that enters RUNNABLE while it holds the slice changes no job. -/
theorem State.ctxs_arrive (h : s.holdsSlice ctx = true) : (s.arrive ctx).ctxs = s.ctxs := by
  unfold State.holdsSlice at h
  unfold State.arrive
  dsimp only
  split
  case h_1 => rfl
  case h_2 p hp =>
    simp only [hp, decide_eq_true_eq] at h
    split
    case h_2 =>
      repeat' split
      all_goals rfl
    case h_1 hno =>
      split
      case isFalse => rfl
      case isTrue hsw =>
        rw [Option.isNone_iff_eq_none] at hsw
        simp [hsw, h] at hno

/-- A job that holds the slice and has work on the engines keeps its operations when it is brought up to date. -/
theorem State.ops_refresh (hx : s.ctx? ctx = some x) (hf : x.state ≠ .faulted) (hr : x.runs ≠ []) (hk : (s.key ctx).isSome = true)
    (ho : x.ops.any MatOp.runs = true) (hs : s.holdsSlice ctx = true) : ((s.refresh ctx).ctx? ctx).map Ctx.ops = some x.ops := by
  have hst : (s.retryMaps ctx).cstate ctx x = .runnable := by
    refine State.cstate_of_runs hf hr ?_ ho
    rwa [State.key_of_rings (State.rings_of_hw (hw_State_retryMaps s ctx))]
  by_cases hrun : x.state = .runnable
  · rw [State.refresh_of_state_eq hx (hst.trans hrun.symm), s.ctx?_retryMaps, hx, Option.map_some]
  · have hslice : ((s.retryMaps ctx).setCtx ctx ((s.retryMaps ctx).entering x .runnable)).holdsSlice ctx = true := by
      rw [State.holdsSlice_congr (s := s) (by simp) (by simp [hx, State.entering]), hs]
    rw [State.refresh_of_runnable hx hst hrun, State.ctx?, State.ctxs_arrive hslice]
    simp [State.entering]

/-- A job with tickets and no ring is BLOCKED, whatever its slice: bringing it up to date twice is doing so once. -/
theorem State.refresh_refresh_of_no_key (hx : s.ctx? ctx = some x) (hf : x.state ≠ .faulted) (hr : x.runs ≠ []) (hk : s.key ctx = none) :
    (s.refresh ctx).refresh ctx = s.refresh ctx := by
  have hst : (s.retryMaps ctx).cstate ctx x = .blocked := by
    refine State.cstate_of_no_key hf hr ?_
    rwa [State.key_of_rings (State.rings_of_hw (hw_State_retryMaps s ctx))]
  have hkeeps : (s.refresh ctx).sliceKeeps ctx = ((s.retryMaps ctx).funs, some (.blocked, x.runs, x.inUse)) := by
    by_cases hb : x.state = .blocked
    · rw [State.refresh_of_state_eq hx (hst.trans hb.symm)]
      simp [State.sliceKeeps, s.ctx?_retryMaps, hx, Ctx.lasting, hb]
    · have hentered : ((s.retryMaps ctx).setCtx ctx ((s.retryMaps ctx).entering x .blocked)).sliceKeeps ctx
          = ((s.retryMaps ctx).funs, some (.blocked, x.runs, x.inUse)) := by
        rw [State.sliceKeeps, State.ctx?_setCtx_self]
        rfl
      rw [State.refresh_of_not_runnable hx hst hb (by decide) rfl, apply_ite (State.sliceKeeps ctx), State.sliceKeeps_passSlice,
        ite_self, hentered]
  obtain ⟨hfuns, hlast⟩ := Prod.mk.inj hkeeps
  obtain ⟨y, hy, hyx⟩ := Option.map_eq_some_iff.mp hlast
  simp only [Ctx.lasting, Prod.mk.injEq] at hyx
  obtain ⟨hystate, hyruns, hyuse⟩ := hyx
  refine State.refresh_of_settled (fun fn hfn => ?_) hy ?_
  · rw [State.mapDue_congr (s := s.retryMaps ctx)]
    · exact s.mapsDone_retryMaps ctx fn (hfuns ▸ hfn)
    · simp [State.fn, hfuns]
    · rw [hy, s.ctx?_retryMaps, hx, Option.map_some, Option.map_some, hyuse]
  · rw [hystate]
    refine State.cstate_of_no_key (by simp [hystate]) (hyruns ▸ hr) ?_
    rwa [State.key_of_rings (State.rings_of_hw (hw_State_refresh s ctx))]

end Refresh

end Sys2Proof.Machine

namespace Sys2Proof.Machine

/-! SUPPORT. How a matrix descriptor becomes an operation (R101, R126, R165, R298). -/

/-! ### The dispatch of a descriptor (R365) -/

theorem State.dispatchable_some {s : State} {ctx op : Nat} {f : Option Nat} {sl : Bool} {x : Ctx} {r : Run} {d : Desc}
    (h : s.dispatchable ctx op f sl = some (x, r, d)) :
    s.ctx? ctx = some x ∧ x.nextDesc = some (r, d) ∧ x.state ≠ .faulted ∧ (sl = true → s.holdsSlice ctx = true) := by
  unfold State.dispatchable at h
  split at h
  case h_1 => cases h
  case h_2 y hy =>
    split at h
    case h_1 => cases h
    case h_2 r' d' hn =>
      obtain ⟨hc, heq⟩ := Option.ite_none_right_eq_some.mp h
      simp only [Bool.and_eq_true, Bool.or_eq_true, Bool.not_eq_true', bne_iff_ne] at hc
      obtain ⟨⟨⟨⟨⟨⟨⟨-, hstate⟩, -⟩, -⟩, -⟩, hslice⟩, -⟩, -⟩ := hc
      simp only [Option.some.injEq, Prod.mk.injEq] at heq
      obtain ⟨rfl, rfl, rfl⟩ := heq
      exact ⟨hy, hn, hstate, fun hsl => hslice.resolve_left (by simp [hsl])⟩

theorem Ctx.runs_ne_nil_of_nextDesc {x : Ctx} {e : Run × Desc} (h : x.nextDesc = some e) : x.runs ≠ [] := by
  intro hr
  simp [Ctx.nextDesc, hr, nextRun] at h

/-- What the dispatch of a descriptor leaves of its job but the marks in its runs. -/
def Ctx.jobPart (x : Ctx) : List ChainMsg × ContextParams × CState × List Run := (x.chains, x.params, x.state, x.runs)

theorem Ctx.jobPart_modExt (x : Ctx) (e : ExtentId) (f : Ext → Ext) : (x.modExt e f).jobPart = x.jobPart := by
  unfold Ctx.modExt
  split <;> rfl

theorem Ctx.jobPart_access (vec : Bool) (x : Ctx) (ps : List PieceId) : (x.access vec ps).jobPart = x.jobPart :=
  foldl_keeps (f := fun (y : Ctx) (p : PieceId) => y.modExt p.ext (Ext.access vec)) Ctx.jobPart (fun y p => y.jobPart_modExt p.ext _) ps x

theorem State.jobPart_house (s : State) (x : Ctx) (h : Nat) : (s.house x h).jobPart = x.jobPart := by
  unfold State.house
  split
  · split <;> rfl
  · rfl

theorem Ctx.jobPart_noteInputs (x : Ctx) (r : Run) (pos : Nat) (d : Desc) : (x.noteInputs r pos d).jobPart = x.jobPart := by
  unfold Ctx.noteInputs
  split
  · rfl
  · split <;> rfl

/-- A descriptor that is dispatched leaves its job's chain area, parameters and state, and its tickets in number. -/
theorem State.ctx?_beginDesc {s : State} {ctx : Nat} {x : Ctx} (hx : s.ctx? ctx = some x) (r : Run) (d : Desc) :
    ∃ y, (s.beginDesc ctx r d).ctx? ctx = some y ∧ y.chains = x.chains ∧ y.params = x.params ∧ y.state = x.state
      ∧ y.runs.length = x.runs.length := by
  unfold State.beginDesc State.startDesc State.modRun
  rw [State.ctx?_modCtx, if_pos rfl, State.ctx?_modCtx, if_pos rfl, hx, Option.map_some, Option.map_some]
  have hkept : Ctx.jobPart ((d.reads ++ d.writes).foldl (fun y h => y.access (d.opcode != 0x20)
      ((s.seenBy r).piecesOf ((d.reads ++ d.writes).foldl s.house ((x.noteInputs r r.next d).holdGathered r d)) h))
      ((d.reads ++ d.writes).foldl s.house ((x.noteInputs r r.next d).holdGathered r d))) = x.jobPart := by
    rw [foldl_keeps Ctx.jobPart (fun y h => y.jobPart_access _ _), foldl_keeps Ctx.jobPart s.jobPart_house]
    exact x.jobPart_noteInputs r r.next d
  simp only [Ctx.jobPart, Prod.mk.injEq] at hkept
  obtain ⟨hchains, hparams, hstate, hruns⟩ := hkept
  exact ⟨_, rfl, hchains, hparams, hstate, (List.length_map _).trans (congrArg _ hruns)⟩

/-! ### Clusters that wake (R442) -/

theorem State.jobs_rampNext (s : State) : s.rampNext.ctxs = s.ctxs ∧ s.rampNext.parts = s.parts := by
  unfold State.rampNext
  repeat' split
  all_goals exact ⟨rfl, rfl⟩

theorem State.jobs_wakeDie (s : State) (d : Nat) (run : Bool) : (s.wakeDie d run).ctxs = s.ctxs ∧ (s.wakeDie d run).parts = s.parts := by
  unfold State.wakeDie
  dsimp only
  repeat' split
  all_goals first
    | exact ⟨rfl, rfl⟩
    | exact State.jobs_rampNext _

theorem State.jobs_wakeCluster (s : State) (c : Nat) : (s.wakeCluster c).ctxs = s.ctxs ∧ (s.wakeCluster c).parts = s.parts := by
  unfold State.wakeCluster
  dsimp only
  split <;> exact s.jobs_wakeDie (clusterDie c) true

/-! ### Tasks in grid order (R101) -/

theorem map_fst_foldl_append {α β : Type} (f : List (α × β) → α → β) (l : List α) (acc : List (α × β)) :
    (l.foldl (fun acc k => acc ++ [(k, f acc k)]) acc).map (·.1) = acc.map (·.1) ++ l := by
  induction l generalizing acc with
  | nil => simp
  | cons a l ih => simp [ih]

theorem State.map_fst_placeAll (s : State) (ctx : Nat) (x : Ctx) (o : MatOp) :
    (s.placeAll ctx x o).map (·.1)
      = (List.range o.d.tileCount).flatMap (fun t => (List.range o.d.chunkCount).map (fun c => o.task ctx t c)) := by
  unfold State.placeAll
  rw [map_fst_foldl_append, List.map_nil, List.nil_append]

theorem MatDesc.chunkCount_pos (d : MatDesc) : 0 < d.chunkCount := by
  unfold MatDesc.chunkCount
  split
  case isTrue => exact Nat.one_pos
  case isFalse h =>
    push Not at h
    exact Nat.div_pos (by omega) (by omega)

/-- The operation that a matrix descriptor becomes, its tasks placed. -/
def State.placedOp (s : State) (ctx : Nat) (x : Ctx) (r : Run) (d : Desc) (m : MatDesc) : MatOp :=
  { newOp r m d with placed := (s.seenBy r).placeAll ctx x (newOp r m d) }

section NewOp

variable {s : State} {ctx : Nat} {x : Ctx} {r : Run} {d : Desc} {m : MatDesc}

theorem State.complete_placedOp (h : m.tileCount ≠ 0) : (s.placedOp ctx x r d m).complete = false := by
  exact decide_eq_false h.symm

/-- A new operation has chunks to sum: it is work for the engines. -/
theorem State.runs_placedOp (h : m.tileCount ≠ 0) : (s.placedOp ctx x r d m).runs = true := by
  have hawaits : (s.placedOp ctx x r d m).awaitsWords = false := by
    have hfirst : 0 ∈ List.range (s.placedOp ctx x r d m).d.tileCount := List.mem_range.mpr (Nat.pos_of_ne_zero h)
    have hchunk : (0 : Nat) ≠ (s.placedOp ctx x r d m).d.chunkCount := (MatDesc.chunkCount_pos _).ne
    have hall : (List.range (s.placedOp ctx x r d m).d.tileCount).all (fun n => Tab.has (s.placedOp ctx x r d m).finals n
        || ((s.placedOp ctx x r d m).nextChunk n = (s.placedOp ctx x r d m).d.chunkCount
          && ((s.placedOp ctx x r d m).recvTile ((s.placedOp ctx x r d m).task 0 n 0)).isNone)) = false := by
      rw [List.all_eq_false]
      refine ⟨0, hfirst, ?_⟩
      have hnext : (s.placedOp ctx x r d m).nextChunk 0 = 0 := rfl
      have hfinal : Tab.has (s.placedOp ctx x r d m).finals 0 = false := rfl
      simp [hnext, hfinal, hchunk]
    simp only [MatOp.awaitsWords, hall, Bool.and_false]
  rw [MatOp.runs, hawaits]
  rfl

/-- An operation that is not complete goes on. -/
theorem State.endMat_of_incomplete {o : MatOp} (h : o.complete = false) : s.endMat ctx o = s ∨ s.endMat ctx o = s.refresh ctx := by
  unfold State.endMat
  split
  · exact .inl rfl
  · split
    · exact .inl rfl
    · exact .inr (by simp [h])

/-- With no message in the chain area an operation that begins takes none. -/
theorem State.feedChains_of_empty {o : MatOp} (hx : s.ctx? ctx = some x) (h : x.chains = []) :
    s.feedChains ctx o r = (s.setCtx ctx { x with chains := [], chainOwed := x.chainOwed ++ o.owes ctx }).putOp ctx o := by
  simp [State.feedChains, hx, h, MatOp.takeChains]

/-- The clusters of an operation's tasks asked for, their tiles in use. -/
def State.roused (s : State) (o : MatOp) : State :=
  ((o.placed.map (·.2)).eraseDups).foldl State.touchTile
    (((o.placed.map (fun q => tileCluster q.2)).eraseDups).foldl State.wakeCluster s)

theorem State.jobs_roused (s : State) (o : MatOp) : (s.roused o).ctxs = s.ctxs ∧ (s.roused o).parts = s.parts := by
  unfold State.roused
  constructor
  · rw [foldl_keeps State.ctxs (fun t n => t.ctxs_touchTile n),
      foldl_keeps State.ctxs (fun t c => (t.jobs_wakeCluster c).1)]
  · rw [foldl_keeps State.parts (fun t n => t.parts_touchTile n),
      foldl_keeps State.parts (fun t c => (t.jobs_wakeCluster c).2)]

/-- The module while a new operation stands in its job, before its job is brought up to date. -/
def State.withOp (s : State) (ctx : Nat) (x : Ctx) (o : MatOp) : State :=
  (((s.setCtx ctx { x with ops := x.ops ++ [o] }).roused o).setCtx ctx
      { x with ops := x.ops ++ [o], chains := [], chainOwed := x.chainOwed ++ o.owes ctx }).setOp ctx o

theorem State.startMat_of_empty {y : Ctx} (hy : (s.beginDesc ctx r d).ctx? ctx = some y) (h : y.chains = []) :
    s.startMat ctx r d m
      = (((s.beginDesc ctx r d).withOp ctx y ((s.beginDesc ctx r d).placedOp ctx y r d m)).endMat ctx
          ((s.beginDesc ctx r d).placedOp ctx y r d m)).refresh ctx := by
  let s1 := s.beginDesc ctx r d
  let o := s1.placedOp ctx y r d m
  have hroused : ((s1.setCtx ctx { y with ops := y.ops ++ [o] }).roused o).ctx? ctx = some { y with ops := y.ops ++ [o] } := by
    rw [State.ctx?, (State.jobs_roused _ o).1]
    exact State.ctx?_setCtx_self _ _ _
  have hfed := State.feedChains_of_empty (o := o) (r := r) hroused h
  unfold State.startMat
  simp only [hy]
  exact congrArg (fun t => State.refresh t ctx) hfed

theorem State.parts_withOp {y : Ctx} {o : MatOp} : (s.withOp ctx y o).parts = s.parts := by
  unfold State.withOp State.setOp
  rw [State.parts_modCtx, State.parts_setCtx, (State.jobs_roused _ o).2, State.parts_setCtx]

/-- The new operation stands in its job; the rest of the job is as it was. -/
theorem State.ctx?_withOp (s : State) (ctx : Nat) (y : Ctx) (o : MatOp) :
    ∃ z, (s.withOp ctx y o).ctx? ctx = some z ∧ o ∈ z.ops ∧ z.params = y.params ∧ z.state = y.state ∧ z.runs = y.runs := by
  unfold State.withOp State.setOp
  rw [State.ctx?_modCtx, if_pos rfl, State.ctx?_setCtx_self]
  refine ⟨_, rfl, ?_, rfl, rfl, rfl⟩
  exact List.mem_map.mpr ⟨o, by simp, if_pos ⟨rfl, rfl, rfl⟩⟩

end NewOp

/-- MATRIX leaves a job with the new operation in it, which only has to be brought up to date: a job that has a ring goes on
with its operation, and one that has none is BLOCKED, once or twice. -/
theorem State.startMat_has_op {s : State} {ctx : Nat} {x : Ctx} {r : Run} {d : Desc} {m : MatDesc}
    (hd : s.dispatchable ctx 0x20 none true = some (x, r, d)) (ht : m.tileCount ≠ 0) (hchains : x.chains = []) :
    ∃ (u : State) (y : Ctx), s.startMat ctx r d m = u.refresh ctx ∧ u.ctx? ctx = some y
      ∧ ∃ o ∈ y.ops, o.d = m ∧ o.ring = r.ring ∧ o.tseq = r.tseq ∧ o.pos = r.next ∧ o.finals = []
        ∧ o.placed.map (·.1) = (List.range m.tileCount).flatMap (fun t => (List.range m.chunkCount).map (fun c => o.task ctx t c)) := by
  obtain ⟨hx, hnext, hstate, hslice⟩ := State.dispatchable_some hd
  obtain ⟨y, hy, hychains, hyparams, hystate, hyruns⟩ := State.ctx?_beginDesc hx r d
  let s1 := s.beginDesc ctx r d
  let o := s1.placedOp ctx y r d m
  let w := s1.withOp ctx y o
  have ho : o.d = m ∧ o.ring = r.ring ∧ o.tseq = r.tseq ∧ o.pos = r.next ∧ o.finals = []
      ∧ o.placed.map (·.1) = (List.range m.tileCount).flatMap (fun t => (List.range m.chunkCount).map (fun c => o.task ctx t c)) :=
    ⟨rfl, rfl, rfl, rfl, rfl, State.map_fst_placeAll (s1.seenBy r) ctx y (newOp r m d)⟩
  obtain ⟨z, hz, hmem, hzparams, hzstate, hzruns⟩ := s1.ctx?_withOp ctx y o
  have hstart : s.startMat ctx r d m = (w.endMat ctx o).refresh ctx := State.startMat_of_empty hy (hychains.trans hchains)
  rcases State.endMat_of_incomplete (s := w) (ctx := ctx) (o := o) (State.complete_placedOp ht) with hend | hend
  · exact ⟨w, z, by rw [hstart, hend], hz, o, hmem, ho⟩
  · have hfaulted : z.state ≠ .faulted := by rwa [hzstate, hystate]
    have hruns : z.runs ≠ [] := by
      rw [← List.length_pos_iff, hzruns, hyruns, List.length_pos_iff]
      exact Ctx.runs_ne_nil_of_nextDesc hnext
    cases hk : w.key ctx with
    | none => exact ⟨w, z, by rw [hstart, hend, State.refresh_refresh_of_no_key hz hfaulted hruns hk], hz, o, hmem, ho⟩
    | some n =>
      have hany : z.ops.any MatOp.runs = true := List.any_eq_true.mpr ⟨o, hmem, State.runs_placedOp ht⟩
      have hholds : w.holdsSlice ctx = true := by
        rw [State.holdsSlice_congr (s := s), hslice rfl]
        · exact State.parts_withOp
        · rw [hz, hx, Option.map_some, Option.map_some, hzparams, hyparams]
      obtain ⟨y', hy', hops⟩ := Option.map_eq_some_iff.mp (State.ops_refresh hz hfaulted hruns (by rw [hk]; rfl) hany hholds)
      exact ⟨w.refresh ctx, y', by rw [hstart, hend], hy', o, hops ▸ hmem, ho⟩

end Sys2Proof.Machine

namespace Sys2Proof.Machine

/-! SUPPORT. Which tensors can be written (R307, R308): one that can be read can be written, and no write takes away what
another tensor needs. -/

/-! ### What reading a tensor rests on -/

/-- What the pages of a tensor are found by. -/
def Tensor.view (t : Tensor) : TKind × KvView × Fmt := (t.obj.kind, t.obj.kv, t.obj.fmt)

/-- Two jobs with the same tensors and pools, their contents, scales, counts and extents apart. -/
structure Ctx.SameViews (x y : Ctx) : Prop where
  tensors : ∀ h, (y.tensor? h).map Tensor.view = (x.tensor? h).map Tensor.view
  pools : ∀ p, (Tab.get y.pools p).map (·.obj) = (Tab.get x.pools p).map (·.obj)

theorem Ctx.SameViews.refl (x : Ctx) : x.SameViews x := ⟨fun _ => rfl, fun _ => rfl⟩

theorem Ctx.SameViews.trans {x y z : Ctx} (hxy : x.SameViews y) (hyz : y.SameViews z) : x.SameViews z :=
  ⟨fun h => (hyz.tensors h).trans (hxy.tensors h), fun p => (hyz.pools p).trans (hxy.pools p)⟩

theorem Tab.map_get_modify {α β : Type} {f : α → α} (P : α → β) (hf : ∀ a, P (f a) = P a) (t : Tab α) (i j : Nat) :
    (Tab.get (Tab.modify t i f) j).map P = (Tab.get t j).map P := by
  rw [Tab.get_modify]
  split
  · cases Tab.get t j <;> simp [hf]
  · rfl

theorem Tab.map_get_set {α β : Type} (P : α → β) {t : Tab α} {i : Nat} {a b : α} (ha : Tab.get t i = some a) (hb : P b = P a) (j : Nat) :
    (Tab.get (Tab.set t i b) j).map P = (Tab.get t j).map P := by
  by_cases h : j = i
  · subst h; simp [ha, hb]
  · rw [Tab.get_set_ne t b h]

theorem Ctx.sameViews_modExt (x : Ctx) (e : ExtentId) (f : Ext → Ext) : x.SameViews (x.modExt e f) := by
  unfold Ctx.modExt
  split
  · exact ⟨fun _ => rfl, fun p => Tab.map_get_modify (fun q : Pool => q.obj) (by intro; rfl) x.pools e.handle p⟩
  · exact ⟨fun h => Tab.map_get_modify Tensor.view (by intro; rfl) x.tensors e.handle h, fun _ => rfl⟩

theorem Ctx.sameViews_modPieces (x : Ctx) (ps : List PieceId) (f : PieceId → Ext → Ext) : x.SameViews (x.modPieces ps f) := by
  unfold Ctx.modPieces
  induction ps generalizing x with
  | nil => exact .refl x
  | cons p ps ih => exact (x.sameViews_modExt p.ext (f p)).trans (ih _)

theorem Ctx.sameViews_wrotePieces (x : Ctx) (ps : List PieceId) : x.SameViews (x.wrotePieces ps) := by
  obtain ⟨htensors, hpools⟩ := x.sameViews_modPieces ps (fun p e => e.wrote (x.pinTile p) (p.piece % 32))
  exact ⟨htensors, hpools⟩

theorem Ctx.sameViews_countWrite (x : Ctx) (h : Nat) : x.SameViews (x.countWrite h) :=
  ⟨fun i => Tab.map_get_modify Tensor.view (by intro; rfl) x.tensors h i, fun _ => rfl⟩

theorem Ctx.sameViews_countDiscards (x : Ctx) (m : Discard) : x.SameViews (x.countDiscards m) := ⟨fun _ => rfl, fun _ => rfl⟩

theorem kvPage_congr {p q : Pool} (h : q.obj = p.obj) (slot : SlotObj) (v : KvView) (f : Fmt) : kvPage q slot v f = kvPage p slot v f := by
  funext r
  unfold kvPage
  rw [h]

/-- All rows of a view are on pages that are there (R308). -/
def State.pagesThere (s : State) (x : Ctx) (kv : KvView) (f : Fmt) : Prop :=
  ∃ pool slot, Tab.get x.pools kv.pool = some pool ∧ Tab.get s.slots kv.slot = some slot
    ∧ (kv.maxRows < slot.obj.length || ((List.range slot.obj.length).map (kvPage pool slot.obj kv f)).any Option.isNone) = false

theorem State.pagesThere_congr {x y : Ctx} (h : x.SameViews y) {s : State} {kv : KvView} {f : Fmt} (hp : s.pagesThere x kv f) :
    s.pagesThere y kv f := by
  obtain ⟨pool, slot, hpool, hslot, hrows⟩ := hp
  have hy := h.pools kv.pool
  rw [hpool, Option.map_some, Option.map_eq_some_iff] at hy
  obtain ⟨q, hq, hobj⟩ := hy
  exact ⟨q, slot, hq, hslot, by rw [kvPage_congr hobj, hrows]⟩

theorem Ctx.SameViews.tensor {x y : Ctx} (hv : x.SameViews y) {h : Nat} {t : Tensor} (ht : x.tensor? h = some t) :
    ∃ u, y.tensor? h = some u ∧ u.view = t.view := by
  have hy := hv.tensors h
  rwa [ht, Option.map_some, Option.map_eq_some_iff] at hy

section Access

variable {s : State} {x : Ctx} {h : Nat}

/-- A tensor can be read when it exists and, if it is a view, its pages are there. -/
theorem State.isSome_readTensor_iff :
    (s.readTensor x h).isSome = true
      ↔ ∃ t, x.tensor? h = some t ∧ (t.obj.kind = .kvView → s.pagesThere x t.obj.kv t.obj.fmt) := by
  constructor
  · intro hr
    unfold State.readTensor at hr
    split at hr
    case h_1 => cases hr
    case h_2 t ht =>
      refine ⟨t, ht, fun hk => ?_⟩
      rw [hk] at hr
      dsimp only at hr
      split at hr
      case h_2 => cases hr
      case h_1 pool slot hpool hslot =>
        split at hr
        case isTrue => cases hr
        case isFalse hrows => exact ⟨pool, slot, hpool, hslot, by simpa using hrows⟩
  · rintro ⟨t, ht, hpages⟩
    unfold State.readTensor
    rw [ht]
    dsimp only
    split
    case h_1 hk =>
      obtain ⟨pool, slot, hpool, hslot, hrows⟩ := hpages hk
      simp only [hpool, hslot]
      rw [hrows]
      rfl
    case h_2 => rfl

theorem Ctx.SameViews.readable {y : Ctx} (hv : x.SameViews y) (hr : (s.readTensor x h).isSome = true) :
    (s.readTensor y h).isSome = true := by
  obtain ⟨t, ht, hpages⟩ := State.isSome_readTensor_iff.mp hr
  obtain ⟨u, hu, hview⟩ := hv.tensor ht
  simp only [Tensor.view, Prod.mk.injEq] at hview
  obtain ⟨hkind, hkv, hfmt⟩ := hview
  refine State.isSome_readTensor_iff.mpr ⟨u, hu, fun hk => ?_⟩
  rw [hkv, hfmt]
  exact State.pagesThere_congr hv (hpages (hkind ▸ hk))

/-! ### Writes -/

/-- A tensor that can be read can be written. -/
theorem State.writeTensor_of_readable (hr : (s.readTensor x h).isSome = true) (t : Int) (codes nibs : List (List (Option Nat))) :
    ∃ y, s.writeTensor x h t codes nibs = some y ∧ x.SameViews y := by
  obtain ⟨te, hte, hpages⟩ := State.isSome_readTensor_iff.mp hr
  unfold State.writeTensor
  rw [hte]
  dsimp only
  split
  case h_1 hk =>
    obtain ⟨pool, slot, hpool, hslot, hrows⟩ := hpages hk
    simp only [hpool, hslot]
    rw [hrows]
    refine ⟨_, rfl, Ctx.SameViews.trans ?_ (Ctx.sameViews_wrotePieces _ _)⟩
    exact ⟨fun i => Tab.map_get_set Tensor.view hte (by rfl) i, fun p => Tab.map_get_set (fun q : Pool => q.obj) hpool (by rfl) p⟩
  case h_2 =>
    refine ⟨_, rfl, Ctx.SameViews.trans ?_ (Ctx.sameViews_wrotePieces _ _)⟩
    exact ⟨fun i => Tab.map_get_set Tensor.view hte (by rfl) i, fun _ => rfl⟩

theorem State.storeOut_ne_none (hr : (s.readTensor x h).isSome = true) (m : Discard) (o : ConvOut) : s.storeOut x h m o ≠ none := by
  obtain ⟨y, hy, -⟩ := State.writeTensor_of_readable hr o.t (m.keepCodes o.codes) (m.keepNibs o.scales)
  simp [State.storeOut, hy]

theorem State.sameViews_of_storeOut {y : Ctx} {st : ConvStatus} {m : Discard} {o : ConvOut} (hr : (s.readTensor x h).isSome = true)
    (hy : s.storeOut x h m o = some (y, st)) : x.SameViews y := by
  obtain ⟨z, hz, hv⟩ := State.writeTensor_of_readable hr o.t (m.keepCodes o.codes) (m.keepNibs o.scales)
  rw [State.storeOut, hz, Option.map_some, Option.some.injEq, Prod.mk.injEq] at hy
  exact hy.1 ▸ hv.trans (z.sameViews_countWrite h)

theorem State.isSome_storeFlags (hr : h ≠ 0 → (s.readTensor x h).isSome = true) (flags : List Nat) :
    (s.storeFlags x h flags).isSome = true := by
  unfold State.storeFlags
  split
  case isTrue => rfl
  case isFalse h0 =>
    obtain ⟨t, ht, -⟩ := State.isSome_readTensor_iff.mp (hr h0)
    obtain ⟨y, hy, -⟩ := State.writeTensor_of_readable (hr h0) t.obj.t
      (allOf (chunksOf (rowLen (s.dimsOf t.obj)) flags.length flags)) []
    simp only [ht, hy, Option.map_some, Option.isSome_some]

theorem State.readOpt_of_readable (hr : h ≠ 0 → (s.readTensor x h).isSome = true) : ∃ a, s.readOpt x h = some a := by
  unfold State.readOpt
  split
  case isTrue => exact ⟨_, rfl⟩
  case isFalse h0 => exact Option.isSome_iff_exists.mp (hr h0)

/-! ### The epilogue (R146) -/

/-- An epilogue whose tensors can be read writes its results. -/
theorem State.runEpi_of_readable {d : Desc} (hdst : (s.readTensor x d.dst).isSome = true) (hr : s.readable x [d.srcA, d.srcB, d.flagH])
    (r : Run) (o : MatOp) : ∃ v, s.runEpi x r d o = some v := by
  obtain ⟨t, ht, -⟩ := State.isSome_readTensor_iff.mp hdst
  obtain ⟨a, ha⟩ := State.readOpt_of_readable (hr d.srcA (by simp))
  obtain ⟨b, hb⟩ := State.readOpt_of_readable (hr d.srcB (by simp))
  unfold State.runEpi
  simp only [ht, ha, hb]
  split
  case isTrue => exact ⟨_, rfl⟩
  case isFalse =>
    split
    case h_1 hnone => exact (State.storeOut_ne_none hdst _ _ hnone).elim
    case h_2 y st hy =>
      have hflags : ∀ m, d.flagH ≠ 0 → (s.readTensor (y.countDiscards m) d.flagH).isSome = true := fun m h0 =>
        ((State.sameViews_of_storeOut hdst hy).trans (y.sameViews_countDiscards m)).readable (hr d.flagH (by simp) h0)
      rw [← Option.isSome_iff_exists, Option.isSome_map]
      exact State.isSome_storeFlags (hflags _) _

end Access

/-- EPILOGUE: the results are written, and what they leave is that of a vector descriptor (R160). -/
theorem exec_epilogue {s : State} {ctx : Nat} {x x1 : Ctx} {r : Run} {d : Desc} {o : MatOp} {v : VecDone}
    (hd : s.dispatchable ctx 0x31 (some 0) true = some (x, r, d)) (hx : s.ctx? ctx = some x) (ho : x.opBefore r = some o)
    (hok : s.epiOk x r d o.d = true) (hg : x.writesGathered d = false)
    (hx1 : ((s.dropOp ctx o).beginDesc ctx r d).ctx? ctx = some x1) (hv : (s.seenBy r).runEpi x1 r d o = some v) :
    exec (.epilogue ctx) s = .next ((s.dropOp ctx o).vecLeaves ctx r d v) := by
  have hdrop : (s.dropOp ctx o).ctx? ctx
      = some { x with ops := x.ops.filter (fun p => !(p.ring = o.ring && p.tseq = o.tseq && p.pos = o.pos)) } := by
    rw [State.dropOp, State.ctx?_modCtx, if_pos rfl, hx, Option.map_some]
  have hg' : Ctx.writesGathered { x with ops := x.ops.filter (fun p => !(p.ring = o.ring && p.tseq = o.tseq && p.pos = o.pos)) } d = false := hg
  show Host.Outcome.next _ = _
  simp only [hd, ho, State.vecRun, hdrop, hx1, hok, hg', hv]
  rfl

end Sys2Proof.Machine

namespace Sys2Proof.Machine

/-! SUPPORT. The rows MATRIX and CHAIN_WORDS (R126, R128, R131, R165, R289, R308). -/

/-! ### MATRIX -/

section Matrix

variable {s : State} {ctx : Nat} {x : Ctx} {r : Run} {d : Desc} {m : MatDesc}

theorem exec_matrix_start (hd : s.dispatchable ctx 0x20 none true = some (x, r, d)) (hm : d.mat = some m) (hok : s.matOk x r d m = true)
    (hw : m.tileCount ≠ 0 → x.writesGathered d = false ∧ (s.seenBy r).pagesOk x (handles [m.a, m.b, if m.epiNext then 0 else m.c]) = true) :
    exec (.matrix ctx) s = .next (s.startMat ctx r d m) := by
  show Host.Outcome.next _ = _
  simp only [hd, hm, hok]
  by_cases ht : m.tileCount = 0
  · simp [ht]
  · obtain ⟨hg, hp⟩ := hw ht
    simp [hg, hp]

theorem exec_matrix_reject (hd : s.dispatchable ctx 0x20 none true = some (x, r, d)) (hm : d.mat = some m) (hok : s.matOk x r d m = false) :
    exec (.matrix ctx) s = .next ((s.rejectDesc ctx r).refresh ctx) := by
  show Host.Outcome.next _ = _
  simp only [hd, hm, hok]
  rfl

theorem exec_matrix_gathered (hd : s.dispatchable ctx 0x20 none true = some (x, r, d)) (hm : d.mat = some m) (hok : s.matOk x r d m = true)
    (ht : m.tileCount ≠ 0) (hg : x.writesGathered d = true) : exec (.matrix ctx) s = .next (s.faultAt ctx r 0x08) := by
  show Host.Outcome.next _ = _
  simp [hd, hm, hok, ht, hg]

theorem exec_matrix_noPage (hd : s.dispatchable ctx 0x20 none true = some (x, r, d)) (hm : d.mat = some m) (hok : s.matOk x r d m = true)
    (ht : m.tileCount ≠ 0) (hg : x.writesGathered d = false)
    (hp : (s.seenBy r).pagesOk x (handles [m.a, m.b, if m.epiNext then 0 else m.c]) = false) :
    exec (.matrix ctx) s = .next (s.faultAt ctx r 0x09) := by
  show Host.Outcome.next _ = _
  simp [hd, hm, hok, ht, hg, hp]

end Matrix

/-! ### CHAIN_WORDS -/

/-- What CHAIN words do to a job that is not faulted, `u` being the module without the message. -/
def State.chainInto (s u : State) (src : Nat) (m : ChainMsg) (x : Ctx) : State :=
  match x.chainOwed.find? (fun o => o.src = src && o.tag = m.tag) with
  | some o =>
    if o.batch = m.batch ∧ o.m = m.m ∧ o.n = m.n then u.setCtx m.ctx { x with chainOwed := x.chainOwed.erase o }
    else (u.setCtx m.ctx { x with chainOwed := x.chainOwed.erase o }).jobFault m.ctx 0x04 none
  | none =>
    match x.ops.find? (fun o => o.awaits src m.tag) with
    | none => if x.chainRoom m.areaBytes then u.setCtx m.ctx { x with chains := x.chains ++ [{ m with src := src }] } else s
    | some o =>
      if !o.sameShape m then u.jobFault m.ctx 0x04 (some (o.ring, o.tseq, o.pos))
      else if o.needsNow m || x.chainRoom m.areaBytes then u.putOp m.ctx (o.receive m)
      else s

section ChainRow

variable {s u : State} {src : Nat} {a : Arrived} {rest : List Arrived} {m : ChainMsg} {x : Ctx}

theorem exec_chainWords (hl : s.live = true) (htake : takeFrom src 2 s.net.inbox = some (a, rest)) (ha : a.msg = .chain m)
    (hx : s.ctx? m.ctx = some x) (hu : u = s.takeMsg 2 a.slots rest) :
    exec (.chainWords src) s = .next (if x.state = .faulted then u else s.chainInto u src m x) := by
  obtain ⟨_, _, _, _, _, _⟩ := a
  obtain rfl := ha
  subst hu
  show Host.Outcome.next _ = _
  simp only [htake, hl, hx, Bool.not_true, Bool.false_eq_true, if_false]
  rfl

theorem State.chainInto_owed {o : ChainMsg} (ho : x.chainOwed.find? (fun o => o.src = src && o.tag = m.tag) = some o) :
    s.chainInto u src m x = if o.batch = m.batch ∧ o.m = m.m ∧ o.n = m.n then u.setCtx m.ctx { x with chainOwed := x.chainOwed.erase o }
      else (u.setCtx m.ctx { x with chainOwed := x.chainOwed.erase o }).jobFault m.ctx 0x04 none := by
  simp only [State.chainInto, ho]

theorem find?_chainOwed_eq_none (h : ∀ o ∈ x.chainOwed, ¬(o.src = src ∧ o.tag = m.tag)) :
    x.chainOwed.find? (fun o => o.src = src && o.tag = m.tag) = none := by
  simpa using h

theorem State.chainInto_unawaited (ho : x.chainOwed.find? (fun o => o.src = src && o.tag = m.tag) = none)
    (hops : x.ops.find? (fun o => o.awaits src m.tag) = none) :
    s.chainInto u src m x
      = if x.chainRoom m.areaBytes then u.setCtx m.ctx { x with chains := x.chains ++ [{ m with src := src }] } else s := by
  simp only [State.chainInto, ho, hops]

theorem State.chainInto_awaited {o : MatOp} (ho : x.chainOwed.find? (fun o => o.src = src && o.tag = m.tag) = none)
    (hops : x.ops.find? (fun o => o.awaits src m.tag) = some o) :
    s.chainInto u src m x = if !o.sameShape m then u.jobFault m.ctx 0x04 (some (o.ring, o.tseq, o.pos))
      else if o.needsNow m || x.chainRoom m.areaBytes then u.putOp m.ctx (o.receive m) else s := by
  simp only [State.chainInto, ho, hops]

end ChainRow

/-- Settles O38: MATRIX and CHAIN_WORDS take the branch that the hypotheses name; the new operation is found in the module
before its job is brought up to date for the last time (`startMat_has_op`); an epilogue's results are written because a tensor
that can be read can be written (`runEpi_of_readable`). -/
theorem matrixDescriptorsComplete : Obligations.MatrixDescriptorsComplete := by
  unfold Obligations.MatrixDescriptorsComplete
  refine ⟨?matrix, ?epilogue, ?chainWords⟩
  case matrix =>
    intro ctx x r d m s hd hm
    refine ⟨fun hok hw => ⟨exec_matrix_start hd hm hok hw, fun ht hc => State.startMat_has_op hd ht hc⟩,
      fun hok => exec_matrix_reject hd hm hok, fun hok ht hg => exec_matrix_gathered hd hm hok ht hg,
      fun hok ht hg hp => exec_matrix_noPage hd hm hok ht hg hp⟩
  case epilogue =>
    intro ctx x x1 r d o s hd ho hok hg hx1 hdst hr
    obtain ⟨hx, -⟩ := State.dispatchable_some hd
    obtain ⟨v, hv⟩ := State.runEpi_of_readable hdst hr r o
    exact ⟨v, hv, exec_epilogue hd hx ho hok hg hx1 hv⟩
  case chainWords =>
    intro src a rest m x s u hl htake ha hx hu
    have hexec := exec_chainWords hl htake ha hx hu
    refine ⟨fun hf => by rw [hexec, if_pos hf], fun hf hno => ?_, fun o hf ho => ?_⟩
    · have hnone := find?_chainOwed_eq_none hno
      rw [if_neg hf] at hexec
      refine ⟨fun hops hroom => ?_, fun hops hfull => ?_, fun o hops hshape hroom => ?_, fun o hops hshape hneed hfull => ?_,
        fun o hops hshape => ?_⟩
      · rw [hexec, State.chainInto_unawaited hnone hops, if_pos hroom]
      · rw [hexec, State.chainInto_unawaited hnone hops, hfull]
        rfl
      · rw [hexec, State.chainInto_awaited hnone hops, hshape, if_neg (by simp), if_pos (by simpa using hroom)]
      · rw [hexec, State.chainInto_awaited hnone hops, hshape, hneed, hfull]
        rfl
      · rw [hexec, State.chainInto_awaited hnone hops, hshape]
        rfl
    · rw [hexec, if_neg hf, State.chainInto_owed ho]
      exact ⟨fun hsame => by rw [if_pos hsame], fun hdiff => by rw [if_neg hdiff]⟩

end Sys2Proof.Machine

namespace Sys2Proof.Machine

/-! SUPPORT. What writes of tensors leave of a job (R293, R296, R307, R330). -/

/-- Between two jobs, writes to tensors in `T` and to pages of pools in `P`: every other tensor and pool is as it was, and so
is the rest of the job but for the write marks. -/
structure Ctx.WritesIn (T P : Set Nat) (x y : Ctx) : Prop where
  views : x.SameViews y
  tensors : ∀ h ∉ T, y.tensor? h = x.tensor? h
  pools : ∀ p ∉ P, Tab.get y.pools p = Tab.get x.pools p
  rest : y = { x with tensors := y.tensors, pools := y.pools, dirty := y.dirty, wrote := y.wrote }

/-- The pools that the tensors in `T` view are in `P`. -/
def Ctx.ViewsIn (T P : Set Nat) (x : Ctx) : Prop :=
  ∀ h ∈ T, ∀ t, x.tensor? h = some t → t.obj.kind = .kvView → t.obj.kv.pool ∈ P

section Writes

variable {T P : Set Nat} {s : State} {x y z : Ctx} {h : Nat}

theorem Ctx.WritesIn.refl (T P : Set Nat) (x : Ctx) : x.WritesIn T P x := ⟨.refl x, fun _ _ => rfl, fun _ _ => rfl, rfl⟩

theorem Ctx.WritesIn.trans (hxy : x.WritesIn T P y) (hyz : y.WritesIn T P z) : x.WritesIn T P z where
  views := hxy.views.trans hyz.views
  tensors h hh := (hyz.tensors h hh).trans (hxy.tensors h hh)
  pools p hp := (hyz.pools p hp).trans (hxy.pools p hp)
  rest := by
    rw [hyz.rest, hxy.rest]

/-- A write moves no view to another pool. -/
theorem Ctx.WritesIn.viewsIn (hxy : x.WritesIn T P y) (hx : x.ViewsIn T P) : y.ViewsIn T P := by
  intro h hh u hu hk
  have hview := hxy.views.tensors h
  rw [hu, Option.map_some, eq_comm, Option.map_eq_some_iff] at hview
  obtain ⟨t, ht, heq⟩ := hview
  simp only [Tensor.view, Prod.mk.injEq] at heq
  obtain ⟨hkind, hkv, -⟩ := heq
  exact hkv ▸ hx h hh t ht (hkind.trans hk)

theorem Ctx.writesIn_modExt (e : ExtentId) (f : Ext → Ext) (hp : e.pool = true → e.handle ∈ P) (ht : e.pool = false → e.handle ∈ T) :
    x.WritesIn T P (x.modExt e f) := by
  have hviews := x.sameViews_modExt e f
  unfold Ctx.modExt at hviews ⊢
  split at hviews
  case isTrue hpool =>
    rw [if_pos hpool]
    exact ⟨hviews, fun _ _ => rfl, fun p hp' => by rw [Tab.get_modify, if_neg (ne_of_mem_of_not_mem (hp hpool) hp').symm], rfl⟩
  case isFalse hpool =>
    rw [if_neg hpool]
    have hmem := ht (by simpa using hpool)
    exact ⟨hviews, fun h hh => (Tab.get_modify ..).trans (if_neg (ne_of_mem_of_not_mem hmem hh).symm), fun _ _ => rfl, rfl⟩

theorem Ctx.writesIn_wrotePieces (x : Ctx) (ps : List PieceId)
    (hps : ∀ p ∈ ps, (p.pool = true → p.handle ∈ P) ∧ (p.pool = false → p.handle ∈ T)) : x.WritesIn T P (x.wrotePieces ps) := by
  have hmod : ∀ (f : PieceId → Ext → Ext), x.WritesIn T P (x.modPieces ps f) := by
    intro f
    unfold Ctx.modPieces
    induction ps generalizing x with
    | nil => exact .refl T P x
    | cons p ps ih =>
      obtain ⟨hpool, htensor⟩ := hps p (by simp)
      exact (Ctx.writesIn_modExt p.ext (f p) hpool htensor).trans (ih _ fun q hq => hps q (by simp [hq]))
  obtain ⟨hviews, htensors, hpools, hrest⟩ := hmod (fun p e => e.wrote (x.pinTile p) (p.piece % 32))
  refine ⟨⟨hviews.tensors, hviews.pools⟩, htensors, hpools, ?_⟩
  unfold Ctx.wrotePieces
  dsimp only
  rw [hrest]

theorem Ctx.writesIn_countWrite (x : Ctx) (hh : h ∈ T) : x.WritesIn T P (x.countWrite h) :=
  ⟨x.sameViews_countWrite h, fun _ hi => (Tab.get_modify ..).trans (if_neg (ne_of_mem_of_not_mem hh hi).symm), fun _ _ => rfl, rfl⟩

/-- An ordinary or wide tensor is given another content. -/
theorem Ctx.writesIn_setTensor {t u : Tensor} (hh : h ∈ T) (ht : x.tensor? h = some t) (hu : u.view = t.view) :
    x.WritesIn T P { x with tensors := Tab.set x.tensors h u } :=
  ⟨⟨fun i => Tab.map_get_set Tensor.view ht hu i, fun _ => rfl⟩,
    fun _ hi => Tab.get_set_ne _ _ (ne_of_mem_of_not_mem hh hi).symm, fun _ _ => rfl, rfl⟩

/-- The pages of a pool are given other contents. -/
theorem Ctx.writesIn_setPool {p : Nat} {a b : Pool} (hp : p ∈ P) (ha : Tab.get x.pools p = some a) (hb : b.obj = a.obj) :
    x.WritesIn T P { x with pools := Tab.set x.pools p b } :=
  ⟨⟨fun _ => rfl, fun q => Tab.map_get_set (fun a : Pool => a.obj) ha hb q⟩, fun _ _ => rfl,
    fun _ hq => Tab.get_set_ne _ _ (ne_of_mem_of_not_mem hp hq).symm, rfl⟩

/-- A write of a tensor stays in the tensor and, of a view, in the pages of its pool. -/
theorem State.writesIn_writeTensor {t : Int} {codes nibs : List (List (Option Nat))} (hh : h ∈ T) (hx : x.ViewsIn T P)
    (hy : s.writeTensor x h t codes nibs = some y) : x.WritesIn T P y := by
  unfold State.writeTensor at hy
  split at hy
  case h_1 => cases hy
  case h_2 te hte =>
    dsimp only at hy
    split at hy
    case h_1 hk =>
      have hmem := hx h hh te hte hk
      split at hy
      case h_2 => cases hy
      case h_1 pool slot hpool hslot =>
        obtain ⟨-, hy⟩ := Option.ite_none_left_eq_some.mp hy
        cases hy
        refine Ctx.WritesIn.trans ?_ (Ctx.writesIn_wrotePieces _ _ ?_)
        · exact (Ctx.writesIn_setPool hmem hpool (by rfl)).trans (Ctx.writesIn_setTensor hh hte (by rfl))
        · intro p hp
          obtain ⟨page, -, rfl⟩ := List.mem_map.mp hp
          exact ⟨fun _ => hmem, by simp⟩
    case h_2 =>
      cases hy
      refine Ctx.WritesIn.trans (Ctx.writesIn_setTensor hh hte (by rfl)) (Ctx.writesIn_wrotePieces _ _ ?_)
      intro p hp
      obtain ⟨piece, -, rfl⟩ := List.mem_map.mp hp
      exact ⟨by simp, fun _ => hh⟩

theorem State.writesIn_storeOut {m : Discard} {o : ConvOut} {st : ConvStatus} (hh : h ∈ T) (hx : x.ViewsIn T P)
    (hy : s.storeOut x h m o = some (y, st)) : x.WritesIn T P y := by
  obtain ⟨z, hz, heq⟩ := Option.map_eq_some_iff.mp hy
  cases heq
  exact (State.writesIn_writeTensor hh hx hz).trans (z.writesIn_countWrite hh)

/-- Values are stored as what their conversion gives. -/
theorem State.storeVals_eq_some {conv : Conv} {draw : Draw} {m : Discard} {vals : List Val} {e : Ctx × ConvStatus}
    (hy : s.storeVals x h conv draw m vals = some e) : ∃ o, s.storeOut x h m o = some e := by
  unfold State.storeVals at hy
  split at hy
  case h_1 => cases hy
  case h_2 => exact ⟨_, hy⟩

theorem State.writesIn_storeVals {conv : Conv} {draw : Draw} {m : Discard} {vals : List Val} {st : ConvStatus} (hh : h ∈ T)
    (hx : x.ViewsIn T P) (hy : s.storeVals x h conv draw m vals = some (y, st)) : x.WritesIn T P y := by
  obtain ⟨o, ho⟩ := State.storeVals_eq_some hy
  exact State.writesIn_storeOut hh hx ho

theorem State.writesIn_storeFlags {flags : List Nat} (hh : h ∈ T) (hx : x.ViewsIn T P) (hy : s.storeFlags x h flags = some y) :
    x.WritesIn T P y := by
  unfold State.storeFlags at hy
  split at hy
  case isTrue => cases hy; exact .refl T P x
  case isFalse =>
    split at hy
    case h_1 => cases hy
    case h_2 =>
      obtain ⟨z, hz, heq⟩ := Option.map_eq_some_iff.mp hy
      cases heq
      exact (State.writesIn_writeTensor hh hx hz).trans (z.writesIn_countWrite hh)

/-! ### Writes that succeed (R308) -/

theorem State.exists_storeVals (hr : (s.readTensor x h).isSome = true) (conv : Conv) (draw : Draw) (m : Discard) (vals : List Val) :
    ∃ y st, s.storeVals x h conv draw m vals = some (y, st) ∧ x.SameViews y := by
  obtain ⟨t, ht, -⟩ := State.isSome_readTensor_iff.mp hr
  obtain ⟨⟨y, st⟩, hy⟩ := Option.ne_none_iff_exists'.mp (State.storeOut_ne_none hr m (s.convInto t.obj conv draw m vals))
  exact ⟨y, st, by simp only [State.storeVals, ht, hy], State.sameViews_of_storeOut hr hy⟩

theorem State.exists_storeFlags (hv : x.SameViews y) (hr : h ≠ 0 → (s.readTensor x h).isSome = true) (flags : List Nat) :
    ∃ z, s.storeFlags y h flags = some z :=
  Option.isSome_iff_exists.mp (State.isSome_storeFlags (fun h0 => hv.readable (hr h0)) flags)

end Writes

end Sys2Proof.Machine

namespace Sys2Proof.Machine

/-! SUPPORT. Vector descriptors: when they write their results, what they write, and the rows of Table 5.3 (R134 to R164, R274,
R308). -/

section Runs

variable {s : State} {x : Ctx} {r : Run} {d : Desc} {v : VecDone}

/-! ### Results that can be written -/

theorem State.exists_mapVals (hr : s.readable x [d.srcA, d.srcB, d.srcC]) (o : TObj) : ∃ vs, s.mapVals x d o = some vs := by
  obtain ⟨a, ha⟩ := State.readOpt_of_readable (hr d.srcA (by simp))
  obtain ⟨b, hb⟩ := State.readOpt_of_readable (hr d.srcB (by simp))
  obtain ⟨c, hc⟩ := State.readOpt_of_readable (hr d.srcC (by simp))
  simp only [State.mapVals, ha, hb, hc]
  split <;> exact ⟨_, rfl⟩

theorem State.exists_maskedRows (ha : d.srcA ≠ 0 → (s.readTensor x d.srcA).isSome = true)
    (hm : d.maskH ≠ 0 → (s.readTensor x d.maskH).isSome = true) : ∃ a rows, s.maskedRows x d = some (a, rows) := by
  obtain ⟨a, ha⟩ := State.readOpt_of_readable ha
  obtain ⟨m, hm⟩ := State.readOpt_of_readable hm
  simp only [State.maskedRows, ha, hm]
  exact ⟨_, _, rfl⟩

/-- A VEC_MAP whose tensors can be read writes its results. -/
theorem State.runMap_of_readable (hdst : (s.readTensor x d.dst).isSome = true) (hr : s.readable x [d.srcA, d.srcB, d.srcC, d.flagH])
    (r : Run) : ∃ v, s.runMap x r d = some v := by
  obtain ⟨t, ht, -⟩ := State.isSome_readTensor_iff.mp hdst
  obtain ⟨⟨vs, inner⟩, hvs⟩ := State.exists_mapVals (fun h hh => hr h (List.mem_append_left [d.flagH] hh)) t.obj
  obtain ⟨a, ha⟩ := State.readOpt_of_readable (hr d.srcA (by simp))
  have hflag := hr d.flagH (by simp)
  unfold State.runMap
  simp only [ht, hvs, ha]
  generalize rangeFlags (rowLen (s.dimsOf t.obj)) (vs.map (·.2)) = flags
  by_cases hcopy : d.isCopy a t.obj = true
  · obtain ⟨⟨y, st⟩, hy⟩ := Option.ne_none_iff_exists'.mp (State.storeOut_ne_none hdst ⟨none⟩ (copyOver a (s.dimsOf t.obj)))
    obtain ⟨z, hz⟩ := State.exists_storeFlags (State.sameViews_of_storeOut hdst hy) hflag flags
    simp only [if_pos hcopy, hy, hz]
    exact ⟨_, rfl⟩
  · obtain ⟨y, st, hy, hviews⟩ := State.exists_storeVals hdst d.convW (x.draw r r.next) ⟨none⟩ (vs.map (·.1))
    obtain ⟨z, hz⟩ := State.exists_storeFlags hviews hflag flags
    simp only [if_neg hcopy, hy, hz]
    exact ⟨_, rfl⟩

/-- A VEC_REDUCE whose tensors can be read writes its results. -/
theorem State.runReduce_of_readable (hdst : (s.readTensor x d.dst).isSome = true) (hr : s.readable x [d.srcA, d.maskH, d.dst2, d.flagH])
    (r : Run) : ∃ v, s.runReduce x r d = some v := by
  obtain ⟨a, rows, hrows⟩ := State.exists_maskedRows (hr d.srcA (by simp)) (hr d.maskH (by simp))
  have hflag := hr d.flagH (by simp)
  unfold State.runReduce
  simp only [hrows]
  generalize rows.map (reduceRow (redFnOf d.func) d.base2 a.tc) = outs
  obtain ⟨y, st, hy, hviews⟩ := State.exists_storeVals hdst d.convW (x.draw r r.next) ⟨none⟩ (outs.map (·.val))
  by_cases h2 : d.dst2 = 0
  · obtain ⟨w, hw⟩ := State.exists_storeFlags hviews hflag (outs.map (fun o => o.flags.byte))
    simp only [hy, if_pos h2, hw]
    exact ⟨_, rfl⟩
  · obtain ⟨z, st2, hz, hviews2⟩ := State.exists_storeVals (hviews.readable (hr d.dst2 (by simp) h2)) d.convW (x.draw r r.next) ⟨none⟩
      (outs.map (·.val2))
    obtain ⟨w, hw⟩ := State.exists_storeFlags (hviews.trans hviews2) hflag (outs.map (fun o => o.flags.byte))
    simp only [hy, if_neg h2, hz, hw]
    exact ⟨_, rfl⟩

/-- A VEC_SOFTMAX whose tensors can be read writes its results. -/
theorem State.runSoftmax_of_readable (hdst : (s.readTensor x d.dst).isSome = true) (hr : s.readable x [d.srcA, d.maskH, d.flagH])
    (r : Run) : ∃ v, s.runSoftmax x r d = some v := by
  obtain ⟨a, rows, hrows⟩ := State.exists_maskedRows (hr d.srcA (by simp)) (hr d.maskH (by simp))
  unfold State.runSoftmax
  simp only [hrows]
  generalize rows.map (softmaxRow d.base2 a.tc _) = outs
  obtain ⟨y, st, hy, hviews⟩ := State.exists_storeVals hdst d.convW (x.draw r r.next) ⟨none⟩ (outs.flatMap (·.1))
  obtain ⟨z, hz⟩ := State.exists_storeFlags hviews (hr d.flagH (by simp)) (outs.map (fun o => o.2.byte))
  simp only [hy, hz]
  exact ⟨_, rfl⟩

/-! ### What the results change -/

variable {T P : Set Nat}

theorem State.writesIn_runMap (hdst : d.dst ∈ T) (hflag : d.flagH ∈ T) (hx : x.ViewsIn T P) (hv : s.runMap x r d = some v) :
    x.WritesIn T P v.x := by
  unfold State.runMap at hv
  split at hv
  case h_1 => cases hv
  case h_2 t _ =>
    split at hv
    case h_2 => cases hv
    case h_1 vs inner a _ _ =>
      dsimp only at hv
      split at hv
      case h_1 => cases hv
      case h_2 y st hy =>
        obtain ⟨z, hz, rfl⟩ := Option.map_eq_some_iff.mp hv
        have hstored : x.WritesIn T P y := by
          split at hy
          case isTrue => exact State.writesIn_storeOut hdst hx hy
          case isFalse => exact State.writesIn_storeVals hdst hx hy
        exact hstored.trans (State.writesIn_storeFlags hflag (hstored.viewsIn hx) hz)

theorem State.writesIn_runReduce (hdst : d.dst ∈ T) (hdst2 : d.dst2 ∈ T) (hflag : d.flagH ∈ T) (hx : x.ViewsIn T P)
    (hv : s.runReduce x r d = some v) : x.WritesIn T P v.x := by
  unfold State.runReduce at hv
  split at hv
  case h_1 => cases hv
  case h_2 =>
    dsimp only at hv
    split at hv
    case h_1 => cases hv
    case h_2 y st hy =>
      have hfirst := State.writesIn_storeVals hdst hx hy
      split at hv
      case h_1 => cases hv
      case h_2 z st2 hz =>
        obtain ⟨w, hw, rfl⟩ := Option.map_eq_some_iff.mp hv
        have hsecond : y.WritesIn T P z := by
          split at hz
          case isTrue => cases hz; exact .refl T P y
          case isFalse => exact State.writesIn_storeVals hdst2 (hfirst.viewsIn hx) hz
        have hboth := hfirst.trans hsecond
        exact hboth.trans (State.writesIn_storeFlags hflag (hboth.viewsIn hx) hw)

theorem State.writesIn_runSoftmax (hdst : d.dst ∈ T) (hflag : d.flagH ∈ T) (hx : x.ViewsIn T P) (hv : s.runSoftmax x r d = some v) :
    x.WritesIn T P v.x := by
  unfold State.runSoftmax at hv
  split at hv
  case h_1 => cases hv
  case h_2 =>
    dsimp only at hv
    split at hv
    case h_1 => cases hv
    case h_2 y st hy =>
      obtain ⟨z, hz, rfl⟩ := Option.map_eq_some_iff.mp hv
      have hstored := State.writesIn_storeVals hdst hx hy
      exact hstored.trans (State.writesIn_storeFlags hflag (hstored.viewsIn hx) hz)

end Runs

/-! ### The rows -/

section Rows

variable {s : State} {ctx : Nat} {e : Instr × Nat} {x x1 : Ctx} {r : Run} {d : Desc} {v : VecDone} {run : Ctx → Option VecDone}

/-- A vector descriptor that passes its checks and can write its results. -/
theorem State.vecRun_done (hx : s.ctx? ctx = some x) (hg : x.writesGathered d = false) (hx1 : (s.beginDesc ctx r d).ctx? ctx = some x1)
    (hv : run x1 = some v) : s.vecRun ctx r d true run = s.vecLeaves ctx r d v := by
  simp only [State.vecRun, hx, hx1, hg, hv]
  rfl

/-- A vector descriptor that fails its checks (R164). -/
theorem State.vecRun_rejected (hx : s.ctx? ctx = some x) : s.vecRun ctx r d false run = (s.rejectDesc ctx r).refresh ctx := by
  obtain ⟨y, hy, -⟩ := State.ctx?_beginDesc hx r d
  simp only [State.vecRun, hx, hy]
  rfl

/-- A vector descriptor that would write a gathered tensor (R274). -/
theorem State.vecRun_gathered (hx : s.ctx? ctx = some x) (hg : x.writesGathered d = true) :
    s.vecRun ctx r d true run = s.faultAt ctx r 0x08 := by
  obtain ⟨y, hy, -⟩ := State.ctx?_beginDesc hx r d
  simp only [State.vecRun, hx, hy, hg]
  rfl

/-- Each row of OPCODE 0x30 asks for its FUNC code (Table 5.3). -/
theorem exec_mapRow (he : e ∈ mapRows ctx) (s : State) : exec e.1 s = .next (s.vec ctx 0x30 e.2) := by
  simp only [mapRows, List.mem_cons, List.not_mem_nil, or_false] at he
  rcases he with rfl | rfl | rfl | rfl | rfl | rfl | rfl | rfl | rfl | rfl | rfl | rfl | rfl | rfl | rfl | rfl <;> rfl

/-- Each row of VEC_REDUCE asks for its FUNC code (Table 5.3). -/
theorem exec_reduceRow (he : e ∈ reduceRows ctx) (s : State) : exec e.1 s = .next (s.vec ctx 0x32 e.2) := by
  simp only [reduceRows, List.mem_cons, List.not_mem_nil, or_false] at he
  rcases he with rfl | rfl | rfl | rfl | rfl | rfl | rfl <;> rfl

theorem exec_mapRow_dispatched (he : e ∈ mapRows ctx) (hd : s.dispatchable ctx 0x30 (some e.2) true = some (x, r, d)) :
    exec e.1 s = .next (s.vecRun ctx r d (s.mapOk x r d) (fun y => (s.seenBy r).runMap y r d)) := by
  rw [exec_mapRow he, State.vec, hd]
  rfl

theorem exec_reduceRow_dispatched (he : e ∈ reduceRows ctx) (hd : s.dispatchable ctx 0x32 (some e.2) true = some (x, r, d)) :
    exec e.1 s = .next (s.vecRun ctx r d (s.rowOpOk x r d) (fun y => (s.seenBy r).runReduce y r d)) := by
  rw [exec_reduceRow he, State.vec, hd]
  rfl

theorem exec_softmax_dispatched (hd : s.dispatchable ctx 0x33 (some 0) true = some (x, r, d)) :
    exec (.softmax ctx) s = .next (s.vecRun ctx r d (s.rowOpOk x r d) (fun y => (s.seenBy r).runSoftmax y r d)) := by
  show Host.Outcome.next (s.vec ctx 0x33 0) = _
  rw [State.vec, hd]
  rfl

end Rows

/-- Settles O40: each row runs its dispatched descriptor by `vecRun` (`exec_mapRow_dispatched` and its like), whose branches are
the checks (R164), the gathered destination (R274) and the results; these are written because a tensor that can be read can be
written, and stays so while the others are written. -/
theorem vectorRowsComplete : Obligations.VectorRowsComplete := by
  unfold Obligations.VectorRowsComplete
  refine ⟨?map, ?reduce, ?softmax, ?mapRefused, ?reduceRefused⟩
  case map =>
    intro ctx e x x1 r d s he hd hok hg hx1 hdst hr
    obtain ⟨hx, -⟩ := State.dispatchable_some hd
    obtain ⟨v, hv⟩ := State.runMap_of_readable hdst hr r
    exact ⟨v, hv, by rw [exec_mapRow_dispatched he hd, hok, State.vecRun_done hx hg hx1 hv]⟩
  case reduce =>
    intro ctx e x x1 r d s he hd hok hg hx1 hdst hr
    obtain ⟨hx, -⟩ := State.dispatchable_some hd
    obtain ⟨v, hv⟩ := State.runReduce_of_readable hdst hr r
    exact ⟨v, hv, by rw [exec_reduceRow_dispatched he hd, hok, State.vecRun_done hx hg hx1 hv]⟩
  case softmax =>
    intro ctx x x1 r d s hd hok hg hx1 hdst hr
    obtain ⟨hx, -⟩ := State.dispatchable_some hd
    obtain ⟨v, hv⟩ := State.runSoftmax_of_readable hdst hr r
    exact ⟨v, hv, by rw [exec_softmax_dispatched hd, hok, State.vecRun_done hx hg hx1 hv]⟩
  case mapRefused =>
    intro ctx e x r d s he hd
    obtain ⟨hx, -⟩ := State.dispatchable_some hd
    rw [exec_mapRow_dispatched he hd]
    exact ⟨fun hok => by rw [hok, State.vecRun_rejected hx], fun hok hg => by rw [hok, State.vecRun_gathered hx hg]⟩
  case reduceRefused =>
    intro ctx e x r d s he hd
    obtain ⟨hx, -⟩ := State.dispatchable_some hd
    rw [exec_reduceRow_dispatched he hd]
    exact ⟨fun hok => by rw [hok, State.vecRun_rejected hx], fun hok hg => by rw [hok, State.vecRun_gathered hx hg]⟩

/-- The tensors that a vector descriptor stores to. -/
def Desc.stored (d : Desc) : Set Nat := {d.dst, d.dst2, d.flagH}

/-- The pools that the tensors a vector descriptor stores to view. -/
def Ctx.storedPools (x : Ctx) (d : Desc) : Set Nat :=
  {p | ∃ h ∈ d.stored, ∃ t, x.tensor? h = some t ∧ t.obj.kind = .kvView ∧ t.obj.kv.pool = p}

theorem Ctx.viewsIn_storedPools (x : Ctx) (d : Desc) : x.ViewsIn d.stored (x.storedPools d) :=
  fun h hh t ht hk => ⟨h, hh, t, ht, hk, rfl⟩

/-- Settles O49: every write of the three runs is a write of DST, DST2 or FLAG_HANDLE (`writesIn_writeTensor`), and no write
moves a view to another pool, so that the pools viewed before the first write are those viewed at each. -/
theorem vectorStoresFrame : Obligations.VectorStoresFrame := by
  unfold Obligations.VectorStoresFrame
  intro s x r d v hrun
  have hdst : d.dst ∈ d.stored := .inl rfl
  have hdst2 : d.dst2 ∈ d.stored := .inr (.inl rfl)
  have hflag : d.flagH ∈ d.stored := .inr (.inr rfl)
  have hviews := x.viewsIn_storedPools d
  obtain ⟨-, htensors, hpools, hrest⟩ : x.WritesIn d.stored (x.storedPools d) v.x := by
    rcases hrun with hmap | hreduce | hsoftmax
    · exact State.writesIn_runMap hdst hflag hviews hmap
    · exact State.writesIn_runReduce hdst hdst2 hflag hviews hreduce
    · exact State.writesIn_runSoftmax hdst hflag hviews hsoftmax
  refine ⟨fun h h1 h2 h3 => htensors h ?_, fun p hp => hpools p ?_, hrest⟩
  · rintro (rfl | rfl | rfl) <;> contradiction
  · rintro ⟨h, hh, t, ht, hk, hpool⟩
    exact hp h t hh ht hk hpool

end Sys2Proof.Machine

namespace Sys2Proof.Machine

/-! SUPPORT. Commands on queues, groups, the gather budget and plans (R188, R196, R254 to R256, R269, R356). -/

section ObjectCommands

variable {h : CmdHead} {ctx : Nat} {x : Ctx} {s : State}

/-! ### Owner commands (R355) -/

/-- A well-formed command on a context that its function may command runs on that context. -/
theorem gheit_owned {bad : Bool} {k : State → Ctx → CmdEnd} (ht : Taken h false s) (ho : Owned h ctx x s) (hb : bad = false) :
    gheit h bad false (fun s => forOwner h ctx (k s) s) s = .next (s.endCmd h (k s x)) := by
  rw [gheit_taken ht hb, forOwner_owned ho]

/-- A command that changes its job and has room for its record ends OK once it is journaled (R321). -/
theorem State.endCmd_journaled (cs : Tab Ctx) (op : ConfigOp) (hroom : s.journalRoom 1 = true) :
    s.endCmd h (.ok [] (State.journalOp { s with ctxs := cs } ctx op)) = ok h [] (State.journalOp { s with ctxs := cs } ctx op) :=
  s.endCmd_ok h [] _ (State.overfull_journalOp hroom le_rfl)

theorem not_fits_eq_false {n v : Nat} (hv : v < 2 ^ n) : (!fits n v) = false := by simp [fits, hv]

/-! ### Queues (R188, R356) -/

theorem exec_queueCreate {p : QueueParams} (ht : Taken h false s) (ho : Owned h ctx x s) (hb : queueBad p = false)
    (hnew : Tab.has x.queues p.id = false) (hroom : s.journalRoom 1 = true)
    (hshare : p.send = false → x.shareCovers x.gatherHbm (p.depth * p.entryBytes) = true) :
    exec (.queueCreate h ctx p) s
      = .next (ok h [] (State.journalOp { s with ctxs := Tab.set s.ctxs ctx (x.addQueue p) } ctx (.queueCreate ctx p))) := by
  have hfull : (!p.send && !x.shareCovers x.gatherHbm (p.depth * p.entryBytes)) = false := by
    cases hs : p.send with
    | true => rfl
    | false => simp [hshare hs]
  show execQueueCreate h ctx p s = _
  rw [execQueueCreate, gheit_owned ht ho hb, refuseIf_false hnew, refuseIf_false hfull, refuseIf_nil, s.modCtx_some _ ho.1,
    State.endCmd_journaled _ _ hroom]

theorem exec_queueDestroy {q : Nat} (ht : Taken h false s) (ho : Owned h ctx x s) (hq : q < 2 ^ 16)
    (hold : Tab.has x.queues q = true)
    (hfree : x.namedBy (fun d => (d.opcode = 0x48 || d.opcode = 0x49) && d.f 0 31 16 = q) = false)
    (hroom : s.journalRoom 1 = true) :
    exec (.queueDestroy h ctx q) s
      = .next (ok h [] (State.journalOp { s with ctxs := Tab.set s.ctxs ctx (x.dropQueue q) } ctx (.queueDestroy ctx q))) := by
  show execQueueDestroy h ctx q s = _
  rw [execQueueDestroy, gheit_owned ht ho (not_fits_eq_false hq), hold, Bool.not_true, if_neg Bool.false_ne_true, refuseIf_false hfree,
    refuseIf_nil, s.modCtx_some _ ho.1, State.endCmd_journaled _ _ hroom]

/-! ### Groups (R196, R356) -/

theorem exec_xgroupCreate {g count : Nat} {l : List Nat} (ht : Taken h false s) (ho : Owned h ctx x s) (hg : g < 2 ^ 16)
    (h1 : 1 ≤ count) (hcount : count ≤ 262144) (hfit : ∀ m ∈ l.take count, m < 2 ^ 18) (hnew : Tab.has x.groups g = false)
    (hok : s.membersOk (l.take count) = true)
    (hroom : s.overfull ((s.makeGroup ctx g (l.take count)).journalOp ctx (.xgroupCreate ctx g (l.take count))) = false) :
    exec (.xgroupCreate h ctx g count (some l)) s
      = .next (ok h [] ((s.makeGroup ctx g (l.take count)).journalOp ctx (.xgroupCreate ctx g (l.take count)))) := by
  have hbad : (!fits 16 g || count = 0 || 262144 < count) = false := by
    simp only [not_fits_eq_false hg, Bool.false_or, Bool.or_eq_false_iff, decide_eq_false_iff_not]
    omega
  have hmembers : (l.take count).any (fun m => !fits 18 m) = false :=
    List.any_eq_false.mpr fun m hm => by simp [not_fits_eq_false (hfit m hm)]
  show execXgroupCreate h ctx g count (some l) s = _
  rw [execXgroupCreate, gheit_owned ht ho hbad]
  dsimp only
  rw [hmembers, if_neg Bool.false_ne_true, refuseIf_false hnew, refuseIf_false (by simp [hok]), refuseIf_nil,
    State.endCmd_ok _ _ _ _ hroom]
  rfl

theorem exec_xgroupDestroy {g : Nat} (ht : Taken h false s) (ho : Owned h ctx x s) (hg : g < 2 ^ 16)
    (hold : Tab.has x.groups g = true) (hfree : x.namedBy (fun d => d.namesGroup g) = false)
    (hcolls : ∀ c ∈ x.colls, c.head.group ≠ g) (hgathered : ∀ e ∈ x.gathered, e.2.group ≠ g) (hroom : s.journalRoom 1 = true) :
    exec (.xgroupDestroy h ctx g) s
      = .next (ok h [] (State.journalOp { s with ctxs := Tab.set s.ctxs ctx (x.dropGroup g) } ctx (.xgroupDestroy ctx g))) := by
  have hunused : (x.namedBy (fun d => d.namesGroup g) || x.colls.any (fun c => c.head.group = g)
      || x.gathered.any (fun e => e.2.group = g)) = false := by
    rw [hfree, List.any_eq_false.mpr fun c hc => by simp [hcolls c hc], List.any_eq_false.mpr fun e he => by simp [hgathered e he]]
    rfl
  show execXgroupDestroy h ctx g s = _
  rw [execXgroupDestroy, gheit_owned ht ho (not_fits_eq_false hg), hold, Bool.not_true, if_neg Bool.false_ne_true, refuseIf_false hunused,
    refuseIf_nil, s.modCtx_some _ ho.1, State.endCmd_journaled _ _ hroom]

/-! ### The gather budget (R269, R288) -/

theorem exec_gatherBudget {u : Nat} (ht : Taken h false s) (ho : Owned h ctx x s) (hu : u < 2 ^ 32) (hquota : u ≤ x.params.hbmQuota)
    (hshare : x.shareCovers u 0 = true) (hroom : s.journalRoom 1 = true) :
    exec (.gatherBudget h ctx u) s
      = .next (ok h [] (State.journalOp { s with ctxs := Tab.set s.ctxs ctx { x with gatherHbm := u } } ctx (.gatherBudget ctx u))) := by
  show execGatherBudget h ctx u s = _
  rw [execGatherBudget, gheit_owned ht ho (not_fits_eq_false hu), if_neg (by omega), refuseIf_false (by simp [hshare]), refuseIf_nil,
    State.setCtx, State.endCmd_journaled _ _ hroom]

/-! ### Plans (R254 to R256, R356) -/

/-- MAP_PLAN that passes its checks: it waits for the lead's answer, or the refusal that has come before it is its own. -/
theorem exec_mapPlan {p : PlanParams} (ht : Taken h false s) (ho : Owned h ctx x s) (hb : planBad p = false)
    (hvalid : s.planInvalid x p = false) (hnew : Tab.has x.plans p.id = false) :
    exec (.mapPlan h ctx p false) s = .next (s.endCmd h (s.planOrRefuse ctx x p)) := by
  show execMapPlan h ctx p false s = _
  rw [execMapPlan, gheit_owned ht ho hb, refuseIf_false rfl, refuseIf_false hvalid, refuseIf_false hnew, refuseIf_nil]

theorem State.planOrRefuse_awaited {p : PlanParams} (hp : x.refusedPlan p.id = none) :
    s.planOrRefuse ctx x p = .waits (.plan ctx p.id) (s.beginPlan ctx p) := by
  rw [State.planOrRefuse, hp]

theorem State.planOrRefuse_refused {p : PlanParams} {b : Bool} (hp : x.refusedPlan p.id = some b) :
    s.planOrRefuse ctx x p = .refusedIn (planCause b) 0
      (s.setCtx ctx { x with waitingMsgs := x.waitingMsgs.filter (fun m => (m.msg.refuses p.id).isNone) }) := by
  rw [State.planOrRefuse, hp]

theorem exec_mapPlanDrop {i : Nat} {q : Plan} (ht : Taken h false s) (ho : Owned h ctx x s) (hi : i < 2 ^ 16)
    (hq : Tab.get x.plans i = some q) (hdone : q.result.isSome = true)
    (hprior : ∀ e ∈ x.plans, e.2.params.prior = i → e.2.result.isSome = true) (hroom : s.journalRoom 1 = true) :
    exec (.mapPlanDrop h ctx i) s = .next (ok h [] (State.journalOp { s with
      ctxs := Tab.set s.ctxs ctx { x with plans := Tab.erase x.plans i, latestPlan := if x.latestPlan = some i then none else x.latestPlan } }
      ctx (.mapPlanDrop ctx i))) := by
  have hopen : q.result.isNone = false := Option.isNone_eq_false_iff.mpr hdone
  have hunused : x.plans.any (fun e => e.2.params.prior = i && e.2.result.isNone) = false := by
    refine List.any_eq_false.mpr fun e he => ?_
    simpa [Option.isSome_iff_ne_none] using hprior e he
  show execMapPlanDrop h ctx i s = _
  rw [execMapPlanDrop, gheit_owned ht ho (not_fits_eq_false hi), hq]
  dsimp only
  rw [hopen, if_neg Bool.false_ne_true, refuseIf_false hunused, refuseIf_nil, s.modCtx_some _ ho.1, State.endCmd_journaled _ _ hroom]

/-- The lead's second has passed: a listed module has not reported, so every module that has reported refuses (R256). -/
theorem exec_mapPlanTimeout {i : Nat} {q : Plan} (hl : s.live = true) (hx : s.ctx? ctx = some x) (hq : Tab.get x.plans i = some q)
    (hlead : s.ident = some q.params.lead) (hopen : q.result = none) (hwait : s.planWaiter ctx i = some h)
    (hmissing : ∃ m ∈ q.params.modules, Tab.has q.reports m = false) :
    exec (.mapPlanTimeout ctx i) s = .next (s.sendAll (Tab.keys q.reports) none (.winch (.planRefused ctx i false))) := by
  obtain ⟨m, hm, hnone⟩ := hmissing
  have hall : q.params.modules.all (fun m => Tab.has q.reports m) = false := List.all_eq_false.mpr ⟨m, hm, by simp [hnone]⟩
  have hfind : (s.ctx? ctx).bind (fun x => Tab.get x.plans i) = some q := by rw [hx, Option.bind_some, hq]
  show Host.Outcome.next _ = _
  simp only [hfind, hl, hlead, hopen, hwait, hall]
  rfl

end ObjectCommands

/-- Settles O8: a block that is taken and owned runs its body on the job (`gheit_owned`), where no condition of a refusal holds;
a command with room in the journal ends OK (`endCmd_journaled`). -/
theorem queueGroupPlanCommandsComplete : Obligations.QueueGroupPlanCommandsComplete := by
  unfold Obligations.QueueGroupPlanCommandsComplete
  refine ⟨?queueCreate, ?queueDestroy, ?xgroupCreate, ?xgroupDestroy, ?gatherBudget, ?mapPlan, ?mapPlanDrop, ?timeout⟩
  case queueCreate =>
    intro h ctx p x s ht ho hb hnew hroom hshare
    exact exec_queueCreate ht ho hb hnew hroom fun hs => decide_eq_true (hshare hs)
  case queueDestroy =>
    intro h ctx q x s ht ho hq hold hfree hroom
    exact exec_queueDestroy ht ho hq hold hfree hroom
  case xgroupCreate =>
    intro h ctx g count l x s ht ho hg h1 hcount hfit hnew hok hroom
    exact exec_xgroupCreate ht ho hg h1 hcount hfit hnew hok hroom
  case xgroupDestroy =>
    intro h ctx g x s ht ho hg hold hfree hcolls hgathered hroom
    exact exec_xgroupDestroy ht ho hg hold hfree hcolls hgathered hroom
  case gatherBudget =>
    intro h ctx u x s ht ho hu hquota hshare hroom
    exact exec_gatherBudget ht ho hu hquota (decide_eq_true hshare) hroom
  case mapPlan =>
    intro h ctx p x s ht ho hb hvalid hnew
    have hexec := exec_mapPlan ht ho hb hvalid hnew
    exact ⟨fun hp => by rw [hexec, State.planOrRefuse_awaited hp]; rfl, fun b hp => by rw [hexec, State.planOrRefuse_refused hp]; rfl⟩
  case mapPlanDrop =>
    intro h ctx i q x s ht ho hi hq hdone hprior hroom
    exact exec_mapPlanDrop ht ho hi hq hdone hprior hroom
  case timeout =>
    intro ctx i x q h s hl hx hq hlead hopen hwait hmissing
    exact exec_mapPlanTimeout hl hx hq hlead hopen hwait hmissing

end Sys2Proof.Machine

namespace Sys2Proof.Machine

/-! SUPPORT. Placing an entry in the stash ledger (R181): what a turn of the loop does to the charges held in each tier. -/

/-! ### Charges -/

theorem heldIn_append (t : StashTier) (l m : List StashEntry) : heldIn t (l ++ m) = heldIn t l + heldIn t m := by
  simp [heldIn]

theorem heldIn_cons (t : StashTier) (o : StashEntry) (l : List StashEntry) :
    heldIn t (o :: l) = (if o.tier = t then o.charge else 0) + heldIn t l := by
  by_cases h : o.tier = t <;> simp [heldIn, h]

theorem heldIn_singleton (t : StashTier) (o : StashEntry) : heldIn t [o] = if o.tier = t then o.charge else 0 := by
  rw [heldIn_cons]
  rfl

/-- A change of an entry that is not in the ledger. -/
theorem markEntry_of_forall_ne {h : Nat} {f : StashEntry → StashEntry} {l : List StashEntry} (hl : ∀ o ∈ l, o.handle ≠ h) :
    markEntry h f l = l :=
  (List.map_congr_left fun o ho => if_neg (hl o ho)).trans (List.map_id' l)

/-- Where an entry of a changed ledger comes from. -/
theorem exists_of_mem_markEntry {h : Nat} {f : StashEntry → StashEntry} {l : List StashEntry} {a : StashEntry}
    (ha : a ∈ markEntry h f l) : ∃ b ∈ l, (b.handle = h ∧ a = f b) ∨ (b.handle ≠ h ∧ a = b) := by
  obtain ⟨b, hb, rfl⟩ := List.mem_map.mp ha
  refine ⟨b, hb, ?_⟩
  split
  case isTrue heq => exact .inl ⟨heq, rfl⟩
  case isFalse hne => exact .inr ⟨hne, rfl⟩

theorem map_handle_markEntry {f : StashEntry → StashEntry} (hf : ∀ o, (f o).handle = o.handle) (h : Nat) (l : List StashEntry) :
    (markEntry h f l).map (·.handle) = l.map (·.handle) := by
  unfold markEntry
  rw [List.map_map]
  refine List.map_congr_left fun o _ => ?_
  rw [Function.comp_apply, apply_ite StashEntry.handle, hf, ite_self]

/-- An entry's move to a tier takes its charge from the tier it was in. -/
theorem heldIn_markEntry {l : List StashEntry} {o : StashEntry} {f : StashEntry → StashEntry} (hd : (l.map (·.handle)).Nodup)
    (ho : o ∈ l) (hf : (f o).charge = o.charge) (t : StashTier) :
    heldIn t (markEntry o.handle f l) + (if o.tier = t then o.charge else 0)
      = heldIn t l + (if (f o).tier = t then o.charge else 0) := by
  induction l with
  | nil => cases ho
  | cons a l ih =>
    rw [List.map_cons, List.nodup_cons] at hd
    obtain ⟨ha, hd⟩ := hd
    have hcons : markEntry o.handle f (a :: l) = (if a.handle = o.handle then f a else a) :: markEntry o.handle f l := rfl
    rw [hcons, heldIn_cons, heldIn_cons]
    rcases List.mem_cons.mp ho with rfl | hmem
    · have hrest : markEntry o.handle f l = l :=
        markEntry_of_forall_ne fun b hb heq => ha (List.mem_map.mpr ⟨b, hb, heq⟩)
      rw [if_pos rfl, hrest, hf]
      omega
    · have hne : a.handle ≠ o.handle := fun heq => ha (List.mem_map.mpr ⟨o, hmem, heq.symm⟩)
      rw [if_neg hne]
      have := ih hd hmem
      omega

/-! ### The loop -/

/-- An HBM entry is spilled to ballast. -/
def Placed.spill (p : Placed) (h : Nat) : Placed :=
  { p with ledger := markEntry h (fun q => { q with tier := .ballast, moveDue := true }) p.ledger, spilled := p.spilled + 1 }

/-- An entry is dropped. -/
def Placed.drop (p : Placed) (h : Nat) : Placed :=
  { p with ledger := markEntry h (fun q => { q with tier := .dropped, moveDue := false }) p.ledger, dropped := p.dropped + 1 }

/-- The new entry goes last, in HBM. -/
def Placed.keep (p : Placed) (e : StashEntry) : Placed := { p with ledger := p.ledger ++ [{ e with tier := .hbm }] }

/-- The new entry goes last, dropped itself. -/
def Placed.forgo (p : Placed) (e : StashEntry) : Placed :=
  { p with ledger := p.ledger ++ [{ e with tier := .dropped }], dropped := p.dropped + 1 }

section Loop

variable {hbm ballast : Nat} {fb : Bool} {e : StashEntry}

/-- One turn that succeeds: the entry fits; or an HBM entry that ballast can hold is spilled; or a recomputable one is dropped;
or the new entry itself is. -/
theorem placeLoop_succ {fuel : Nat} {p q : Placed} (hq : placeLoop hbm ballast fb e (fuel + 1) p = some q) :
    (e.charge ≤ hbm - heldIn .hbm p.ledger ∧ q = p.keep e)
    ∨ (∃ o ∈ p.ledger, o.tier = .hbm ∧ o.charge ≤ ballast - heldIn .ballast p.ledger
        ∧ placeLoop hbm ballast fb e fuel (p.spill o.handle) = some q)
    ∨ (∃ o ∈ p.ledger, o.recomputable = true ∧ placeLoop hbm ballast fb e fuel (p.drop o.handle) = some q)
    ∨ q = p.forgo e := by
  rw [placeLoop] at hq
  split at hq
  case isTrue hfits => exact .inl ⟨hfits, (Option.some.inj hq).symm⟩
  case isFalse =>
    dsimp only at hq
    split at hq
    case h_1 o hspill =>
      split at hspill
      case h_2 => cases hspill
      case h_1 o' hfind =>
        obtain ⟨hroom, heq⟩ := Option.ite_none_right_eq_some.mp hspill
        obtain rfl := Option.some.inj heq
        have htier := List.find?_some hfind
        exact .inr (.inl ⟨_, List.mem_of_find?_eq_some hfind, of_decide_eq_true htier, hroom, hq⟩)
    case h_2 =>
      split at hq
      case isTrue => cases hq
      case isFalse =>
        split at hq
        case h_1 o hfind =>
          have hsome := List.find?_some hfind
          rw [Bool.and_eq_true] at hsome
          exact .inr (.inr (.inl ⟨o, List.mem_reverse.mp (List.mem_of_find?_eq_some hfind), hsome.1, hq⟩))
        case h_2 =>
          obtain ⟨-, heq⟩ := Option.ite_none_right_eq_some.mp hq
          exact .inr (.inr (.inr (Option.some.inj heq).symm))

/-- What every spill and every drop of the loop keeps holds when the new entry is placed. -/
theorem placeLoop_induction {P : Placed → Prop}
    (hspill : ∀ p, P p → ∀ o ∈ p.ledger, o.tier = .hbm → o.charge ≤ ballast - heldIn .ballast p.ledger → P (p.spill o.handle))
    (hdrop : ∀ p, P p → ∀ o ∈ p.ledger, o.recomputable = true → P (p.drop o.handle)) {fuel : Nat} {p q : Placed} (hp : P p)
    (hq : placeLoop hbm ballast fb e fuel p = some q) :
    ∃ m, P m ∧ ((e.charge ≤ hbm - heldIn .hbm m.ledger ∧ q = m.keep e) ∨ q = m.forgo e) := by
  induction fuel generalizing p with
  | zero => cases hq
  | succ fuel ih =>
    rcases placeLoop_succ hq with hkeep | ⟨o, ho, htier, hroom, hrest⟩ | ⟨o, ho, hrec, hrest⟩ | hforgo
    · exact ⟨p, hp, .inl hkeep⟩
    · exact ih (hspill p hp o ho htier hroom) hrest
    · exact ih (hdrop p hp o ho hrec) hrest
    · exact ⟨p, hp, .inr hforgo⟩

/-! ### What the loop keeps -/

/-- A ledger within its budgets that grew out of another: the same handles in the same order, and no entry dropped but those
dropped before and those that can be recomputed. -/
structure Placed.GrewFrom (hbm ballast : Nat) (p m : Placed) : Prop where
  hbm_le : heldIn .hbm m.ledger ≤ hbm
  ballast_le : heldIn .ballast m.ledger ≤ ballast
  handles : m.ledger.map (·.handle) = p.ledger.map (·.handle)
  nodup : (m.ledger.map (·.handle)).Nodup
  dropped : ∀ a ∈ m.ledger, ∃ o ∈ p.ledger, a.handle = o.handle ∧ a.recomputable = o.recomputable
    ∧ (a.tier = .dropped → o.recomputable = true ∨ o.tier = .dropped)

variable {p m : Placed} {o : StashEntry}

theorem Placed.GrewFrom.spill (hm : p.GrewFrom hbm ballast m) (ho : o ∈ m.ledger) (htier : o.tier = .hbm)
    (hroom : o.charge ≤ ballast - heldIn .ballast m.ledger) : p.GrewFrom hbm ballast (m.spill o.handle) := by
  obtain ⟨hhbm, hballast, hhandles, hnodup, hdropped⟩ := hm
  have hsame : (m.spill o.handle).ledger.map (·.handle) = m.ledger.map (·.handle) := map_handle_markEntry (by intro; rfl) _ _
  have hheld := heldIn_markEntry (f := fun q => { q with tier := .ballast, moveDue := true }) hnodup ho rfl
  refine ⟨?_, ?_, hsame.trans hhandles, hsame ▸ hnodup, fun a ha => ?_⟩
  · have := hheld .hbm
    simp only [htier, if_true, reduceCtorEq, if_false] at this
    simp only [Placed.spill]
    omega
  · have := hheld .ballast
    simp only [htier, if_true, reduceCtorEq, if_false] at this
    simp only [Placed.spill]
    omega
  · obtain ⟨b, hb, ⟨-, rfl⟩ | ⟨-, rfl⟩⟩ := exists_of_mem_markEntry ha
    · obtain ⟨o', ho', hh, hr, -⟩ := hdropped b hb
      exact ⟨o', ho', hh, hr, fun hd => by cases hd⟩
    · exact hdropped _ hb

/-- Two entries of a ledger with one handle are one. -/
theorem eq_of_handle_eq {l : List StashEntry} (hd : (l.map (·.handle)).Nodup) {a b : StashEntry} (ha : a ∈ l) (hb : b ∈ l)
    (h : a.handle = b.handle) : a = b := List.inj_on_of_nodup_map hd ha hb h

theorem Placed.GrewFrom.drop (hm : p.GrewFrom hbm ballast m) (ho : o ∈ m.ledger) (hrec : o.recomputable = true) :
    p.GrewFrom hbm ballast (m.drop o.handle) := by
  obtain ⟨hhbm, hballast, hhandles, hnodup, hdropped⟩ := hm
  have hsame : (m.drop o.handle).ledger.map (·.handle) = m.ledger.map (·.handle) := map_handle_markEntry (by intro; rfl) _ _
  have hheld := heldIn_markEntry (f := fun q => { q with tier := .dropped, moveDue := false }) hnodup ho rfl
  refine ⟨?_, ?_, hsame.trans hhandles, hsame ▸ hnodup, fun a ha => ?_⟩
  · have := hheld .hbm
    simp only [reduceCtorEq, if_false] at this
    simp only [Placed.drop]
    omega
  · have := hheld .ballast
    simp only [reduceCtorEq, if_false] at this
    simp only [Placed.drop]
    omega
  · obtain ⟨b, hb, ⟨heq, rfl⟩ | ⟨-, rfl⟩⟩ := exists_of_mem_markEntry ha
    · obtain rfl := eq_of_handle_eq hnodup hb ho heq
      obtain ⟨o', ho', hh, hr, -⟩ := hdropped b hb
      exact ⟨o', ho', hh, hr, fun _ => .inl (hr ▸ hrec)⟩
    · exact hdropped _ hb

/-- An entry that is placed was added last, kept or dropped, to a ledger that grew out of the one before. -/
theorem exists_grewFrom_of_placeEntry {q : Placed} (hq : placeEntry hbm ballast fb e p = some q) (hhbm : heldIn .hbm p.ledger ≤ hbm)
    (hballast : heldIn .ballast p.ledger ≤ ballast) (hnodup : (p.ledger.map (·.handle)).Nodup) :
    ∃ m, p.GrewFrom hbm ballast m ∧ ((e.charge ≤ hbm - heldIn .hbm m.ledger ∧ q = m.keep e) ∨ q = m.forgo e) := by
  obtain ⟨-, hloop⟩ := Option.ite_none_left_eq_some.mp hq
  exact placeLoop_induction (P := p.GrewFrom hbm ballast) (fun _ hm _ ho ht hr => hm.spill ho ht hr) (fun _ hm _ ho hr => hm.drop ho hr)
    ⟨hhbm, hballast, rfl, hnodup, fun a ha => ⟨a, ha, rfl, rfl, .inr⟩⟩ hloop

/-- An entry that fits in what is free of HBM changes no other (R181). -/
theorem placeEntry_of_fits {q : Placed} (hq : placeEntry hbm ballast fb e p = some q) (hfits : e.charge ≤ hbm - heldIn .hbm p.ledger) :
    q = p.keep e := by
  obtain ⟨-, hloop⟩ := Option.ite_none_left_eq_some.mp hq
  rw [placeLoop, if_pos hfits] at hloop
  exact (Option.some.inj hloop).symm

end Loop

/-- Settles O55: every spill and drop keeps the ledger within its budgets and drops only what can be recomputed
(`GrewFrom.spill`, `GrewFrom.drop`), so the ledger is so when the new entry is added last. -/
theorem ledgerWithinBudgets : Obligations.LedgerWithinBudgets := by
  unfold Obligations.LedgerWithinBudgets
  intro hbm ballast fb e p q hq hhbm hballast hnodup hnew
  obtain ⟨m, ⟨hmhbm, hmballast, hhandles, -, hdropped⟩, hplaced⟩ := exists_grewFrom_of_placeEntry hq hhbm hballast hnodup
  obtain ⟨tier, hledger, hroom⟩ : ∃ tier, q.ledger = m.ledger ++ [{ e with tier := tier }]
      ∧ (tier = .hbm ∧ e.charge ≤ hbm - heldIn .hbm m.ledger ∨ tier = .dropped) := by
    rcases hplaced with ⟨hfits, rfl⟩ | rfl
    · exact ⟨.hbm, rfl, .inl ⟨rfl, hfits⟩⟩
    · exact ⟨.dropped, rfl, .inr rfl⟩
  refine ⟨?hbm, ?ballast, ?handles, placeEntry_of_fits hq, ?dropped⟩
  case hbm =>
    rw [hledger, heldIn_append, heldIn_singleton]
    rcases hroom with ⟨rfl, hfits⟩ | rfl
    · rw [if_pos rfl]
      dsimp only
      omega
    · simpa using hmhbm
  case ballast =>
    rw [hledger, heldIn_append, heldIn_singleton]
    rcases hroom with ⟨rfl, -⟩ | rfl <;> simpa using hmballast
  case handles => simp [hledger, hhandles]
  case dropped =>
    intro o ho hrec a ha hh hd
    rw [hledger, List.mem_append, List.mem_singleton] at ha
    rcases ha with ha | rfl
    · obtain ⟨b, hb, hab, -, htier⟩ := hdropped a ha
      obtain rfl := eq_of_handle_eq hnodup hb ho (hab.symm.trans hh)
      exact (htier hd).resolve_left (by simp [hrec])
    · exact absurd hh.symm (hnew o ho)

end Sys2Proof.Machine

namespace Sys2Proof.Machine

/-! SUPPORT. What a descriptor that is dispatched leaves of its job, and the rows on pipeline queues (R188 to R192, R356). -/

/-! ### What the dispatch of a descriptor leaves (R184, R273, R295) -/

/-- What no access of a descriptor to its tensors changes of a job: the ledger, the operations, the queues, and which tensors are
deleted. -/
def Ctx.standing (x : Ctx) : List StashEntry × List MatOp × Tab Queue × (Nat → Option (Option Nat)) :=
  (x.stash, x.ops, x.queues, fun h => (x.tensor? h).map (·.deletedAt))

theorem Ctx.standing_of_tensors {x : Ctx} {ts : Tab Tensor} {ps : Tab Pool}
    (h : ∀ i, (Tab.get ts i).map (·.deletedAt) = (x.tensor? i).map (·.deletedAt)) :
    ({ x with tensors := ts, pools := ps } : Ctx).standing = x.standing := by
  rw [Ctx.standing, Ctx.standing]
  exact Prod.ext rfl (Prod.ext rfl (Prod.ext rfl (funext h)))

theorem Ctx.standing_modExt (x : Ctx) (e : ExtentId) (f : Ext → Ext) : (x.modExt e f).standing = x.standing := by
  unfold Ctx.modExt
  split
  · rfl
  · exact Ctx.standing_of_tensors fun i => Tab.map_get_modify (fun t : Tensor => t.deletedAt) (by intro; rfl) x.tensors e.handle i

theorem Ctx.standing_access (vec : Bool) (x : Ctx) (ps : List PieceId) : (x.access vec ps).standing = x.standing :=
  foldl_keeps (f := fun (y : Ctx) (p : PieceId) => y.modExt p.ext (Ext.access vec)) Ctx.standing
    (fun y p => y.standing_modExt p.ext _) ps x

theorem State.standing_house (s : State) (x : Ctx) (h : Nat) : (s.house x h).standing = x.standing := by
  unfold State.house
  split
  case h_1 t ht =>
    split
    case isTrue => exact Ctx.standing_of_tensors fun i => Tab.map_get_set (fun t : Tensor => t.deletedAt) ht (by rfl) i
    case isFalse => rfl
  case h_2 => rfl

theorem Ctx.standing_noteInputs (x : Ctx) (r : Run) (pos : Nat) (d : Desc) : (x.noteInputs r pos d).standing = x.standing := by
  unfold Ctx.noteInputs
  split
  · rfl
  · split <;> rfl

theorem State.standing_beginDesc {s : State} {ctx : Nat} {x : Ctx} (hx : s.ctx? ctx = some x) (r : Run) (d : Desc) :
    ∃ y, (s.beginDesc ctx r d).ctx? ctx = some y ∧ y.standing = x.standing := by
  unfold State.beginDesc State.startDesc State.modRun
  rw [State.ctx?_modCtx, if_pos rfl, State.ctx?_modCtx, if_pos rfl, hx, Option.map_some, Option.map_some]
  refine ⟨_, rfl, ?_⟩
  calc _ = Ctx.standing ((d.reads ++ d.writes).foldl (fun y h => y.access (d.opcode != 0x20)
      ((s.seenBy r).piecesOf ((d.reads ++ d.writes).foldl s.house ((x.noteInputs r r.next d).holdGathered r d)) h))
      ((d.reads ++ d.writes).foldl s.house ((x.noteInputs r r.next d).holdGathered r d))) := rfl
    _ = (x.noteInputs r r.next d).standing := by
      rw [foldl_keeps Ctx.standing (fun y h => y.standing_access _ _), foldl_keeps Ctx.standing s.standing_house]
      rfl
    _ = x.standing := x.standing_noteInputs r r.next d

/-! ### Queues of a job -/

/-- A queue of a job after a change of it. -/
theorem State.queue_modQueue {s : State} {c id : Nat} {x : Ctx} {q : Queue} (hx : s.ctx? c = some x)
    (hq : Tab.get x.queues id = some q) (f : Queue → Queue) :
    ∃ y, (s.modQueue c id f).ctx? c = some y ∧ Tab.get y.queues id = some (f q) := by
  rw [State.modQueue, State.ctx?_modCtx, if_pos rfl, hx]
  exact ⟨_, rfl, by rw [Tab.get_modify, if_pos rfl, hq, Option.map_some]⟩

/-! ### QSEND and QRECV (R190, R191) -/

section Descriptors

variable {s : State} {ctx : Nat} {x : Ctx} {r : Run} {d : Desc} {q : Queue} {slot : SlotImage}

/-- The module once a QSEND has spent its credit and waits for the acknowledgement of its slot. -/
def State.qsent (s : State) (ctx : Nat) (r : Run) (d : Desc) (q : Queue) : State :=
  (s.beginDesc ctx r d).modQueue ctx d.queueId
    (fun _ => { q with credits := q.credits - 1, unacked := q.unacked ++ [(r.ring, r.tseq, r.next)] })

theorem exec_qsend (hd : s.dispatchable ctx 0x48 none false = some (x, r, d)) (hq : Tab.get x.queues d.queueId = some q)
    (hok : s.queueOk x r d true = true) (hslot : (s.seenBy r).imageForSlot x d.srcA = some slot) :
    exec (.qsend ctx) s = .next (((s.qsent ctx r d q).sendOn q.params.peer q.vc (some x.params.partition)
      (.queueSlot ctx d.queueId slot)).refresh ctx) := by
  show Host.Outcome.next _ = _
  simp only [hd, hq, hok, hslot]
  rfl

theorem State.queue_qsent (hx : s.ctx? ctx = some x) (hq : Tab.get x.queues d.queueId = some q) (r : Run) :
    ∃ y, (s.qsent ctx r d q).ctx? ctx = some y ∧ Tab.get y.queues d.queueId
      = some { q with credits := q.credits - 1, unacked := q.unacked ++ [(r.ring, r.tseq, r.next)] } := by
  obtain ⟨y, hy, hstanding⟩ := State.standing_beginDesc hx r d
  simp only [Ctx.standing, Prod.mk.injEq] at hstanding
  obtain ⟨-, -, hqueues, -⟩ := hstanding
  exact State.queue_modQueue hy (hqueues ▸ hq) _

variable {x1 y : Ctx} {k : Tensor} {rest : List SlotImage}

/-- The module once a QRECV has copied its slot, before it returns the credit. -/
def State.qreceived (s : State) (ctx : Nat) (r : Run) (d : Desc) (q : Queue) (rest : List SlotImage) (y : Ctx) : State :=
  (s.beginDesc ctx r d).setCtx ctx { y.countWrite d.srcA with queues := Tab.set y.queues d.queueId { q with slots := rest } }

theorem exec_qrecv (hd : s.dispatchable ctx 0x49 none false = some (x, r, d)) (hq : Tab.get x.queues d.queueId = some q)
    (hk : x.tensor? d.srcA = some k) (hok : s.queueOk x r d false = true) (hg : x.writesGathered d = false)
    (hslots : q.slots = slot :: rest) (hfit : s.slotFits k.obj slot = true) (hx1 : (s.beginDesc ctx r d).ctx? ctx = some x1)
    (hy : (s.seenBy r).fromSlot x1 d.srcA slot = some y) :
    exec (.qrecv ctx) s = .next ((((s.qreceived ctx r d q rest y).sendOn q.params.peer q.vc (some x.params.partition)
      (.queueCredit ctx d.queueId)).endDesc ctx r.ring r.tseq r.next (statusRecord 0)).refresh ctx) := by
  show Host.Outcome.next _ = _
  simp only [hd, hq, hk, hok, hg, hslots, hfit, hx1, hy]
  rfl

theorem exec_qrecv_misfit (hd : s.dispatchable ctx 0x49 none false = some (x, r, d)) (hq : Tab.get x.queues d.queueId = some q)
    (hk : x.tensor? d.srcA = some k) (hok : s.queueOk x r d false = true) (hg : x.writesGathered d = false)
    (hslots : q.slots = slot :: rest) (hfit : s.slotFits k.obj slot = false) :
    exec (.qrecv ctx) s = .next (s.faultAt ctx r 0x03) := by
  show Host.Outcome.next _ = _
  simp only [hd, hq, hk, hok, hg, hslots, hfit]
  rfl

end Descriptors

/-! ### Messages of a queue (R190) -/

section Messages

variable {s : State} {src vc ctx id c : Nat} {a : Arrived} {rest : List Arrived} {x : Ctx} {q : Queue} {slot : SlotImage}

theorem Delivered.live (h : Delivered src vc a rest s) : s.live = true := h.1

/-- What is delivered is first in the inbox. -/
theorem Delivered.first {m : Msg} (h : Delivered src vc a rest s) (ha : a.msg = m) :
    takeFrom src vc s.net.inbox = some (⟨a.src, a.vc, a.port, m, a.authOk, a.slots⟩, rest) := by
  obtain ⟨-, htake, -⟩ := h
  rw [htake, ← ha]

theorem exec_queueSlot (hdel : Delivered src vc a rest s) (ha : a.msg = .queueSlot ctx id slot)
    (hend : s.queueEnd src ctx id false = some c) :
    exec (.queueSlot src vc) s = .next ((((s.setInbox rest).modQueue c id (fun q => { q with slots := q.slots ++ [slot] })).sendOn
      src vc (some (s.partOf c)) (.slotWritten c id)).refresh c) := by
  show Host.Outcome.next _ = _
  simp only [hdel.first ha, hdel.live, hend]
  rfl

theorem exec_queueSlot_gone (hdel : Delivered src vc a rest s) (ha : a.msg = .queueSlot ctx id slot)
    (hend : s.queueEnd src ctx id false = none) (hgone : s.queueGone ctx id = true) :
    exec (.queueSlot src vc) s = .next ((s.setInbox rest).misroutedMsg a.port) := by
  show Host.Outcome.next _ = _
  simp only [hdel.first ha, hdel.live, hend, hgone]
  rfl

theorem exec_slotWrittenAck {ring tseq pos : Nat} {more : List (Nat × Nat × Nat)} (hdel : Delivered src vc a rest s)
    (ha : a.msg = .slotWritten ctx id) (hend : s.queueEnd src ctx id true = some c) (hx : s.ctx? c = some x)
    (hq : Tab.get x.queues id = some q) (hunacked : q.unacked = (ring, tseq, pos) :: more) :
    exec (.slotWrittenAck src vc) s
      = .next ((((s.setInbox rest).modQueue c id (fun q => { q with unacked := q.unacked.drop 1 })).endDesc c ring tseq pos
          (statusRecord 0)).refresh c) := by
  have hhead : (((s.setInbox rest).ctx? c).bind (fun x => Tab.get x.queues id)).bind (fun q => q.unacked.head?)
      = some (ring, tseq, pos) := by
    have hx' : (s.setInbox rest).ctx? c = some x := hx
    rw [hx', Option.bind_some, hq, Option.bind_some, hunacked, List.head?_cons]
  show Host.Outcome.next _ = _
  simp only [hdel.first ha, hdel.live, hend, hhead]
  rfl

theorem exec_slotWrittenAck_gone (hdel : Delivered src vc a rest s) (ha : a.msg = .slotWritten ctx id)
    (hend : s.queueEnd src ctx id true = none) (hgone : s.queueGone ctx id = true) :
    exec (.slotWrittenAck src vc) s = .next ((s.setInbox rest).misroutedMsg a.port) := by
  show Host.Outcome.next _ = _
  simp only [hdel.first ha, hdel.live, hend, hgone]
  rfl

theorem exec_queueCredit (hdel : Delivered src vc a rest s) (ha : a.msg = .queueCredit ctx id)
    (hend : s.queueEnd src ctx id true = some c) :
    exec (.queueCredit src vc) s
      = .next (((s.setInbox rest).modQueue c id (fun q => { q with credits := min q.params.depth (q.credits + 1) })).refresh c) := by
  show Host.Outcome.next _ = _
  simp only [hdel.first ha, hdel.live, hend]
  rfl

theorem exec_queueCredit_gone (hdel : Delivered src vc a rest s) (ha : a.msg = .queueCredit ctx id)
    (hend : s.queueEnd src ctx id true = none) (hgone : s.queueGone ctx id = true) :
    exec (.queueCredit src vc) s = .next ((s.setInbox rest).misroutedMsg a.port) := by
  show Host.Outcome.next _ = _
  simp only [hdel.first ha, hdel.live, hend, hgone]
  rfl

end Messages

/-- Settles O42: each row takes the branch that its hypotheses name; the queue it leaves is read before the message is sent and
the job is brought up to date (`queue_modQueue`, and `standing_beginDesc` for a QSEND). -/
theorem queueRowsComplete : Obligations.QueueRowsComplete := by
  unfold Obligations.QueueRowsComplete
  refine ⟨?qsend, ?qrecv, ?slot, ?ack, ?credit, ?gone⟩
  case qsend =>
    intro ctx x r d q slot s hd hq hok hslot
    obtain ⟨hx, -⟩ := State.dispatchable_some hd
    exact ⟨s.qsent ctx r d q, exec_qsend hd hq hok hslot, State.queue_qsent hx hq r⟩
  case qrecv =>
    intro ctx x x1 y r d q k slot rest s hd hq hk hok hg hslots
    refine ⟨fun hfit hx1 hy => ?_, fun hfit => exec_qrecv_misfit hd hq hk hok hg hslots hfit⟩
    exact ⟨s.qreceived ctx r d q rest y, exec_qrecv hd hq hk hok hg hslots hfit hx1 hy, _, State.ctx?_setCtx_self _ _ _,
      Tab.get_set_self _ _ _⟩
  case slot =>
    intro src vc ctx id c slot a rest x q s hdel ha hend hx hq
    exact ⟨_, exec_queueSlot hdel ha hend, State.queue_modQueue (s := s.setInbox rest) hx hq _⟩
  case ack =>
    intro src vc ctx id c ring tseq pos more a rest x q s hdel ha hend hx hq hunacked
    refine ⟨_, exec_slotWrittenAck hdel ha hend hx hq hunacked, ?_⟩
    obtain ⟨y, hy, hqueue⟩ := State.queue_modQueue (s := s.setInbox rest) hx hq (fun q => { q with unacked := q.unacked.drop 1 })
    exact ⟨y, hy, by rw [hqueue, hunacked, List.drop_one, List.tail_cons]⟩
  case credit =>
    intro src vc ctx id c a rest x q s hdel ha hend hx hq
    exact ⟨_, exec_queueCredit hdel ha hend, State.queue_modQueue (s := s.setInbox rest) hx hq _⟩
  case gone =>
    intro src vc ctx id a rest s hdel hgone
    exact ⟨fun slot ha hend => exec_queueSlot_gone hdel ha hend hgone, fun ha hend => exec_slotWrittenAck_gone hdel ha hend hgone,
      fun ha hend => exec_queueCredit_gone hdel ha hend hgone⟩

end Sys2Proof.Machine

namespace Sys2Proof.Machine

/-! SUPPORT. Layer scopes, the moves of spilled entries and recomputation (R172, R179 to R185). -/

/-! ### The ledger at a ticket's point of the order (R180) -/

theorem Tensor.gone_eq (t : Tensor) (r : Run) : t.gone r = t.deletedAt.any (· < r.accAt) := by
  unfold Tensor.gone
  split <;> simp [*]

/-- Which entries a ledger keeps hangs on the deletions of tensors alone. -/
theorem Ctx.stash_prune (x : Ctx) (r : Run) :
    (x.prune r).stash = x.stash.filter (fun e =>
      (((x.tensor? e.handle).map (·.deletedAt)).map (fun n => !n.any (· < r.accAt))).getD false) := by
  simp only [Ctx.prune, Tensor.gone_eq, Option.map_map, Function.comp_def]

theorem Ctx.stash_prune_of_standing {x y : Ctx} (h : y.standing = x.standing) (r : Run) : (y.prune r).stash = (x.prune r).stash := by
  simp only [Ctx.standing, Prod.mk.injEq] at h
  obtain ⟨hstash, -, -, hdeleted⟩ := h
  rw [Ctx.stash_prune, Ctx.stash_prune, hstash]
  exact List.filter_congr fun e _ => by rw [congrFun hdeleted e.handle]

section Scopes

variable {s : State} {ctx : Nat} {x : Ctx} {r : Run} {sc : Scope}

/-! ### LAYER (R172) -/

/-- The scope that a LAYER descriptor opens. -/
def Desc.scope (d : Desc) (r : Run) : Scope :=
  { ring := r.ring, tseq := r.tseq, pos := r.next, len := d.scopeLen, backward := d.isBackward
    layer := d.f 0 31 16, recomputable := d.f 0 9 9 = 1, recomputeFb := d.f 0 10 10 = 1
    stash := handles [d.stash0, d.stash1], gradTarget := d.dst, gradMask := d.dst2
    discarded := 0, recomputed := 0, redone := 0, inputs := [] }

/-- The module once a LAYER has opened its scope. -/
def State.withScope (s : State) (ctx : Nat) (r : Run) (d : Desc) : State :=
  (s.beginDesc ctx r d).modCtx ctx (fun y => { y.prune r with scope := some (d.scope r) })

theorem exec_layer {d : Desc} (hd : s.dispatchable ctx 0x40 none false = some (x, r, d)) (hok : s.layerOk (x.prune r) r d = true) :
    exec (.layer ctx) s = .next ((s.withScope ctx r d).refresh ctx) := by
  show Host.Outcome.next _ = _
  simp only [hd, hok]
  rfl

theorem State.ctx?_withScope (hx : s.ctx? ctx = some x) (r : Run) (d : Desc) :
    ∃ y, (s.withScope ctx r d).ctx? ctx = some y ∧ y.scope = some (d.scope r) ∧ y.stash = (x.prune r).stash ∧ y.ops = x.ops := by
  obtain ⟨y, hy, hstanding⟩ := State.standing_beginDesc hx r d
  rw [State.withScope, State.ctx?_modCtx, if_pos rfl, hy]
  refine ⟨_, rfl, rfl, Ctx.stash_prune_of_standing hstanding r, ?_⟩
  exact congrArg (fun p => p.2.1) hstanding

/-! ### SCOPE_COMPLETE (R179 to R181) -/

theorem exec_scopeComplete_placed {p : Placed} (hl : s.live = true) (hx : s.ctx? ctx = some x) (hsc : x.scope = some sc)
    (hr : findRun x.runs sc.ring sc.tseq = some r) (hover : sc.over r = true) (hfwd : sc.backward = false)
    (hp : (x.prune r).placeAll sc ((r.descs.drop (sc.pos + 1)).take sc.len) = some p) :
    exec (.scopeComplete ctx) s = .next (((s.setLedger ctx (x.prune r) (x.prune r).stash p.ledger).endDesc ctx sc.ring sc.tseq sc.pos
      (layerRecord sc p.spilled p.dropped)).refresh ctx) := by
  show Host.Outcome.next _ = _
  simp only [hx, hsc, hr, hl, hover, hfwd, hp]
  rfl

theorem exec_scopeComplete_exhausted (hl : s.live = true) (hx : s.ctx? ctx = some x) (hsc : x.scope = some sc)
    (hr : findRun x.runs sc.ring sc.tseq = some r) (hover : sc.over r = true) (hfwd : sc.backward = false)
    (hp : (x.prune r).placeAll sc ((r.descs.drop (sc.pos + 1)).take sc.len) = none) :
    exec (.scopeComplete ctx) s = .next (s.jobFault ctx 0x01 (some (sc.ring, sc.tseq, sc.pos))) := by
  show Host.Outcome.next _ = _
  simp only [hx, hsc, hr, hl, hover, hfwd, hp]
  rfl

theorem exec_scopeComplete_backward (hl : s.live = true) (hx : s.ctx? ctx = some x) (hsc : x.scope = some sc)
    (hr : findRun x.runs sc.ring sc.tseq = some r) (hover : sc.over r = true) (hback : sc.backward = true) :
    exec (.scopeComplete ctx) s = .next ((((((x.prune r).stash.filter (fun e => sc.stash.contains e.handle && e.tier = .dropped)).map
        (·.handle)).foldl (fun a h => a.forget ctx h) (s.setCtx ctx { x.prune r with
          scope := none, stash := (x.prune r).stash.filter (fun e => !sc.stash.contains e.handle) })).endDesc ctx
      sc.ring sc.tseq sc.pos (layerRecord sc 0 sc.recomputed)).refresh ctx) := by
  show Host.Outcome.next _ = _
  simp only [hx, hsc, hr, hl, hover, hback]
  rfl

/-- A tensor whose contents go keeps its place in the ledger, and the scope stays open or closed. -/
theorem State.ledger_forget (s : State) (ctx h c : Nat) :
    ((s.forget ctx h).ctx? c).map (fun x => (x.scope, x.stash)) = (s.ctx? c).map (fun x => (x.scope, x.stash)) := by
  unfold State.forget
  split
  case h_1 => exact State.map_ctx?_modCtx (fun x : Ctx => (x.scope, x.stash)) (by intro; rfl) s ctx c
  case h_2 => rfl

/-- The ledger after a forward scope, which is closed. -/
theorem State.ctx?_setLedger (s : State) (ctx : Nat) (x : Ctx) (before after : List StashEntry) :
    ∃ y, (s.setLedger ctx x before after).ctx? ctx = some y ∧ y.scope = none ∧ y.stash = after := by
  have hkept : ((s.setLedger ctx x before after).ctx? ctx).map (fun x => (x.scope, x.stash)) = some (none, after) := by
    unfold State.setLedger
    rw [foldl_keeps (fun s : State => (s.ctx? ctx).map (fun x => (x.scope, x.stash))) (fun s h => s.ledger_forget ctx h ctx),
      State.ctx?_setCtx_self, Option.map_some]
  obtain ⟨y, hy, hpair⟩ := Option.map_eq_some_iff.mp hkept
  obtain ⟨hscope, hstash⟩ := Prod.mk.inj hpair
  exact ⟨y, hy, hscope, hstash⟩

/-! ### STASH_MOVE (R180, R182) -/

/-- The tensor of an entry once its extents lie in ballast, one channel after another. -/
def Tensor.inBallast (chans : List Nat) (t : Tensor) : Tensor :=
  { t with exts := Tab.mapVals t.exts (fun i e =>
      { e with home := .ballast (chans.getD (i % max 1 chans.length) 0), moving := none, dirty := [] }) }

/-- The job once the entry of a handle has moved. -/
def Ctx.moved (x : Ctx) (chans : List Nat) (h : Nat) : Ctx :=
  { x with stash := markEntry h (fun e => { e with moveDue := false }) x.stash
           tensors := Tab.modify x.tensors h (Tensor.inBallast chans) }

theorem exec_stashMove {h : Nat} {p : Part} (hl : s.live = true) (hx : s.ctx? ctx = some x)
    (hdue : x.stash.any (fun e => e.handle = h && e.tier = .ballast && e.moveDue) = true)
    (hp : Tab.get s.parts x.params.partition = some p) :
    exec (.stashMove ctx h) s = .next (s.setCtx ctx (x.moved p.channels h)) := by
  show Host.Outcome.next _ = _
  simp only [hx, hl, hdue, hp]
  rfl

theorem Ctx.moveDue_moved {h : Nat} {chans : List Nat} {e : StashEntry} (he : e ∈ (x.moved chans h).stash) (hh : e.handle = h) :
    e.moveDue = false := by
  obtain ⟨b, -, ⟨-, rfl⟩ | ⟨hne, rfl⟩⟩ := exists_of_mem_markEntry he
  · rfl
  · exact absurd hh hne

theorem Ctx.tensor?_moved {h : Nat} {k : Tensor} (hk : x.tensor? h = some k) (chans : List Nat) :
    (x.moved chans h).tensor? h = some (k.inBallast chans) := by
  have hget : Tab.get x.tensors h = some k := hk
  rw [Ctx.tensor?, Ctx.moved, Tab.get_modify, if_pos rfl, hget, Option.map_some]

theorem getD_mod_mem {α : Type} {l : List α} (hl : l ≠ []) (i : Nat) (a : α) : l.getD (i % max 1 l.length) a ∈ l := by
  have hpos : 0 < l.length := List.length_pos_iff.mpr hl
  have hlt : i % max 1 l.length < l.length := by
    rw [Nat.max_eq_right hpos]
    exact Nat.mod_lt i hpos
  rw [List.getD_eq_getElem l a hlt]
  exact List.getElem_mem hlt

theorem Tensor.exts_inBallast {k : Tensor} {chans : List Nat} (hc : chans ≠ []) {e : Nat × Ext} (he : e ∈ (k.inBallast chans).exts) :
    ∃ c ∈ chans, e.2.home = .ballast c ∧ e.2.moving = none := by
  obtain ⟨b, -, rfl⟩ := List.mem_map.mp he
  exact ⟨_, getD_mod_mem hc b.1 0, rfl, rfl⟩

/-! ### RECOMPUTE (R184, R185) -/

theorem exec_recompute_changed {h : Nat} {d : Desc} (hl : s.live = true) (hx : s.ctx? ctx = some x) (hn : x.nextDesc = some (r, d))
    (hslice : s.holdsSlice ctx = true) (hf : x.state ≠ .faulted) (hreads : d.reads.contains h = true) (hdropped : x.dropped h = true)
    (hre : s.recompute (x.stash.length + 1) x h = none) : exec (.recompute ctx h) s = .next (s.faultAt ctx r 0x02) := by
  show Host.Outcome.next _ = _
  simp only [hx, hn, hl, hslice, bne_iff_ne.mpr hf, hreads, hdropped, hre]
  rfl

theorem exec_recompute_done {h n ds : Nat} {d : Desc} {y : Ctx} (hl : s.live = true) (hx : s.ctx? ctx = some x)
    (hn : x.nextDesc = some (r, d)) (hslice : s.holdsSlice ctx = true) (hf : x.state ≠ .faulted) (hreads : d.reads.contains h = true)
    (hdropped : x.dropped h = true) (hre : s.recompute (x.stash.length + 1) x h = some (y, n, ds)) :
    exec (.recompute ctx h) s = .next ((s.setCtx ctx { y with scope := y.scope.map (fun sc =>
      if sc.covers r r.next && sc.backward then { sc with recomputed := sc.recomputed + n, redone := sc.redone + ds } else sc) }).refresh ctx) := by
  show Host.Outcome.next _ = _
  simp only [hx, hn, hl, hslice, bne_iff_ne.mpr hf, hreads, hdropped, hre]
  rfl

end Scopes

/-- Settles O41: each row takes the branch that its hypotheses name. A LAYER leaves the ledger without the entries deleted before
its ticket (`stash_prune_of_standing`), the ledger of a forward scope outlives the contents it drops (`ctx?_setLedger`), and a
moved entry's extents lie in the channels of its partition (`exts_inBallast`). -/
theorem scopeAndStashRowsComplete : Obligations.ScopeAndStashRowsComplete := by
  unfold Obligations.ScopeAndStashRowsComplete
  refine ⟨?layer, ?forward, ?backward, ?move, ?recompute⟩
  case layer =>
    intro ctx x r d s hd hok
    obtain ⟨hx, -⟩ := State.dispatchable_some hd
    obtain ⟨y, hy, hscope, hstash, hops⟩ := State.ctx?_withScope hx r d
    exact ⟨s.withScope ctx r d, y, d.scope r, exec_layer hd hok, hy, hscope, rfl, rfl, rfl, rfl, rfl, rfl, hstash, hops⟩
  case forward =>
    intro ctx x sc r s hl hx hsc hr hover hfwd
    refine ⟨fun p hp => ?_, fun hp => exec_scopeComplete_exhausted hl hx hsc hr hover hfwd hp⟩
    obtain ⟨y, hy, hscope, hstash⟩ := s.ctx?_setLedger ctx (x.prune r) (x.prune r).stash p.ledger
    exact ⟨_, y, exec_scopeComplete_placed hl hx hsc hr hover hfwd hp, rfl, hy, hscope, hstash⟩
  case backward =>
    intro ctx x y sc r s hl hx hsc hr hover hback hy
    rw [hy, exec_scopeComplete_backward hl hx hsc hr hover hback]
  case move =>
    intro ctx h x p k s hl hx hdue hp hc hk
    exact ⟨_, x.moved p.channels h, k.inBallast p.channels, exec_stashMove hl hx hdue hp, rfl, State.ctx?_setCtx_self _ _ _,
      fun e he hh => Ctx.moveDue_moved he hh, Ctx.tensor?_moved hk _, rfl, fun e he => Tensor.exts_inBallast hc he⟩
  case recompute =>
    intro ctx h x r d s hl hx hn hslice hf hreads hdropped
    exact ⟨fun hre => exec_recompute_changed hl hx hn hslice hf hreads hdropped hre,
      fun y n ds hre => exec_recompute_done hl hx hn hslice hf hreads hdropped hre⟩

end Sys2Proof.Machine

namespace Sys2Proof.Machine

/-! SUPPORT. Words and hallmarks of the exchange (R201, R202, R205 to R207). -/

/-! ### Hallmarks (R205, R206) -/

theorem cast_hallmark (w : Int) : (hallmark w : Int) = w % 255 :=
  Int.toNat_of_nonneg (Int.emod_nonneg w (by decide))

theorem hallmark_lt (w : Int) : hallmark w < 255 := by
  have := cast_hallmark w
  omega

/-- End-around addition of two residues is addition modulo 255. -/
theorem hadd_eq_mod {a b : Nat} (ha : a < 255) (hb : b < 255) : hadd a b = (a + b) % 255 := by
  unfold hadd
  dsimp only
  split <;> omega

theorem hadd_hallmark (a b : Int) : hadd (hallmark a) (hallmark b) = hallmark (a + b) := by
  rw [hadd_eq_mod (hallmark_lt a) (hallmark_lt b)]
  have ha := cast_hallmark a
  have hb := cast_hallmark b
  have hab := cast_hallmark (a + b)
  omega

/-- Two words share a hallmark exactly when 255 divides their difference. -/
theorem hallmark_add_eq_iff (w e : Int) : hallmark (w + e) = hallmark w ↔ (255 : Int) ∣ e := by
  have hw := cast_hallmark w
  have hwe := cast_hallmark (w + e)
  omega

/-- A widened word keeps its mark, because 2^17 leaves 2 modulo 255. -/
theorem widen_markedOf (a : Int) : (markedOf a).widen = markedOf (a * 2 ^ 17) := by
  have hmark : hallmark (a + a) = hallmark (a * 2 ^ 17) := by
    have h1 := cast_hallmark (a + a)
    have h2 := cast_hallmark (a * 2 ^ 17)
    omega
  rw [MarkedWord.widen, markedOf, markedOf, hadd_hallmark, hmark]

/-! ### Sums (R202, R206) -/

/-- An integer of n bits comes back from its two's-complement pattern. -/
theorem signedOf_twosOf {n : Nat} {a : Int} (hn : 0 < n) (hlo : -(2 : Int) ^ (n - 1) ≤ a) (hhi : a < 2 ^ (n - 1)) :
    signedOf (twosOf a n) n = a := by
  have hpow := Nat.two_pow_pred_mul_two hn
  have hcast : ((2 ^ (n - 1) : Nat) : Int) = 2 ^ (n - 1) := Nat.cast_pow 2 (n - 1)
  have hpattern : (twosOf a n : Int) = if 0 ≤ a then a else a + (2 ^ n : Nat) := by
    rw [twosOf, Int.toNat_of_nonneg (Int.emod_nonneg a (by positivity))]
    split
    case isTrue hpos => exact Int.emod_eq_of_lt hpos (by omega)
    case isFalse hneg => rw [← Int.add_emod_right, Int.emod_eq_of_lt (by omega) (by omega)]
  have hsmall : twosOf a n < 2 ^ n := by
    split at hpattern <;> omega
  simp only [signedOf, Nat.mod_eq_of_lt hsmall]
  split at hpattern <;> split <;> omega

/-- An addition that does not wrap is one of the integers, and its mark is the mark of their sum. -/
theorem add_markedOf {n : Nat} {a b : Int} (hn : 0 < n) (hlo : -(2 : Int) ^ (n - 1) ≤ a + b) (hhi : a + b < 2 ^ (n - 1)) :
    (markedOf a).add n (markedOf b) = markedOf (a + b) := by
  simp only [MarkedWord.add, markedOf, signedOf_twosOf hn hlo hhi, hadd_hallmark]

theorem bounds_of_two_mul_natAbs_lt {n : Nat} {a : Int} (hn : 0 < n) (ha : 2 * a.natAbs < 2 ^ n) :
    -(2 : Int) ^ (n - 1) ≤ a ∧ a < 2 ^ (n - 1) := by
  have hpow := Nat.two_pow_pred_mul_two hn
  have hcast : ((2 ^ (n - 1) : Nat) : Int) = 2 ^ (n - 1) := Nat.cast_pow 2 (n - 1)
  omega

/-- Words are added one after another to a sum; their magnitudes together fit, so no addition wraps. -/
theorem foldl_add_markedOf {n : Nat} (hn : 0 < n) (l : List Int) (acc : Int)
    (hfits : 2 * (acc.natAbs + (l.map Int.natAbs).sum) < 2 ^ n) :
    l.foldl (fun acc w => acc.add n (markedOf w)) (markedOf acc) = markedOf (acc + l.sum) := by
  induction l generalizing acc with
  | nil => rw [List.foldl_nil, List.sum_nil, add_zero]
  | cons w l ih =>
    rw [List.map_cons, List.sum_cons] at hfits
    have habs := Int.natAbs_add_le acc w
    obtain ⟨hlo, hhi⟩ := bounds_of_two_mul_natAbs_lt (a := acc + w) hn (by omega)
    rw [List.foldl_cons, add_markedOf hn hlo hhi, ih (acc + w) (by omega), List.sum_cons, add_assoc]

/-- Settles O53: hallmarks are residues modulo 255 (`cast_hallmark`), end-around addition is addition of residues
(`hadd_eq_mod`), and words whose magnitudes together fit are added without a wrap (`foldl_add_markedOf`), in the order of any
permutation. -/
theorem hallmarksAdd : Obligations.HallmarksAdd := by
  unfold Obligations.HallmarksAdd
  refine ⟨?hallmarks, widen_markedOf, ?add, ?order, ?caught⟩
  case hallmarks => exact fun a b => ⟨hadd_hallmark a b, hallmark_lt a⟩
  case add => exact fun n a b hn hlo hhi => add_markedOf hn hlo hhi
  case order =>
    intro n l1 l2 hn hperm hfits
    have hsum (l : List Int) (h : 2 * (l.map Int.natAbs).sum < 2 ^ n) :
        l.foldl (fun acc w => acc.add n (markedOf w)) (markedOf 0) = markedOf l.sum := by
      rw [foldl_add_markedOf hn l 0 (by rwa [Int.natAbs_zero, zero_add]), zero_add]
    exact ⟨hsum l1 hfits, by rw [hsum l2 (by rwa [← (hperm.map _).sum_eq]), hperm.sum_eq]⟩
  case caught => exact fun w e he heq => he ((hallmark_add_eq_iff w e).mp heq)

end Sys2Proof.Machine

namespace Sys2Proof.Machine

/-! SUPPORT. Chunks and shards (R197). -/

theorem chunkNo_le_iff (elems m : Nat) : chunkNo elems ≤ m ↔ elems ≤ 4096 * m := by
  unfold chunkNo ceilDiv
  omega

section Shards

variable {elems sc k e : Nat}

/-- Where a shard ends. -/
theorem shardSpan_end (elems sc k : Nat) :
    (shardSpan elems sc k).1 + (shardSpan elems sc k).2 = min elems (4096 * sc * (k + 1)) := by
  have hle : 4096 * sc * k ≤ 4096 * sc * (k + 1) := Nat.mul_le_mul_left _ k.le_succ
  simp only [shardSpan]
  omega

/-- An element is in the shard of the rank that its chunk's number gives, and in no other. -/
theorem mem_shardSpan_iff (hsc : 0 < sc) :
    ((shardSpan elems sc k).1 ≤ e ∧ e < (shardSpan elems sc k).1 + (shardSpan elems sc k).2) ↔ e < elems ∧ e / 4096 / sc = k := by
  have hpos : 0 < 4096 * sc := by omega
  have hrank : e / 4096 / sc = k ↔ 4096 * sc * k ≤ e ∧ e < 4096 * sc * (k + 1) := by
    rw [Nat.div_div_eq_div_mul, Nat.div_eq_iff hpos]
    rw [mul_comm k, mul_add_one]
    omega
  rw [shardSpan_end, hrank]
  simp only [shardSpan]
  omega

/-- A shard beyond the last chunk is empty. -/
theorem shardSpan_snd_eq_zero (hk : chunkNo elems ≤ k * sc) : (shardSpan elems sc k).2 = 0 := by
  have helems : elems ≤ 4096 * sc * k := by
    rw [mul_assoc, mul_comm sc]
    exact (chunkNo_le_iff _ _).mp hk
  have hend := shardSpan_end elems sc k
  simp only [shardSpan] at hend ⊢
  omega

end Shards

/-- Settles O54: a shard holds the elements whose chunks its rank owns (`mem_shardSpan_iff`), and ends where the next begins
(`shardSpan_end`). -/
theorem shardsPartition : Obligations.ShardsPartition := by
  unfold Obligations.ShardsPartition
  intro elems sc n hsc hn
  refine ⟨?covered, ?ordered, ?within, ?owner, fun k hk => shardSpan_snd_eq_zero hk⟩
  case covered =>
    intro e he
    refine ⟨e / 4096 / sc, ?_, (mem_shardSpan_iff hsc).mpr ⟨he, rfl⟩⟩
    have helems := (chunkNo_le_iff _ _).mp hn
    exact Nat.div_lt_of_lt_mul (Nat.div_lt_of_lt_mul (by rw [mul_comm sc]; omega))
  case ordered => exact fun k => (shardSpan_end elems sc k).le
  case within => exact fun k => (shardSpan_end elems sc k).le.trans (min_le_left _ _)
  case owner => exact fun e k hlo hhi => ((mem_shardSpan_iff hsc).mp ⟨hlo, hhi⟩).2.symm

end Sys2Proof.Machine

namespace Sys2Proof.Machine

/-! SUPPORT. Collectives: how XREDUCE, XGATHER and PERMUTE begin, and how a message of the exchange meets its job (R209 to R219,
R289, R356). -/

/-! ### What the dispatch of a descriptor leaves of a job's exchange (R273) -/

/-- A value read from a job that hangs on none of its tensors, pools, scope and tickets. -/
def IgnoresDispatch {β : Type} (P : Ctx → β) : Prop :=
  ∀ (x : Ctx) (ts : Tab Tensor) (ps : Tab Pool) (sc : Option Scope) (rs : List Run),
    P { x with tensors := ts, pools := ps, scope := sc, runs := rs } = P x

section Dispatch

variable {β : Type} {P : Ctx → β}

theorem IgnoresDispatch.modExt (h : IgnoresDispatch P) (x : Ctx) (e : ExtentId) (f : Ext → Ext) : P (x.modExt e f) = P x := by
  unfold Ctx.modExt
  split
  · exact h x x.tensors _ x.scope x.runs
  · exact h x _ x.pools x.scope x.runs

theorem IgnoresDispatch.access (h : IgnoresDispatch P) (vec : Bool) (x : Ctx) (ps : List PieceId) : P (x.access vec ps) = P x :=
  foldl_keeps (f := fun (y : Ctx) (p : PieceId) => y.modExt p.ext (Ext.access vec)) P (fun y p => h.modExt y p.ext _) ps x

theorem IgnoresDispatch.house (h : IgnoresDispatch P) (s : State) (x : Ctx) (i : Nat) : P (s.house x i) = P x := by
  unfold State.house
  split
  · split
    · exact h x _ x.pools x.scope x.runs
    · rfl
  · rfl

theorem IgnoresDispatch.noteInputs (h : IgnoresDispatch P) (x : Ctx) (r : Run) (pos : Nat) (d : Desc) :
    P (x.noteInputs r pos d) = P x := by
  unfold Ctx.noteInputs
  split
  · rfl
  · split
    · exact h x x.tensors x.pools _ x.runs
    · rfl

/-- The dispatch of a descriptor leaves of such a value what its notes of inputs and its holds on gathered tensors leave. -/
theorem IgnoresDispatch.beginDesc (h : IgnoresDispatch P) {s : State} {ctx : Nat} {x : Ctx} (hx : s.ctx? ctx = some x) (r : Run)
    (d : Desc) : ∃ y, (s.beginDesc ctx r d).ctx? ctx = some y ∧ P y = P ((x.noteInputs r r.next d).holdGathered r d) := by
  unfold State.beginDesc State.startDesc State.modRun
  rw [State.ctx?_modCtx, if_pos rfl, State.ctx?_modCtx, if_pos rfl, hx, Option.map_some, Option.map_some]
  refine ⟨_, rfl, (h _ _ _ _ _).trans ?_⟩
  rw [foldl_keeps P (fun y i => h.access _ y _), foldl_keeps P (fun y i => h.house s y i)]

end Dispatch

/-- The collectives of a job, its groups and its gathered tensors. -/
def Ctx.exchange (x : Ctx) : List Coll × Tab XGroup × Tab Gathered := (x.colls, x.groups, x.gathered)

theorem ignoresDispatch_exchange : IgnoresDispatch Ctx.exchange := fun _ _ _ _ _ => rfl

/-- A descriptor that is dispatched leaves its job's collectives and groups; it may hold gathered tensors that it reads. -/
theorem State.exchange_beginDesc {s : State} {ctx : Nat} {x : Ctx} (hx : s.ctx? ctx = some x) (r : Run) (d : Desc) :
    ∃ y, (s.beginDesc ctx r d).ctx? ctx = some y ∧ y.colls = x.colls ∧ y.groups = x.groups
      ∧ y.gathered = (x.holdGathered r d).gathered := by
  obtain ⟨y, hy, hkept⟩ := ignoresDispatch_exchange.beginDesc hx r d
  have hnote := ignoresDispatch_exchange.noteInputs x r r.next d
  simp only [Ctx.exchange, Ctx.holdGathered, Prod.mk.injEq] at hkept hnote ⊢
  obtain ⟨hcolls, hgroups, hgathered⟩ := hkept
  obtain ⟨ncolls, ngroups, ngathered⟩ := hnote
  exact ⟨y, hy, hcolls.trans ncolls, hgroups.trans ngroups, by rw [hgathered, ngathered]⟩

/-! ### A collective begins (R209, R218) -/

section Begins

variable {s : State} {ctx me : Nat} {x : Ctx} {r : Run} {d : Desc} {g : XGroup} {ep : Nat × Bool}

/-- The module once a collective has taken its number, before its figures set out. -/
def State.withColl (s : State) (ctx : Nat) (r : Run) (d : Desc) (ep : Nat × Bool) (c : Coll) : State :=
  (s.beginDesc ctx r d).modCtx ctx (fun x => { x with
    colls := x.colls ++ [c], epoch := ep.1, pendingEpoch := ep.2
    groups := Tab.modify x.groups d.groupId (fun g => { g with obj := { g.obj with nextNumber := g.obj.nextNumber + 1 } }) })

theorem State.startColl_eq (s : State) (ctx me : Nat) (r : Run) (d : Desc) (ep : Nat × Bool) (c : Coll) (dg : Digest) :
    s.startColl ctx me r d ep c dg = ((s.withColl ctx r d ep c).sendScale ctx me c dg).pumpColls ctx := rfl

theorem State.ctx?_withColl (hx : s.ctx? ctx = some x) (r : Run) (d : Desc) (ep : Nat × Bool) (c : Coll) :
    ∃ y, (s.withColl ctx r d ep c).ctx? ctx = some y ∧ y.colls = x.colls ++ [c] ∧ y.epoch = ep.1 ∧ y.pendingEpoch = ep.2
      ∧ Tab.get y.groups d.groupId
          = (Tab.get x.groups d.groupId).map (fun g => { g with obj := { g.obj with nextNumber := g.obj.nextNumber + 1 } })
      ∧ y.gathered = (x.holdGathered r d).gathered := by
  obtain ⟨y, hy, hcolls, hgroups, hgathered⟩ := State.exchange_beginDesc hx r d
  rw [State.withColl, State.ctx?_modCtx, if_pos rfl, hy]
  refine ⟨_, rfl, congrArg (· ++ [c]) hcolls, rfl, rfl, ?_, hgathered⟩
  rw [← hgroups]
  exact (Tab.get_modify _ _ _ _).trans (if_pos rfl)

@[simp] theorem State.ctx?_countConv (s : State) (ctx : Nat) (st : ConvStatus) (c : Nat) : (s.countConv ctx st).ctx? c = s.ctx? c := by
  unfold State.countConv State.countVe
  split
  · split <;> rfl
  · rfl

theorem exec_xreduce {vals : List Val} {st : ConvStatus} {dg : Digest} (hd : s.dispatchable ctx 0x50 none false = some (x, r, d))
    (hme : s.ident = some me) (hg : Tab.get x.groups d.groupId = some g)
    (hok : s.xreduceOk x r d g.obj.members.length (rankOf g.obj.members me) = true) (hw : x.writesGathered d = false)
    (hep : x.epochFor d false = some ep)
    (hdg : dg = d.digest (elemCount (((x.tensor? d.srcA).map (fun t => s.dimsOf t.obj)).getD [])) none)
    (hfirst : s.firstRound x (newColl r d ctx me .xreduce g [] dg) = some (vals, st)) :
    exec (.xreduce ctx) s = .next ((s.countConv ctx st).startColl ctx me r d ep
      ((newColl r d ctx me .xreduce g [] dg).startRound me 0 vals) dg) := by
  subst hdg
  show execXreduce ctx s = _
  simp only [execXreduce, hd, hme, hg, hok, hw, hep, hfirst, Bool.not_true, Bool.false_eq_true, if_false]

theorem exec_xgather {t : Tensor} {c : Coll} (hd : s.dispatchable ctx 0x51 none false = some (x, r, d)) (hme : s.ident = some me)
    (hg : Tab.get x.groups d.groupId = some g) (ht : x.tensor? d.srcB = some t)
    (hok : s.xgatherOk x r d g.obj.members.length (rankOf g.obj.members me) = true) (hep : x.epochFor d false = some ep)
    (hface : d.srcA = 0 ∨ x.face d.srcA = x.face d.srcB)
    (hc : c = newColl r d ctx me .xgather g [] (d.digest (elemCount (s.dimsOf t.obj)) (x.face d.srcB))) :
    exec (.xgather ctx) s = .next ((s.modCtx ctx (fun y => y.enterLedger r c me t.obj.charge)).startColl ctx me r d ep c
      (d.digest (elemCount (s.dimsOf t.obj)) (x.face d.srcA))) := by
  subst hc
  have hsame : (d.srcA != 0 && x.face d.srcA != x.face d.srcB) = false := by
    rcases hface with h0 | heq
    · simp [h0]
    · simp [heq]
  show execXgather ctx s = _
  simp only [execXgather, hd, hme, hg, ht, hok, hep, hsame, Bool.not_true, Bool.false_eq_true, if_false]

theorem exec_permute {g2 : XGroup} {dg : Digest} (hd : s.dispatchable ctx 0x52 none false = some (x, r, d)) (hme : s.ident = some me)
    (hg : Tab.get x.groups d.groupId = some g) (hg2 : Tab.get x.groups d.newGroup = some g2)
    (hok : s.permuteOk x r d g.obj.members g2.obj.members me = true) (hw : x.writesGathered d = false)
    (hep : x.epochFor d true = some ep) (hface : x.face d.srcA = none ∨ x.face d.srcB = none ∨ x.face d.srcA = x.face d.srcB)
    (hdg : dg = d.digest d.logical (if (x.face d.srcA).isSome then x.face d.srcA else x.face d.srcB)) :
    exec (.permute ctx) s = .next (s.startColl ctx me r d ep (newColl r d ctx me .permute g g2.obj.members dg) dg) := by
  subst hdg
  have hsame : ((x.face d.srcA).isSome && (x.face d.srcB).isSome && x.face d.srcA != x.face d.srcB) = false := by
    rcases hface with ha | hb | heq
    · simp [ha]
    · simp [hb]
    · simp [heq]
  show execPermute ctx s = _
  simp only [execPermute, hd, hme, hg, hg2, hok, hw, hep, hsame, Bool.not_true, Bool.false_eq_true, if_false]

/-- A PERMUTE stands before what follows it in the next epoch. -/
theorem Ctx.pending_of_epochFor (h : x.epochFor d true = some ep) : ep.2 = true := by
  unfold Ctx.epochFor at h
  dsimp only at h
  split at h
  case isTrue => obtain rfl := Option.some.inj h; rfl
  case isFalse =>
    obtain ⟨-, h⟩ := Option.ite_none_right_eq_some.mp h
    obtain rfl := Option.some.inj h
    rfl

/-- What an XGATHER writes of its DST in the ledger, its own hold included (R270, R272). -/
theorem Ctx.gathered_enterLedger (x : Ctx) (r : Run) (c : Coll) (me charge : Nat) (d : Desc) :
    ∃ h, Tab.get ((x.enterLedger r c me charge).holdGathered r d).gathered c.dst = some h ∧ h.held = true ∧ h.number = c.head.number
      ∧ h.group = c.head.group := by
  rw [Ctx.holdGathered, Tab.get_mapVals, Ctx.enterLedger, Tab.get_set_self]
  exact ⟨_, rfl, rfl, rfl, rfl⟩

end Begins

/-! ### Messages of the exchange (R209 to R212, R218, R289, R356) -/

section Messages

variable {s : State} {src ctx me : Nat} {a : Arrived} {rest : List Arrived} {x : Ctx} {h : CollHead} {m : HeldMsg} {mine : Msg → Bool}

/-- Each row of the exchange asks for its own messages (Table 7.7). -/
theorem exec_exchangeRow {e : Instr × (Msg → Bool)} (he : e ∈ exchangeRows src) (s : State) : exec e.1 s = .next (s.onColl src e.2) := by
  simp only [exchangeRows, List.mem_cons, List.not_mem_nil, or_false] at he
  rcases he with rfl | rfl | rfl | rfl | rfl <;> rfl

theorem State.onColl_delivered (hdel : Delivered src 2 a rest s) (hmine : mine a.msg = true) (hh : a.msg.collHead = some h)
    (hx : s.ctx? h.ctx = some x) (hme : s.ident = some me) (hf : x.state ≠ .faulted) :
    s.onColl src mine = if x.wouldHold me a.msg && !x.chainRoom (HeldMsg.areaBytes ⟨src, a.port, a.msg⟩) then s
      else ((s.takeMsg 2 a.slots rest).deliverColl h.ctx ⟨src, a.port, a.msg⟩).pumpColls h.ctx := by
  obtain ⟨hl, htake, -⟩ := hdel
  simp only [State.onColl, htake, hl, hmine, hh, hx, hme, bne_iff_ne.mpr hf, Option.getD_some, Bool.not_true, Bool.or_false,
    Bool.true_and, Bool.false_eq_true, if_false]

theorem State.ctx?_takeMsg (s : State) (vc : Nat) (slots : List (Nat × Nat)) (rest : List Arrived) (c : Nat) :
    (s.takeMsg vc slots rest).ctx? c = s.ctx? c :=
  foldl_keeps (f := fun (t : State) (e : Nat × Nat) => t.modPort e.1 (fun p => p.release vc e.2)) (fun t => t.ctx? c) (fun _ _ => rfl)
    slots (s.setInbox rest)

theorem State.ident_takeMsg (s : State) (vc : Nat) (slots : List (Nat × Nat)) (rest : List Arrived) :
    (s.takeMsg vc slots rest).ident = s.ident :=
  foldl_keeps (f := fun (t : State) (e : Nat × Nat) => t.modPort e.1 (fun p => p.release vc e.2)) State.ident (fun _ _ => rfl)
    slots (s.setInbox rest)

/-- What a message that goes no further than this member does to a job that is not faulted. -/
def State.meetColl (s : State) (ctx me : Nat) (x : Ctx) (h : CollHead) (m : HeldMsg) : State :=
  match x.fit h with
  | .gone => s.misroutedMsg m.port
  | .stale => s.jobFault ctx 0x06 none
  | .past => s
  | .early => s.holdMsg ctx m
  | .now c =>
    match m.msg with
    | .xs q => s.takeXs ctx c q
    | .xd q => if c.phase = .scale then s.holdMsg ctx m else s.takeXd ctx me m.port c q
    | .xv q => if c.phase = .scale then s.holdMsg ctx m else s.takeXv ctx c q
    | .gatherData q => s.takeCopy ctx c q
    | .permuteData q => s.takeCopy ctx c q
    | _ => s

/-- A message that carries no copy is for this member. -/
theorem State.deliverColl_eq_meetColl (hx : s.ctx? ctx = some x) (hh : m.msg.collHead = some h) (hme : s.ident = some me)
    (hf : x.state ≠ .faulted) (hcopy : m.msg.copy? = none) : s.deliverColl ctx m = s.meetColl ctx me x h m := by
  simp only [State.deliverColl, hx, hh, hme, hf, hcopy, if_false]
  cases Tab.get x.groups h.group <;> rfl

variable (s ctx me m)

theorem State.meetColl_gone (hfit : x.fit h = .gone) : s.meetColl ctx me x h m = s.misroutedMsg m.port := by
  simp only [State.meetColl, hfit]

theorem State.meetColl_stale (hfit : x.fit h = .stale) : s.meetColl ctx me x h m = s.jobFault ctx 0x06 none := by
  simp only [State.meetColl, hfit]

theorem State.meetColl_past (hfit : x.fit h = .past) : s.meetColl ctx me x h m = s := by
  simp only [State.meetColl, hfit]

/-- A message for a collective not yet reached waits (R212, R218). -/
theorem State.meetColl_early (hfit : x.fit h = .early) (hx : s.ctx? ctx = some x) :
    s.meetColl ctx me x h m = s.setCtx ctx { x with waitingMsgs := x.waitingMsgs ++ [m] } := by
  simp only [State.meetColl, hfit]
  exact s.modCtx_some _ hx

/-- Figures under another digest fault the job (R210). -/
theorem State.meetColl_mismatch {c : Coll} {q : XsMsg} (hfit : x.fit h = .now c) (hq : m.msg = .xs q) (hphase : c.phase = .scale)
    (hdigest : c.digest.agrees q.digest = false) :
    s.meetColl ctx me x h m = s.jobFault ctx 0x04 (some (c.ring, c.tseq, c.pos)) := by
  have hscale : (c.phase != .scale) = false := by rw [hphase]; rfl
  simp only [State.meetColl, hfit, hq, State.takeXs, hscale, hdigest, Bool.not_false, Bool.false_eq_true, if_false, if_true,
    State.faultColl]

end Messages

/-- Settles O43: XREDUCE, XGATHER and PERMUTE take the branch that their checks name, and what their job holds then is read before
the figures set out (`ctx?_withColl`, with the ledger's entry of `gathered_enterLedger`); a message is taken unless it would wait
without room (`onColl_delivered`), and one without a copy meets its job by how its head fits (`deliverColl_eq_meetColl`). -/
theorem collectiveRowsComplete : Obligations.CollectiveRowsComplete := by
  unfold Obligations.CollectiveRowsComplete
  refine ⟨?xreduce, ?xgather, ?permute, ?message⟩
  case xreduce =>
    intro ctx me x r d g ep vals st s hd hme hg hok hw hep hfirst
    obtain ⟨hx, -⟩ := State.dispatchable_some hd
    obtain ⟨y, hy, hcolls, hepoch, hpending, hgroups, -⟩ :=
      State.ctx?_withColl (s := s.countConv ctx st) ((s.ctx?_countConv ctx st ctx).trans hx) r d ep _
    rw [hg, Option.map_some] at hgroups
    exact ⟨_, y, _, _, _, exec_xreduce hd hme hg hok hw hep rfl hfirst, hy, hcolls, hepoch, hpending, hgroups, rfl, rfl, rfl, rfl⟩
  case xgather =>
    intro ctx me x r d g k ep s hd hme hg hk hok hep hface
    obtain ⟨hx, -⟩ := State.dispatchable_some hd
    generalize hc : newColl r d ctx me .xgather g [] (d.digest (elemCount (s.dimsOf k.obj)) (x.face d.srcB)) = c
    have hexec := exec_xgather hd hme hg hk hok hep hface hc.symm
    have hentered : (s.modCtx ctx (fun y => y.enterLedger r c me k.obj.charge)).ctx? ctx = some (x.enterLedger r c me k.obj.charge) := by
      rw [State.ctx?_modCtx, if_pos rfl, hx, Option.map_some]
    obtain ⟨y, hy, hcolls, -, -, -, hgathered⟩ := State.ctx?_withColl hentered r d ep c
    obtain ⟨l, hl, hheld, hnumber, hgroup⟩ := x.gathered_enterLedger r c me k.obj.charge d
    rw [← hgathered] at hl
    subst hc
    exact ⟨_, y, _, _, l, hexec, hy, hcolls, rfl, rfl, rfl, hl, hheld, hnumber, hgroup⟩
  case permute =>
    intro ctx me x r d g g2 ep s hd hme hg hg2 hok hw hep hface
    obtain ⟨hx, -⟩ := State.dispatchable_some hd
    obtain ⟨y, hy, hcolls, -, hpending, -, -⟩ := State.ctx?_withColl hx r d ep (newColl r d ctx me .permute g g2.obj.members
      (d.digest d.logical (if (x.face d.srcA).isSome then x.face d.srcA else x.face d.srcB)))
    exact ⟨_, y, _, _, exec_permute hd hme hg hg2 hok hw hep hface rfl, hy, hcolls, rfl, rfl,
      hpending.trans (Ctx.pending_of_epochFor hep)⟩
  case message =>
    intro src me e a rest h x s he hdel hmine hh hx hme hf
    have hexec := (exec_exchangeRow he s).trans (congrArg _ (State.onColl_delivered hdel hmine hh hx hme hf))
    refine ⟨fun hroom => ?taken, fun hwould hfull => ?kept⟩
    case taken =>
      have htaken : (x.wouldHold me a.msg && !x.chainRoom (HeldMsg.areaBytes ⟨src, a.port, a.msg⟩)) = false := by
        rcases hroom with hno | hroom
        · rw [hno, Bool.false_and]
        · rw [hroom, Bool.not_true, Bool.and_false]
      rw [htaken, if_neg Bool.false_ne_true] at hexec
      have hux : (s.takeMsg 2 a.slots rest).ctx? h.ctx = some x := (State.ctx?_takeMsg _ _ _ _ _).trans hx
      have hume : (s.takeMsg 2 a.slots rest).ident = some me := (State.ident_takeMsg _ _ _ _).trans hme
      have hmeet (hcopy : a.msg.copy? = none) := State.deliverColl_eq_meetColl (m := ⟨src, a.port, a.msg⟩) hux hh hume hf hcopy
      exact ⟨_, _, hexec, rfl, rfl, fun hcopy hfit => (hmeet hcopy).trans (State.meetColl_gone _ _ _ _ hfit),
        fun hcopy hfit => (hmeet hcopy).trans (State.meetColl_stale _ _ _ _ hfit),
        fun hcopy hfit => (hmeet hcopy).trans (State.meetColl_past _ _ _ _ hfit),
        fun hcopy hfit => (hmeet hcopy).trans (State.meetColl_early _ _ _ _ hfit hux),
        fun c m ha hfit hphase hdigest =>
          (hmeet (by rw [ha]; rfl)).trans (State.meetColl_mismatch _ _ _ _ hfit ha hphase hdigest)⟩
    case kept =>
      rwa [hwould, hfull, Bool.not_false, Bool.and_true, if_pos rfl] at hexec

end Sys2Proof.Machine

namespace Sys2Proof.Machine

/-! SUPPORT. A tick of fabric time while a die works (R245, R441). -/

/-- A module with one die in RUN, a cluster of it in RUN too, both idle since fabric time 0. -/
def dieAtWork : State := { State.reset with dies := [(0, { state := .run })], clusters := [(0, { state := .run })] }

/-- The tick begins the idle time of the die anew, since a cluster of it does not sleep (Table 15.3). -/
theorem dies_tick_dieAtWork : dieAtWork.tick.dies = [(0, { state := .run, idleSince := 1 })] := by decide +kernel

/-- Refutes O2: a tick also begins anew the idle time of each unit that breaks a condition of Table 15.3 (R441), so that on
an empty queue more than fabric time changes. -/
theorem not_idleStepTicks : ¬ Obligations.IdleStepTicks := by
  unfold Obligations.IdleStepTicks
  intro h
  obtain ⟨t, hstep, hframe, -⟩ := h dieAtWork rfl
  have ht : dieAtWork.tick = t := Host.Outcome.next.inj hstep
  have hdies : t.dies = dieAtWork.dies := (congrArg State.dies hframe).trans rfl
  rw [← ht, dies_tick_dieAtWork] at hdies
  exact absurd hdies (by decide)

end Sys2Proof.Machine

namespace Sys2Proof.Machine

/-! SUPPORT. The module registers with rows of their own (R245, R386, R435, R442, R451): reads that leave something, SNAP,
the telemetry registers, KEEP_AWAKE. -/

section OwnRows

variable {s : State} {fn : Nat} {v : Word32}

/-! ### Reads (R245, R386, R435) -/

theorem exec_fabricTimeLoRead (hfn : fn ≤ 62) (hl : s.live = true) :
    exec (.fabricTimeLoRead fn) s = .next (State.emit (s.setFn fn { (s.fn fn) with timeHi := BitVec.ofNat 32 (s.time.now / 2 ^ 32) })
      [.readData fn (leBytes 4 (s.time.now % 2 ^ 32))]) := by
  have hp : s.boot.powered = true := (State.live_iff.mp hl).1
  have hread : s.read32 fn 0x20
      = (s.time.now % 2 ^ 32, s.modFn fn (fun f => { f with timeHi := BitVec.ofNat 32 (s.time.now / 2 ^ 32) })) := by
    simp [State.read32, hl]
  refine (withUnit_next _ (decide_eq_true hfn)).trans ?_
  rw [State.answerRead, if_pos hp, hread]
  rfl

theorem exec_logDataRead_physical (hp : s.boot.powered = true) (hl : s.live = true ∨ s.errs.halted = true) :
    exec (.logDataRead 0) s = .next (State.emit { s with logRegs := { s.logRegs with addr := (s.logRegs.addr + 4) % 2 ^ 18 } }
      [.readData 0 (leBytes 4 (fieldAt (s.logRegs.buffer.bytes s.fuses.serial) s.logRegs.addr 4))]) := by
  have hread : s.read32 0 0xA8 = s.logData := by
    rcases hl with h | h <;> simp [State.read32, hp, h]
  refine (withUnit_next _ rfl).trans ?_
  rw [State.answerRead, if_pos hp, hread]
  rfl

/-- A virtual function reads XD_LOG_DATA as zero in every stage, HALTED or not (R386). -/
theorem State.readReg_logData_of_vf (s : State) (hfn : 1 ≤ fn) : s.readReg fn 0xA8 = 0 := by
  have hne : fn ≠ 0 := by omega
  unfold State.readReg
  cases s.errs.halted with
  | true => simp [hne]
  | false => cases s.boot.stage <;> simp [hne, isModuleOff]

theorem exec_logDataRead_virtual (h1 : 1 ≤ fn) (hfn : fn ≤ 62) (hp : s.boot.powered = true) :
    exec (.logDataRead fn) s = .next (s.emit [.readData fn (leBytes 4 0)]) := by
  have hne : fn ≠ 0 := by omega
  have hread : s.read32 fn 0xA8 = (0, s) := by
    simp [State.read32, hne, s.readReg_logData_of_vf h1]
  refine (withUnit_next _ (decide_eq_true hfn)).trans ?_
  rw [State.answerRead, if_pos hp, hread]
  rfl

theorem exec_logSnap (hp : s.boot.powered = true) (hl : s.live = true ∨ s.errs.halted = true) (hv : bitOf v.toNat 0 = true) :
    exec (.logSnap 0 v) s = .next { s with logRegs := { s.logRegs with busy := true, buffer := s.logbook } } := by
  have hserves : (s.live || s.errs.halted) = true := by
    rcases hl with h | h <;> simp [h]
  refine (withUnit_next _ rfl).trans ?_
  rw [hp, hserves, State.snap, hv]
  rfl

/-! ### Telemetry (R451) -/

theorem exec_xdTelemCfgWrite (hl : s.live = true) (v : Word32) : exec (.xdTelemCfgWrite 0 v) s = .next (s.telemCfg v) := by
  refine (withUnit_next _ rfl).trans ?_
  rw [hl]
  rfl

theorem exec_xdTelemPeriodWrite (hl : s.live = true) (v : Word32) : exec (.xdTelemPeriodWrite 0 v) s = .next (s.telemPeriod v) := by
  refine (withUnit_next _ rfl).trans ?_
  rw [hl]
  rfl

/-- Enabling the telemetry ring starts its records and its window anew. -/
theorem State.telemCfg_enable (he : s.telem.enable = false) (hen : bitOf v.toNat 31 = true) (h2 : 2 ≤ fieldOf v.toNat 3 0)
    (h10 : fieldOf v.toNat 3 0 ≤ 10) (hvec : fieldOf v.toNat 26 16 < 64) :
    s.telemCfg v = { s with telem := { s.telem.fresh (alignUp s.time.now s.telem.span) false s.power.k with
      logDepth := fieldOf v.toNat 3 0, vector := fieldOf v.toNat 26 16, enable := true, head := 0, tail := 0, seq := 0 } } := by
  have hfits : (decide (fieldOf v.toNat 3 0 < 2) || decide (10 < fieldOf v.toNat 3 0) || !vectorOk 0 (fieldOf v.toNat 26 16)) = false := by
    simp [vectorOk, h10, hvec]
    omega
  simp only [State.telemCfg, he, hfits, hen]
  rfl

theorem State.telemPeriod_of_valid (he : s.telem.enable = false) (h1 : 1 ≤ fieldOf v.toNat 13 0) (hmax : fieldOf v.toNat 13 0 ≤ 10000) :
    s.telemPeriod v = { s with telem := { s.telem with period := fieldOf v.toNat 13 0 } } := by
  have hvalid : (s.telem.enable || decide (fieldOf v.toNat 13 0 = 0) || decide (10000 < fieldOf v.toNat 13 0)) = false := by
    simp [he, hmax]
    omega
  simp only [State.telemPeriod, hvalid, Bool.false_eq_true, if_false]

/-! ### KEEP_AWAKE (R442) -/

/-- The state with its dies and clusters out of sight: what a request for them, or an idle time, cannot touch. -/
def State.beyondDies (s : State) : State := { s with dies := [], clusters := [] }

theorem State.eq_of_beyondDies {t : State} (h : t.beyondDies = s.beyondDies) : t = { s with dies := t.dies, clusters := t.clusters } :=
  congrArg (fun u : State => { u with dies := t.dies, clusters := t.clusters }) h

@[simp] theorem State.beyondDies_setDie (s : State) (d : Nat) (e : Die) : (s.setDie d e).beyondDies = s.beyondDies := rfl
@[simp] theorem State.beyondDies_setCluster (s : State) (c : Nat) (e : Cluster) : (s.setCluster c e).beyondDies = s.beyondDies := rfl

@[simp] theorem State.beyondDies_rampNext (s : State) : s.rampNext.beyondDies = s.beyondDies := by
  unfold State.rampNext
  split
  · rfl
  · split <;> rfl

@[simp] theorem State.beyondDies_wakeDie (s : State) (d : Nat) (run : Bool) : (s.wakeDie d run).beyondDies = s.beyondDies := by
  unfold State.wakeDie
  dsimp only
  split
  · exact State.beyondDies_rampNext _
  · split <;> rfl
  · rfl
  · rfl

@[simp] theorem State.beyondDies_wakeCluster (s : State) (c : Nat) : (s.wakeCluster c).beyondDies = s.beyondDies := by
  unfold State.wakeCluster
  dsimp only
  split <;> simp

@[simp] theorem State.beyondDies_wakeDies (s : State) (ds : List Nat) : (s.wakeDies ds).beyondDies = s.beyondDies :=
  foldl_keeps State.beyondDies (fun a d => foldl_keeps State.beyondDies (fun b i => b.beyondDies_wakeCluster (8 * d + i)) _ a) ds s

/-- KEEP_AWAKE is set, and dies and clusters are asked for or idle from now on. -/
theorem State.beyondDies_keepAwake (s : State) (v : Word32) :
    (s.keepAwake v).beyondDies = State.beyondDies { s with power := { s.power with keepAwake := v &&& 0x3FF } } := by
  refine foldl_keeps State.beyondDies (fun a p => ?_) _ _
  split
  case isTrue => exact a.beyondDies_wakeDies _
  case isFalse =>
    split
    case isTrue =>
      refine foldl_keeps State.beyondDies (fun b d => ?_) _ a
      exact foldl_keeps State.beyondDies (fun c i => c.beyondDies_setCluster _ _) _ (b.setDie d _)
    case isFalse => rfl

/-- Where no bit of a partition changes, no die and no cluster does. -/
theorem State.keepAwake_of_same (hsame : ∀ p ∈ s.parts, s.power.keepAwake.getLsbD p.1 = (v &&& 0x3FF).getLsbD p.1) :
    s.keepAwake v = { s with power := { s.power with keepAwake := v &&& 0x3FF } } := by
  refine (List.foldl_ext _ (fun a _ => a) _ (fun a p hp => ?_)).trans (List.foldl_fixed s.parts)
  have hkept := hsame p hp
  cases hbit : s.power.keepAwake.getLsbD p.1 <;> rw [hbit] at hkept <;> rw [← hkept] <;> rfl

theorem exec_keepAwakeWrite (hl : s.live = true) (v : Word32) : exec (.keepAwakeWrite 0 v) s = .next (s.keepAwake v) := by
  refine (withUnit_next _ rfl).trans ?_
  rw [hl]
  rfl

end OwnRows

/-- Settles O14: each row takes the branch that its hypotheses name; KEEP_AWAKE leaves all but dies and clusters
(`beyondDies_keepAwake`), and these too where no partition's bit changes. -/
theorem moduleRegisterRowsComplete : Obligations.ModuleRegisterRowsComplete := by
  unfold Obligations.ModuleRegisterRowsComplete
  refine ⟨fun fn s hfn hl => exec_fabricTimeLoRead hfn hl, fun v s hp hl hv => exec_logSnap hp hl hv, fun s => rfl,
    fun s hp hl => exec_logDataRead_physical hp hl, fun fn s h1 hfn hp => exec_logDataRead_virtual h1 hfn hp, ?cfg, ?period, ?awake⟩
  case cfg =>
    intro v s hl he hen h2 h10 hvec
    exact ⟨_, (exec_xdTelemCfgWrite hl v).trans (congrArg _ (State.telemCfg_enable he hen h2 h10 hvec)),
      rfl, rfl, rfl, rfl, rfl, rfl, rfl, rfl, rfl, rfl⟩
  case period =>
    intro v s hl he h1 hmax
    rw [exec_xdTelemPeriodWrite hl, State.telemPeriod_of_valid he h1 hmax]
  case awake =>
    intro v s hl
    have hpower : (s.keepAwake v).power = { s.power with keepAwake := v &&& 0x3FF } := congrArg State.power (s.beyondDies_keepAwake v)
    refine ⟨_, exec_keepAwakeWrite hl v, hpower, ?_, fun hsame => ?_⟩
    · rw [hpower]
      exact State.eq_of_beyondDies (s.beyondDies_keepAwake v)
    · rw [State.keepAwake_of_same hsame]
      exact ⟨rfl, rfl⟩

end Sys2Proof.Machine

namespace Sys2Proof.Machine

/-! SUPPORT. What the operations on ports leave unchanged, and what they make of a port: messages to send, events, states of a
port, the time root, leaving service (R230, R231, R242 to R246, R253). -/

variable (s : State)

/-! ### Messages to send (R242) -/

/-- The state with what a message to send may change out of sight: the numbers, the messages that wait to be sent, the inbox. -/
def State.unsent (s : State) : State := { s with net := { s.net with txSeq := [], txWraps := [], out := [], inbox := [] } }

@[simp] theorem State.unsent_sendOn (d vc : Nat) (p : Option Nat) (m : Msg) : (s.sendOn d vc p m).unsent = s.unsent := by
  unfold State.sendOn
  split <;> rfl

@[simp] theorem State.unsent_send (d : Nat) (p : Option Nat) (m : Msg) : (s.send d p m).unsent = s.unsent := s.unsent_sendOn d _ p m

@[simp] theorem State.unsent_sendAll (ds : List Nat) (p : Option Nat) (m : Msg) : (s.sendAll ds p m).unsent = s.unsent :=
  foldl_keeps State.unsent (fun a d => a.unsent_send d p m) ds s

@[simp] theorem State.unsent_tellClasses (ctx : Nat) : (s.tellClasses ctx).unsent = s.unsent := by
  unfold State.tellClasses
  split
  · split
    · dsimp only
      split
      · rfl
      · exact s.unsent_sendAll _ _ _
    · rfl
  · rfl

@[simp] theorem State.unsent_reachChanged : s.reachChanged.unsent = s.unsent := by
  refine foldl_keeps State.unsent (fun a e => ?_) s.ctxs s
  rw [State.unsent_tellClasses]
  exact foldl_keeps State.unsent (fun b g => b.unsent_send _ _ _) e.2.groups a

variable {s} in
/-- What does not show in what is unsent is as before. -/
theorem State.eq_of_unsent {t : State} (h : t.unsent = s.unsent) :
    t = { s with net := { s.net with txSeq := t.net.txSeq, txWraps := t.net.txWraps, out := t.net.out, inbox := t.net.inbox } } :=
  congrArg (fun u : State => { u with net := { u.net with
    txSeq := t.net.txSeq, txWraps := t.net.txWraps, out := t.net.out, inbox := t.net.inbox } }) h

variable {s} in
theorem State.port_of_unsent {t : State} (h : t.unsent = s.unsent) (j : Nat) : t.port j = s.port j :=
  (congrArg (fun u : State => u.port j) h :)

@[simp] theorem State.port_reachChanged (j : Nat) : s.reachChanged.port j = s.port j := State.port_of_unsent s.unsent_reachChanged j
@[simp] theorem State.resend_reachChanged : s.reachChanged.net.resend = s.net.resend := (congrArg (fun u : State => u.net.resend) s.unsent_reachChanged :)
@[simp] theorem State.notes_reachChanged : s.reachChanged.net.notes = s.net.notes := (congrArg (fun u : State => u.net.notes) s.unsent_reachChanged :)
@[simp] theorem State.direct_reachChanged : s.reachChanged.net.direct = s.net.direct := (congrArg (fun u : State => u.net.direct) s.unsent_reachChanged :)
@[simp] theorem State.blocks_reachChanged : s.reachChanged.net.blocks = s.net.blocks := (congrArg (fun u : State => u.net.blocks) s.unsent_reachChanged :)
@[simp] theorem State.logbook_reachChanged : s.reachChanged.logbook = s.logbook := (congrArg State.logbook s.unsent_reachChanged :)

/-! ### Events (R382) -/

/-- An event changes the functions and goes to the host. -/
theorem State.event_eq (fn ty ctx a b : Nat) :
    s.event fn ty ctx a b = { s with funs := (s.event fn ty ctx a b).funs, hostOut := (s.event fn ty ctx a b).hostOut } := by
  unfold State.event
  dsimp only
  split <;> rfl

@[simp] theorem State.ports_event (fn ty ctx a b : Nat) : (s.event fn ty ctx a b).ports = s.ports := (congrArg State.ports (s.event_eq fn ty ctx a b) :)
@[simp] theorem State.net_event (fn ty ctx a b : Nat) : (s.event fn ty ctx a b).net = s.net := (congrArg State.net (s.event_eq fn ty ctx a b) :)
@[simp] theorem State.time_event (fn ty ctx a b : Nat) : (s.event fn ty ctx a b).time = s.time := (congrArg State.time (s.event_eq fn ty ctx a b) :)
@[simp] theorem State.twin_event (fn ty ctx a b : Nat) : (s.event fn ty ctx a b).twin = s.twin := (congrArg State.twin (s.event_eq fn ty ctx a b) :)
@[simp] theorem State.logbook_event (fn ty ctx a b : Nat) : (s.event fn ty ctx a b).logbook = s.logbook := (congrArg State.logbook (s.event_eq fn ty ctx a b) :)
@[simp] theorem State.ctxs_event (fn ty ctx a b : Nat) : (s.event fn ty ctx a b).ctxs = s.ctxs := (congrArg State.ctxs (s.event_eq fn ty ctx a b) :)
@[simp] theorem State.port_event (fn ty ctx a b j : Nat) : (s.event fn ty ctx a b).port j = s.port j := by
  rw [State.port, State.ports_event, State.port]

/-! ### One port and the others -/

@[simp] theorem State.port_modPort_self (i : Nat) (g : Port → Port) : (s.modPort i g).port i = g (s.port i) := s.port_setPort_self i _

theorem State.port_modPort_ne {i j : Nat} (g : Port → Port) (h : j ≠ i) : (s.modPort i g).port j = s.port j := s.port_setPort_ne _ h

theorem State.setPort_setPort (i : Nat) (p q : Port) : (s.setPort i p).setPort i q = s.setPort i q := by
  simp [State.setPort, Tab.set_set]

theorem State.setPort_modPort (i : Nat) (p : Port) (g : Port → Port) : (s.setPort i p).modPort i g = s.setPort i (g p) := by
  rw [State.modPort, State.port_setPort_self, State.setPort_setPort]

theorem State.modPort_modPort (i : Nat) (f g : Port → Port) : (s.modPort i f).modPort i g = s.modPort i (fun p => g (f p)) :=
  s.setPort_modPort i _ g

/-! ### What the ports' work leaves -/

/-- The state with its ports out of sight. -/
def State.beyondPorts (s : State) : State := { s with ports := [] }

@[simp] theorem State.beyondPorts_setPort (i : Nat) (p : Port) : (s.setPort i p).beyondPorts = s.beyondPorts := rfl
@[simp] theorem State.beyondPorts_modPort (i : Nat) (g : Port → Port) : (s.modPort i g).beyondPorts = s.beyondPorts := rfl

variable {s} in
theorem State.eq_of_beyondPorts {t : State} (h : t.beyondPorts = s.beyondPorts) : t = { s with ports := t.ports } :=
  congrArg (fun u : State => { u with ports := t.ports }) h

/-- The state with all that the work of the ports may change out of sight: ports, messages, fabric time, the logbook, events, the
twin's state with the draws of its authentication. -/
def State.beyondLinks (s : State) : State :=
  { s with ports := [], net := {}, time := {}, logbook := {}, funs := [], hostOut := [], twin := {}, freeCtr := 0 }

@[simp] theorem State.beyondLinks_setPort (i : Nat) (p : Port) : (s.setPort i p).beyondLinks = s.beyondLinks := rfl
@[simp] theorem State.beyondLinks_modPort (i : Nat) (g : Port → Port) : (s.modPort i g).beyondLinks = s.beyondLinks := rfl

@[simp] theorem State.beyondLinks_event (fn ty ctx a b : Nat) : (s.event fn ty ctx a b).beyondLinks = s.beyondLinks := by
  rw [State.event_eq]
  rfl

section

variable {s} {t : State} (h : t.beyondLinks = s.beyondLinks)

include h

theorem State.flash_of_beyondLinks : t.flash = s.flash := (congrArg State.flash h :)
theorem State.boot_of_beyondLinks : t.boot = s.boot := (congrArg State.boot h :)
theorem State.errs_of_beyondLinks : t.errs = s.errs := (congrArg State.errs h :)
theorem State.carts_of_beyondLinks : t.carts = s.carts := (congrArg State.carts h :)
theorem State.lasers_of_beyondLinks : t.lasers = s.lasers := (congrArg State.lasers h :)
theorem State.jr_of_beyondLinks : t.jr = s.jr := (congrArg State.jr h :)

theorem State.cart_of_beyondLinks (c : Nat) : t.cart c = s.cart c := by
  rw [State.cart, State.carts_of_beyondLinks h, State.cart]

theorem State.live_of_beyondLinks : t.live = s.live := by
  rw [State.live, State.boot_of_beyondLinks h, State.errs_of_beyondLinks h, State.live]

end

theorem State.beyondLinks_of_unsent {s t : State} (h : t.unsent = s.unsent) : t.beyondLinks = s.beyondLinks := by
  rw [State.eq_of_unsent h]
  rfl

@[simp] theorem State.beyondLinks_setPState (i : Nat) (st : PState) (step : Nat) : (s.setPState i st step).beyondLinks = s.beyondLinks := by
  unfold State.setPState
  dsimp only
  split
  · rfl
  · exact State.beyondLinks_event _ _ _ _ _ _

/-- An election changes fabric time alone. -/
theorem State.elect_eq : s.elect = { s with time := s.elect.time } := by
  unfold State.elect
  dsimp only
  split
  · rfl
  · rfl
  · split <;> rfl

@[simp] theorem State.ports_elect : s.elect.ports = s.ports := (congrArg State.ports s.elect_eq :)
@[simp] theorem State.port_elect (j : Nat) : s.elect.port j = s.port j := (congrArg (fun u : State => u.port j) s.elect_eq :)
@[simp] theorem State.net_elect : s.elect.net = s.net := (congrArg State.net s.elect_eq :)
@[simp] theorem State.logbook_elect : s.elect.logbook = s.logbook := (congrArg State.logbook s.elect_eq :)

@[simp] theorem State.beyondLinks_elect : s.elect.beyondLinks = s.beyondLinks := by
  rw [State.elect_eq]
  rfl

/-! ### A port's state (Table 12.20) -/

@[simp] theorem State.port_setPState_self (i : Nat) (st : PState) (step : Nat) :
    (s.setPState i st step).port i = { (s.port i) with state := st, step := step } := by
  unfold State.setPState
  dsimp only
  split
  · exact s.port_setPort_self i _
  · rw [State.port_event]
    exact s.port_setPort_self i _

theorem State.port_setPState_ne {i j : Nat} (st : PState) (step : Nat) (h : j ≠ i) : (s.setPState i st step).port j = s.port j := by
  unfold State.setPState
  dsimp only
  split
  · exact s.port_setPort_ne _ h
  · rw [State.port_event]
    exact s.port_setPort_ne _ h

@[simp] theorem State.net_setPState (i : Nat) (st : PState) (step : Nat) : (s.setPState i st step).net = s.net := by
  unfold State.setPState
  dsimp only
  split
  · rfl
  · exact State.net_event _ _ _ _ _ _

@[simp] theorem State.time_setPState (i : Nat) (st : PState) (step : Nat) : (s.setPState i st step).time = s.time := by
  unfold State.setPState
  dsimp only
  split
  · rfl
  · exact State.time_event _ _ _ _ _ _

@[simp] theorem State.portBad_setPState (i : Nat) (st : PState) (step : Nat) : (s.setPState i st step).logbook.portBad = s.logbook.portBad := by
  unfold State.setPState
  dsimp only
  split
  · rfl
  · rw [State.logbook_event]
    split
    · rfl
    · split <;> rfl

/-! ### Tokens (R237) -/

/-- Bringing the tokens up to date changes them and the slot they were counted in. -/
theorem State.port_countTokens_self (i : Nat) : ∃ tokens slot, (s.countTokens i).port i = { (s.port i) with tokens := tokens, tokenSlot := slot } := by
  unfold State.countTokens
  split
  · exact ⟨_, _, rfl⟩
  · exact ⟨_, _, s.port_modPort_self i _⟩

theorem State.port_countTokens_ne {i j : Nat} (h : j ≠ i) : (s.countTokens i).port j = s.port j := by
  unfold State.countTokens
  split
  · rfl
  · exact s.port_modPort_ne _ h

theorem State.countTokens_eq (i : Nat) : s.countTokens i = { s with ports := (s.countTokens i).ports } := by
  unfold State.countTokens
  split <;> rfl

@[simp] theorem State.beyondPorts_countTokens (i : Nat) : (s.countTokens i).beyondPorts = s.beyondPorts := by
  rw [State.countTokens_eq]
  rfl

@[simp] theorem State.beyondLinks_countTokens (i : Nat) : (s.countTokens i).beyondLinks = s.beyondLinks := by
  rw [State.countTokens_eq]
  rfl

@[simp] theorem State.net_countTokens (i : Nat) : (s.countTokens i).net = s.net := (congrArg State.net (s.countTokens_eq i) :)
@[simp] theorem State.logbook_countTokens (i : Nat) : (s.countTokens i).logbook = s.logbook := (congrArg State.logbook (s.countTokens_eq i) :)

/-! ### Leaving service (R243, R253) -/

/-- A port that leaves service, before its state is entered: its link state is as at the start of service. -/
def Port.outOfService (p : Port) : Port :=
  { p.fresh with reach := none, rtt := none, degraded := false, heardRoot := none, calibrated := false }

@[simp] theorem Port.unacked_fresh (p : Port) : p.fresh.unacked = [] := rfl

/-- A port leaves service in steps: tokens counted, link state as at the start, packets to be sent again, a fail-over counted; then
its new state, the time without a tether, the election, and the classes told. -/
def State.laidDown (s : State) (i : Nat) : State :=
  let s1 := (s.countTokens i).modPort i Port.outOfService
  let s2 := { s1 with net := { s1.net with resend := s1.net.resend ++ (s.port i).unacked } }
  if 32 ≤ i then { s2 with logbook := { s2.logbook with failovers := bump 32 s2.logbook.failovers (i - 32) 1 } } else s2

/-- When the last tether port goes, the time without one begins (R253). -/
def State.untethered (s : State) (i : Nat) : State :=
  if 32 ≤ i && s.tetherUp = 0 then { s with twin := { s.twin with tetherDownAt := some s.time.now } } else s

theorem State.leaveService_of_inService {i : Nat} (h : (s.port i).state = .inService) (st : PState) (step : Nat) :
    s.leaveService i st step = (((s.laidDown i).setPState i st step).untethered i).elect.reachChanged := by
  unfold State.leaveService
  rw [if_pos h]
  rfl

theorem State.leaveService_of_ne {i : Nat} (h : (s.port i).state ≠ .inService) (st : PState) (step : Nat) :
    s.leaveService i st step = s.setPState i st step := by
  unfold State.leaveService
  rw [if_neg h]

theorem State.untethered_eq (i : Nat) : s.untethered i = { s with twin := (s.untethered i).twin } := by
  unfold State.untethered
  split <;> rfl

theorem State.laidDown_eq (i : Nat) : s.laidDown i = { (s.countTokens i).modPort i Port.outOfService with
    net := { s.net with resend := s.net.resend ++ (s.port i).unacked }, logbook := (s.laidDown i).logbook } := by
  unfold State.laidDown
  dsimp only
  split <;> simp

theorem State.port_laidDown_self (i : Nat) :
    ∃ tokens slot, (s.laidDown i).port i = { (s.port i).outOfService with tokens := tokens, tokenSlot := slot } := by
  obtain ⟨tokens, slot, hport⟩ := s.port_countTokens_self i
  refine ⟨tokens, slot, ?_⟩
  rw [State.laidDown_eq]
  refine (State.port_modPort_self _ i _).trans ?_
  rw [hport]
  rfl

theorem State.port_laidDown_ne {i j : Nat} (h : j ≠ i) : (s.laidDown i).port j = s.port j := by
  rw [State.laidDown_eq]
  exact (State.port_modPort_ne _ _ h).trans (s.port_countTokens_ne h)

@[simp] theorem State.portBad_laidDown (i : Nat) : (s.laidDown i).logbook.portBad = s.logbook.portBad := by
  unfold State.laidDown
  dsimp only
  split <;> simp

/-- What leaving service makes of the port. -/
theorem State.port_leaveService_self {i : Nat} (h : (s.port i).state = .inService) (st : PState) (step : Nat) :
    ∃ tokens slot, (s.leaveService i st step).port i
      = { (s.port i).outOfService with state := st, step := step, tokens := tokens, tokenSlot := slot } := by
  obtain ⟨tokens, slot, hport⟩ := s.port_laidDown_self i
  refine ⟨tokens, slot, ?_⟩
  rw [State.leaveService_of_inService s h, State.port_reachChanged, State.port_elect, State.untethered_eq]
  refine (State.port_setPState_self _ i st step).trans ?_
  rw [hport]

theorem State.port_leaveService_ne {i j : Nat} (st : PState) (step : Nat) (h : j ≠ i) : (s.leaveService i st step).port j = s.port j := by
  by_cases hin : (s.port i).state = .inService
  · rw [State.leaveService_of_inService s hin, State.port_reachChanged, State.port_elect, State.untethered_eq]
    exact (State.port_setPState_ne _ st step h).trans (s.port_laidDown_ne h)
  · rw [State.leaveService_of_ne s hin, State.port_setPState_ne s st step h]

@[simp] theorem State.state_leaveService (i : Nat) (st : PState) (step : Nat) : ((s.leaveService i st step).port i).state = st := by
  by_cases hin : (s.port i).state = .inService
  · obtain ⟨tokens, slot, hport⟩ := s.port_leaveService_self hin st step
    rw [hport]
  · rw [State.leaveService_of_ne s hin, State.port_setPState_self]

/-- The facts of a port that its service does not change: light, lasers, training, the peer, and the counts of its windows. -/
def Port.standing (p : Port) : Port := { p.outOfService with state := .down, step := 0, tokens := [], tokenSlot := 0 }

@[simp] theorem State.standing_leaveService (i : Nat) (st : PState) (step : Nat) :
    ((s.leaveService i st step).port i).standing = (s.port i).standing := by
  by_cases hin : (s.port i).state = .inService
  · obtain ⟨tokens, slot, hport⟩ := s.port_leaveService_self hin st step
    rw [hport]
    rfl
  · rw [State.leaveService_of_ne s hin, State.port_setPState_self]
    rfl

theorem State.resend_leaveService {i : Nat} (h : (s.port i).state = .inService) (st : PState) (step : Nat) :
    (s.leaveService i st step).net.resend = s.net.resend ++ (s.port i).unacked := by
  rw [State.leaveService_of_inService s h, State.resend_reachChanged, State.net_elect, State.untethered_eq]
  refine (congrArg Net.resend (State.net_setPState _ i st step)).trans ?_
  rw [State.laidDown_eq]

@[simp] theorem State.notes_leaveService (i : Nat) (st : PState) (step : Nat) : (s.leaveService i st step).net.notes = s.net.notes := by
  by_cases hin : (s.port i).state = .inService
  · rw [State.leaveService_of_inService s hin, State.notes_reachChanged, State.net_elect, State.untethered_eq]
    refine (congrArg Net.notes (State.net_setPState _ i st step)).trans ?_
    rw [State.laidDown_eq]
  · rw [State.leaveService_of_ne s hin, State.net_setPState]

@[simp] theorem State.portBad_leaveService (i : Nat) (st : PState) (step : Nat) :
    (s.leaveService i st step).logbook.portBad = s.logbook.portBad := by
  by_cases hin : (s.port i).state = .inService
  · rw [State.leaveService_of_inService s hin, State.logbook_reachChanged, State.logbook_elect, State.untethered_eq]
    exact (State.portBad_setPState _ i st step).trans (s.portBad_laidDown i)
  · rw [State.leaveService_of_ne s hin, State.portBad_setPState]

@[simp] theorem State.beyondLinks_leaveService (i : Nat) (st : PState) (step : Nat) : (s.leaveService i st step).beyondLinks = s.beyondLinks := by
  by_cases hin : (s.port i).state = .inService
  · rw [State.leaveService_of_inService s hin, State.beyondLinks_of_unsent (State.unsent_reachChanged _), State.beyondLinks_elect,
      State.untethered_eq]
    refine (State.beyondLinks_setPState _ i st step).trans ?_
    rw [State.laidDown_eq]
    exact s.beyondLinks_countTokens i
  · rw [State.leaveService_of_ne s hin, State.beyondLinks_setPState]

/-! ### Training begins (R231) -/

/-- A port that trains afresh: nothing kept of an earlier training. -/
def Port.retried (p : Port) : Port := { p with cause := 0, samples := [], peer := none }

variable {s} in
theorem State.beginTraining_of_mayTrain {i : Nat} (h : s.mayTrain i = true) :
    s.beginTraining i = (s.modPort i Port.retried).setPState i .training (if (s.port i).light then 2 else 1) := by
  unfold State.beginTraining
  rw [if_pos h]
  rfl

variable {s} in
theorem State.port_beginTraining_self {i : Nat} (h : s.mayTrain i = true) :
    (s.beginTraining i).port i = { (s.port i).retried with state := .training, step := if (s.port i).light then 2 else 1 } := by
  rw [State.beginTraining_of_mayTrain h, State.port_setPState_self, State.port_modPort_self]

theorem State.port_beginTraining_ne {i j : Nat} (h : j ≠ i) : (s.beginTraining i).port j = s.port j := by
  unfold State.beginTraining
  split
  · exact (State.port_setPState_ne _ _ _ h).trans (s.port_modPort_ne _ h)
  · rfl

@[simp] theorem State.beyondLinks_beginTraining (i : Nat) : (s.beginTraining i).beyondLinks = s.beyondLinks := by
  unfold State.beginTraining
  split
  · exact State.beyondLinks_setPState _ _ _ _
  · rfl

/-! ### A port in service trains again -/

/-- The port after leaving service to train again, at step 2 when there is light. -/
theorem State.port_retrain_self (i : Nat) :
    ∃ step, (s.retrain i).port i = { ((s.leaveService i .training 1).port i).retried with step := step } := by
  unfold State.retrain
  dsimp only
  split
  · exact ⟨2, by rw [State.modPort_modPort, State.port_modPort_self]; rfl⟩
  · exact ⟨_, State.port_modPort_self _ _ _⟩

theorem State.retrain_eq (i : Nat) :
    s.retrain i = { s.leaveService i .training 1 with ports := (s.retrain i).ports } := by
  unfold State.retrain
  dsimp only
  split <;> rfl

@[simp] theorem State.state_retrain (i : Nat) : ((s.retrain i).port i).state = .training := by
  obtain ⟨step, hport⟩ := s.port_retrain_self i
  rw [hport]
  exact s.state_leaveService i _ _

@[simp] theorem State.beyondLinks_retrain (i : Nat) : (s.retrain i).beyondLinks = s.beyondLinks := by
  rw [State.retrain_eq]
  exact s.beyondLinks_leaveService i .training 1

/-! ### DOWN (R230) -/

theorem State.port_sendDown_ne {i j : Nat} (h : j ≠ i) : (s.sendDown i).port j = s.port j := by
  unfold State.sendDown
  split
  · exact (State.port_modPort_ne _ _ h).trans (s.port_leaveService_ne _ _ h)
  · exact s.port_setPState_ne _ _ h

@[simp] theorem State.state_sendDown (i : Nat) : ((s.sendDown i).port i).state = .down := by
  unfold State.sendDown
  split
  · rw [State.port_modPort_self]
    exact s.state_leaveService i _ _
  · rw [State.port_setPState_self]

@[simp] theorem State.beyondLinks_sendDown (i : Nat) : (s.sendDown i).beyondLinks = s.beyondLinks := by
  unfold State.sendDown
  split
  · exact s.beyondLinks_leaveService i .down 0
  · exact s.beyondLinks_setPState i .down 0

/-! ### A cartridge is let go (R252) -/

/-- Letting a cartridge go touches it and its lasers. -/
theorem State.finishRelease_eq (c : Nat) :
    s.finishRelease c = { s with carts := (s.finishRelease c).carts, lasers := (s.finishRelease c).lasers } := by
  unfold State.finishRelease
  split <;> rfl

@[simp] theorem State.port_finishRelease (c j : Nat) : (s.finishRelease c).port j = s.port j :=
  (congrArg (fun u : State => u.port j) (s.finishRelease_eq c) :)
@[simp] theorem State.net_finishRelease (c : Nat) : (s.finishRelease c).net = s.net := (congrArg State.net (s.finishRelease_eq c) :)
@[simp] theorem State.jr_finishRelease (c : Nat) : (s.finishRelease c).jr = s.jr := (congrArg State.jr (s.finishRelease_eq c) :)

/-! ### A walk over ports -/

/-- What a walk over other ports leaves of a port. -/
theorem State.port_foldl_of_notMem {f : State → Nat → State} (hne : ∀ (a : State) (i j : Nat), j ≠ i → (f a i).port j = a.port j)
    {l : List Nat} {j : Nat} (hj : j ∉ l) (s : State) : (l.foldl f s).port j = s.port j := by
  induction l generalizing s with
  | nil => rfl
  | cons i l ih =>
    obtain ⟨hji, hjl⟩ := List.ne_and_not_mem_of_not_mem_cons hj
    rw [List.foldl_cons, ih hjl, hne s i j hji]

/-- A walk over ports, none of them twice, comes to each as it was, and what it makes of it stays. -/
theorem State.port_foldl_of_mem {f : State → Nat → State} (hne : ∀ (a : State) (i j : Nat), j ≠ i → (f a i).port j = a.port j)
    {l : List Nat} {j : Nat} (hl : l.Nodup) (hj : j ∈ l) (s : State) :
    ∃ pre : List Nat, (pre.foldl f s).port j = s.port j ∧ (l.foldl f s).port j = (f (pre.foldl f s) j).port j := by
  obtain ⟨pre, post, rfl⟩ := List.append_of_mem hj
  obtain ⟨hpre, hpost⟩ : j ∉ pre ∧ j ∉ post := by
    simp only [List.nodup_append, List.nodup_cons, List.mem_cons] at hl
    obtain ⟨-, ⟨hpost, -⟩, hdisj⟩ := hl
    exact ⟨fun h => hdisj j h j (.inl rfl) rfl, hpost⟩
  refine ⟨pre, State.port_foldl_of_notMem hne hpre s, ?_⟩
  rw [List.foldl_append, List.foldl_cons, State.port_foldl_of_notMem hne hpost]

theorem nodup_cartPorts {c : Nat} (hc : c < 4) : (cartPorts c).Nodup := by
  interval_cases c <;> decide

theorem portCart_of_mem_cartPorts {c i : Nat} (hc : c < 4) (h : i ∈ cartPorts c) : portCart i = c := by
  simp only [cartPorts, List.mem_append, List.mem_map, List.mem_range, List.mem_singleton] at h
  unfold portCart
  rcases h with ⟨k, hk, rfl⟩ | rfl
  · rw [if_pos (by omega)]
    omega
  · rw [if_neg (by omega)]
    omega

end Sys2Proof.Machine

namespace Sys2Proof.Machine

/-! SUPPORT. The commands on identity, reservations, ports and cartridges (R237, R238, R248, R252). -/

section LinkCommands

variable {h : CmdHead} {s : State}

/-- A command whose effect leaves the journals ends OK. -/
theorem State.endCmd_of_jr_eq {t : State} (ht : t.jr = s.jr) : s.endCmd h (.ok [] t) = ok h [] t :=
  s.endCmd_ok h [] t (s.overfull_of_own t (le_of_eq (congrArg (fun j : Journals => j.own.length) ht)))

/-! ### Identity (R238) -/

/-- Every port in service, in training or REFUSED trains again. -/
def State.retrainPorts (s : State) : State :=
  (List.range 36).foldl (fun a i =>
    if (a.port i).state = .inService ∨ (a.port i).state = .training ∨ (a.port i).state = .refused then a.retrain i else a) s

@[simp] theorem State.beyondLinks_retrainPorts (s : State) : s.retrainPorts.beyondLinks = s.beyondLinks := by
  refine foldl_keeps State.beyondLinks (fun a i => ?_) _ s
  split
  · exact a.beyondLinks_retrain i
  · rfl

/-- The module with its identity and SYSTEM_SIZE set. -/
def State.named (s : State) (ident size : Nat) : State := { s with flash := { s.flash with ident := some (ident, size) } }

theorem exec_moduleIdSet {ident size : Nat} (ht : Taken h true s) (h1 : 1 ≤ size) (hmax : size ≤ 262144) (hin : ident < size)
    (hfree : s.ident = some ident ∨ (s.parts = [] ∧ s.twin.state = .unpaired)) :
    exec (.moduleIdSet h ident size) s = .next (ok h []
      (if s.ident = some ident then s.named ident size else (s.named ident size).retrainPorts.elect)) := by
  have hbad : (decide (size = 0) || decide (262144 < size) || decide (size ≤ ident)) = false := by
    simp [hmax, hin]
    omega
  have hrefuse : ((s.ident != some ident) && (!s.parts.isEmpty || s.twin.state != .unpaired)) = false := by
    rcases hfree with hsame | ⟨hparts, hunpaired⟩
    · simp [hsame]
    · simp [hparts, hunpaired]
  refine (gheit_taken ht hbad).trans (congrArg Host.Outcome.next ?_)
  rw [refuseIf_false hrefuse, refuseIf_nil]
  show s.endCmd h (.ok [] (if (s.ident != some ident) = true then (s.named ident size).retrainPorts.elect else s.named ident size)) = _
  by_cases hsame : s.ident = some ident
  · rw [if_pos hsame, if_neg (by simp [hsame])]
    exact State.endCmd_of_jr_eq rfl
  · rw [if_neg hsame, if_pos (by simp [hsame])]
    have hkept : (s.named ident size).retrainPorts.elect.beyondLinks = (s.named ident size).beyondLinks := by
      rw [State.beyondLinks_elect, State.beyondLinks_retrainPorts]
    exact State.endCmd_of_jr_eq ((State.jr_of_beyondLinks hkept).trans rfl)

/-! ### Reservations (R237) -/

/-- Bringing the tokens of every fabric port up to date changes ports alone. -/
theorem State.countTokens_all_eq (s : State) :
    (List.range 32).foldl (fun a i => a.countTokens i) s
      = { s with ports := ((List.range 32).foldl (fun a i => a.countTokens i) s).ports } :=
  State.eq_of_beyondPorts (foldl_keeps State.beyondPorts (fun a i => a.beyondPorts_countTokens i) _ s)

theorem exec_fabricReserve {n share lend : Nat} {p : Part} (ht : Taken h true s) (hshare : share ≤ 64) (hlend : lend ≤ 1)
    (hp : Tab.get s.parts n = some p)
    (hsum : ((s.parts.filter (fun p => p.1 != n)).map (fun p => p.2.share)).sum + share ≤ 64) (hroom : s.journalRoom 1 = true) :
    exec (.fabricReserve h n share lend) s = .next (ok h [] (State.journalOp
      { (List.range 32).foldl (fun a i => a.countTokens i) s with
        parts := Tab.set s.parts n { p with share := share }, lend := lend = 1 } 0xFFFF (.fabricReserve n share (lend = 1)))) := by
  have hbad : (decide (64 < share) || decide (1 < lend)) = false := by
    simp [hshare, hlend]
  have hhas : Tab.has s.parts n = true := (Tab.has_iff _ _).mpr ⟨p, hp⟩
  have hsum' : decide (64 < ((s.parts.filter (fun p => p.1 != n)).map (fun p => p.2.share)).sum + share) = false :=
    decide_eq_false (by omega)
  refine (gheit_taken ht hbad).trans (congrArg Host.Outcome.next ?_)
  dsimp only
  rw [hhas, if_neg (by simp), refuseIf_false hsum', refuseIf_nil]
  generalize hcount : (List.range 32).foldl (fun (a : State) i => a.countTokens i) s = u
  have hu : u = { s with ports := u.ports } := hcount ▸ s.countTokens_all_eq
  have hparts : u.parts = s.parts := (congrArg State.parts hu :)
  have hjr : u.jr = s.jr := (congrArg State.jr hu :)
  rw [State.modPart_some u _ (hparts ▸ hp), hparts]
  refine s.endCmd_ok h [] _ (State.overfull_journalOp hroom (le_of_eq ?_))
  exact congrArg (fun j : Journals => j.own.length) hjr

/-! ### PORT_RESET (R248) -/

theorem exec_portReset_down {i : Nat} (ht : Taken h true s) (hi : i ≤ 35) (hdown : (s.port i).state = .down) :
    exec (.portReset h i) s = .next (ok h []
      ((s.setPort i { (s.port i) with needReset := false, failures := [] }).beginTraining i)) := by
  refine (gheit_taken ht (decide_eq_false (by omega))).trans (congrArg Host.Outcome.next ?_)
  rw [if_pos hdown]
  exact State.endCmd_of_jr_eq (State.jr_of_beyondLinks (s := s) (State.beyondLinks_beginTraining _ i))

theorem exec_portReset_up {i : Nat} (ht : Taken h true s) (hi : i ≤ 35) (hup : (s.port i).state ≠ .down) :
    exec (.portReset h i) s = .next (ok h [] s) := by
  refine (gheit_taken ht (decide_eq_false (by omega))).trans (congrArg Host.Outcome.next ?_)
  rw [if_neg hup]
  exact State.endCmd_of_jr_eq rfl

/-! ### CARTRIDGE_RELEASE (R252) -/

/-- A port whose retry window is acknowledged goes out of service with DOWN. -/
def State.downIfAcked (s : State) (i : Nat) : State := if (s.port i).unacked.isEmpty then s.sendDown i else s

theorem State.port_downIfAcked_ne (s : State) (i j : Nat) (h : j ≠ i) : (s.downIfAcked i).port j = s.port j := by
  unfold State.downIfAcked
  split
  · exact s.port_sendDown_ne h
  · rfl

theorem State.state_downIfAcked (s : State) {i : Nat} (h : (s.port i).unacked = []) : ((s.downIfAcked i).port i).state = .down := by
  unfold State.downIfAcked
  rw [if_pos (by rw [h]; rfl)]
  exact s.state_sendDown i

@[simp] theorem State.beyondLinks_downIfAcked (s : State) (i : Nat) : (s.downIfAcked i).beyondLinks = s.beyondLinks := by
  unfold State.downIfAcked
  split
  · exact s.beyondLinks_sendDown i
  · rfl

/-- A cartridge that is being released. -/
def State.releasing (s : State) (c : Nat) : State := { s with carts := Tab.set s.carts c { s.cart c with releasing := true } }

/-- The ports of a cartridge once each that may go has gone. -/
def State.releaseFrom (s : State) (c : Nat) : State := (cartPorts c).foldl State.downIfAcked (s.releasing c)

theorem State.beyondLinks_releaseFrom (s : State) (c : Nat) : (s.releaseFrom c).beyondLinks = (s.releasing c).beyondLinks := by
  unfold State.releaseFrom
  exact foldl_keeps State.beyondLinks State.beyondLinks_downIfAcked (cartPorts c) (s.releasing c)

theorem State.cart_releaseFrom (s : State) (c : Nat) : (s.releaseFrom c).cart c = { s.cart c with releasing := true } := by
  rw [State.cart_of_beyondLinks (s.beyondLinks_releaseFrom c)]
  exact Tab.getD_set_self _ _ _ _

theorem State.state_releaseFrom (s : State) {c i : Nat} (hc : c < 4) (hi : i ∈ cartPorts c) (hacked : (s.port i).unacked = []) :
    ((s.releaseFrom c).port i).state ≠ .inService := by
  obtain ⟨pre, hpre, hport⟩ := State.port_foldl_of_mem State.port_downIfAcked_ne (nodup_cartPorts hc) hi (s.releasing c)
  rw [State.releaseFrom, hport, State.state_downIfAcked _ ((congrArg Port.unacked hpre).trans hacked)]
  simp

theorem exec_cartridgeRelease {c : Nat} (ht : Taken h true s) (hc : c ≤ 3) :
    exec (.cartridgeRelease h c) s = .next (ok h [] ((s.releaseFrom c).finishRelease c)) := by
  refine (gheit_taken ht (decide_eq_false (by omega))).trans (congrArg Host.Outcome.next ?_)
  have hjr : (s.releaseFrom c).jr = (s.releasing c).jr := State.jr_of_beyondLinks (s.beyondLinks_releaseFrom c)
  exact State.endCmd_of_jr_eq ((State.jr_finishRelease (s.releaseFrom c) c).trans hjr)

/-- What a cartridge is let go on. -/
theorem State.releases_iff {c : Nat} : ((s.cart c).releasing && (cartPorts c).all (fun i => (s.port i).state != .inService)) = true
    ↔ (s.cart c).releasing = true ∧ ∀ i ∈ cartPorts c, (s.port i).state ≠ .inService := by
  simp

/-- A cartridge being released whose nine ports are all out of service is released. -/
theorem State.cart_finishRelease {c : Nat} (hrel : (s.cart c).releasing = true)
    (hout : ∀ i ∈ cartPorts c, (s.port i).state ≠ .inService) :
    (s.finishRelease c).cart c = { s.cart c with releasing := false, released := true, locked := false } := by
  rw [State.finishRelease, if_pos (State.releases_iff.mpr ⟨hrel, hout⟩)]
  exact Tab.getD_set_self _ _ _ _

theorem State.releasing_or_released_finishRelease {c : Nat} (hrel : (s.cart c).releasing = true) :
    ((s.finishRelease c).cart c).releasing = true ∨ ((s.finishRelease c).cart c).released = true := by
  by_cases hout : ∀ i ∈ cartPorts c, (s.port i).state ≠ .inService
  · right
    rw [State.cart_finishRelease hrel hout]
  · left
    rw [State.finishRelease, if_neg (fun h => hout (State.releases_iff.mp h).2), hrel]

end LinkCommands

/-- Settles O9: each command ends OK since the ports' work leaves the journals (`beyondLinks`); a cartridge's walk over its ports
takes each whose window is acknowledged out of service (`state_releaseFrom`). -/
theorem linkCommandsComplete : Obligations.LinkCommandsComplete := by
  unfold Obligations.LinkCommandsComplete
  refine ⟨?ident, ?reserve, ?reset, ?release⟩
  case ident =>
    intro h ident size s ht h1 hmax hin hfree
    refine ⟨_, exec_moduleIdSet ht h1 hmax hin hfree, ?_⟩
    generalize hres : (if s.ident = some ident then s.named ident size else (s.named ident size).retrainPorts.elect) = t
    have hflash : t.flash = { s.flash with ident := some (ident, size) } := by
      rw [← hres]
      split
      · rfl
      · have hkept : (s.named ident size).retrainPorts.elect.beyondLinks = (s.named ident size).beyondLinks := by
          rw [State.beyondLinks_elect, State.beyondLinks_retrainPorts]
        exact State.flash_of_beyondLinks hkept
    refine ⟨hflash, by rw [State.ident, hflash]; rfl, by rw [State.sysSize, hflash]; rfl, fun hsame => ?_⟩
    rw [← hres, if_pos hsame]
    rfl
  case reserve =>
    intro h n share lend p s ht hshare hlend hp hsum hroom
    exact ⟨_, exec_fabricReserve ht hshare hlend hp hsum hroom, rfl, s.countTokens_all_eq⟩
  case reset =>
    intro h i s ht hi
    exact ⟨exec_portReset_down ht hi, exec_portReset_up ht hi⟩
  case release =>
    intro h c s ht hc
    have hcart := s.cart_releaseFrom c
    have hrel : ((s.releaseFrom c).cart c).releasing = true := by rw [hcart]
    refine ⟨_, exec_cartridgeRelease ht hc, State.releasing_or_released_finishRelease hrel, fun i hi hacked => ?_, fun hall => ?_⟩
    · rw [State.port_finishRelease]
      exact s.state_releaseFrom (by omega) hi hacked
    · rw [State.cart_finishRelease hrel (fun i hi => s.state_releaseFrom (by omega) hi (hall i hi))]
      exact ⟨rfl, rfl⟩

end Sys2Proof.Machine

namespace Sys2Proof.Machine

/-! SUPPORT. Training of a port (R231, R232, R243, R247, R248): its steps, the checks of a TRAIN flit, the time exchanges. -/

section Training

variable {s : State} {i : Nat}

/-- An event of a port that the module has (R22). -/
theorem withUnit_port (hi : i < 36) (t : State) : withUnit (i < 36) t = .next t := withUnit_next t (decide_eq_true hi)

/-! ### Light (Table 8.6a, R243) -/

theorem exec_lightDetected_training (hi : i < 36) (hst : (s.port i).state = .training) (hstep : (s.port i).step = 1) :
    exec (.lightDetected i) s = .next (s.setPort i { (s.port i) with light := true, step := 2 }) := by
  refine (withUnit_port hi _).trans (congrArg Host.Outcome.next ?_)
  conv_lhs => simp only [hst, hstep]
  exact s.modPort_modPort i _ _

theorem exec_lightDetected_down (hi : i < 36) (hst : (s.port i).state = .down) :
    exec (.lightDetected i) s = .next ((s.setPort i { (s.port i) with light := true }).beginTraining i) := by
  refine (withUnit_port hi _).trans (congrArg Host.Outcome.next ?_)
  conv_lhs => simp only [hst]
  rfl

theorem exec_lightLost_inService (hi : i < 36) (hst : (s.port i).state = .inService) :
    exec (.lightLost i) s
      = .next (((s.setPort i { (s.port i) with light := false }).leaveService i .down 0).finishRelease (portCart i)) := by
  refine (withUnit_port hi _).trans (congrArg Host.Outcome.next ?_)
  conv_lhs => simp only [hst]
  rfl

theorem exec_lightLost_training (hi : i < 36) (hst : (s.port i).state = .training) :
    exec (.lightLost i) s = .next (s.setPort i { (s.port i) with light := false, step := 1 }) := by
  refine (withUnit_port hi _).trans (congrArg Host.Outcome.next ?_)
  conv_lhs => simp only [hst]
  exact s.modPort_modPort i _ _

/-! ### Steps 2 and 3, and the limits (R231, R248) -/

theorem exec_equaliserLocked (hi : i < 36) (hst : (s.port i).state = .training) (hstep : (s.port i).step = 2) :
    exec (.equaliserLocked i) s = .next (s.setPort i { (s.port i) with step := 3 }) := by
  refine (withUnit_port hi _).trans (congrArg Host.Outcome.next ?_)
  rw [if_pos ⟨hst, hstep⟩]
  rfl

theorem exec_codewordBoundariesFound (hi : i < 36) (hst : (s.port i).state = .training) (hstep : (s.port i).step = 3) :
    exec (.codewordBoundariesFound i) s
      = .next (s.setPort i { (s.port i) with step := 4, ctl := (s.port i).ctl ++ [.train (s.trainFlit i)] }) := by
  refine (withUnit_port hi _).trans (congrArg Host.Outcome.next ?_)
  rw [if_pos ⟨hst, hstep⟩]
  rfl

theorem exec_trainingStepTimeout (hi : i < 36) (hst : (s.port i).state = .training) :
    exec (.trainingStepTimeout i) s = .next (s.setPort i { (s.port i) with step := 1, samples := [], peer := none, ctl := [] }) := by
  refine (withUnit_port hi _).trans (congrArg Host.Outcome.next ?_)
  rw [if_pos hst]
  rfl

/-- The failed trainings of a port within 10 s, this one among them (R248). -/
def State.failuresWith (s : State) (i : Nat) : List Nat :=
  (s.time.now :: (s.port i).failures).filter (fun u => s.time.now < u + 10000000000)

theorem exec_trainingTimeout (hi : i < 36) (hst : (s.port i).state = .training) :
    exec (.trainingTimeout i) s = .next ((s.setPort i { (s.port i) with
      failures := s.failuresWith i, needReset := 3 ≤ (s.failuresWith i).length, ctl := [] }).setPState i .down 0) := by
  refine (withUnit_port hi _).trans (congrArg Host.Outcome.next ?_)
  rw [if_pos hst]
  rfl

theorem exec_portRetry (hi : i < 36) (hst : (s.port i).state = .down ∨ (s.port i).state = .refused) :
    exec (.portRetry i) s = .next (s.beginTraining i) := by
  refine (withUnit_port hi _).trans (congrArg Host.Outcome.next ?_)
  rw [if_pos hst]

/-! ### TRAIN (R232, R242) -/

variable {f : TrainFlit}

theorem exec_train_refused {c : Nat} (hi : i < 36) (hst : (s.port i).state = .training) (hstep : (s.port i).step = 4)
    (hc : s.refusal i f = some c) : exec (.train i f) s = .next (s.refusePort i c f) := by
  refine (withUnit_port hi _).trans (congrArg Host.Outcome.next ?_)
  rw [if_pos ⟨hst, hstep⟩]
  simp only [hc]

/-- A TRAIN flit taken: the port is in step 5 with the peer's facts. -/
def Port.met (p : Port) (f : TrainFlit) : Port :=
  { p with step := 5, peer := some f, peerSwitch := f.switch, remoteRtt := f.remoteRtt, samples := [], syncDue := true }

theorem exec_train_met (hi : i < 36) (hst : (s.port i).state = .training) (hstep : (s.port i).step = 4) (hc : s.refusal i f = none) :
    exec (.train i f) s = .next ((s.seeIncarnation f).modPort i (fun p => p.met f)) := by
  refine (withUnit_port hi _).trans (congrArg Host.Outcome.next ?_)
  rw [if_pos ⟨hst, hstep⟩]
  simp only [hc]
  exact (s.seeIncarnation f).modPort_modPort i _ _

theorem State.port_refusePort (s : State) (i c : Nat) (f : TrainFlit) : (s.refusePort i c f).port i
    = { (s.port i) with state := .refused, step := 0, cause := c, peer := some f, peerSwitch := f.switch, remoteRtt := f.remoteRtt, ctl := [] } := by
  have hport : (((s.modPort i (fun p => { p with
      cause := c, peer := some f, peerSwitch := f.switch, remoteRtt := f.remoteRtt, ctl := [] })).setPState i .refused 0).port i)
      = { (s.port i) with state := .refused, step := 0, cause := c, peer := some f, peerSwitch := f.switch, remoteRtt := f.remoteRtt, ctl := [] } := by
    rw [State.port_setPState_self, State.port_modPort_self]
  unfold State.refusePort
  dsimp only
  split <;> exact hport

/-- Slots that a port holds for messages to be dropped are freed; its state stays. -/
theorem State.state_foldl_release (l : List (Nat × Nat × Nat)) (s : State) (i : Nat) :
    ((l.foldl (fun a e => a.modPort e.2.1 (fun p => p.release e.1 e.2.2)) s).port i).state = (s.port i).state := by
  refine foldl_keeps (fun u : State => (u.port i).state) (fun a e => ?_) l s
  by_cases h : i = e.2.1
  · rw [h, State.port_modPort_self]
    rfl
  · rw [State.port_modPort_ne _ _ h]

theorem State.state_restartPeer (s : State) (d inc i : Nat) : ((s.restartPeer d inc).port i).state = (s.port i).state := by
  unfold State.restartPeer
  dsimp only
  refine (State.state_foldl_release _ _ i).trans ?_
  split <;> rfl

/-- A new incarnation of a peer leaves the state of every port. -/
theorem State.state_seeIncarnation (s : State) (f : TrainFlit) (i : Nat) : ((s.seeIncarnation f).port i).state = (s.port i).state := by
  unfold State.seeIncarnation
  split
  · split
    · split
      · rfl
      · exact s.state_restartPeer _ _ i
    · rfl
  · rfl

/-! ### Time exchanges (R245, R247) -/

/-- The sample that a TIME_REPLY at t4 completes. -/
def State.sampleOf (s : State) (t1 t2 t3 : Int) : Int := (s.time.now - t1) - (t3 - t2)

/-- A TIME_REPLY has come for the exchange under way. -/
def State.replied (s : State) (i : Nat) : State :=
  s.modPort i (fun p => { p with replyT4 := if p.rxReplayed then none else some (s.time.now : Int), syncT1 := none })

variable {t1 t2 t3 : Int}

theorem exec_timeReply_sample (hi : i < 36) (hst : (s.port i).state = .training) (hstep : (s.port i).step = 5)
    (ht1 : (s.port i).syncT1 = some t1) (hlen : (s.port i).samples.length < 63) :
    exec (.timeReply i t2 t3) s = .next (((s.replied i).modPort i (fun p => { p with
      samples := s.sampleOf t1 t2 t3 :: (s.port i).samples })).sendSync i) := by
  refine (withUnit_port hi _).trans (congrArg Host.Outcome.next ?_)
  simp only [ht1]
  rw [if_pos ⟨hst, hstep⟩, if_pos (by simpa using by omega)]
  rfl

theorem exec_timeReply_reach (hi : i < 36) (hst : (s.port i).state = .training) (hstep : (s.port i).step = 5)
    (ht1 : (s.port i).syncT1 = some t1) (hlen : 63 ≤ (s.port i).samples.length)
    (hrtt : 12000 ≤ (medianOf (s.sampleOf t1 t2 t3 :: (s.port i).samples)).toNat) :
    exec (.timeReply i t2 t3) s
      = .next (((s.replied i).modPort i (fun p => { p with cause := 4, ctl := [], samples := [] })).setPState i .refused 0) := by
  refine (withUnit_port hi _).trans (congrArg Host.Outcome.next ?_)
  simp only [ht1]
  rw [if_pos ⟨hst, hstep⟩, if_neg (by simpa using by omega)]
  exact if_pos hrtt

theorem exec_timeReply_enter (hi : i < 36) (hst : (s.port i).state = .training) (hstep : (s.port i).step = 5)
    (ht1 : (s.port i).syncT1 = some t1) (hlen : 63 ≤ (s.port i).samples.length)
    (hrtt : (medianOf (s.sampleOf t1 t2 t3 :: (s.port i).samples)).toNat < 12000) :
    exec (.timeReply i t2 t3) s
      = .next (((s.replied i).modPort i (fun p => { p with samples := (s.sampleOf t1 t2 t3 :: (s.port i).samples).take 16 })).enterService i
          (medianOf (s.sampleOf t1 t2 t3 :: (s.port i).samples)).toNat) := by
  refine (withUnit_port hi _).trans (congrArg Host.Outcome.next ?_)
  simp only [ht1]
  rw [if_pos ⟨hst, hstep⟩, if_neg (by simpa using by omega)]
  exact if_neg (by unfold State.sampleOf at hrtt; omega)

/-! ### Entering service (R234, R235, R314, R404) -/

theorem State.ports_beginAuth (s : State) : s.beginAuth.ports = s.ports := by
  unfold State.beginAuth
  split
  · exact (congrArg State.ports (State.eq_of_unsent (State.unsent_send _ _ _ _)) :)
  · rfl

theorem State.ports_askTwin (s : State) : s.askTwin.ports = s.ports := by
  unfold State.askTwin
  split
  · split
    · exact (congrArg State.ports (State.eq_of_unsent (s.unsent_send _ _ _)) :)
    · rfl
  · rfl

@[simp] theorem State.ports_tetherEnters (s : State) : s.tetherEnters.ports = s.ports := by
  unfold State.tetherEnters
  split
  · exact s.ports_askTwin
  · split
    · exact s.ports_beginAuth
    · rfl

/-- A port that enters service: groups from 0, every credit count 0, its class set. -/
theorem State.port_enterService (s : State) (i rtt : Nat) : (s.enterService i rtt).port i = { (s.port i).fresh with
    state := .inService, step := 0, rtt := some rtt
    reach := reachOf (rtt + (if (s.port i).peerSwitch then (s.port i).remoteRtt else 0)), calibrated := true, tokenSlot := s.flitSlot } := by
  unfold State.enterService
  dsimp only
  rw [State.port_reachChanged]
  split
  · rw [State.port, State.ports_tetherEnters]
    refine (State.port_setPState_self _ i .inService 0).trans ?_
    rw [State.port_setPort_self]
  · rw [State.port_setPState_self, State.port_setPort_self]

end Training

/-- Settles O25: each event takes the branch that its hypotheses name; leaving and entering service are read off the port
(`port_leaveService_self`, `port_enterService`), and a peer's new incarnation leaves the port's state. -/
theorem trainingRowsComplete : Obligations.TrainingRowsComplete := by
  unfold Obligations.TrainingRowsComplete
  refine ⟨?light, ?down, ?lost, ?lostTraining, ?equaliser, ?boundaries, ?stepLimit, ?limit, ?retry, ?train, ?reply⟩
  case light =>
    intro i s hi hst hstep
    exact ⟨_, exec_lightDetected_training hi hst hstep, s.port_setPort_self i _, fun j hj => s.port_setPort_ne _ hj, rfl⟩
  case down => exact fun i s hi hst => exec_lightDetected_down hi hst
  case lost =>
    intro i s hi hst
    generalize hu : s.setPort i { (s.port i) with light := false } = u
    have hport : u.port i = { (s.port i) with light := false } := by rw [← hu, State.port_setPort_self]
    have hin : (u.port i).state = .inService := by rw [hport, hst]
    obtain ⟨tokens, slot, hleft⟩ := u.port_leaveService_self hin .down 0
    refine ⟨_, hu ▸ exec_lightLost_inService hi hst, ?_, ?_, ?_, ?_, fun j hj => ?_⟩
    · rw [State.port_finishRelease, hleft]
    · rw [State.port_finishRelease, hleft, hport]
      rfl
    · rw [State.port_finishRelease, hleft]
      rfl
    · rw [State.net_finishRelease, State.resend_leaveService u hin, hport, ← hu]
      rfl
    · rw [State.port_finishRelease, State.port_leaveService_ne u _ _ hj, ← hu, State.port_setPort_ne _ _ hj]
  case lostTraining =>
    intro i s hi hst
    exact ⟨_, exec_lightLost_training hi hst, s.port_setPort_self i _, rfl⟩
  case equaliser => exact fun i s hi hst hstep => exec_equaliserLocked hi hst hstep
  case boundaries => exact fun i s hi hst hstep => exec_codewordBoundariesFound hi hst hstep
  case stepLimit => exact fun i s hi hst => exec_trainingStepTimeout hi hst
  case limit =>
    intro i s hi hst
    refine ⟨_, exec_trainingTimeout hi hst, ?_⟩
    rw [State.port_setPState_self, State.port_setPort_self]
    exact ⟨rfl, rfl, decide_eq_true_iff⟩
  case retry =>
    intro i s hi hst hmay
    refine ⟨_, exec_portRetry hi hst, ?_⟩
    rw [State.port_beginTraining_self hmay]
    exact ⟨rfl, rfl, rfl, rfl, fun j hj => s.port_beginTraining_ne hj⟩
  case train =>
    intro i f s hi hst hstep
    refine ⟨fun c hc => ⟨_, exec_train_refused hi hst hstep hc, ?_⟩, fun hc => ⟨_, exec_train_met hi hst hstep hc, ?_⟩⟩
    · rw [State.port_refusePort]
      exact ⟨rfl, rfl⟩
    · rw [State.port_modPort_self]
      exact ⟨(s.state_seeIncarnation f i).trans hst, rfl, rfl, rfl, rfl⟩
  case reply =>
    intro i t1 t2 t3 s hi hst hstep ht1
    have hreplied : ((s.replied i).port i).state = .training := by
      rw [State.replied, State.port_modPort_self]
      exact hst
    rcases Nat.lt_or_ge (s.port i).samples.length 63 with hlen | hlen
    · refine ⟨_, exec_timeReply_sample hi hst hstep ht1 hlen, fun _ => ?_, fun h => by omega, fun h => by omega⟩
      rw [State.sendSync, State.port_modPort_self, State.port_modPort_self]
      exact ⟨hreplied, rfl⟩
    · rcases Nat.lt_or_ge (medianOf (s.sampleOf t1 t2 t3 :: (s.port i).samples)).toNat 12000 with hrtt | hrtt
      · refine ⟨_, exec_timeReply_enter hi hst hstep ht1 hlen hrtt, fun h => by omega, fun _ _ => ?_, fun _ h => ?_⟩
        · rw [State.port_enterService]
          exact ⟨rfl, rfl, rfl, rfl, rfl, rfl⟩
        · exact absurd hrtt (Nat.not_lt.mpr h)
      · refine ⟨_, exec_timeReply_reach hi hst hstep ht1 hlen hrtt, fun h => by omega, fun _ h => ?_, fun _ _ => ?_⟩
        · exact absurd h (Nat.not_lt.mpr hrtt)
        · rw [State.port_setPState_self, State.port_modPort_self]
          exact ⟨rfl, rfl⟩

end Sys2Proof.Machine

namespace Sys2Proof.Machine

/-! SUPPORT. Fabric time over the links (R245, R246): SYNC and REPLY, the choice of the root. -/

section FabricTime

variable {s : State} {i : Nat}

/-! ### The choice of the root (R246) -/

/-- The least of a number and of a list's figures is at most each of them, and is one of them. -/
theorem foldl_min_spec {α : Type} (g : α → Nat) (l : List α) (m : Nat) :
    l.foldl (fun a e => min a (g e)) m ≤ m ∧ (∀ e ∈ l, l.foldl (fun a e => min a (g e)) m ≤ g e)
      ∧ (l.foldl (fun a e => min a (g e)) m = m ∨ ∃ e ∈ l, l.foldl (fun a e => min a (g e)) m = g e) := by
  induction l generalizing m with
  | nil => exact ⟨le_rfl, fun e he => absurd he List.not_mem_nil, .inl rfl⟩
  | cons x l ih =>
    obtain ⟨hle, hall, hone⟩ := ih (min m (g x))
    rw [List.foldl_cons]
    refine ⟨hle.trans (min_le_left _ _), List.forall_mem_cons.mpr ⟨hle.trans (min_le_right _ _), hall⟩, ?_⟩
    rcases hone with hmin | ⟨e, he, heq⟩
    · rcases min_choice m (g x) with hm | hx
      · exact .inl (hmin.trans hm)
      · exact .inr ⟨x, List.mem_cons_self, hmin.trans hx⟩
    · exact .inr ⟨e, List.mem_cons_of_mem _ he, heq⟩

/-- The identity of the root: the least heard, or this module's own. -/
def State.rootOf (s : State) (me : Nat) : Nat := s.heard.foldl (fun a e => min a e.2.1) me

/-- An election leaves the count and how far time is disciplined. -/
theorem State.count_elect (s : State) :
    s.elect.time.now = s.time.now ∧ s.elect.time.inSync = s.time.inSync ∧ s.elect.time.stepped = s.time.stepped := by
  unfold State.elect
  dsimp only
  split
  · exact ⟨rfl, rfl, rfl⟩
  · exact ⟨rfl, rfl, rfl⟩
  · split <;> exact ⟨rfl, rfl, rfl⟩

/-- The module that hears no smaller identity than its own is the root, at no hop from itself. -/
theorem State.elect_of_least {me : Nat} (hme : s.ident = some me) (hbest : s.rootOf me = me) :
    s.elect.time.root = me ∧ s.elect.time.isRoot = true ∧ s.elect.time.hops = 0 ∧ s.elect.time.upstream = none := by
  unfold State.elect
  cases hheard : s.heard with
  | nil => simp [hme]
  | cons e l =>
    have hbest' : (e :: l).foldl (fun a h => min a h.2.1) me = me := hheard ▸ hbest
    simp only [hme]
    rw [if_pos hbest']
    exact ⟨rfl, rfl, rfl, rfl⟩

/-- One that hears a smaller one follows it. -/
theorem State.elect_of_smaller {me : Nat} (hme : s.ident = some me) (hbest : s.rootOf me ≠ me) :
    s.elect.time.root = s.rootOf me ∧ s.elect.time.isRoot = false := by
  unfold State.rootOf at hbest ⊢
  unfold State.elect
  cases hheard : s.heard with
  | nil => exact absurd (by rw [hheard]; rfl) hbest
  | cons e l =>
    rw [hheard] at hbest
    simp only [hme]
    rw [if_neg hbest]
    exact ⟨rfl, rfl⟩

/-! ### A correction of fabric time (R246, R452) -/

/-- What the exchange of times keeps at a port. -/
def Port.exchange (p : Port) : Bool × Option Int × Option Int × Option Int × Option (Nat × Nat × Bool) :=
  (p.replyDue, p.rxT1, p.rxT2, p.rxT3, p.heardRoot)

@[simp] theorem State.ports_closeWindow (s : State) (stop next : Nat) : (s.closeWindow stop next).ports = s.ports := by
  unfold State.closeWindow
  dsimp only
  split
  · rfl
  · split <;> rfl

/-- A step of the count moves stamps that a duration is measured from, not the times of an exchange. -/
theorem State.exchange_stepTime (s : State) (now j : Nat) : ((s.stepTime now).port j).exchange = (s.port j).exchange := by
  have hports : ∀ u : State, u.ports = s.ports → ((u.shiftStamps s.time.now now).port j).exchange = (s.port j).exchange := by
    intro u hu
    rw [State.port, State.port, State.shiftStamps, Tab.getD, Tab.get_mapVals, hu, Tab.getD]
    cases Tab.get s.ports j <;> rfl
  unfold State.stepTime
  dsimp only
  split
  · exact hports _ (State.ports_closeWindow _ _ _)
  · exact hports _ rfl

theorem State.exchange_discipline (s : State) (i : Nat) (t1 t2 t3 t4 : Int) (peer : Bool) (j : Nat) :
    ((s.discipline i t1 t2 t3 t4 peer).port j).exchange = (s.port j).exchange := by
  unfold State.discipline
  dsimp only
  split
  · exact State.exchange_stepTime _ _ j
  · rfl

/-- After its one step, fabric time is corrected by rate, and no port changes. -/
theorem State.ports_discipline (h : s.time.inSync = true ∨ s.time.stepped = true) (i : Nat) (t1 t2 t3 t4 : Int) (peer : Bool) :
    (s.discipline i t1 t2 t3 t4 peer).ports = s.ports := by
  have hrate : (!s.time.inSync && !s.time.stepped) = false := by
    rcases h with h | h <;> simp [h]
  unfold State.discipline
  dsimp only
  rw [if_neg (by rw [hrate]; exact Bool.false_ne_true)]

/-! ### SYNC and REPLY (R245) -/

/-- A TIME_SYNC is taken: the announcement, the times of the exchange, a reply due. -/
def State.hearSync (s : State) (i : Nat) (f : SyncFlit) : State := s.modPort i (fun q => { q with
  heardRoot := if i < 32 then some (f.rootId, f.hops, f.inSync) else none
  heardAt := s.time.now
  rxT1 := if (s.port i).rxReplayed then none else some f.t1, rxT2 := some (s.time.now : Int), rxT3 := none
  replyDue := true })

/-- The times of the peer's exchange that a TIME_SYNC completes. -/
def Port.completedBy (p : Port) (f : SyncFlit) : Option (Int × Int × Int × Int) :=
  match f.t4, p.rxT1, p.rxT2, p.rxT3 with
  | some t4, some t1, some t2, some t3 => some (t1, t2, t3, t4)
  | _, _, _, _ => none

/-- The election after a completed exchange, its round trip among the port's samples. -/
def State.sampled (s : State) (i : Nat) (f : SyncFlit) (e : Int × Int × Int × Int) : State :=
  ((s.hearSync i f).modPort i (fun q => { q with samples := (((e.2.2.2 - e.1) - (e.2.2.1 - e.2.1)) :: q.samples).take 16 })).elect

variable {f : SyncFlit}

theorem State.exchange_hearSync (s : State) (i : Nat) (f : SyncFlit) : ((s.hearSync i f).port i).exchange
    = (true, if (s.port i).rxReplayed then none else some f.t1, some (s.time.now : Int), none,
        if i < 32 then some (f.rootId, f.hops, f.inSync) else none) := by
  rw [State.hearSync, State.port_modPort_self]
  rfl

theorem State.exchange_sampled (s : State) (i : Nat) (f : SyncFlit) (e : Int × Int × Int × Int) :
    ((s.sampled i f e).port i).exchange = ((s.hearSync i f).port i).exchange := by
  rw [State.sampled, State.port_elect, State.port_modPort_self]
  rfl

theorem State.port_sampled_ne (s : State) {i j : Nat} (f : SyncFlit) (e : Int × Int × Int × Int) (h : j ≠ i) :
    (s.sampled i f e).port j = s.port j := by
  rw [State.sampled, State.port_elect, State.port_modPort_ne _ _ h, State.hearSync, State.port_modPort_ne _ _ h]

theorem exec_timeSync_open (hi : i < 36) (hst : (s.port i).state = .inService) (hnone : (s.port i).completedBy f = none) :
    exec (.timeSync i f) s = .next (s.hearSync i f).elect := by
  refine (withUnit_port hi _).trans (congrArg Host.Outcome.next ?_)
  dsimp only
  rw [if_pos (.inl hst), if_pos hst]
  change (match (s.port i).completedBy f with | some (t1, t2, t3, t4) => _ | none => _) = _
  rw [hnone]
  change State.elect (match (s.port i).completedBy f with | some (t1, t2, t3, t4) => _ | none => s.hearSync i f) = _
  rw [hnone]

theorem exec_timeSync_completed {e : Int × Int × Int × Int} (hi : i < 36) (hst : (s.port i).state = .inService)
    (he : (s.port i).completedBy f = some e) :
    exec (.timeSync i f) s = .next (if (s.sampled i f e).time.upstream = some i
      then (s.sampled i f e).discipline i e.1 e.2.1 e.2.2.1 e.2.2.2 f.inSync else s.sampled i f e) := by
  refine (withUnit_port hi _).trans (congrArg Host.Outcome.next ?_)
  rw [if_pos (.inl hst)]
  unfold Port.completedBy at he
  split at he
  case h_1 t4 u1 u2 u3 h4 h1 h2 h3 =>
    cases he
    simp only [h4, h1, h2, h3, hst]
    change (if (decide ((s.sampled i f (u1, u2, u3, t4)).time.upstream = some i) && decide True) = true then _ else _) = _
    rw [decide_true, Bool.and_true]
    simp only [decide_eq_true_eq]
    rfl
  case h_2 => cases he

theorem exec_timeReply_inService {t1 : Int} (hi : i < 36) (hst : (s.port i).state = .inService) (ht1 : (s.port i).syncT1 = some t1)
    (t2 t3 : Int) : exec (.timeReply i t2 t3) s = .next (s.replied i) := by
  refine (withUnit_port hi _).trans (congrArg Host.Outcome.next ?_)
  simp only [ht1]
  rw [if_neg (by simp [hst])]
  rfl

theorem exec_timeSyncTimer (hi : i < 36) (hst : (s.port i).state = .inService) :
    exec (.timeSyncTimer i) s = .next (s.setPort i { (s.port i) with syncDue := true }) := by
  refine (withUnit_port hi _).trans (congrArg Host.Outcome.next ?_)
  rw [if_pos hst]
  rfl

theorem exec_rootTimeout (hl : s.live = true) : exec .rootTimeout s = .next s.elect := congrArg Host.Outcome.next (if_pos hl)

theorem exec_rootInSync {since : Nat} (hl : s.live = true) (hsince : s.time.rootSince = some since)
    (hlong : since + 1000000000 ≤ s.time.now) :
    exec .rootInSync s = .next { s with time := { s.time with inSync := true } } := by
  refine congrArg Host.Outcome.next ?_
  simp only [hsince]
  exact if_pos (by rw [hl, decide_eq_true hlong]; rfl)

end FabricTime

/-- Settles O27: the times of an exchange outlast the election and any correction (`exchange_discipline`); the least identity heard
is elected (`foldl_min_spec`). -/
theorem fabricTimeRowsComplete : Obligations.FabricTimeRowsComplete := by
  unfold Obligations.FabricTimeRowsComplete
  refine ⟨?sync, ?reply, ?timer, ?root, ?inSync⟩
  case sync =>
    intro i f s hi hst
    have hrow : ∃ t : State, exec (.timeSync i f) s = .next t ∧ (t.port i).exchange = ((s.hearSync i f).port i).exchange
        ∧ ((s.time.inSync = true ∨ s.time.stepped = true) → ∀ j, j ≠ i → t.port j = s.port j) := by
      cases he : (s.port i).completedBy f with
      | none =>
        refine ⟨_, exec_timeSync_open hi hst he, by rw [State.port_elect], fun _ j hj => ?_⟩
        rw [State.port_elect, State.hearSync, State.port_modPort_ne _ _ hj]
      | some e =>
        refine ⟨_, exec_timeSync_completed hi hst he, ?_, fun hsync j hj => ?_⟩
        · split
          · exact (State.exchange_discipline _ _ _ _ _ _ _ i).trans (s.exchange_sampled i f e)
          · exact s.exchange_sampled i f e
        · split
          · obtain ⟨-, hin, hstepped⟩ := State.count_elect ((s.hearSync i f).modPort i (fun q => { q with
              samples := (((e.2.2.2 - e.1) - (e.2.2.1 - e.2.1)) :: q.samples).take 16 }))
            have hsync' : (s.sampled i f e).time.inSync = true ∨ (s.sampled i f e).time.stepped = true :=
              hsync.imp hin.trans hstepped.trans
            rw [State.port, State.ports_discipline hsync' _ _ _ _ _ _]
            exact s.port_sampled_ne f e hj
          · exact s.port_sampled_ne f e hj
    obtain ⟨t, hexec, hexchange, hothers⟩ := hrow
    rw [State.exchange_hearSync] at hexchange
    simp only [Port.exchange, Prod.mk.injEq] at hexchange
    obtain ⟨hdue, ht1, ht2, ht3, hroot⟩ := hexchange
    exact ⟨t, hexec, hdue, ht1, ht2, ht3, fun h => hroot.trans (if_pos h), hothers⟩
  case reply =>
    intro i t1 t2 t3 s hi hst ht1
    exact exec_timeReply_inService hi hst ht1 t2 t3
  case timer => exact fun i s hi hst => exec_timeSyncTimer hi hst
  case root =>
    intro me s hl hme
    obtain ⟨hle, hall, hone⟩ := foldl_min_spec (fun e : Nat × Nat × Nat × Bool => e.2.1) s.heard me
    refine ⟨_, exec_rootTimeout hl, s.elect_eq, s.count_elect.1, ?_⟩
    by_cases hbest : s.rootOf me = me
    · obtain ⟨hroot, his, hhops, hup⟩ := State.elect_of_least hme hbest
      rw [hroot]
      exact ⟨le_rfl, fun e he => hbest ▸ hall e he, .inl rfl, by simp [his], fun _ => ⟨hhops, hup⟩⟩
    · obtain ⟨hroot, his⟩ := State.elect_of_smaller hme hbest
      rw [hroot]
      exact ⟨hle, hall, hone, by simp [his, hbest], by simp [his]⟩
  case inSync => exact fun since s hl hsince hlong => exec_rootInSync hl hsince hlong

end Sys2Proof.Machine

namespace Sys2Proof.Machine

/-! SUPPORT. Winch-to-winch messages (R240, R256, R259, R268, R310, R318, R340, R349, R356, R405, R428). -/

section WinchControl

variable {s u : State} {src : Nat} {a : Arrived} {rest : List Arrived}

/-- What a winch-to-winch message does to the module that it has come to. -/
def State.onWinch (s : State) (src : Nat) (a : Arrived) : WinchMsg → State
  | .discovery i block _ => s.discover i block a.port
  | .planReport ctx p classes => s.planReport src ctx p classes
  | .planResult ctx r => s.planDone ctx r
  | .planRefused ctx i mismatch => s.planRefused src ctx i mismatch
  | .planClasses ctx i classes => s.planClasses src ctx i classes
  | .groupNeighbours ctx g ns => s.onGroup a ctx g (fun t => t.groupReport src ctx g ns)
  | .groupNodes ctx g nodes => s.onGroup a ctx g (fun t => t.groupNodes src ctx g nodes)
  | .groupAsk ctx g => s.onGroup a ctx g (fun t => t.groupAsked src ctx g)
  | .pairInfo i => s.hearPair src i
  | .unpaired => if s.isTwin src then s.loseTwin else s
  | .mirrorFault ctx commit e time => if s.isTwin src then s.mirrorFault ctx commit e time else s
  | .recordRequest partner seq => if s.isTwin src then s.answerRecord src partner seq else s
  | .recordAnswer partner r => if s.isTwin src then s.takeRecord partner r else s
  | .faultNotice _ => s
  | .imageRequest ident => s.serveImage ident
  | .recoveryImage _ => s
  | .restoreAnswer facts => s.restoreAnswered src facts
  | .restoreChecked ok => s.restoreHeard src ok

/-- A protected message goes over the tether (R311, R313). -/
theorem Msg.onTether_of_isProtected {m : Msg} (h : m.isProtected = true) : m.onTether = true := by
  unfold Msg.isProtected at h
  split at h
  case h_8 => exact h
  all_goals exact absurd h Bool.false_ne_true

/-- A delivered message is not turned away for its tag. -/
theorem Delivered.tagFails_eq_false {vc : Nat} (h : Delivered src vc a rest s) : (a.msg.isProtected && !a.authOk) = false := by
  obtain ⟨-, -, htag⟩ := h
  cases hp : a.msg.isProtected with
  | false => rfl
  | true => rw [htag (Msg.onTether_of_isProtected hp)]; rfl

theorem exec_winchControl {m : WinchMsg} (hdel : Delivered src 1 a rest s) (ha : a.msg = .winch m) :
    exec (.winchControl src) s = .next ((s.setInbox rest).onWinch src a m) := by
  have htag := hdel.tagFails_eq_false
  obtain ⟨hl, htake, -⟩ := hdel
  refine congrArg Host.Outcome.next ?_
  unfold onMessage
  rw [if_neg (by rw [hl]; exact Bool.false_ne_true), htake]
  simp only [ha]
  rw [← ha, htag, if_neg Bool.false_ne_true]
  cases m <;> rfl

/-! ### Discovery (R240) -/

theorem getLsbD_or_twoPow (b : BitVec 32) {p : Nat} (hp : p < 32) : (b ||| BitVec.ofNat 32 (2 ^ p)).getLsbD p = true := by
  rw [BitVec.getLsbD_or, BitVec.getLsbD_ofNat, Nat.testBit_two_pow_self]
  simp [hp]

/-- An identity discovered is reached through the port its message came in on. -/
theorem State.routeMask_discover {i port : Nat} {block : Bool} (hp : port < 32) (hi : i < 2 ^ 18)
    (hblock : block = true → Tab.has s.net.direct i = false) : ((s.discover i block port).routeMask i).getLsbD port = true := by
  unfold State.discover
  rw [if_neg (by omega)]
  dsimp only
  split
  · rw [State.routeMask, State.direct_reachChanged]
    simp only [Tab.get_set_self]
    exact getLsbD_or_twoPow _ hp
  case isFalse hdirect =>
    have hnone : Tab.get s.net.direct i = none := by
      have hhas : Tab.has s.net.direct i = false := by
        cases hb : block with
        | true => exact hblock hb
        | false =>
          rw [hb] at hdirect
          simp at hdirect
          exact hdirect.1
      simpa [Tab.has] using hhas
    have hmod : i / 64 % 4096 = i / 64 := Nat.mod_eq_of_lt (by omega)
    rw [State.routeMask, State.direct_reachChanged, State.blocks_reachChanged]
    simp only [hnone, hmod, Tab.getD_set_self]
    exact getLsbD_or_twoPow _ hp

/-! ### Groups destroyed (R356) -/

theorem State.onGroup_standing {ctx g : Nat} {f : State → State} (h : ∀ x, s.ctx? ctx = some x → g ∉ x.goneGroups) :
    s.onGroup a ctx g f = f s := by
  unfold State.onGroup
  cases hx : s.ctx? ctx with
  | none => rfl
  | some x => simp [h x hx]

theorem State.onGroup_gone {ctx g : Nat} {x : Ctx} {f : State → State} (hx : s.ctx? ctx = some x) (hg : g ∈ x.goneGroups) :
    s.onGroup a ctx g f = s.misroutedMsg a.port := by
  simp [State.onGroup, hx, hg]

/-! ### Twins (R310, R318, R340, R349, R428) -/

/-- A module without its twin, whose own restore has not been held back. -/
theorem State.twin_loseTwin (hw : s.twin.withheld = none) :
    s.loseTwin.twin.state = .twinLost ∧ s.loseTwin.twin.holdsPartner = true := by
  have hset : ∀ t : State, (t.setTwin .twinLost).twin = { t.twin with state := .twinLost } := by
    intro t
    unfold State.setTwin
    split
    case isTrue h => rw [← h]
    case isFalse => rw [State.twin_event]; rfl
  have hlost : (((s.modTwin (fun t => { t with exposed := true, holdsPartner := true, partnerOf := t.twinId, auth := {}
                                               peerInfo := none })).setTwin .twinLost).countEvent 9).twin
      = { s.twin with exposed := true, holdsPartner := true, partnerOf := s.twin.twinId, auth := {}, peerInfo := none
                      state := .twinLost } := hset _
  unfold State.loseTwin
  dsimp only
  rw [hlost]
  simp only [hw]
  rw [hlost]
  exact ⟨rfl, rfl⟩

theorem mem_putRec (l : List JRec) (r : JRec) : r ∈ putRec l r := by simp [putRec]

theorem mem_addExts_singleton (l : List ExtentId) (e : ExtentId) : e ∈ addExts l [e] := by
  show e ∈ if l.contains e = true then l else l ++ [e]
  split
  case isTrue h => exact List.contains_iff_mem.mp h
  case isFalse => exact List.mem_append_right l (List.mem_singleton_self e)

/-- An error record leaves the contexts. -/
theorem State.ctxs_putError (s : State) (r : ErrRec) : (s.putError r).ctxs = s.ctxs := State.ctxs_event _ _ _ _ _ _

theorem State.ctx?_mirrorFault {ctx : Nat} {x : Ctx} (hx : s.ctx? ctx = some x) (commit : Nat) (e : ExtentId) (time : Nat) :
    (s.mirrorFault ctx commit e time).ctx? ctx = some { x with damaged := true, dirty := addExts x.dirty [e] } := by
  unfold State.mirrorFault
  dsimp only
  rw [State.modCtx_some (x := x)]
  · exact Tab.get_set_self _ _ _
  · rw [State.ctx?, State.ctxs_putError]
    exact hx

theorem State.hearPair_told {i : PairInfo} (hid : s.twin.twinId = some src) (hasks : i.asks = false) :
    s.hearPair src i = { s with twin := { s.twin with peerInfo := some i } } := by
  unfold State.hearPair
  dsimp only
  rw [if_pos hid, if_neg (by rw [hasks]; exact Bool.false_ne_true)]
  rfl

theorem State.hearPair_asked {i : PairInfo} (hid : s.twin.twinId = some src) (hasks : i.asks = true) (hup : 0 < s.tetherUp) :
    s.hearPair src i = (s.modTwin (fun t => { t with peerInfo := some i })).send src none
      (.winch (.pairInfo ((s.modTwin (fun t => { t with peerInfo := some i })).pairInfo false))) := by
  unfold State.hearPair
  dsimp only
  rw [if_pos hid, if_pos hasks]
  exact if_pos hup

end WinchControl

/-- Settles O35: a delivered message does what its kind does (`exec_winchControl`), on the state without it in the inbox. -/
theorem winchControlCompletes : Obligations.WinchControlCompletes := by
  unfold Obligations.WinchControlCompletes
  rintro src a rest m s u hdel ha rfl
  have hexec := exec_winchControl hdel ha
  refine ⟨?port, ?block, ?report, ?result, ?refused, ?classes, ?group, ?gone, ?pair, ?unpaired, ?request, ?answer, ?fault, ?image, ?nothing⟩
  case port =>
    rintro i x rfl hp hi
    exact ⟨_, hexec, State.routeMask_discover hp hi (fun h => absurd h Bool.false_ne_true)⟩
  case block =>
    rintro i x rfl hp hi hdirect
    exact ⟨_, hexec, State.routeMask_discover hp hi (fun _ => hdirect)⟩
  case report =>
    rintro ctx p classes rfl
    exact hexec
  case result =>
    rintro ctx r rfl
    exact hexec
  case refused =>
    rintro ctx i e rfl
    exact hexec
  case classes =>
    rintro ctx i classes rfl
    exact hexec
  case group =>
    intro ctx g hstands
    refine ⟨?_, ?_, ?_⟩
    · rintro ns rfl
      rwa [State.onWinch, State.onGroup_standing (s := s.setInbox rest) hstands] at hexec
    · rintro nodes rfl
      rwa [State.onWinch, State.onGroup_standing (s := s.setInbox rest) hstands] at hexec
    · rintro rfl
      rwa [State.onWinch, State.onGroup_standing (s := s.setInbox rest) hstands] at hexec
  case gone =>
    intro ctx g x hx hg hm
    rcases hm with ⟨ns, rfl⟩ | ⟨nodes, rfl⟩ | rfl <;> rwa [State.onWinch, State.onGroup_gone (s := s.setInbox rest) hx hg] at hexec
  case pair =>
    rintro i rfl
    refine ⟨fun hid hasks => ?_, fun hid hasks hup => ⟨_, rfl, ?_⟩⟩
    · exact hexec.trans (congrArg _ (State.hearPair_told hid hasks))
    · exact hexec.trans (congrArg _ (State.hearPair_asked hid hasks hup))
  case unpaired =>
    rintro rfl htwin hw
    exact ⟨_, hexec.trans (congrArg _ (if_pos htwin)), State.twin_loseTwin hw⟩
  case request =>
    rintro partner seq q rfl htwin hq
    refine hexec.trans (congrArg _ ((if_pos htwin).trans ?_))
    unfold State.answerRecord
    change (match (if partner then s.jr.partner else s.jr.own).find? (fun r => r.seq = seq) with | some r => _ | none => _) = _
    rw [hq]
  case answer =>
    rintro partner q rfl htwin
    refine ⟨_, hexec.trans (congrArg _ (if_pos htwin)), rfl, ?_, ?_⟩
    · rintro rfl
      exact mem_putRec _ q
    · rintro rfl
      exact mem_putRec _ q
  case fault =>
    rintro ctx commit e time x rfl htwin hx
    exact ⟨_, _, hexec.trans (congrArg _ (if_pos htwin)), State.ctx?_mirrorFault (s := s.setInbox rest) hx commit e time, rfl, mem_addExts_singleton _ e⟩
  case image =>
    rintro ident r rfl hrun htwin
    refine hexec.trans (congrArg _ ?_)
    have hserves : (s.live && (s.twin.twinId = some ident || (s.twin.holdsPartner && s.twin.partnerOf = some ident))) = true := by
      rw [hdel.live]
      simpa using htwin
    show State.serveImage _ ident = _
    unfold State.serveImage
    change (match s.boot.running with | some r => _ | none => _) = _
    rw [hrun]
    exact if_pos hserves
  case nothing =>
    rintro (⟨i, rfl⟩ | ⟨b, rfl⟩) <;> exact hexec

end Sys2Proof.Machine

namespace Sys2Proof.Machine

/-! SUPPORT. Health of the ports, lasers and cartridges (R247 to R252, R434, R466, R467). -/

section PortHealth

variable {s t : State} {i c : Nat}

/-! ### Tables set entry by entry -/

/-- A table of which entries are set one after another holds at each of their keys what is set there. -/
theorem Tab.getD_foldl_set {α : Type} {k : Nat → Nat} {g : Tab α → Nat → α} {P : Nat → α → Prop} (hP : ∀ t n, P (k n) (g t n))
    (d : α) {l : List Nat} {n : Nat} (hn : n ∈ l) (t : Tab α) :
    P (k n) (Tab.getD (l.foldl (fun u m => Tab.set u (k m) (g u m)) t) (k n) d) := by
  suffices h : ∀ (l : List Nat) (t : Tab α), n ∈ l ∨ P (k n) (Tab.getD t (k n) d) →
      P (k n) (Tab.getD (l.foldl (fun u m => Tab.set u (k m) (g u m)) t) (k n) d) from h l t (.inl hn)
  intro l
  induction l with
  | nil => exact fun t h => h.resolve_left List.not_mem_nil
  | cons m l ih =>
    intro t h
    refine ih _ ?_
    by_cases hkey : k n = k m
    · right
      rw [hkey, Tab.getD_set_self]
      exact hP t m
    · rw [Tab.getD_set_ne _ _ _ hkey]
      rcases h with hmem | hval
      · exact .inl ((List.mem_cons.mp hmem).resolve_left (fun h => hkey (congrArg k h)))
      · exact .inr hval

/-- The twelve lasers of a cartridge, set one after another. -/
theorem Tab.getD_foldl_lasers (hi : i < 12) (g : Tab Laser → Nat → Laser) (P : Nat → Laser → Prop) (hP : ∀ t n, P n (g t n))
    (t : Tab Laser) :
    P i (Tab.getD ((List.range 12).foldl (fun ls n => Tab.set ls (12 * c + n) (g ls n)) t) (12 * c + i) {}) := by
  have h := Tab.getD_foldl_set (k := fun n => 12 * c + n) (g := g) (P := fun j => P (j - 12 * c)) (d := {})
    (fun t n => by simpa using hP t n) (List.mem_range.mpr hi) t
  simpa using h

/-- Entries set one after another under their own keys. -/
theorem Tab.getD_foldl_keys {α : Type} {l : List Nat} {n : Nat} (hn : n ∈ l) (g : Tab α → Nat → α) (P : α → Prop)
    (hP : ∀ t n, P (g t n)) (d : α) (t : Tab α) : P (Tab.getD (l.foldl (fun u m => Tab.set u m (g u m)) t) n d) :=
  Tab.getD_foldl_set (k := fun m => m) (P := fun _ => P) hP d hn t

/-- A count that has risen, short of its greatest value. -/
theorem getD_bump_self (bits : Nat) (t : Tab Nat) (i n : Nat) :
    Tab.getD (bump bits t i n) i 0 = min (2 ^ bits - 1) (Tab.getD t i 0 + n) :=
  Tab.getD_set_self t i _ 0

/-! ### The end of a window (R247, R248, R434) -/

/-- The counts of a port's windows. -/
def Port.counts (p : Port) : List Nat :=
  [p.lastSymErr, p.lastBad, p.lastNaks, p.lastReplays, p.lastMisrouted, p.lastDuplicates, p.symErr, p.badGroups, p.misrouted]

/-- A port whose window has ended: its counts go to the registers. -/
def Port.windowed (p : Port) : Port := { p with
  lastSymErr := p.symErr, lastBad := p.badGroups, lastNaks := p.naks, lastReplays := p.replays
  lastMisrouted := p.misrouted, lastDuplicates := p.duplicates
  symErr := 0, badGroups := 0, naks := 0, replays := 0, misrouted := 0, duplicates := 0 }

/-- The logbook after a port's window: its histogram and sums. -/
def Logbook.windowed (l : Logbook) (i : Nat) (p : Port) : Logbook := { l with
  serHist := if p.state = .inService then bump 64 l.serHist (16 * i + serBin p.symErr) 1 else l.serHist
  portBad := bump 64 l.portBad i p.badGroups
  portMisrouted := bump 64 l.portMisrouted i p.misrouted
  portDuplicates := bump 64 l.portDuplicates i p.duplicates }

/-- A port with the figures of its path out of sight. -/
def Port.pathless (p : Port) : Port := { p with rtt := none, reach := none, newReach := 0, newCount := 0 }

/-- A window's round trip alters the figures of the path alone (R247). -/
theorem Port.pathless_windowReach (p : Port) : p.windowReach.1.pathless = p.pathless := by
  unfold Port.windowReach
  split
  · rfl
  · dsimp only
    split
    · rfl
    · split
      · rfl
      · split <;> split <;> rfl

/-- A port in service after its window, with the class that has changed, if one has. -/
def Port.judged (p : Port) : Port × Option Nat :=
  ({ p.windowed with degraded := p.windowed.degraded || 8500 < p.symErr } : Port).windowReach

theorem Port.pathless_judged (p : Port) :
    p.judged.1.pathless = { p.windowed.pathless with degraded := p.degraded || 8500 < p.symErr } := Port.pathless_windowReach _

theorem Port.counts_judged (p : Port) : p.judged.1.counts = p.windowed.counts := (congrArg Port.counts p.pathless_judged :)

theorem Port.degraded_judged (p : Port) : p.judged.1.degraded = (p.degraded || decide (8500 < p.symErr)) :=
  (congrArg Port.degraded p.pathless_judged :)

/-- A change of a port's class is noted and told. -/
def State.noteReach (s : State) (i : Nat) (changed : Option Nat) : State :=
  match changed with
  | some c => (s.noteLink (.reach i c)).reachChanged
  | none => s

theorem State.noteReach_frame (s : State) (i : Nat) (changed : Option Nat) :
    (s.noteReach i changed).ports = s.ports ∧ (s.noteReach i changed).logbook = s.logbook ∧ (s.noteReach i changed).time = s.time := by
  cases changed with
  | none => exact ⟨rfl, rfl, rfl⟩
  | some c =>
    have h := State.eq_of_unsent (State.unsent_reachChanged (s.noteLink (.reach i c)))
    exact ⟨(congrArg State.ports h :), (congrArg State.logbook h :), (congrArg State.time h :)⟩

/-- The counts of a port in service are taken at the end of its window. -/
def State.counted (s : State) (i : Nat) : State :=
  { s.setPort i (s.port i).judged.1 with logbook := s.logbook.windowed i (s.port i) }

/-- A port in service at the end of its window, before it may have to train again. -/
def State.windowEnded (s : State) (i : Nat) : State :=
  let u := (s.counted i).noteReach i (s.port i).judged.2
  if (s.port i).judged.1.degraded && !(s.port i).degraded then u.noteLink (.degraded i) else u

theorem State.port_windowEnded (s : State) (i : Nat) : (s.windowEnded i).port i = (s.port i).judged.1 := by
  obtain ⟨hports, -, -⟩ := (s.counted i).noteReach_frame i (s.port i).judged.2
  have hport : Tab.getD ((s.counted i).noteReach i (s.port i).judged.2).ports i {} = (s.port i).judged.1 := by
    rw [hports]
    exact s.port_setPort_self i _
  unfold State.windowEnded
  dsimp only
  split <;> exact hport

theorem State.logbook_windowEnded (s : State) (i : Nat) : (s.windowEnded i).logbook = s.logbook.windowed i (s.port i) := by
  obtain ⟨-, hlog, -⟩ := (s.counted i).noteReach_frame i (s.port i).judged.2
  unfold State.windowEnded
  dsimp only
  split <;> exact hlog

/-- A port that becomes degraded is noted, with the time (R248). -/
theorem State.note_windowEnded (h : (s.port i).judged.1.degraded = true) (hnew : (s.port i).degraded = false) :
    (s.time.now, .degraded i) ∈ (s.windowEnded i).net.notes := by
  obtain ⟨-, -, htime⟩ := (s.counted i).noteReach_frame i (s.port i).judged.2
  unfold State.windowEnded
  dsimp only
  rw [if_pos (by rw [h, hnew]; rfl)]
  refine List.mem_append_right _ (List.mem_singleton.mpr ?_)
  rw [htime]
  rfl

theorem exec_portWindowEnd_out (hi : i < 36) (hp : s.boot.powered = true) (hst : (s.port i).state ≠ .inService) :
    exec (.portWindowEnd i) s = .next { s.setPort i (s.port i).windowed with logbook := s.logbook.windowed i (s.port i) } := by
  refine (withUnit_port hi _).trans (congrArg Host.Outcome.next ?_)
  dsimp only
  rw [hp, if_neg (by simp), if_pos (by simpa using hst)]
  rfl

theorem exec_portWindowEnd_inService (hi : i < 36) (hp : s.boot.powered = true) (hst : (s.port i).state = .inService) :
    exec (.portWindowEnd i) s = .next (if 16 < (s.port i).badGroups then (s.windowEnded i).retrain i else s.windowEnded i) := by
  refine (withUnit_port hi _).trans (congrArg Host.Outcome.next ?_)
  dsimp only
  rw [hp, if_neg (by simp), if_neg (by simp [hst])]
  rfl

theorem Port.counts_standing (p : Port) : p.standing.counts = p.counts := rfl

theorem State.counts_leaveService (s : State) (i : Nat) (st : PState) (step : Nat) :
    ((s.leaveService i st step).port i).counts = (s.port i).counts := by
  rw [← Port.counts_standing, State.standing_leaveService, Port.counts_standing]

theorem Port.counts_retried (p : Port) (step : Nat) : ({ p.retried with step := step } : Port).counts = p.counts := rfl

/-- Training again leaves the counts of the windows. -/
theorem State.counts_retrain (s : State) (i : Nat) : ((s.retrain i).port i).counts = (s.port i).counts := by
  obtain ⟨step, hport⟩ := s.port_retrain_self i
  rw [hport, Port.counts_retried, State.counts_leaveService]

theorem State.portBad_retrain (s : State) (i : Nat) : (s.retrain i).logbook.portBad = s.logbook.portBad := by
  rw [State.retrain_eq]
  exact s.portBad_leaveService i .training 1

/-! ### Lasers (R248, R250) -/

/-- A port whose laser group has failed: it goes out of service. -/
def State.laserOut (s : State) (i : Nat) : State :=
  let b := s.modPort i (fun p => { p with laserOk := false })
  if (b.port i).state = .down then b else b.leaveService i .down 0

theorem State.port_laserOut_ne (s : State) (i j : Nat) (h : j ≠ i) : (s.laserOut i).port j = s.port j := by
  unfold State.laserOut
  dsimp only
  split
  · exact s.port_modPort_ne _ h
  · exact (State.port_leaveService_ne _ _ _ h).trans (s.port_modPort_ne _ h)

theorem Port.laserOk_standing (p : Port) : p.standing.laserOk = p.laserOk := rfl

theorem State.laserOk_leaveService (s : State) (i : Nat) (st : PState) (step : Nat) :
    ((s.leaveService i st step).port i).laserOk = (s.port i).laserOk := by
  rw [← Port.laserOk_standing, State.standing_leaveService, Port.laserOk_standing]

theorem State.port_laserOut_self (s : State) (i : Nat) : ((s.laserOut i).port i).state = .down ∧ ((s.laserOut i).port i).laserOk = false := by
  have hfailed : ((s.modPort i (fun p => { p with laserOk := false })).port i).laserOk = false := by rw [State.port_modPort_self]
  unfold State.laserOut
  dsimp only
  split
  case isTrue h => exact ⟨h, hfailed⟩
  case isFalse => exact ⟨State.state_leaveService _ _ _ _, (State.laserOk_leaveService _ i .down 0).trans hfailed⟩

theorem State.beyondLinks_laserOut (s : State) (i : Nat) : (s.laserOut i).beyondLinks = s.beyondLinks := by
  unfold State.laserOut
  dsimp only
  split
  · rfl
  · exact State.beyondLinks_leaveService _ _ _ _

theorem State.notes_laserOut (s : State) (i : Nat) : (s.laserOut i).net.notes = s.net.notes := by
  unfold State.laserOut
  dsimp only
  split
  · rfl
  · exact State.notes_leaveService _ _ _ _

/-- A laser's bias is measured; at 130 % of its factory bias it has aged, which is noted once (R248). -/
def State.biased (s : State) (l bias : Nat) : State :=
  let old := decide (130 * (s.laser l).factory ≤ 100 * bias)
  { (if old && !(s.laser l).aged then s.noteLink (.laserAgeing l) else s) with
    lasers := Tab.set s.lasers l { (s.laser l) with bias := bias, aged := (s.laser l).aged || old } }

theorem State.biased_eq (s : State) (l bias : Nat) : s.biased l bias = { s with
    lasers := Tab.set s.lasers l { (s.laser l) with bias := bias, aged := (s.laser l).aged || decide (130 * (s.laser l).factory ≤ 100 * bias) }
    net := { s.net with notes := (s.biased l bias).net.notes } } := by
  unfold State.biased
  dsimp only
  split <;> rfl

theorem State.note_biased {l bias : Nat} (hnew : (s.laser l).aged = false) (hold : 130 * (s.laser l).factory ≤ 100 * bias) :
    (s.time.now, .laserAgeing l) ∈ (s.biased l bias).net.notes := by
  unfold State.biased
  dsimp only
  rw [if_pos (by rw [decide_eq_true hold, hnew]; rfl)]
  exact List.mem_append_right _ (List.mem_singleton_self _)

theorem exec_laserBiasLimit_failed {l bias : Nat} (hl : l < 48) (hf : 0 < (s.laser l).factory)
    (hfail : (s.laser l).factory * 160 ≤ bias * 100) :
    exec (.laserBiasLimit l bias) s = .next ((laserPorts l).foldl State.laserOut (s.biased l bias)) := by
  refine (withUnit_next _ (decide_eq_true hl)).trans (congrArg Host.Outcome.next ?_)
  exact if_pos (by rw [decide_eq_true hfail, decide_eq_true hf]; rfl)

theorem exec_laserBiasLimit_lasts {l bias : Nat} (hl : l < 48) (hlasts : bias * 100 < (s.laser l).factory * 160) :
    exec (.laserBiasLimit l bias) s = .next (s.biased l bias) := by
  refine (withUnit_next _ (decide_eq_true hl)).trans (congrArg Host.Outcome.next ?_)
  exact if_neg (by rw [decide_eq_false (by omega), Bool.false_and]; exact Bool.false_ne_true)

theorem nodup_laserPorts (l : Nat) : (laserPorts l).Nodup := by
  unfold laserPorts
  dsimp only
  split
  · simp
    omega
  · simp

/-! ### Cartridges (R252, R466, R467) -/

theorem State.cart_of_carts {k : Cart} (h : s.carts = Tab.set t.carts c k) : s.cart c = k := by
  rw [State.cart, h, Tab.getD_set_self]

/-- A cartridge goes in: its laser identity block gives the lasers, no laser group of it has failed, the logbook counts it. -/
def State.inserted (s : State) (c serial : Nat) (factory : List Nat) : State := { s with
  carts := Tab.set s.carts c { present := true, serial := serial }
  lasers := (List.range 12).foldl (fun ls i => Tab.set ls (12 * c + i) { factory := factory.getD i 0 }) s.lasers
  ports := (cartPorts c).foldl (fun ps i => Tab.set ps i { Tab.getD ps i {} with laserOk := true }) s.ports
  logbook := { s.logbook with
    cartSerial := Tab.set s.logbook.cartSerial c serial
    cartChanges := bump 32 s.logbook.cartChanges c 1
    peakPermille := s.logbook.peakPermille.filter (fun e => e.1 / 12 != c) } }

theorem exec_cartridgeInsert (hc : c < 4) (serial : Nat) (factory : List Nat) :
    exec (.cartridgeInsert c serial factory) s = .next (s.inserted c serial factory) := withUnit_next _ (decide_eq_true hc)

theorem State.cart_inserted (s : State) (c serial : Nat) (factory : List Nat) :
    (s.inserted c serial factory).cart c = { present := true, serial := serial } := State.cart_of_carts (t := s) rfl

theorem State.lasers_inserted (s : State) (c serial : Nat) (factory : List Nat) : (s.inserted c serial factory).lasers
    = (List.range 12).foldl (fun ls i => Tab.set ls (12 * c + i) { factory := factory.getD i 0 }) s.lasers := by
  unfold State.inserted
  dsimp only

theorem State.ports_inserted (s : State) (c serial : Nat) (factory : List Nat) : (s.inserted c serial factory).ports
    = (cartPorts c).foldl (fun ps i => Tab.set ps i { Tab.getD ps i {} with laserOk := true }) s.ports := by
  unfold State.inserted
  dsimp only

theorem State.laser_inserted (s : State) (c serial : Nat) (factory : List Nat) (hi : i < 12) :
    (s.inserted c serial factory).laser (12 * c + i) = { factory := factory.getD i 0 } := by
  rw [State.laser, State.lasers_inserted]
  exact Tab.getD_foldl_lasers hi (fun _ i => { factory := factory.getD i 0 }) (fun i z => z = { factory := factory.getD i 0 })
    (fun _ _ => rfl) s.lasers

theorem State.laserOk_inserted (s : State) (serial : Nat) (factory : List Nat) (hi : i ∈ cartPorts c) :
    ((s.inserted c serial factory).port i).laserOk = true := by
  rw [State.port, State.ports_inserted]
  exact Tab.getD_foldl_keys hi (fun ps i => { Tab.getD ps i {} with laserOk := true }) (fun p => p.laserOk = true) (fun _ _ => rfl) {} s.ports

theorem State.inserted_eq (s : State) (c serial : Nat) (factory : List Nat) : s.inserted c serial factory = { s with
    carts := (s.inserted c serial factory).carts, lasers := (s.inserted c serial factory).lasers
    ports := (s.inserted c serial factory).ports, logbook := (s.inserted c serial factory).logbook } := by
  unfold State.inserted
  dsimp only

/-- A port that is DOWN begins to train. -/
def State.trainIfDown (s : State) (i : Nat) : State := if (s.port i).state = .down then s.beginTraining i else s

theorem State.port_trainIfDown_ne (s : State) (i j : Nat) (h : j ≠ i) : (s.trainIfDown i).port j = s.port j := by
  unfold State.trainIfDown
  split
  · exact s.port_beginTraining_ne h
  · rfl

theorem State.beyondLinks_trainIfDown (s : State) (i : Nat) : (s.trainIfDown i).beyondLinks = s.beyondLinks := by
  unfold State.trainIfDown
  split
  · exact s.beyondLinks_beginTraining i
  · rfl

/-- A cartridge whose lasers are all at their wavelength. -/
def State.locked (s : State) (c : Nat) : State := { s with
  carts := Tab.set s.carts c { s.cart c with locked := true, released := false, releasing := false }
  lasers := (List.range 12).foldl (fun ls i => Tab.set ls (12 * c + i) { Tab.getD ls (12 * c + i) {} with lit := true }) s.lasers }

theorem State.lasers_locked (s : State) (c : Nat) : (s.locked c).lasers
    = (List.range 12).foldl (fun ls i => Tab.set ls (12 * c + i) { Tab.getD ls (12 * c + i) {} with lit := true }) s.lasers := by
  unfold State.locked
  dsimp only

theorem State.cart_locked (s : State) (c : Nat) :
    (s.locked c).cart c = { s.cart c with locked := true, released := false, releasing := false } :=
  State.cart_of_carts (t := s) rfl

theorem exec_laserLock (hc : c < 4) (hpresent : (s.cart c).present = true) :
    exec (.laserLock c) s = .next ((cartPorts c).foldl State.trainIfDown (s.locked c)) :=
  (withUnit_next _ (decide_eq_true hc)).trans (congrArg Host.Outcome.next (if_pos hpresent))

/-- With its cartridge locked, a port may train that is not held back itself (R248, R250). -/
theorem State.mayTrain_of_locked (hl : s.live = true) (hok : (s.port i).laserOk = true) (hreset : (s.port i).needReset = false)
    {k : Cart} (hcart : s.cart (portCart i) = { k with locked := true, released := false, releasing := false }) (hpresent : k.present = true) :
    s.mayTrain i = true := by
  simp [State.mayTrain, hl, hok, hreset, hcart, hpresent]

/-- A port in service goes out of it with DOWN. -/
def State.downIfIn (s : State) (i : Nat) : State := if (s.port i).state = .inService then s.sendDown i else s

theorem State.port_downIfIn_ne (s : State) (i j : Nat) (h : j ≠ i) : (s.downIfIn i).port j = s.port j := by
  unfold State.downIfIn
  split
  · exact s.port_sendDown_ne h
  · rfl

theorem State.state_downIfIn (s : State) (i : Nat) : ((s.downIfIn i).port i).state ≠ .inService := by
  unfold State.downIfIn
  split
  case isTrue => rw [State.state_sendDown]; simp
  case isFalse h => exact h

theorem State.beyondLinks_downIfIn (s : State) (i : Nat) : (s.downIfIn i).beyondLinks = s.beyondLinks := by
  unfold State.downIfIn
  split
  · exact s.beyondLinks_sendDown i
  · rfl

theorem exec_cartridgeReleaseTimeout (hc : c < 4) (hrel : (s.cart c).releasing = true) :
    exec (.cartridgeReleaseTimeout c) s = .next (((cartPorts c).foldl State.downIfIn s).finishRelease c) :=
  (withUnit_next _ (decide_eq_true hc)).trans (congrArg Host.Outcome.next (if_pos hrel))

theorem State.lasers_finishRelease (hrel : (s.cart c).releasing = true) (hout : ∀ j ∈ cartPorts c, (s.port j).state ≠ .inService) :
    (s.finishRelease c).lasers
      = (List.range 12).foldl (fun ls i => Tab.set ls (12 * c + i) { Tab.getD ls (12 * c + i) {} with lit := false }) s.lasers := by
  rw [State.finishRelease, if_pos (State.releases_iff.mpr ⟨hrel, hout⟩)]

/-- A cartridge let go is dark (R252). -/
theorem State.lit_finishRelease (hrel : (s.cart c).releasing = true) (hout : ∀ j ∈ cartPorts c, (s.port j).state ≠ .inService)
    (hi : i < 12) : ((s.finishRelease c).laser (12 * c + i)).lit = false := by
  rw [State.laser, State.lasers_finishRelease hrel hout]
  exact Tab.getD_foldl_lasers hi (fun ls i => { Tab.getD ls (12 * c + i) {} with lit := false }) (fun _ z => z.lit = false) (fun _ _ => rfl)
    s.lasers

end PortHealth

/-- Settles O28: the counts of a port outlast its training again (`counts_retrain`); a walk over the ports of a laser group or of a
cartridge comes to each of them once (`port_foldl_of_mem`). -/
theorem portHealthRowsComplete : Obligations.PortHealthRowsComplete := by
  unfold Obligations.PortHealthRowsComplete
  refine ⟨?window, ?laser, ?insert, ?lock, ?timeout⟩
  case window =>
    intro i s hi hp
    by_cases hst : (s.port i).state = .inService
    · refine ⟨_, exec_portWindowEnd_inService hi hp hst, ?_⟩
      generalize ht : (if 16 < (s.port i).badGroups then (s.windowEnded i).retrain i else s.windowEnded i) = t
      have hcounts : (t.port i).counts = (s.port i).windowed.counts := by
        rw [← Port.counts_judged, ← State.port_windowEnded, ← ht]
        split
        · exact State.counts_retrain _ i
        · rfl
      have hbad : t.logbook.portBad = bump 64 s.logbook.portBad i (s.port i).badGroups := by
        rw [← ht]
        split
        · rw [State.portBad_retrain, State.logbook_windowEnded]
          rfl
        · rw [State.logbook_windowEnded]
          rfl
      simp only [Port.counts, Port.windowed, List.cons.injEq] at hcounts
      obtain ⟨h1, h2, h3, h4, h5, h6, h7, h8, h9, -⟩ := hcounts
      refine ⟨h1, h2, h3, h4, h5, h6, h7, h8, h9, ?_, fun _ hsym hfew => ?_, fun _ hmany => ?_⟩
      · rw [hbad, getD_bump_self]
      · have hdeg : (s.port i).judged.1.degraded = true := by rw [Port.degraded_judged, decide_eq_true hsym, Bool.or_true]
        rw [← ht, if_neg (by omega), State.port_windowEnded]
        exact ⟨hdeg, State.note_windowEnded hdeg⟩
      · rw [← ht, if_pos hmany, State.state_retrain]
    · refine ⟨_, exec_portWindowEnd_out hi hp hst, ?_⟩
      generalize ht : { s.setPort i (s.port i).windowed with logbook := s.logbook.windowed i (s.port i) } = t
      have hport : t.port i = (s.port i).windowed := ht ▸ s.port_setPort_self i _
      have hbad : t.logbook.portBad = bump 64 s.logbook.portBad i (s.port i).badGroups := ht ▸ rfl
      rw [hport, hbad, getD_bump_self]
      exact ⟨rfl, rfl, rfl, rfl, rfl, rfl, rfl, rfl, rfl, rfl, fun h => absurd h hst, fun h => absurd h hst⟩
  case laser =>
    intro l bias s hl hf
    have hlaser : Tab.getD (s.biased l bias).lasers l {}
        = { (s.laser l) with bias := bias, aged := (s.laser l).aged || decide (130 * (s.laser l).factory ≤ 100 * bias) } := by
      rw [State.biased_eq]
      exact Tab.getD_set_self _ _ _ _
    by_cases hlasts : bias * 100 < (s.laser l).factory * 160
    · refine ⟨_, exec_laserBiasLimit_lasts hl hlasts, ?_⟩
      rw [State.laser, hlaser]
      exact ⟨rfl, by simp, fun h => absurd hlasts (by omega), fun _ => s.biased_eq l bias, State.note_biased⟩
    · refine ⟨_, exec_laserBiasLimit_failed hl hf (by omega), ?_⟩
      generalize ht : (laserPorts l).foldl State.laserOut (s.biased l bias) = t
      have hlasers : t.lasers = (s.biased l bias).lasers :=
        ht ▸ foldl_keeps State.lasers (fun a i => State.lasers_of_beyondLinks (a.beyondLinks_laserOut i)) (laserPorts l) (s.biased l bias)
      have hnotes : t.net.notes = (s.biased l bias).net.notes :=
        ht ▸ foldl_keeps (fun a : State => a.net.notes) State.notes_laserOut (laserPorts l) (s.biased l bias)
      rw [State.laser, hlasers, hlaser, hnotes]
      refine ⟨rfl, by simp, fun _ i hi => ?_, fun h => absurd h hlasts, State.note_biased⟩
      obtain ⟨pre, -, hport⟩ := State.port_foldl_of_mem State.port_laserOut_ne (nodup_laserPorts l) hi (s.biased l bias)
      rw [← ht, hport]
      exact State.port_laserOut_self _ i
  case insert =>
    intro c serial factory s hc
    exact ⟨_, exec_cartridgeInsert hc serial factory, s.cart_inserted c serial factory, fun i hi => s.laser_inserted c serial factory hi,
      fun i hi => s.laserOk_inserted serial factory hi, Tab.getD_set_self s.logbook.cartSerial c serial 0,
      getD_bump_self 32 s.logbook.cartChanges c 1, s.inserted_eq c serial factory⟩
  case lock =>
    intro c s hc hpresent
    refine ⟨_, exec_laserLock hc hpresent, ?_⟩
    generalize ht : (cartPorts c).foldl State.trainIfDown (s.locked c) = t
    have hkept : t.beyondLinks = (s.locked c).beyondLinks :=
      ht ▸ foldl_keeps State.beyondLinks State.beyondLinks_trainIfDown (cartPorts c) (s.locked c)
    have hcart : t.cart c = { s.cart c with locked := true, released := false, releasing := false } := by
      rw [State.cart_of_beyondLinks hkept, State.cart_locked]
    rw [hcart]
    refine ⟨rfl, rfl, rfl, fun i hi => ?_, fun hlive i hi hdown hok hreset => ?_⟩
    · rw [State.laser, State.lasers_of_beyondLinks hkept, State.lasers_locked]
      exact Tab.getD_foldl_lasers hi (fun ls i => { Tab.getD ls (12 * c + i) {} with lit := true }) (fun _ z => z.lit = true)
        (fun _ _ => rfl) s.lasers
    · obtain ⟨pre, hpre, hport⟩ := State.port_foldl_of_mem State.port_trainIfDown_ne (nodup_cartPorts hc) hi (s.locked c)
      have hpreKept : (pre.foldl State.trainIfDown (s.locked c)).beyondLinks = (s.locked c).beyondLinks :=
        foldl_keeps State.beyondLinks State.beyondLinks_trainIfDown pre (s.locked c)
      have hbefore : (pre.foldl State.trainIfDown (s.locked c)).port i = s.port i := hpre
      have hmay : (pre.foldl State.trainIfDown (s.locked c)).mayTrain i = true := by
        refine State.mayTrain_of_locked (k := s.cart c) ?_ (by rw [hbefore, hok]) (by rw [hbefore, hreset]) ?_ hpresent
        · rw [State.live_of_beyondLinks hpreKept]
          exact hlive
        · rw [portCart_of_mem_cartPorts hc hi, State.cart_of_beyondLinks hpreKept, State.cart_locked]
      rw [← ht, hport, State.trainIfDown, if_pos (by rw [hbefore, hdown]), State.port_beginTraining_self hmay]
  case timeout =>
    intro c s hc hrel
    refine ⟨_, exec_cartridgeReleaseTimeout hc hrel, ?_⟩
    generalize hd : (cartPorts c).foldl State.downIfIn s = d
    have hkept : d.beyondLinks = s.beyondLinks := hd ▸ foldl_keeps State.beyondLinks State.beyondLinks_downIfIn (cartPorts c) s
    have hreld : (d.cart c).releasing = true := by rw [State.cart_of_beyondLinks hkept, hrel]
    have hout : ∀ i ∈ cartPorts c, (d.port i).state ≠ .inService := by
      intro i hi
      obtain ⟨pre, -, hport⟩ := State.port_foldl_of_mem State.port_downIfIn_ne (nodup_cartPorts hc) hi s
      rw [← hd, hport]
      exact State.state_downIfIn _ i
    rw [State.cart_finishRelease hreld hout]
    exact ⟨rfl, rfl, rfl, fun i hi => by rw [State.port_finishRelease]; exact hout i hi, fun i hi => State.lit_finishRelease hreld hout hi⟩

end Sys2Proof.Machine

namespace Sys2Proof.Machine

/-! SUPPORT. The link layer of a port in service (R230, R233, R235, R236, R239, R242). -/

section LinkLayer

variable {s : State} {i : Nat}

/-! ### Groups (R225 to R228, R233) -/

/-- A port that has received a group, its symbol errors counted. -/
def Port.heard (p : Port) (g : FecGroup) : Port := { p with symErr := min (2 ^ 32 - 1) (p.symErr + g.symErrors) }

/-- A port that discards a group while it awaits a REPLAY. -/
def Port.discards (p : Port) (g : FecGroup) : Port := { p with
  rxDiscard := p.rxDiscard + 1
  badGroups := if g.flits.isNone then satAdd 32 p.badGroups 1 else p.badGroups }

/-- What a group makes of the port: of a good group, before the acknowledgements that it completes are taken. -/
def Port.afterGroup (p : Port) (g : FecGroup) : Port :=
  if g.isReplay then p
  else if p.rxPending then p.discards g
  else match (p.scan g).bad with
    | some b => p.bad b
    | none => p.good (p.scan g)

/-- The acknowledgements that a group completes on a port are taken only of a good group. -/
def Port.acksOf (p : Port) (g : FecGroup) : List Header :=
  if g.isReplay || p.rxPending || (p.scan g).bad.isSome then [] else (p.scan g).done.filter (·.ackValid)

theorem Port.afterGroup_of_isReplay {p : Port} {g : FecGroup} (hr : g.isReplay = true) : p.afterGroup g = p := if_pos hr

theorem Port.afterGroup_of_rxPending {p : Port} {g : FecGroup} (hr : g.isReplay = false) (hp : p.rxPending = true) :
    p.afterGroup g = p.discards g := by
  rw [Port.afterGroup, hr, if_neg Bool.false_ne_true, if_pos hp]

theorem Port.afterGroup_of_bad {p : Port} {g : FecGroup} {b : Nat} (hr : g.isReplay = false) (hp : p.rxPending = false)
    (hb : (p.scan g).bad = some b) : p.afterGroup g = p.bad b := by
  rw [Port.afterGroup, hr, hp, hb, if_neg Bool.false_ne_true, if_neg Bool.false_ne_true]

theorem Port.afterGroup_of_good {p : Port} {g : FecGroup} (hr : g.isReplay = false) (hp : p.rxPending = false)
    (hb : (p.scan g).bad = none) : p.afterGroup g = p.good (p.scan g) := by
  rw [Port.afterGroup, hr, hp, hb, if_neg Bool.false_ne_true, if_neg Bool.false_ne_true]

theorem Port.discards_eq (p : Port) (g : FecGroup) : p.discards g = { p with
    rxDiscard := p.rxDiscard + 1
    badGroups := if g.flits = none then min (2 ^ 32 - 1) (p.badGroups + 1) else p.badGroups } := by
  unfold Port.discards
  cases g.flits <;> rfl

/-- A codeword that cannot be corrected makes the group that is expected bad. -/
theorem Port.bad_scan_of_flits {p : Port} {g : FecGroup} (hf : g.flits = none) : (p.scan g).bad = some p.rxGroup := by
  rw [Port.scan, hf]

/-- No acknowledgement is taken of a group that is not counted as good, nor of one that completes none. -/
theorem Port.acksOf_eq_nil {p : Port} {g : FecGroup} (h : g.isReplay = true ∨ p.rxPending = true ∨ (p.scan g).bad.isSome = true
    ∨ (p.scan g).done.all (fun h => !h.ackValid) = true) : p.acksOf g = [] := by
  unfold Port.acksOf
  split
  case isTrue => rfl
  case isFalse hno =>
    have hall : (p.scan g).done.all (fun h => !h.ackValid) = true := by
      simp only [Bool.or_eq_true, not_or] at hno
      obtain ⟨⟨hreplay, hpend⟩, hbad⟩ := hno
      exact ((h.resolve_left hreplay).resolve_left hpend).resolve_left hbad
    simpa using hall

/-- An acknowledgement in a HEAD is taken while the port is in service. -/
def State.takeAck (s : State) (i : Nat) (h : Header) : State :=
  if (s.port i).state = .inService then s.onAck i h.ackSeq h.nak else s

theorem exec_fecGroupReceive (g : FecGroup) (hi : i < 36) (hst : (s.port i).state = .inService) :
    exec (.fecGroupReceive i g) s = .next ((((s.port i).heard g).acksOf g).foldl (State.takeAck · i)
      (s.setPort i (((s.port i).heard g).afterGroup g))) := by
  refine (withUnit_port hi _).trans (congrArg Host.Outcome.next ?_)
  rw [if_pos hst]
  dsimp only
  generalize hu : s.modPort i (fun p => { p with symErr := satAdd 32 p.symErr g.symErrors }) = u
  have hself : u = s.setPort i ((s.port i).heard g) := hu ▸ rfl
  have hset (q : Port) : u.setPort i q = s.setPort i q := by rw [hself, State.setPort_setPort]
  have hport : u.port i = (s.port i).heard g := by rw [hself, State.port_setPort_self]
  rw [hport, hself]
  generalize (s.port i).heard g = p at *
  unfold Port.afterGroup
  by_cases hr : g.isReplay = true
  · rw [if_pos hr, if_pos hr, Port.acksOf_eq_nil (.inl hr), List.foldl_nil]
  · rw [if_neg hr, if_neg hr]
    by_cases hp : p.rxPending = true
    · rw [if_pos hp, if_pos hp, Port.acksOf_eq_nil (.inr (.inl hp)), List.foldl_nil]
      exact State.setPort_setPort _ _ _ _
    · rw [if_neg hp, if_neg hp]
      cases hb : (p.scan g).bad with
      | some b =>
        rw [Port.acksOf_eq_nil (.inr (.inr (.inl (by rw [hb]; rfl)))), List.foldl_nil]
        exact State.setPort_setPort _ _ _ _
      | none =>
        rw [Port.acksOf, if_neg (by simp [hr, hp, hb]), State.setPort_setPort]
        rfl

/-! ### Acknowledgements (R233, R252) -/

theorem exec_nakResendTimeout (hi : i < 36) (hst : (s.port i).state = .inService) (hpend : (s.port i).rxPending = true) :
    exec (.nakResendTimeout i) s = .next (s.setPort i { (s.port i) with
      naks := min (2 ^ 32 - 1) ((s.port i).naks + 1), ctl := (s.port i).ctl ++ [.nak (s.port i).rxGroup] }) := by
  refine (withUnit_port hi _).trans (congrArg Host.Outcome.next ?_)
  rw [if_pos (by rw [hst, hpend]; rfl)]
  rfl

theorem exec_ackInterval (hi : i < 36) (hst : (s.port i).state = .inService) (hdue : 16 ≤ (s.port i).sinceAck) :
    exec (.ackInterval i) s = .next (s.setPort i { (s.port i) with
      sinceAck := 0, ctl := (s.port i).ctl ++ [.ack (((s.port i).rxGroup + 4095) % 4096)] }) := by
  refine (withUnit_port hi _).trans (congrArg Host.Outcome.next ?_)
  rw [if_pos (by rw [hst, decide_eq_true hdue]; rfl)]
  rfl

/-- No cartridge being released, an acknowledgement on a port releases none. -/
theorem State.releaseStep_of_not_releasing (h : (s.cart (portCart i)).releasing = false) : s.releaseStep i = s :=
  if_neg (by rw [h]; exact Bool.false_ne_true)

theorem exec_ack (g : Nat) (hi : i < 36) (hst : (s.port i).state = .inService) (hrel : (s.cart (portCart i)).releasing = false) :
    exec (.ack i g false) s
      = .next (s.setPort i { ((s.port i).acked ((g + 1) % 4096)) with lastNak := none, nakRun := 0 }) := by
  refine (withUnit_port hi _).trans (congrArg Host.Outcome.next ?_)
  rw [if_pos hst]
  exact State.releaseStep_of_not_releasing hrel

/-- An acknowledgement leaves a port's state and counts. -/
theorem Port.acked_eq (p : Port) (g : Nat) : p.acked g = { p with txAcked := (p.acked g).txAcked, window := (p.acked g).window } := by
  unfold Port.acked
  split <;> rfl

theorem exec_ack_nak (g : Nat) (hi : i < 36) (hst : (s.port i).state = .inService)
    (hfew : (s.port i).lastNak ≠ some g ∨ (s.port i).nakRun < 7) :
    exec (.ack i g true) s = .next (s.setPort i { (s.port i) with
      txAcked := ((s.port i).acked (g % 4096)).txAcked, window := ((s.port i).acked (g % 4096)).window
      lastNak := some g, nakRun := if (s.port i).lastNak = some g then (s.port i).nakRun + 1 else 1
      replayDue := some (g % 4096), replayNext := none, replays := min (2 ^ 32 - 1) ((s.port i).replays + 1) }) := by
  refine (withUnit_port hi _).trans (congrArg Host.Outcome.next ?_)
  rw [if_pos hst]
  unfold State.onAck
  rw [if_pos rfl]
  dsimp only
  rw [State.port_modPort_self, if_neg, State.modPort_modPort, State.modPort, Port.acked_eq]
  · rfl
  · dsimp only
    split
    case isTrue h =>
      have hrun : (s.port i).nakRun < 7 := hfew.resolve_left (fun hne => hne h)
      omega
    case isFalse => omega

theorem exec_replay {n : Nat} {g : FecGroup} (hi : i < 36) (hst : (s.port i).state = .inService) (hpend : (s.port i).rxPending = true)
    (hn : (s.port i).rxGroup = n) (hg : g.isReplay = true) :
    exec (.replay i ⟨n, g⟩) s = .next (s.setPort i { (s.port i) with
      symErr := min (2 ^ 32 - 1) ((s.port i).symErr + g.symErrors), rxPending := false
      rxReplayLeft := (s.port i).rxDiscard, rxDiscard := 0 }) := by
  refine (withUnit_port hi _).trans (congrArg Host.Outcome.next ?_)
  rw [if_pos (by simp [hst, hpend, hn, hg])]
  rfl

/-! ### Credit (R235) -/

/-- Entries changed one after another, each key once: each is what its change makes of it. -/
theorem Tab.getD_foldl_change {α : Type} {f : Nat → α → α} (d : α) {l : List Nat} (hl : l.Nodup) (n : Nat) (t : Tab α) :
    Tab.getD (l.foldl (fun u m => Tab.set u m (f m (Tab.getD u m d))) t) n d = if n ∈ l then f n (Tab.getD t n d) else Tab.getD t n d := by
  induction l generalizing t with
  | nil => rfl
  | cons m l ih =>
    obtain ⟨hm, hl⟩ := List.nodup_cons.mp hl
    rw [List.foldl_cons, ih hl]
    by_cases hnm : n = m
    · subst hnm
      rw [if_neg hm, if_pos List.mem_cons_self, Tab.getD_set_self]
    · rw [Tab.getD_set_ne _ _ _ hnm]
      simp [hnm]

theorem exec_credit (counts : List Nat) (hi : i < 36) (hst : (s.port i).state = .inService) :
    exec (.credit i counts) s = .next (s.setPort i { (s.port i) with
      inFlight := (List.range 8).foldl (fun t v => Tab.set t v (Tab.getD t v 0 - counts.getD v 0)) (s.port i).inFlight }) := by
  refine (withUnit_port hi _).trans (congrArg Host.Outcome.next ?_)
  rw [if_pos hst]
  rfl

/-! ### DOWN (R230, R243) -/

theorem exec_down (hi : i < 36) (hst : (s.port i).state = .inService) :
    exec (.down i) s = .next ((s.leaveService i .down 0).finishRelease (portCart i)) := by
  refine (withUnit_port hi _).trans (congrArg Host.Outcome.next ?_)
  conv_lhs => simp only [hst]

theorem State.unacked_leaveService (hst : (s.port i).state = .inService) (st : PState) (step : Nat) :
    ((s.leaveService i st step).port i).unacked = [] := by
  obtain ⟨tokens, slot, hport⟩ := s.port_leaveService_self hst st step
  rw [hport]
  rfl

/-! ### Packets (R229, R234, R235, R239, R242) -/

/-- A packet's flits take receive slots of the port. -/
def Port.held (p : Port) (q : Packet) : Port := { p with rxHeld := Tab.set p.rxHeld q.vc (Tab.getD p.rxHeld q.vc 0 + q.len) }

/-- A port that has received a packet; its slots are free again, but for those of a message that may have to wait in them. -/
def Port.took (p : Port) (q : Packet) : Port := if heldInPort q.msgType then p.held q else (p.held q).release q.vc q.len

theorem Port.rxHeld_held (p : Port) (q : Packet) : Tab.getD (p.held q).rxHeld q.vc 0 = Tab.getD p.rxHeld q.vc 0 + q.len :=
  Tab.getD_set_self p.rxHeld q.vc _ 0

theorem Port.rxHeld_took (p : Port) (q : Packet) : (p.took q).rxHeld = (p.held q).rxHeld := by
  unfold Port.took
  split <;> rfl

theorem Port.took_eq (p : Port) (q : Packet) : p.took q = { p with rxHeld := (p.took q).rxHeld, freed := (p.took q).freed } := by
  unfold Port.took
  split <;> rfl

theorem Port.freed_release (p : Port) (vc n : Nat) :
    Tab.getD (p.release vc n).freed vc 0 = min (Tab.getD p.rxHeld vc 0) (Tab.getD p.freed vc 0 + n) := Tab.getD_set_self p.freed vc _ 0

theorem Port.freed_took_of_held {p : Port} {q : Packet} (h : heldInPort q.msgType = true) : (p.took q).freed = p.freed := by
  rw [Port.took, if_pos h]
  rfl

theorem Port.freed_took_of_not_held {p : Port} {q : Packet} (h : heldInPort q.msgType = false) : Tab.getD (p.took q).freed q.vc 0
    = min (Tab.getD p.rxHeld q.vc 0 + q.len) (Tab.getD p.freed q.vc 0 + q.len) := by
  rw [Port.took, if_neg (by rw [h]; exact Bool.false_ne_true), Port.freed_release, Port.rxHeld_held]
  rfl

/-- A packet is wrong on a port: it is for another module, or its type does not go on its VC or is not that of its message. -/
def State.strays (s : State) (p : Packet) : Bool := s.ident != some p.dest || !typeOnVc p.msgType p.vc || p.msgType != p.msg.typeCode

theorem exec_packetReceive_placed {p : Packet} (hi : i < 36) (hst : (s.port i).state = .inService) (hpend : (s.port i).rxPending = false)
    (hok : s.strays p = false) (hnew : s.net.holds p = false) :
    exec (.packetReceive i p) s = .next { s.setPort i ((s.port i).took p) with
      net := (s.net.place i p).deliver s.tagOk p.src p.vc (s.net.partials.length + 1) } := by
  refine (withUnit_port hi _).trans (congrArg Host.Outcome.next ?_)
  rw [if_pos (by rw [hst, hpend]; rfl)]
  refine (if_neg (by rw [State.strays] at hok; simpa using hok)).trans ((if_neg (by rw [hnew]; exact Bool.false_ne_true)).trans ?_)
  unfold Port.took
  split
  · rfl
  · rw [State.modPort_modPort]
    rfl

theorem exec_packetReceive_duplicate {p : Packet} (hi : i < 36) (hst : (s.port i).state = .inService) (hpend : (s.port i).rxPending = false)
    (hok : s.strays p = false) (hold : s.net.holds p = true) :
    exec (.packetReceive i p) s = .next (s.setPort i
      { ((s.port i).held p).release p.vc p.len with duplicates := min (2 ^ 32 - 1) ((s.port i).duplicates + 1) }) := by
  refine (withUnit_port hi _).trans (congrArg Host.Outcome.next ?_)
  rw [if_pos (by rw [hst, hpend]; rfl)]
  refine (if_neg (by rw [State.strays] at hok; simpa using hok)).trans ((if_pos hold).trans ?_)
  rw [State.modPort_modPort, State.modPort_modPort]
  rfl

theorem exec_packetReceive_misrouted {p : Packet} (hi : i < 36) (hst : (s.port i).state = .inService) (hpend : (s.port i).rxPending = false)
    (hbad : s.strays p = true) :
    exec (.packetReceive i p) s = .next ((s.setPort i (((s.port i).held p).release p.vc p.len)).misrouted i) := by
  refine (withUnit_port hi _).trans (congrArg Host.Outcome.next ?_)
  rw [if_pos (by rw [hst, hpend]; rfl)]
  refine (if_pos hbad).trans ?_
  rw [State.modPort_modPort]
  rfl

/-- A misrouted packet is counted on its port (R239). -/
theorem State.port_misrouted_self (s : State) (i : Nat) :
    (s.misrouted i).port i = { (s.port i) with misrouted := min (2 ^ 32 - 1) ((s.port i).misrouted + 1) } :=
  s.port_modPort_self i (fun p => { p with misrouted := satAdd 32 p.misrouted 1 })

/-! ### What a port sends (R226, R227, R230, R233, R235 to R237) -/

theorem exec_packetTransmit_replayDue {g : Nat} (hi : i < 36) (hst : (s.port i).state = .inService) (hdue : (s.port i).replayDue = some g) :
    exec (.packetTransmit i) s = .next (s.setPort i { (s.port i) with
      wire := .control (.replay g) :: List.replicate 9 .idle, replayDue := none
      replayNext := if g = (s.port i).txGroup then none else some g }) := by
  refine (withUnit_port hi _).trans (congrArg Host.Outcome.next ?_)
  dsimp only
  rw [if_neg (by simp [hst]), hdue]
  rfl

theorem exec_packetTransmit_replayNext {g : Nat} {slots : List TxSlot} (hi : i < 36) (hst : (s.port i).state = .inService)
    (hdue : (s.port i).replayDue = none) (hnext : (s.port i).replayNext = some g)
    (hkept : (s.port i).kept.find? (fun k => k.1 = g) = some (g, slots)) :
    exec (.packetTransmit i) s = .next (s.setPort i { (s.port i) with
      wire := slots, replayNext := if (g + 1) % 4096 = (s.port i).txGroup then none else some ((g + 1) % 4096) }) := by
  refine (withUnit_port hi _).trans (congrArg Host.Outcome.next ?_)
  dsimp only
  rw [if_neg (by simp [hst]), hdue, hnext]
  dsimp only
  rw [hkept]
  rfl

theorem exec_packetTransmit_new (hi : i < 36) (hst : (s.port i).state = .inService) (hdue : (s.port i).replayDue = none)
    (hnext : (s.port i).replayNext = none) (hroom : groupDist (s.port i).txAcked (s.port i).txGroup < 511) :
    exec (.packetTransmit i) s = .next (s.sendGroup i) := by
  refine (withUnit_port hi _).trans (congrArg Host.Outcome.next ?_)
  dsimp only
  rw [if_neg (by simp [hst]), hdue, hnext]
  exact if_neg (by omega)

/-- What the filling of a group leaves of its port: its state, the number of the group, the groups kept. -/
def Port.sending (p : Port) : PState × Nat × List (Nat × List TxSlot) := (p.state, p.txGroup, p.kept)

theorem Port.sending_iff {p q : Port} : q.sending = p.sending ↔ q.state = p.state ∧ q.txGroup = p.txGroup ∧ q.kept = p.kept := by
  simp [Port.sending]

theorem Port.sending_putFlit (p : Port) (o : TxPacket) : (p.putFlit o).sending = p.sending := by
  unfold Port.putFlit
  dsimp only
  split <;> rfl

theorem Port.sending_nextCtl {p q : Port} {c : Ctl} (h : p.nextCtl = some (c, q)) : q.sending = p.sending := by
  unfold Port.nextCtl at h
  split at h
  · cases h
    rfl
  · dsimp only at h
    split at h
    · cases h
    · cases h
      rfl

theorem State.sending_timeSlot {p q : Port} {c : Ctl} (h : s.timeSlot p = some (c, q)) : q.sending = p.sending := by
  unfold State.timeSlot at h
  dsimp only at h
  split at h
  · cases h
    rfl
  · split at h
    · cases h
      rfl
    · cases h

/-- The state with the ports and the messages out of sight. -/
def State.beyondSending (s : State) : State := { s with ports := [], net := {} }

theorem State.beyondSending_modPort (s : State) (i : Nat) (g : Port → Port) : (s.modPort i g).beyondSending = s.beyondSending := rfl

/-- `b` is `a` with `n` slots more of the group that port `i` fills; nothing else has changed but the port's work and the messages. -/
structure Filling.Fills (i n : Nat) (a b : Filling) : Prop where
  beyond : b.s.beyondSending = a.s.beyondSending
  others : ∀ j, j ≠ i → b.s.port j = a.s.port j
  sending : (b.s.port i).sending = (a.s.port i).sending
  slots : ∃ l, b.slots = a.slots ++ l ∧ l.length = n

theorem Filling.Fills.trans {n m : Nat} {a b c : Filling} (h : a.Fills i n b) (k : b.Fills i m c) : a.Fills i (n + m) c where
  beyond := k.beyond.trans h.beyond
  others j hj := (k.others j hj).trans (h.others j hj)
  sending := k.sending.trans h.sending
  slots := by
    obtain ⟨l, hl, rfl⟩ := h.slots
    obtain ⟨r, hr, rfl⟩ := k.slots
    exact ⟨l ++ r, by rw [hr, hl, List.append_assoc], List.length_append⟩

/-- A slot is filled by a step that touches the port's work and the messages alone. -/
theorem Filling.fills_one {a : Filling} {t : State} (x : TxSlot) (n : Nat) (hbeyond : t.beyondSending = a.s.beyondSending)
    (hothers : ∀ j, j ≠ i → t.port j = a.s.port j) (hsending : (t.port i).sending = (a.s.port i).sending) :
    a.Fills i 1 ⟨t, a.slots ++ [x], n⟩ := ⟨hbeyond, hothers, hsending, [x], rfl, rfl⟩

theorem Filling.fills_setPort {a : Filling} {q : Port} (x : TxSlot) (n : Nat) (hsending : q.sending = (a.s.port i).sending) :
    a.Fills i 1 ⟨a.s.setPort i q, a.slots ++ [x], n⟩ :=
  Filling.fills_one x n rfl (fun _ hj => a.s.port_setPort_ne q hj) (by rw [State.port_setPort_self, hsending])

theorem Filling.fills_same (a : Filling) (x : TxSlot) (n : Nat) : a.Fills i 1 ⟨a.s, a.slots ++ [x], n⟩ :=
  Filling.fills_one x n rfl (fun _ _ => rfl) rfl

theorem State.beyondSending_startPacket (s : State) (i : Nat) (c : Choice) : (s.startPacket i c).beyondSending = s.beyondSending := by
  unfold State.startPacket
  dsimp only
  rw [State.countTokens_eq]
  rfl

theorem State.port_startPacket_ne (s : State) {i j : Nat} (c : Choice) (h : j ≠ i) : (s.startPacket i c).port j = s.port j := by
  unfold State.startPacket
  dsimp only
  rw [State.port_modPort_ne _ _ h, State.port_countTokens_ne _ h]
  rfl

theorem State.sending_startPacket (s : State) (i : Nat) (c : Choice) : ((s.startPacket i c).port i).sending = (s.port i).sending := by
  unfold State.startPacket
  dsimp only
  obtain ⟨tokens, slot, hport⟩ := State.port_countTokens_self { s with net := s.net.take c.ready } i
  rw [State.port_modPort_self, Port.sending_putFlit, hport]
  rfl

/-- A HEAD takes out of the CONTROL flits the acknowledgement that it carries (Table 8.3). -/
def Port.dropAck (p : Port) (ack : Option (Nat × Bool)) : Port :=
  match ack with
  | some _ => { p with ctl := p.ctl.eraseP (fun x => x.asAck = ack) }
  | none => p

theorem Port.sending_dropAck (p : Port) (ack : Option (Nat × Bool)) : (p.dropAck ack).sending = p.sending := by
  cases ack <;> rfl

/-- A packet starts in a slot. -/
def Filling.start (i : Nat) (a : Filling) (c : Choice) : Filling :=
  let ack := (a.s.port i).ctl.findSome? Ctl.asAck
  { a with s := (a.s.modPort i (·.dropAck ack)).startPacket i c, slots := a.slots ++ [.head c.ready.packet ack] }

theorem Filling.fills_start (a : Filling) (c : Choice) : a.Fills i 1 (a.start i c) := by
  refine Filling.fills_one _ _ (State.beyondSending_startPacket _ _ _) (fun j hj => ?_) ?_
  · rw [State.port_startPacket_ne _ c hj, State.port_modPort_ne _ _ hj]
  · rw [State.sending_startPacket, State.port_modPort_self, Port.sending_dropAck]

/-- A slot without a CONTROL flit and without a packet under way. -/
theorem Filling.slot_of_free {a : Filling} {k : Nat} (htime : (if k = 0 then a.s.timeSlot (a.s.port i) else none) = none)
    (hctl : (if a.ctls < 2 then (a.s.port i).nextCtl else none) = none) (hopen : (a.s.port i).txOpen = none) :
    a.slot i k = if (a.s.port i).state != .inService || (a.s.cart (portCart i)).releasing then { a with slots := a.slots ++ [.idle] }
      else match a.s.choosePacket i with
        | none => { a with slots := a.slots ++ [.idle] }
        | some c => a.start i c := by
  unfold Filling.slot
  dsimp only
  rw [htime]
  dsimp only
  rw [hctl]
  dsimp only
  rw [hopen]
  rfl

/-- Each slot is filled once, and what the group does not concern stays. -/
theorem Filling.fills_slot (a : Filling) (k : Nat) : a.Fills i 1 (a.slot i k) := by
  by_cases hfree : (if k = 0 then a.s.timeSlot (a.s.port i) else none) = none
      ∧ (if a.ctls < 2 then (a.s.port i).nextCtl else none) = none ∧ (a.s.port i).txOpen = none
  · obtain ⟨htime, hctl, hopen⟩ := hfree
    rw [Filling.slot_of_free htime hctl hopen]
    split
    · exact a.fills_same .idle a.ctls
    · split
      · exact a.fills_same .idle a.ctls
      · exact a.fills_start _
  · unfold Filling.slot
    dsimp only
    split
    case h_1 c q htime =>
      have htime' : a.s.timeSlot (a.s.port i) = some (c, q) := (ite_eq_iff.mp htime).elim (·.2) (fun h => absurd h.2 (by simp))
      exact Filling.fills_setPort _ _ (State.sending_timeSlot htime')
    case h_2 htime =>
      split
      case h_1 c q hctl =>
        have hctl' : (a.s.port i).nextCtl = some (c, q) := (ite_eq_iff.mp hctl).elim (·.2) (fun h => absurd h.2 (by simp))
        exact Filling.fills_setPort _ _ (Port.sending_nextCtl hctl')
      case h_2 hctl =>
        split
        case h_1 o hopen =>
          split
          · exact Filling.fills_setPort _ _ (Port.sending_putFlit _ _)
          · exact a.fills_same _ _
        case h_2 hopen => exact absurd ⟨htime, hctl, hopen⟩ hfree

theorem Filling.fills_foldl (l : List Nat) (a : Filling) : a.Fills i l.length (l.foldl (Filling.slot i) a) := by
  induction l generalizing a with
  | nil => exact ⟨rfl, fun _ _ => rfl, rfl, [], by simp, rfl⟩
  | cons k l ih =>
    rw [List.length_cons, Nat.add_comm]
    exact (a.fills_slot k).trans (ih (a.slot i k))

/-- The group that a port fills. -/
def State.filled (s : State) (i : Nat) : Filling := (List.range 10).foldl (Filling.slot i) ⟨s, [], 0⟩

theorem State.fills_filled (s : State) (i : Nat) : Filling.Fills i 10 ⟨s, [], 0⟩ (s.filled i) := by
  have h := Filling.fills_foldl (i := i) (List.range 10) ⟨s, [], 0⟩
  rwa [List.length_range] at h

/-- The group begins with what its slot 0 is filled with. -/
theorem State.head?_slots_filled {x : TxSlot} (h : (Filling.slot i ⟨s, [], 0⟩ 0).slots = [x]) : (s.filled i).slots.head? = some x := by
  obtain ⟨l, hl, -⟩ := (Filling.fills_foldl (i := i) ((List.range 9).map Nat.succ) (Filling.slot i ⟨s, [], 0⟩ 0)).slots
  rw [State.filled, List.range_succ_eq_map, List.foldl_cons, hl, h]
  rfl

/-- A port with a group on the lanes, numbered and kept. -/
def Port.sent (p : Port) (slots : List TxSlot) : Port := { p with
  wire := slots
  kept := (p.kept ++ [(p.txGroup, slots)]).drop (p.kept.length + 1 - 512)
  txGroup := (p.txGroup + 1) % 4096 }

theorem Port.wire_sent (p : Port) (slots : List TxSlot) : (p.sent slots).wire = slots := rfl

theorem Port.txGroup_sent (p : Port) (slots : List TxSlot) : (p.sent slots).txGroup = (p.txGroup + 1) % 4096 := rfl

theorem Port.getLast?_kept_sent (p : Port) (slots : List TxSlot) : (p.sent slots).kept.getLast? = some (p.txGroup, slots) := by
  unfold Port.sent
  dsimp only
  rw [List.getLast?_drop, if_neg (by simp), List.getLast?_concat]

theorem State.sendGroup_of_inService (hst : (s.port i).state = .inService) :
    s.sendGroup i = (s.filled i).s.modPort i (·.sent (s.filled i).slots) := by
  obtain ⟨hstate, -, -⟩ := Port.sending_iff.mp (s.fills_filled i).sending
  have hin : ((s.filled i).s.port i).state = .inService := hstate.trans hst
  unfold State.sendGroup
  dsimp only
  rw [State.modPort]
  exact congrArg _ (if_pos hin)

theorem State.eq_of_beyondSending {t : State} (h : t.beyondSending = s.beyondSending) : t = { s with ports := t.ports, net := t.net } :=
  congrArg (fun u : State => { u with ports := t.ports, net := t.net }) h

theorem State.sendGroup_eq (hst : (s.port i).state = .inService) :
    s.sendGroup i = { s with ports := (s.sendGroup i).ports, net := (s.sendGroup i).net } := by
  refine State.eq_of_beyondSending ?_
  rw [State.sendGroup_of_inService hst, State.beyondSending_modPort]
  exact (s.fills_filled i).beyond

theorem State.port_sendGroup_self (hst : (s.port i).state = .inService) :
    (s.sendGroup i).port i = ((s.filled i).s.port i).sent (s.filled i).slots := by
  rw [State.sendGroup_of_inService hst, State.port_modPort_self]

theorem State.port_sendGroup_ne (hst : (s.port i).state = .inService) {j : Nat} (h : j ≠ i) : (s.sendGroup i).port j = s.port j := by
  rw [State.sendGroup_of_inService hst, State.port_modPort_ne _ _ h, (s.fills_filled i).others j h]

theorem State.length_slots_filled (s : State) (i : Nat) : (s.filled i).slots.length = 10 := by
  obtain ⟨l, hl, hlen⟩ := (s.fills_filled i).slots
  rw [hl, List.nil_append, hlen]

/-- With nothing due but a packet that may start, its HEAD is the first slot of the group. -/
theorem State.head?_slots_filled_of_choice {c : Choice} (hst : (s.port i).state = .inService) (hreply : (s.port i).replyDue = false)
    (hsync : (s.port i).syncDue = false) (hctl : (s.port i).ctl = []) (hnext : (s.port i).nextCtl = none)
    (hopen : (s.port i).txOpen = none) (hrel : (s.cart (portCart i)).releasing = false) (hc : s.choosePacket i = some c) :
    (s.filled i).slots.head? = some (.head c.ready.packet none) := by
  have htime : s.timeSlot (s.port i) = none := by simp [State.timeSlot, hreply, hsync]
  refine State.head?_slots_filled ?_
  rw [Filling.slot_of_free (htime := if_pos rfl ▸ htime) (hctl := if_pos (Nat.zero_lt_two) ▸ hnext) (hopen := hopen),
    if_neg (by simp [hst, hrel])]
  dsimp only
  rw [hc]
  dsimp only
  rw [Filling.start]
  dsimp only
  rw [hctl]
  rfl

end LinkLayer

/-- Settles O26: a group's acknowledgements are those that it completes as a good one (`acksOf`); the ten slots of a group each touch
the sending port and the messages alone (`Filling.fills_slot`). -/
theorem linkLayerRowsComplete : Obligations.LinkLayerRowsComplete := by
  unfold Obligations.LinkLayerRowsComplete
  refine ⟨?group, ?nakResend, ?ackInterval, ?ack, ?nak, ?replay, ?credit, ?down, ?packet, ?stray, ?transmit⟩
  case group =>
    intro i g s hi hst
    refine ⟨_, (s.port i).heard g, exec_fecGroupReceive g hi hst, rfl, ?_⟩
    generalize ht : (((s.port i).heard g).acksOf g).foldl (State.takeAck · i) (s.setPort i (((s.port i).heard g).afterGroup g)) = t
    have hquiet (h : g.isReplay = true ∨ (s.port i).rxPending = true ∨ (((s.port i).heard g).scan g).bad.isSome = true
        ∨ (((s.port i).heard g).scan g).done.all (fun h => !h.ackValid) = true) :
        t = s.setPort i (((s.port i).heard g).afterGroup g) := by
      rw [← ht, Port.acksOf_eq_nil (p := (s.port i).heard g) h, List.foldl_nil]
    have hpending : ((s.port i).heard g).rxPending = (s.port i).rxPending := rfl
    refine ⟨fun hr => ?_, fun hr hp => ?_, fun hr hp b hb => ?_, fun hr hp hb hacks => ?_, fun hf => ?_, fun h => ?_⟩
    · rw [hquiet (.inl hr), State.port_setPort_self, Port.afterGroup_of_isReplay hr]
    · rw [hquiet (.inr (.inl hp)), State.port_setPort_self, Port.afterGroup_of_rxPending hr (hpending.trans hp), Port.discards_eq]
    · rw [hquiet (.inr (.inr (.inl (by rw [hb]; rfl)))), State.port_setPort_self, Port.afterGroup_of_bad hr (hpending.trans hp) hb]
      rfl
    · rw [hquiet (.inr (.inr (.inr hacks))), State.port_setPort_self, Port.afterGroup_of_good hr (hpending.trans hp) hb]
      rfl
    · exact Port.bad_scan_of_flits hf
    · rw [hquiet h]
      exact ⟨rfl, fun j hj => s.port_setPort_ne _ hj⟩
  case nakResend => exact fun i s hi hst hpend => exec_nakResendTimeout hi hst hpend
  case ackInterval => exact fun i s hi hst hdue => exec_ackInterval hi hst hdue
  case ack => exact fun i g s hi hst hrel => exec_ack g hi hst hrel
  case nak =>
    intro i g s hi hst hfew
    refine ⟨_, exec_ack_nak g hi hst hfew, ?_⟩
    rw [State.port_setPort_self]
    exact ⟨rfl, rfl, hst, rfl, rfl⟩
  case replay => exact fun i n g s hi hst hpend hn hg => exec_replay hi hst hpend hn hg
  case credit =>
    intro i counts s hi hst
    refine ⟨_, exec_credit counts hi hst, rfl, ?_⟩
    rw [State.port_setPort_self]
    refine ⟨rfl, fun v hv => ?_⟩
    exact (Tab.getD_foldl_change (f := fun v n => n - counts.getD v 0) 0 List.nodup_range v _).trans (if_pos (List.mem_range.mpr hv))
  case down =>
    intro i s hi hst
    refine ⟨_, exec_down hi hst, ?_⟩
    rw [State.port_finishRelease, State.net_finishRelease]
    exact ⟨s.state_leaveService i .down 0, State.unacked_leaveService hst .down 0, s.resend_leaveService hst .down 0⟩
  case packet =>
    intro i p s hi hst hpend hdest hvc hty
    have hok : s.strays p = false := by simp [State.strays, hdest, hvc, ← hty]
    refine ⟨fun hnew => ?_, fun hold => ?_⟩
    · refine ⟨_, exec_packetReceive_placed hi hst hpend hok hnew, rfl, rfl, fun j hj => s.port_setPort_ne _ hj, ?_⟩
      generalize ht : { s.setPort i ((s.port i).took p) with
        net := (s.net.place i p).deliver s.tagOk p.src p.vc (s.net.partials.length + 1) } = t
      have hport : t.port i = (s.port i).took p := ht ▸ s.port_setPort_self i _
      rw [hport]
      exact ⟨Port.took_eq _ _, by rw [Port.rxHeld_took, Port.rxHeld_held], Port.freed_took_of_held, Port.freed_took_of_not_held⟩
    · refine ⟨_, exec_packetReceive_duplicate hi hst hpend hok hold, rfl, ?_⟩
      rw [State.port_setPort_self]
  case stray =>
    intro i p s hi hst hpend hbad
    have hstray : s.strays p = true := by
      rcases hbad with hdest | hvc
      · simp [State.strays, hdest]
      · simp [State.strays, hvc]
    refine ⟨_, exec_packetReceive_misrouted hi hst hpend hstray, ?_, rfl, rfl⟩
    rw [State.port_misrouted_self, State.port_setPort_self]
    rfl
  case transmit =>
    intro i s hi hst
    refine ⟨fun g hdue => exec_packetTransmit_replayDue hi hst hdue,
      fun g slots hdue hnext hkept => exec_packetTransmit_replayNext hi hst hdue hnext hkept, fun hdue hnext hroom => ?_⟩
    refine ⟨_, exec_packetTransmit_new hi hst hdue hnext hroom, ?_⟩
    obtain ⟨-, hgroup, -⟩ := Port.sending_iff.mp (s.fills_filled i).sending
    rw [State.port_sendGroup_self hst, Port.wire_sent, Port.txGroup_sent, Port.getLast?_kept_sent, hgroup]
    exact ⟨State.sendGroup_eq hst, rfl, s.length_slots_filled i, rfl, fun j hj => State.port_sendGroup_ne hst hj,
      fun c hreply hsync hctl hnc hopen hrel hc => State.head?_slots_filled_of_choice hst hreply hsync hctl hnc hopen hrel hc⟩

end Sys2Proof.Machine

namespace Sys2Proof.Machine

/-! SUPPORT. Re-gathering of a released tensor: how it begins, how a member answers a remote read, and what read data do
(R273 to R275). -/

section Regathers

variable {s : State} {src ctx me h rank : Nat} {a : Arrived} {rest : List Arrived} {x : Ctx} {r : Run} {d : Desc} {g : Gathered}
  {q : ReadReq} {data : ReadData}

/-! ### A re-gather begins (R273, R274) -/

theorem exec_regather {grp : XGroup} (hl : s.live = true) (hx : s.ctx? ctx = some x) (hme : s.ident = some me)
    (hd : x.nextDesc = some (r, d)) (hg : Tab.get x.gathered h = some g) (hf : x.state ≠ .faulted) (hreads : d.reads.contains h = true)
    (hheld : g.held = false) (hawait : g.awaiting = []) (hdue : x.rollbackDue = none) (hgrp : Tab.get x.groups g.group = some grp) :
    exec (.regather ctx h) s = .next (s.regather ctx me h x r g grp.obj.members) := by
  show execRegather ctx h s = _
  simp only [execRegather, hx, hme, hd, hg, hl, bne_iff_ne.mpr hf, hreads, hheld, hawait, hdue, hgrp, Bool.not_false, List.isEmpty_nil,
    Option.isNone_none, Bool.and_self, if_true]

/-- A member whose own source shard is no longer the one it gave does not ask its peers (R274). -/
theorem State.regather_own_changed {members : List Nat} (hlevel : g.level ≠ .node) (hhas : Tab.has g.counts (rankOf members me) = true)
    (hchanged : x.tensor? g.src = none ∨ g.unchanged (rankOf members me) (x.writesOf g.src) = false) :
    s.regather ctx me h x r g members = s.faultAt ctx r 0x07 := by
  have hown : ((x.tensor? g.src).isSome && g.unchanged (rankOf members me) (x.writesOf g.src)) = false := by
    rcases hchanged with hfreed | hwritten
    · rw [hfreed, Option.isSome_none, Bool.false_and]
    · rw [hwritten, Bool.and_false]
  simp only [State.regather, if_neg hlevel, hhas, hown, Bool.not_false, Bool.and_self, if_true]

/-! ### A remote read (R273) -/

theorem exec_memoryReadRequest (hl : s.live = true) (hdel : Delivered src 3 a rest (s.ctxs.foldl (fun b c => b.serveReads c.1) s))
    (ha : a.msg = .readRequest q) :
    exec (.memoryReadRequest src) s
      = .next (((s.ctxs.foldl (fun b c => b.serveReads c.1) s).setInbox rest).serveRead src q) := by
  obtain ⟨-, htake, -⟩ := hdel
  show execMemoryReadRequest src s = _
  simp only [execMemoryReadRequest, hl, htake, ha, Bool.not_true, Bool.false_eq_true, if_false]

/-- What a member can answer does not hang on the messages it has still to take. -/
@[simp] theorem State.readFor_setInbox (s : State) (l : List Arrived) (x : Ctx) (rank : Nat) (q : ReadReq) :
    (s.setInbox l).readFor x rank q = s.readFor x rank q := rfl

section Serves

variable {grp : XGroup} (hx : s.ctx? q.ctx = some x) (hme : s.ident = some me) (hgrp : Tab.get x.groups q.group = some grp)

include hx hme hgrp

theorem State.serveRead_answered (hread : s.readFor x (rankOf grp.obj.members me) q = some data) :
    s.serveRead src q = s.send src (some x.params.partition) (.readData data) := by
  simp only [State.serveRead, hx, hme, hgrp, Option.map_some, Option.getD_some, hread]

theorem State.serveRead_kept (hread : s.readFor x (rankOf grp.obj.members me) q = none) :
    s.serveRead src q = s.setCtx q.ctx { x with waitingMsgs := x.waitingMsgs ++ [⟨src, 36, .readRequest q⟩] } := by
  simp only [State.serveRead, State.holdFor, hx, hme, hgrp, Option.map_some, Option.getD_some, hread]

end Serves

/-- A source shard is answered from the tensor as it is now, unless a replay has still to write it again (R275, R341). -/
theorem State.readFor_source {t : TData} (hnode : q.node = false) (hf : x.state ≠ .faulted) (hdue : x.rollbackDue = none)
    (hwrites : q.writes ≤ x.writesOf q.handle) (ht : s.readTensor x q.handle = some t) :
    s.readFor x rank q = some (q.data rank (x.writesOf q.handle) (t.codes.flatten, t.nibs.flatten)) := by
  simp [State.readFor, State.readSource, hnode, hf, hdue, Nat.not_lt.mpr hwrites, ht]

/-! ### Read data (R273 to R275) -/

theorem exec_memoryReadData (hdel : Delivered src 3 a rest s) (ha : a.msg = .readData data) (hx : s.ctx? data.ctx = some x)
    (hg : Tab.get x.gathered data.handle = some g) (hf : x.state ≠ .faulted) (htag : g.number = data.tag)
    (hawait : g.awaiting.contains data.rank = true) :
    exec (.memoryReadData src) s = .next ((s.setInbox rest).takeRead x g data) := by
  obtain ⟨hl, htake, -⟩ := hdel
  have hbound : (s.ctx? data.ctx).bind (fun x => (Tab.get x.gathered data.handle).map (fun g => (x, g))) = some (x, g) := by
    rw [hx, Option.bind_some, hg, Option.map_some]
  have hmeets : (x.state = .faulted || g.number != data.tag || !g.awaiting.contains data.rank) = false := by
    rw [decide_eq_false hf, htag, hawait, bne_self_eq_false, Bool.not_true, Bool.or_self, Bool.or_self]
  show execMemoryReadData src s = _
  simp only [execMemoryReadData, htake, ha, hl, hbound, hmeets, Bool.not_true, Bool.false_eq_true, if_false]

/-- Data of a node shard, or of a source shard that is unchanged, enter the re-gather, which awaits their sender no more. -/
theorem State.takeRead_enters (hgone : data.gone = false) (hkept : g.level = .node ∨ g.unchanged data.rank data.writes = true) :
    ∃ first, s.takeRead x g data = s.settleGather data.ctx data.handle
      { g.put first data.codes data.nibbles with awaiting := g.awaiting.filter (· != data.rank) } := by
  by_cases hlevel : g.level = .node
  · exact ⟨data.first, by simp only [State.takeRead, if_pos hlevel, hgone, Bool.false_eq_true, if_false]⟩
  · have hsource : (data.gone || !g.unchanged data.rank data.writes) = false := by
      rw [hgone, hkept.resolve_left hlevel, Bool.not_true, Bool.false_or]
    exact ⟨_, by simp only [State.takeRead, if_neg hlevel, hsource, Bool.false_eq_true, if_false]; rfl⟩

/-- A source shard written or freed since the gather faults the job (R274). -/
theorem State.takeRead_changed (hlevel : g.level ≠ .node) (hchanged : data.gone = true ∨ g.unchanged data.rank data.writes = false) :
    s.takeRead x g data = s.jobFault data.ctx 0x07 ((x.nextDesc).map (fun n => (n.1.ring, n.1.tseq, n.1.next))) := by
  have hsource : (data.gone || !g.unchanged data.rank data.writes) = true := by
    rcases hchanged with hgone | hwritten
    · rw [hgone, Bool.true_or]
    · rw [hwritten, Bool.not_false, Bool.or_true]
  simp only [State.takeRead, if_neg hlevel, hsource, if_true]

/-- A node shard that is gone leaves the source shards to gather from (R275). -/
theorem State.takeRead_node_gone (hlevel : g.level = .node) (hgone : data.gone = true) :
    s.takeRead x g data = (s.setCtx data.ctx (x.leaveNode data.handle g)).refresh data.ctx := by
  simp only [State.takeRead, if_pos hlevel, hgone, if_true]

end Regathers

/-- Settles O44: each row answers by one operation of the state (`exec_regather`, `exec_memoryReadRequest`, `exec_memoryReadData`),
whose branch the hypotheses of the clause name: a re-gather's own source shard (`regather_own_changed`), the answer to a remote read
(`serveRead_answered`, `serveRead_kept`), and read data by level and write count (`takeRead_enters`, `takeRead_changed`,
`takeRead_node_gone`). -/
theorem regatherRowsComplete : Obligations.RegatherRowsComplete := by
  unfold Obligations.RegatherRowsComplete
  refine ⟨?begins, ?request, ?answer⟩
  case begins =>
    intro ctx h me x r d g grp s hl hx hme hd hg hf hreads hheld hawait hdue hgrp
    have hexec := exec_regather hl hx hme hd hg hf hreads hheld hawait hdue hgrp
    exact ⟨hexec, fun hlevel hhas hchanged => hexec.trans (congrArg _ (State.regather_own_changed hlevel hhas hchanged))⟩
  case request =>
    intro src me rank a rest q x g s u hl hu hdel ha hx hme hgrp hrank
    subst hu hrank
    have hexec := exec_memoryReadRequest hl hdel ha
    refine ⟨fun data hdata => ?answered, fun hnone => ?kept,
      fun t hnode hf hdue hwrites ht => State.readFor_source hnode hf hdue hwrites ht⟩
    case answered => exact hexec.trans (congrArg _ (State.serveRead_answered hx hme hgrp (by rwa [State.readFor_setInbox])))
    case kept => exact hexec.trans (congrArg _ (State.serveRead_kept hx hme hgrp (by rwa [State.readFor_setInbox])))
  case answer =>
    intro src a rest data x g s hdel ha hx hg hf htag hawait
    have hexec := exec_memoryReadData hdel ha hx hg hf htag hawait
    refine ⟨fun hgone hkept => ?enters, fun hlevel hchanged => ?changed, fun hlevel hgone => ?nodeGone⟩
    case enters =>
      obtain ⟨first, hfirst⟩ := State.takeRead_enters (s := s.setInbox rest) (x := x) hgone hkept
      exact ⟨_, hexec.trans (congrArg _ hfirst), rfl, rfl⟩
    case changed => exact hexec.trans (congrArg _ (State.takeRead_changed hlevel hchanged))
    case nodeGone => exact hexec.trans (congrArg _ (State.takeRead_node_gone hlevel hgone))

end Sys2Proof.Machine

namespace Sys2Proof.Machine

/-! SUPPORT. Commands on partitions (R286, R355, R357, R411). -/

section PartitionCommands

variable {h : CmdHead} {n : Nat} {s : State}

/-- A taken command whose change has room for its record ends OK once it is journaled (R321). -/
theorem State.endCmd_journalOp {t : State} {ctx : Nat} {res : List Byte} {op : ConfigOp} (hroom : s.journalRoom 1 = true)
    (ht : t.jr.own.length ≤ s.jr.own.length) : s.endCmd h (.ok res (t.journalOp ctx op)) = (t.journalOp ctx op).finishCmd h 0 0 res :=
  s.endCmd_ok h res _ (State.overfull_journalOp hroom ht)

/-! ### PARTITION_CREATE (R286) -/

theorem exec_partitionCreate {p : PartitionParams} (ht : Taken h true s) (hb : partitionBad s p = false)
    (hn : lowestFree 10 (Tab.keys s.parts) = some n) (hdies : p.dies ≤ s.freeDies.length)
    (hchannels : p.channels ≤ s.freeChannels.length) (hareas : p.spillHbm + p.cowHbm ≤ 32640 * (2 * p.dies))
    (hseats : (s.parts.map (fun q => q.2.params.seats)).sum + p.seats ≤ 256) (hspill : p.seats * p.dies * 18 ≤ p.spillHbm * 2)
    (hroom : s.journalRoom 1 = true) :
    exec (.partitionCreate h p) s
      = .next (ok h [(1, n)] ((s.makePartition n p).journalOp 0xFFFF (.partitionCreate p))) := by
  have hfree : (decide (s.freeDies.length < p.dies) || decide (s.freeChannels.length < p.channels)) = false := by
    simp [hdies, hchannels]
  show execPartitionCreate h p s = _
  rw [execPartitionCreate, gheit_taken ht hb, hn]
  dsimp only
  rw [refuseIf_false hfree, refuseIf_false (decide_eq_false hareas.not_gt), refuseIf_false (decide_eq_false hseats.not_gt),
    refuseIf_false (decide_eq_false hspill.not_gt), refuseIf_nil]
  exact congrArg _ (State.endCmd_journalOp hroom le_rfl)

/-! ### PARTITION_DESTROY (R357, R411) -/

/-- The counters of a tile outlast the clearing of its memories (R67). -/
theorem Tile.counts_cleared (t : Tile) : t.cleared.counts = t.counts := by
  have hengine : ∀ (f : Engine → Nat), (∀ e : Engine, f { ovf := e.ovf, narLost := e.narLost } = f e) →
      ∀ i, f (Tab.getD t.cleared.engines i {}) = f (Tab.getD t.engines i {}) := by
    intro f hf i
    simp only [Tile.cleared, Tab.getD, Tab.get_mapVals]
    cases Tab.get t.engines i with
    | none => rfl
    | some e => exact hf e
  unfold Tile.counts
  simp only [hengine (fun e => e.ovf) (fun _ => rfl), hengine (fun e => e.narLost) (fun _ => rfl)]
  rfl

/-- The state with its dies out of sight. -/
def State.apartFromDies (s : State) : State := { s with dies := [] }

theorem State.eq_of_apartFromDies {t : State} (h : t.apartFromDies = s.apartFromDies) : t = { s with dies := t.dies } :=
  congrArg (fun u : State => { u with dies := t.dies }) h

theorem State.apartFromDies_rampNext (s : State) : s.rampNext.apartFromDies = s.apartFromDies := by
  unfold State.rampNext
  split
  · rfl
  · split <;> rfl

theorem State.apartFromDies_wakeDie (s : State) (d : Nat) (run : Bool) : (s.wakeDie d run).apartFromDies = s.apartFromDies := by
  unfold State.wakeDie
  dsimp only
  split
  · exact State.apartFromDies_rampNext _
  · split <;> rfl
  · rfl
  · rfl

/-- Clearing a die's memories leaves all but the dies (R443, R455). -/
theorem State.apartFromDies_clearDie (s : State) (d : Nat) : (s.clearDie d).apartFromDies = s.apartFromDies := by
  unfold State.clearDie
  split
  · exact s.apartFromDies_wakeDie d false
  · rfl

/-- The module without a partition, its dies not yet cleared. -/
def State.withoutPart (s : State) (n : Nat) (p : Part) : State := { s with
  parts := Tab.erase s.parts n
  regions := dropRegions s.regions n
  power := { s.power with keepAwake := s.power.keepAwake &&& ~~~(BitVec.ofNat 32 (2 ^ n)) }
  tiles := Tab.mapVals s.tiles (fun i t => if p.tiles.contains i then t.cleared else t) }

theorem State.apartFromDies_dropPartition {p : Part} (hp : Tab.get s.parts n = some p) :
    (s.dropPartition n).apartFromDies = (s.withoutPart n p).apartFromDies := by
  unfold State.dropPartition
  rw [hp]
  exact foldl_keeps State.apartFromDies State.apartFromDies_clearDie p.dies (s.withoutPart n p)

theorem State.counts_withoutPart (s : State) (n : Nat) (p : Part) (i : Nat) : ((s.withoutPart n p).tile i).counts = (s.tile i).counts := by
  simp only [State.tile, State.withoutPart, Tab.getD, Tab.get_mapVals]
  cases Tab.get s.tiles i with
  | none => rfl
  | some t =>
    rw [Option.map_some, Option.getD_some, Option.getD_some]
    split
    · exact t.counts_cleared
    · rfl

theorem getLsbD_and_not_twoPow (b : BitVec 32) (n : Nat) : (b &&& ~~~(BitVec.ofNat 32 (2 ^ n))).getLsbD n = false := by
  by_cases hn : n < 32
  · rw [BitVec.getLsbD_and, BitVec.getLsbD_not, BitVec.getLsbD_ofNat, Nat.testBit_two_pow_self]
    simp [hn]
  · exact BitVec.getLsbD_of_ge _ _ (by omega)

theorem exec_partitionDestroy (ht : Taken h true s) (hp : Tab.has s.parts n = true) (hctxs : s.ctxsOf n = [])
    (hjr : (s.dropPartition n).jr = s.jr) (hroom : s.journalRoom 1 = true) :
    exec (.partitionDestroy h n) s = .next (ok h [] ((s.dropPartition n).journalOp 0xFFFF (.partitionDestroy n))) := by
  show execPartitionDestroy h n s = _
  rw [execPartitionDestroy, gheit_taken ht rfl, hp, Bool.not_true, if_neg Bool.false_ne_true,
    refuseIf_false (by rw [hctxs]; rfl), refuseIf_nil]
  exact congrArg _ (State.endCmd_journalOp hroom (by rw [hjr]))

/-! ### PARTITION_QUANTUM (R357) -/

theorem exec_partitionQuantum {q : Nat} {p : Part} (ht : Taken h true s) (h100 : 100 ≤ q) (hmax : q ≤ 100000)
    (hp : Tab.get s.parts n = some p) (hroom : s.journalRoom 1 = true) :
    exec (.partitionQuantum h n q) s = .next (ok h []
      (State.journalOp { s with parts := Tab.set s.parts n { p with quantum := q } } 0xFFFF (.partitionQuantum n q))) := by
  have hrange : (decide (q < 100) || decide (100000 < q)) = false := by simp [h100, hmax]
  have hhas : Tab.has s.parts n = true := (Tab.has_iff _ _).mpr ⟨p, hp⟩
  show execPartitionQuantum h n q s = _
  rw [execPartitionQuantum, gheit_taken ht hrange, hhas, Bool.not_true, if_neg Bool.false_ne_true, s.modPart_some _ hp]
  exact congrArg _ (State.endCmd_journalOp hroom le_rfl)

end PartitionCommands

/-- Settles O3: a command that is taken runs its body (`gheit_taken`), where no condition of a refusal holds, and ends OK once it is
journaled; clearing the dies of a partition that goes leaves all but the dies (`apartFromDies_dropPartition`). -/
theorem partitionCommandsComplete : Obligations.PartitionCommandsComplete := by
  unfold Obligations.PartitionCommandsComplete
  refine ⟨?create, ?destroy, ?quantum⟩
  case create =>
    intro h p n s ht hb hn hdies hchannels hareas hseats hspill hroom
    exact exec_partitionCreate ht hb hn hdies hchannels hareas hseats hspill hroom
  case destroy =>
    intro h n s ht hhas hctxs hroom
    obtain ⟨p, hp⟩ := (Tab.has_iff _ _).mp hhas
    have hframe := State.apartFromDies_dropPartition hp
    have hpower : (s.dropPartition n).power = (s.withoutPart n p).power := (congrArg State.power hframe :)
    have htiles : (s.dropPartition n).tiles = (s.withoutPart n p).tiles := (congrArg State.tiles hframe :)
    refine ⟨_, exec_partitionDestroy ht hhas hctxs (congrArg State.jr hframe :) hroom, ?_, ?_, ?_, fun i => ?_⟩
    · rw [hpower, htiles]
      exact State.eq_of_apartFromDies hframe
    · rw [hpower]
      rfl
    · rw [hpower]
      exact getLsbD_and_not_twoPow _ n
    · rw [State.tile, htiles]
      exact s.counts_withoutPart n p i
  case quantum =>
    intro h n q p s ht h100 hmax hp hroom
    exact exec_partitionQuantum ht h100 hmax hp hroom

end Sys2Proof.Machine

namespace Sys2Proof.Machine

/-! SUPPORT. What an image that nothing has written reads as (R43, R44, R292). -/

/-! ### Its bytes -/

/-- Below the scale plane an image that nothing has written is zero. -/
theorem TObj.dflt_of_lt_planeStart {o : TObj} {a : Nat} (h : a < planeStart o.fmt o.dims) : o.dflt a = 0 :=
  if_neg fun hplane => Nat.not_lt.mpr hplane.2.2.1 h

/-- Only an ordinary tensor has a scale plane. -/
theorem TObj.dflt_of_kind_ne {o : TObj} (h : o.kind ≠ .ordinary) (a : Nat) : o.dflt a = 0 :=
  if_neg fun hplane => h hplane.1

/-- In the scale plane it is 0xFF. -/
theorem TObj.dflt_plane {o : TObj} {a : Nat} (hk : o.kind = .ordinary) (hb : o.fmt.hasBlocks = true)
    (hlo : planeStart o.fmt o.dims ≤ a) (hhi : a < planeStart o.fmt o.dims + planeBytes o.fmt o.dims) : o.dflt a = 0xFF := by
  have hbytes : o.bytes = planeStart o.fmt o.dims + planeBytes o.fmt o.dims := by simp [TObj.bytes, hk, hb]
  exact if_pos ⟨hk, hb, hlo, hbytes ▸ hhi⟩

theorem le_alignUp (a : Nat) {b : Nat} (hb : 0 < b) : a ≤ alignUp a b := by
  have hdiv := Nat.div_add_mod (a + b - 1) b
  have hmod := Nat.mod_lt (a + b - 1) hb
  rw [alignUp, ceilDiv, mul_comm]
  omega

theorem arrayBytes_le_planeStart (f : Fmt) (dims : List Nat) : arrayBytes f dims ≤ planeStart f dims :=
  le_alignUp _ (by decide)

/-! ### Codes and nibbles -/

theorem ofLeBytes_map_eq_zero {g : Nat → Byte} {l : List Nat} (h : ∀ i ∈ l, g i = 0) : ofLeBytes (l.map g) = 0 := by
  induction l with
  | nil => rfl
  | cons i l ih =>
    rw [List.forall_mem_cons] at h
    rw [List.map_cons, ofLeBytes, ih h.2, h.1]
    rfl

/-- An element of an array of zero bytes has code 0, its width being a fraction of a byte or whole bytes. -/
theorem codeAt_eq_zero {get : Nat → Byte} {w e n : Nat} (hpos : 0 < w) (hw : w < 8 ∨ 8 ∣ w) (he : e < n)
    (h : ∀ a < ceilDiv (n * w) 8, get a = 0) : codeAt get w e = 0 := by
  have hend : e * w + w ≤ n * w := by
    rw [← Nat.succ_mul]
    exact Nat.mul_le_mul_right w he
  unfold codeAt
  split
  case isTrue =>
    rw [h _ (by unfold ceilDiv; omega)]
    simp [fieldOf]
  case isFalse hwide =>
    obtain ⟨k, rfl⟩ := hw.resolve_left hwide
    refine ofLeBytes_map_eq_zero fun i hi => h _ ?_
    rw [Nat.mul_div_cancel_left k (by decide)] at hi ⊢
    rw [List.mem_range] at hi
    have hle : e * k + k ≤ n * k := by
      rw [← Nat.succ_mul]
      exact Nat.mul_le_mul_right k he
    have hbits : n * (8 * k) = 8 * (n * k) := by ring
    rw [ceilDiv, hbits]
    omega

theorem Fmt.width_lt_or_dvd (f : Fmt) : f.width < 8 ∨ 8 ∣ f.width := by
  cases f <;> decide

theorem rowLen_le_storedRow (f : Fmt) (dims : List Nat) : rowLen dims ≤ storedRow f dims := by
  unfold storedRow
  split
  · exact le_alignUp _ (by decide)
  · exact le_rfl

theorem mul_add_lt {r i rows n : Nat} (hr : r < rows) (hi : i < n) : r * n + i < rows * n :=
  calc r * n + i < r * n + n := by omega
    _ = (r + 1) * n := by ring
    _ ≤ rows * n := Nat.mul_le_mul_right n hr

/-- Every element of a new tensor has code 0. -/
theorem eq_zero_of_mem_codes {o : TObj} {row : List Nat} {c : Nat} (hrow : row ∈ (readImage o []).codes) (hc : c ∈ row) : c = 0 := by
  obtain ⟨r, hr, rfl⟩ := List.mem_map.mp hrow
  obtain ⟨i, hi, rfl⟩ := List.mem_map.mp hc
  rw [List.mem_range] at hr hi
  have he := mul_add_lt hr (hi.trans_le (rowLen_le_storedRow o.fmt o.dims))
  exact codeAt_eq_zero o.fmt.width_pos o.fmt.width_lt_or_dvd he
    fun a ha => TObj.dflt_of_lt_planeStart (lt_of_lt_of_le ha (arrayBytes_le_planeStart o.fmt o.dims))

theorem nibbleAt_of_ones {get : Nat → Byte} {base j : Nat} (h : get (base + j / 2) = 0xFF) : nibbleAt get base j = 15 := by
  unfold nibbleAt
  rw [h]
  split <;> rfl

/-- Every scale nibble of a new tensor is 15. -/
theorem eq_15_of_mem_nibs {o : TObj} {row : List Nat} {n : Nat} (hk : o.kind = .ordinary) (hb : o.fmt.hasBlocks = true)
    (hrow : row ∈ (readImage o []).nibs) (hn : n ∈ row) : n = 15 := by
  obtain ⟨r, hr, rfl⟩ := List.mem_map.mp hrow
  rw [if_pos hb] at hn
  obtain ⟨j, hj, rfl⟩ := List.mem_map.mp hn
  rw [List.mem_range] at hr hj
  have hblock := mul_add_lt hr hj
  refine nibbleAt_of_ones (TObj.dflt_plane hk hb (Nat.le_add_right _ _) ?_)
  rw [planeBytes, if_pos hb, ceilDiv]
  omega

/-! ### Code 0 read as its format says -/

theorem decodeElem_zero {f : Fmt} (hf : f.isLog = true ∨ f.isWeight = true ∨ f.isEdge = true ∨ f.isInt = true) (tb : Int) :
    decodeElem f 0 tb = .zero false := by
  cases f
  case b1 => simp [Fmt.isLog, Fmt.isWeight, Fmt.isEdge, Fmt.isInt] at hf
  all_goals rfl

/-- A wide tensor that nothing has written holds the CHAIN word 0 at every element. -/
theorem wideAt_eq_zero {k : Tensor} (hk : k.obj.kind = .wide) (hi : k.img = []) (e : Nat) : wideAt k e = 0 := by
  rw [wideAt, hi]
  exact ofLeBytes_map_eq_zero fun i _ => TObj.dflt_of_kind_ne (by simp [hk]) _

/-- Settles O60: the codes of a new tensor are 0 (`eq_zero_of_mem_codes`) and its nibbles 15 (`eq_15_of_mem_nibs`), for elements lie
below the scale plane and nibbles in it; code 0 is ZERO in every format but B1. -/
theorem newTensorReads : Obligations.NewTensorReads := by
  unfold Obligations.NewTensorReads
  refine ⟨fun o a ha => TObj.dflt_of_lt_planeStart ha, ?logs, fun o row n hk hb hrow hn => eq_15_of_mem_nibs hk hb hrow hn, ?edges, ?ints,
    ?signs, ?wide⟩
  case logs =>
    intro o row c _ hf hrow hc tb
    rw [eq_zero_of_mem_codes hrow hc]
    exact decodeElem_zero ((Bool.or_eq_true _ _ ▸ hf).imp id .inl) tb
  case edges =>
    intro o row c _ hf hrow hc tb
    rw [eq_zero_of_mem_codes hrow hc]
    exact decodeElem_zero (.inr (.inr (.inl hf))) tb
  case ints =>
    intro o row c _ hf hrow hc tb
    rw [eq_zero_of_mem_codes hrow hc]
    exact decodeElem_zero (.inr (.inr (.inr hf))) tb
  case signs =>
    intro o row c _ hf hrow hc tb
    rw [eq_zero_of_mem_codes hrow hc, hf]
    rfl
  case wide =>
    intro k e hk hi
    rw [wideAt_eq_zero hk hi]
    rfl

end Sys2Proof.Machine

namespace Sys2Proof.Machine

/-! SUPPORT. Commands on KV pools, page tables and serving slots (R305, R306, R356, R378). -/

section PoolAndSlotCommands

variable {h : CmdHead} {ctx n slot : Nat} {x : Ctx} {l : Slot} {s : State}

/-! ### KV pools (R305, R356) -/

/-- The job's extents and a new pool fit, the pool in its HBM share (R305). -/
theorem Ctx.poolOk_of_room {bytes : Nat} (hpools : x.poolBytes + bytes ≤ x.placementShare)
    (hquota : x.hbmHeld + x.ballastHeld + bytes ≤ x.placementShare + x.params.ballastQuota * unitBytes) : x.poolOk bytes = true :=
  Bool.and_eq_true_iff.mpr ⟨decide_eq_true hpools, decide_eq_true hquota⟩

theorem exec_kvPoolCreate {pages per : Nat} (ht : Taken h false s) (ho : Owned h ctx x s) (h1 : 1 ≤ pages) (hmax : pages ≤ 2 ^ 24)
    (hper : per ≤ 1) (hn : lowestFree 65536 (Tab.keys x.pools) = some n) (hfits : x.poolOk (pages * 65536) = true)
    (hmirror : per = 1 → s.persistentSlots + ceilDiv (pages * 65536) unitBytes ≤ s.mirrorSlots) (hroom : s.journalRoom 1 = true) :
    exec (.kvPoolCreate h ctx pages per) s = .next (ok h [(2, n)]
      ((s.makePool ctx x n pages (per = 1)).journalOp ctx (.kvPoolCreate ctx pages (per = 1)))) := by
  have hbad : (decide (pages = 0) || decide (2 ^ 24 < pages) || decide (1 < per)) = false := by
    simp only [Bool.or_eq_false_iff, decide_eq_false_iff_not]
    omega
  have hslots : (decide (per = 1) && decide (s.mirrorSlots < s.persistentSlots + ceilDiv (pages * 65536) unitBytes)) = false := by
    by_cases hp : per = 1
    · simp [hmirror hp]
    · simp [hp]
  show execKvPoolCreate h ctx pages per s = _
  rw [execKvPoolCreate, gheit_owned ht ho hbad, hn]
  dsimp only
  rw [refuseIf_false (by rw [hfits]; rfl), refuseIf_false hslots, refuseIf_nil]
  exact congrArg _ (State.endCmd_journalOp hroom le_rfl)

theorem exec_kvPoolDestroy {pool : Nat} (ht : Taken h false s) (ho : Owned h ctx x s) (hp : Tab.has x.pools pool = true)
    (hviews : ∀ t ∈ x.tensors, t.2.obj.kind = .kvView → t.2.obj.kv.pool ≠ pool) (hroom : s.journalRoom 1 = true) :
    exec (.kvPoolDestroy h ctx pool) s = .next (ok h []
      (State.journalOp { s with ctxs := Tab.set s.ctxs ctx (x.dropPool pool) } ctx (.kvPoolDestroy ctx pool))) := by
  have hunused : x.tensors.any (fun t => t.2.obj.kind = .kvView && t.2.obj.kv.pool = pool) = false :=
    List.any_eq_false.mpr fun t hmem => by simpa using hviews t hmem
  show execKvPoolDestroy h ctx pool s = _
  rw [execKvPoolDestroy, gheit_owned ht ho rfl, hp, Bool.not_true, if_neg Bool.false_ne_true, refuseIf_false hunused, refuseIf_nil,
    s.modCtx_some _ ho.1, State.endCmd_journaled _ _ hroom]

/-! ### Page tables (R306) -/

theorem State.mapPages_some (hl : Tab.get s.slots slot = some l) (first seq : Nat) (es : List Word32) :
    s.mapPages slot first seq es = { s with slots := Tab.set s.slots slot { l with
      obj := { l.obj with table := putEntries l.obj.table first es }, old := s.keptTables l seq } } := by
  rw [State.mapPages, Tab.modify_some _ _ hl]

theorem exec_kvMap {first count : Nat} {es : List Word32} (ht : Taken h false s) (ho : Owned h ctx x s) (hin : first + count ≤ 32768)
    (hl : Tab.get s.slots slot = some l) (hctx : l.ctx = ctx) (hes : ∀ e ∈ es.take count, fieldOf e.toNat 30 24 = 0)
    (hroom : s.journalRoom 1 = true) :
    exec (.kvMap h ctx slot first count (some es)) s = .next (ok h []
      ((s.mapPages slot first s.jr.nextSeq (es.take count)).journalOp ctx (.kvMap ctx slot first (es.take count)))) := by
  have hvalid : (es.take count).any (fun e => fieldOf e.toNat 30 24 != 0) = false :=
    List.any_eq_false.mpr fun e he => by simp [hes e he]
  show execKvMap h ctx slot first count (some es) s = _
  rw [execKvMap, gheit_owned ht ho (decide_eq_false hin.not_gt), hl]
  dsimp only
  rw [hctx, if_neg (by simp), hvalid, if_neg Bool.false_ne_true]
  exact congrArg _ (State.endCmd_journalOp hroom le_rfl)

/-! ### Serving slots (R378) -/

theorem exec_slotAssign {bytes : Nat} {prompt : List Byte} (ht : Taken h false s) (ho : Owned h ctx x s) (hbytes : bytes ≤ 262144)
    (hn : lowestFree 8192 (Tab.keys s.slots) = some n)
    (hroom : s.journalRoom (1 + (promptBodies n ((prompt.take bytes).length + 1) (prompt.take bytes)).length) = true) :
    exec (.slotAssign h ctx bytes (some prompt)) s = .next (ok h [(2, n)] ((s.assignSlot ctx n (prompt.take bytes)).journal 0xFFFF ctx 0
      (.config (.slotAssign ctx n) :: promptBodies n ((prompt.take bytes).length + 1) (prompt.take bytes)))) := by
  rw [add_comm, ← List.length_cons (a := JBody.config (.slotAssign ctx n))] at hroom
  show execSlotAssign h ctx bytes (some prompt) s = _
  rw [execSlotAssign, gheit_owned ht ho (decide_eq_false hbytes.not_gt), hn]
  exact congrArg _ (s.endCmd_ok h _ _ (State.overfull_journal hroom le_rfl))

theorem exec_slotRelease (ht : Taken h false s) (ho : Owned h ctx x s) (hl : Tab.get s.slots slot = some l) (hctx : l.ctx = ctx)
    (hfree : x.namesSlot slot = false) (hroom : s.journalRoom 1 = true) :
    exec (.slotRelease h ctx slot) s
      = .next (ok h [] (State.journalOp { s with slots := Tab.erase s.slots slot } ctx (.slotRelease ctx slot))) := by
  show execSlotRelease h ctx slot s = _
  rw [execSlotRelease, gheit_owned ht ho rfl, hl]
  dsimp only
  rw [hctx, if_neg (by simp), refuseIf_false hfree, refuseIf_nil]
  exact congrArg _ (State.endCmd_journalOp hroom le_rfl)

@[simp] theorem State.jr_fnWrite (s : State) (fn a : Nat) (b : List Byte) : (s.fnWrite fn a b).jr = s.jr := by
  unfold State.fnWrite
  split <;> rfl

theorem exec_slotQuery {addr : Nat} (ht : Taken h false s) (ho : Owned h ctx x s) (hl : Tab.get s.slots slot = some l)
    (hctx : l.ctx = ctx) :
    exec (.slotQuery h ctx slot addr) s = .next (ok h [(1, if l.restart then 1 else 0), (4, l.obj.length)]
      (s.fnWrite h.fn addr l.obj.prompt)) := by
  show execSlotQuery h ctx slot addr s = _
  rw [execSlotQuery, gheit_owned ht ho rfl, hl]
  dsimp only
  rw [hctx, if_neg (by simp)]
  exact congrArg _ (s.endCmd_ok h _ _ (s.overfull_of_own _ (by rw [State.jr_fnWrite])))

end PoolAndSlotCommands

/-- Settles O7: a block that is taken and owned runs its body on the job (`gheit_owned`), where no condition of a refusal holds, and
ends OK once what it journals has found room; the query journals nothing. -/
theorem poolAndSlotCommandsComplete : Obligations.PoolAndSlotCommandsComplete := by
  unfold Obligations.PoolAndSlotCommandsComplete
  refine ⟨?poolCreate, ?kvMap, ?poolDestroy, ?assign, ?release, ?query⟩
  case poolCreate =>
    intro h ctx pages per n x s ht ho h1 hmax hper hn hpools hquota hroom hmirror
    exact ⟨_, _, _, exec_kvPoolCreate ht ho h1 hmax hper hn (Ctx.poolOk_of_room hpools hquota) hmirror hroom, rfl,
      Tab.get_set_self _ _ _, rfl, rfl⟩
  case kvMap =>
    intro h ctx slot first count es x l s ht ho hin hl hctx hes hroom
    rw [exec_kvMap ht ho hin hl hctx hes hroom, State.mapPages_some hl]
  case poolDestroy =>
    intro h ctx pool x s ht ho hp hviews hroom
    exact ⟨x.dropPool pool, exec_kvPoolDestroy ht ho hp hviews hroom, Tab.get_erase_self _ _, rfl⟩
  case assign =>
    intro h ctx bytes n prompt x s ht ho hbytes hn hroom
    exact exec_slotAssign ht ho hbytes hn hroom
  case release =>
    intro h ctx slot x l s ht ho hl hctx hfree hroom
    exact exec_slotRelease ht ho hl hctx hfree hroom
  case query =>
    intro h ctx slot addr x l s ht ho hl hctx
    exact exec_slotQuery ht ho hl hctx

end Sys2Proof.Machine

namespace Sys2Proof.Machine

/-! SUPPORT. Commands on tensors and their mappings (R290 to R294, R302 to R304, R321). -/

section TensorCommands

variable {h : CmdHead} {ctx handle offset : Nat} {x : Ctx} {k : Tensor} {s : State}

/-! ### TENSOR_CREATE (R290 to R292, R300) -/

theorem exec_tensorCreate {p : TensorParams} (ht : Taken h false s) (ho : Owned h ctx x s) (hb : tensorBad p = false)
    (hkv : p.kind = 2 → Tab.has x.pools p.kv.pool = true ∧ (Tab.get s.slots p.kv.slot).map (·.ctx) = some ctx)
    (hquota : x.quotaOk p.obj.bytes = true)
    (hpins : p.pin = true →
      x.pinCount + pinUnits p.obj.bytes ≤ 124 * (((Tab.get s.parts x.params.partition).map (fun q => q.tiles.length)).getD 0))
    (hcount : s.tensorCount < 4194304) (hnext : x.nextHandle < 2 ^ 32)
    (hmirror : p.persistent = true → s.persistentSlots + p.obj.extents ≤ s.mirrorSlots) (hroom : s.journalRoom 1 = true) :
    exec (.tensorCreate h ctx p) s
      = .next (ok h [(4, x.nextHandle)] ((s.makeTensor ctx x p).journalOp ctx (.tensorCreate ctx p))) := by
  have hnamed : (decide (p.kind = 2) &&
      (!Tab.has x.pools p.kv.pool || ((Tab.get s.slots p.kv.slot).map (·.ctx)) != some ctx)) = false := by
    by_cases hk : p.kind = 2
    · obtain ⟨hpool, hslot⟩ := hkv hk
      simp [hpool, hslot]
    · simp [hk]
  have hpinned : (p.pin && decide (124 * (((Tab.get s.parts x.params.partition).map (fun q => q.tiles.length)).getD 0)
      < x.pinCount + pinUnits p.obj.bytes)) = false := by
    by_cases hp : p.pin = true
    · rw [hp, decide_eq_false (hpins hp).not_gt, Bool.and_false]
    · rw [Bool.eq_false_of_not_eq_true hp, Bool.false_and]
  have hhandles : (decide (4194304 ≤ s.tensorCount) || decide (2 ^ 32 ≤ x.nextHandle)) = false := by
    rw [decide_eq_false hcount.not_ge, decide_eq_false hnext.not_ge]
    rfl
  have hslots : (p.persistent && decide (s.mirrorSlots < s.persistentSlots + p.obj.extents)) = false := by
    by_cases hp : p.persistent = true
    · rw [hp, decide_eq_false (hmirror hp).not_gt, Bool.and_false]
    · rw [Bool.eq_false_of_not_eq_true hp, Bool.false_and]
  show execTensorCreate h ctx p s = _
  rw [execTensorCreate, gheit_owned ht ho hb]
  dsimp only
  rw [hnamed, if_neg Bool.false_ne_true, refuseIf_false (by rw [hquota]; rfl), refuseIf_false hpinned, refuseIf_false hhandles,
    refuseIf_false hslots, refuseIf_nil]
  exact congrArg _ (State.endCmd_journalOp hroom le_rfl)

/-! ### TENSOR_DELETE (R294) -/

/-- Freeing a tensor takes no other's content: a handle names what it named, or nothing. -/
theorem Ctx.tensor?_freeTensor (x : Ctx) (i j : Nat) : (x.freeTensor i).tensor? j = x.tensor? j ∨ (x.freeTensor i).tensor? j = none := by
  simp only [Ctx.tensor?, Ctx.freeTensor]
  by_cases hnode : j = 2 ^ 32 + i
  · exact .inr (hnode ▸ Tab.get_erase_self _ _)
  · rw [Tab.get_erase_ne _ hnode]
    by_cases hi : j = i
    · exact .inr (hi ▸ Tab.get_erase_self _ _)
    · exact .inl (Tab.get_erase_ne _ hi)

/-- The turn of one tensor in `sweepDeleted`. -/
def Ctx.sweep (y : Ctx) (t : Nat × Tensor) : Ctx :=
  match t.2.deletedAt with
  | some n => if y.runs.any (fun r => r.accAt ≤ n) then y else y.freeTensor t.1
  | none => y

theorem Ctx.sweepDeleted_eq (x : Ctx) : x.sweepDeleted = x.tensors.foldl Ctx.sweep x := rfl

theorem Ctx.tensor?_sweep (x : Ctx) (t : Nat × Tensor) (j : Nat) :
    (x.sweep t).tensor? j = x.tensor? j ∨ (x.sweep t).tensor? j = none := by
  unfold Ctx.sweep
  split
  case h_1 =>
    split
    case isTrue => exact .inl rfl
    case isFalse => exact x.tensor?_freeTensor t.1 j
  case h_2 => exact .inl rfl

theorem Ctx.tensor?_sweepDeleted (x : Ctx) (j : Nat) : x.sweepDeleted.tensor? j = x.tensor? j ∨ x.sweepDeleted.tensor? j = none := by
  rw [Ctx.sweepDeleted_eq]
  generalize x.tensors = l
  induction l generalizing x with
  | nil => exact .inl rfl
  | cons t l ih =>
    rw [List.foldl_cons]
    refine (ih (x.sweep t)).elim (fun hkept => ?_) .inr
    rw [hkept]
    exact x.tensor?_sweep t j

/-- The job once a command has deleted a tensor that its accepted tickets may still see. -/
def Ctx.deleteTensor (x : Ctx) (handle seq : Nat) (k : Tensor) : Ctx :=
  { x with tensors := Tab.set x.tensors handle { k with deletedAt := some seq } }.sweepDeleted

/-- What is accepted later does not see a deleted tensor. -/
theorem Ctx.sees_deleteTensor {r : Run} {seq : Nat} (hr : seq < r.accAt) : (x.deleteTensor handle seq k).sees r handle = none := by
  have hset : Ctx.tensor? { x with tensors := Tab.set x.tensors handle { k with deletedAt := some seq } } handle
      = some { k with deletedAt := some seq } := Tab.get_set_self _ _ _
  unfold Ctx.sees Ctx.deleteTensor
  rcases Ctx.tensor?_sweepDeleted { x with tensors := Tab.set x.tensors handle { k with deletedAt := some seq } } handle with hkept | hfreed
  · rw [hkept, hset]
    exact if_pos (decide_eq_true hr)
  · rw [hfreed]

theorem Ctx.named?_eq_some (hk : x.tensor? handle = some k) (hdel : k.deletedAt = none) (hlt : handle < 2 ^ 32) :
    x.named? handle = some k := by
  rw [Ctx.named?, if_neg hlt.not_ge, hk, Option.bind_some, hdel]
  rfl

theorem exec_tensorDelete (ht : Taken h false s) (ho : Owned h ctx x s) (hk : x.named? handle = some k) (hroom : s.journalRoom 1 = true) :
    exec (.tensorDelete h ctx handle) s = .next (ok h []
      ((s.journalOp ctx (.tensorDelete ctx handle)).modCtx ctx (fun y => y.deleteTensor handle s.jr.nextSeq k))) := by
  show execTensorDelete h ctx handle s = _
  rw [execTensorDelete, gheit_owned ht ho rfl, hk]
  exact congrArg _ (s.endCmd_ok h [] _ (State.overfull_journalOp (t := s) (b := .tensorDelete ctx handle) hroom le_rfl))

@[simp] theorem State.ctx?_journalOp (s : State) (c i : Nat) (op : ConfigOp) : (s.journalOp c op).ctx? i = s.ctx? i := by
  rw [State.journalOp, State.journal_eq]
  rfl

/-! ### TENSOR_MAP (R302, R303) -/

/-- The ranges of the command lie in the aperture, meet no mapping, and there is room for one more. -/
structure MapFits (h : CmdHead) (offset : Nat) (k : Tensor) (s : State) : Prop where
  aligned : offset % 65536 = 0
  within : offset + mapSpan k.obj.bytes ≤ 2 ^ 36
  clear : (s.fn h.fn).overlaps offset k.obj.bytes = false
  room : (s.fn h.fn).maps.length < 4096

theorem exec_tensorMap (ht : Taken h false s) (ho : Owned h ctx x s) (hk : x.named? handle = some k) (hfits : MapFits h offset k s) :
    exec (.tensorMap h ctx handle offset) s = .next (s.endCmd h (if x.inUse handle then .waits (.map ctx handle offset) s
      else .ok [] (s.makeMapping h.fn ctx handle offset k.obj.bytes))) := by
  obtain ⟨haligned, hwithin, hclear, hroom⟩ := hfits
  show execTensorMap h ctx handle offset s = _
  rw [execTensorMap, gheit_owned ht ho (by simp [haligned]), hk]
  dsimp only
  rw [if_neg hwithin.not_gt, refuseIf_false hclear, refuseIf_false (decide_eq_false hroom.not_ge), refuseIf_nil]

/-! ### TENSOR_UNMAP (R302, R321) -/

@[simp] theorem State.jr_fnVector (s : State) (fn v : Nat) : (s.fnVector fn v).jr = s.jr := by
  unfold State.fnVector
  split <;> rfl

@[simp] theorem State.jr_finishCmd (s : State) (h : CmdHead) (status cause : Nat) (res : List Byte) :
    (s.finishCmd h status cause res).jr = s.jr := by
  unfold State.finishCmd
  dsimp only
  repeat' split
  all_goals simp [State.granted]

@[simp] theorem State.jr_retryMaps (s : State) (ctx : Nat) : (s.retryMaps ctx).jr = s.jr := by
  refine foldl_keeps (f := fun (a : State) (f : Nat × Func) => a.retryMap ctx f.1) State.jr (fun a f => ?_) s.funs s
  unfold State.retryMap State.makeMapping
  repeat' split
  all_goals simp

@[simp] theorem State.jr_swapOut (s : State) (part v : Nat) : (s.swapOut part v).jr = s.jr := by
  unfold State.swapOut
  split <;> rfl

@[simp] theorem State.jr_beginSwitch (s : State) (part c len : Nat) (out : Option Nat) : (s.beginSwitch part c len out).jr = s.jr := by
  unfold State.beginSwitch
  cases out with
  | none => rfl
  | some v => exact s.jr_swapOut part v

@[simp] theorem State.jr_passSlice (s : State) (part : Nat) : (s.passSlice part).jr = s.jr := by
  unfold State.passSlice
  dsimp only
  repeat' split
  all_goals simp

@[simp] theorem State.jr_arrive (s : State) (ctx : Nat) : (s.arrive ctx).jr = s.jr := by
  unfold State.arrive
  dsimp only
  repeat' split
  all_goals simp

/-- Bringing a job's state up to date journals nothing. -/
@[simp] theorem State.jr_refresh (s : State) (ctx : Nat) : (s.refresh ctx).jr = s.jr := by
  unfold State.refresh
  dsimp only
  repeat' split
  all_goals simp

/-- An entry that nothing can wait for overfills nothing. -/
theorem State.overfull_journalIf {t : State} {ring c tseq : Nat} {b : List JBody} (hcap : t.order1536 = s.order1536) (hjr : t.jr = s.jr) :
    s.overfull (t.journalIf ring c tseq b) = false := by
  unfold State.journalIf
  split
  case isFalse => exact s.overfull_of_own t (by rw [hjr])
  case isTrue hroom =>
    refine State.overfull_journal ?_ (by rw [hjr])
    rwa [State.journalRoom, State.journalCap, hcap, hjr] at hroom

theorem State.overfull_endMapping (s : State) (fn offset : Nat) : s.overfull (s.endMapping fn offset) = false := by
  unfold State.endMapping
  dsimp only
  split
  case h_1 => exact s.overfull_of_own s le_rfl
  case h_2 =>
    split
    case isTrue => exact s.overfull_of_own _ le_rfl
    case isFalse => exact State.overfull_journalIf (t := s.modFn fn _) rfl rfl

theorem exec_tensorUnmap {m : Mapping} (ht : Taken h false s) (ho : Owned h ctx x s)
    (hm : (s.fn h.fn).maps.find? (fun m => m.2.ctx = ctx && m.2.handle = handle) = some (offset, m))
    (hroom : s.journalRoom (s.unmapBodies m).length = true) :
    exec (.tensorUnmap h ctx handle) s = .next (ok h [] ((s.endMapping h.fn offset).refresh ctx)) := by
  have hfull : s.overfull ((s.endMapping h.fn offset).refresh ctx) = false := by
    rw [State.overfull, State.jr_refresh]
    exact s.overfull_endMapping h.fn offset
  show execTensorUnmap h ctx handle s = _
  rw [execTensorUnmap, gheit_owned ht ho rfl, hm]
  dsimp only
  rw [if_pos hroom]
  exact congrArg _ (s.endCmd_ok h [] _ hfull)

@[simp] theorem State.funs_journalIf (s : State) (ring c tseq : Nat) (b : List JBody) : (s.journalIf ring c tseq b).funs = s.funs := by
  unfold State.journalIf
  split
  · rw [State.journal_eq]
  · rfl

/-- A mapping that has ended is no more. -/
theorem State.get_maps_endMapping (s : State) (fn offset : Nat) : Tab.get ((s.endMapping fn offset).fn fn).maps offset = none := by
  have hgone : Tab.get ((s.modFn fn (fun f => { f with maps := Tab.erase f.maps offset })).fn fn).maps offset = none := by
    rw [State.modFn, State.fn_setFn_self]
    exact Tab.get_erase_self _ _
  unfold State.endMapping
  dsimp only
  split
  case h_1 hnone => exact hnone
  case h_2 =>
    split
    case isTrue => exact hgone
    case isFalse => rwa [State.fn, State.funs_modCtx, State.funs_journalIf]

/-! ### TENSOR_QUERY (R304) -/

/-- What the query of a tensor tells beside its kind, format and rank: shape, T, write count, extents by tier and copies. -/
def State.tensorFacts (s : State) (x : Ctx) (handle : Nat) (k : Tensor) : List (Nat × Nat) :=
  let n (p : Ext × Bool → Bool) : Nat := ((s.tierExts x handle).filter p).length
  (List.range 6).map (fun i => (4, (s.dimsOf k.obj).getD i 0))
    ++ [(1, twosOf k.obj.t 8), (8, k.obj.writes), (8, n (fun e => e.1.home.isHbm)), (8, n (fun e => !e.1.home.isHbm)),
      (8, n (fun e => !e.1.pools.isEmpty)), (8, n (fun e => !e.1.sram.isEmpty || e.2))]

theorem exec_tensorQuery (ht : Taken h false s) (ho : Owned h ctx x s) (hk : x.named? handle = some k) :
    exec (.tensorQuery h ctx handle) s = .next (ok h
      ([(1, k.obj.kind.code), (1, fmtCode k.obj.fmt), (1, (s.dimsOf k.obj).length)] ++ s.tensorFacts x handle k) s) := by
  show execTensorQuery h ctx handle s = _
  rw [execTensorQuery, gheit_owned ht ho rfl, hk]
  dsimp only
  rw [List.append_assoc]
  exact congrArg _ (s.endCmd_ok h _ s (s.overfull_of_own s le_rfl))

end TensorCommands

/-- Settles O6: a block that is taken and owned runs its body on the job (`gheit_owned`), where no condition of a refusal holds; no
ticket accepted later sees a deleted tensor, whether it is freed at once or stays (`sees_deleteTensor`); the end of a mapping journals
only what finds room (`overfull_endMapping`). -/
theorem tensorCommandsComplete : Obligations.TensorCommandsComplete := by
  unfold Obligations.TensorCommandsComplete
  refine ⟨?create, ?delete, ?map, ?unmap, ?query⟩
  case create =>
    intro h ctx p x s ht ho hb hkv hquota hpins hcount hnext hmirror hroom
    exact ⟨_, _, _, exec_tensorCreate ht ho hb hkv hquota hpins hcount hnext hmirror hroom, rfl, Tab.get_set_self _ _ _, rfl, rfl, rfl,
      rfl, rfl, fun n hn => Tab.get_set_ne _ _ hn⟩
  case delete =>
    intro h ctx handle x k s ht ho hk hdel hlt hroom
    refine ⟨_, exec_tensorDelete ht ho (Ctx.named?_eq_some hk hdel hlt) hroom, ?unseen, ?others, ?frame⟩
    case unseen =>
      intro y hy r hr
      rw [State.ctx?_modCtx, if_pos rfl, State.ctx?_journalOp, ho.1, Option.map_some] at hy
      obtain rfl := Option.some.inj hy
      exact Ctx.sees_deleteTensor hr
    case others =>
      intro c hc
      rw [State.ctx?_modCtx, if_neg hc, State.ctx?_journalOp]
    case frame =>
      rw [State.journalOp, State.journal_eq]
      rfl
  case map =>
    intro h ctx handle offset x k s ht ho hk haligned hwithin hclear hroom
    have hexec := exec_tensorMap ht ho hk ⟨haligned, hwithin, hclear, hroom⟩
    refine ⟨fun hfree => ?made, fun hused => ?waits⟩
    case made =>
      rw [hexec, hfree, if_neg Bool.false_ne_true]
      exact congrArg _ (State.endCmd_of_jr_eq rfl)
    case waits =>
      rw [hexec, if_pos hused]
      rfl
  case unmap =>
    intro h ctx handle offset x m s ht ho hm hroom
    exact ⟨exec_tensorUnmap ht ho hm hroom, s.get_maps_endMapping h.fn offset⟩
  case query =>
    intro h ctx handle x k s ht ho hk
    exact ⟨s.tensorFacts x handle k, exec_tensorQuery ht ho hk⟩

end Sys2Proof.Machine

namespace Sys2Proof.Machine

/-! SUPPORT. Reads and writes through BAR2 (R304, R321, R387, R442). -/

section Bar2

variable {s t : State} {fn off len ctx handle a : Nat} {x y : Ctx} {k k2 : Tensor} {b : Byte} {bs : List Byte} {m : Nat × Mapping}

/-! ### The stacks that an access reaches (R442) -/

/-- Asking for stacks, with no tile, leaves all but the dies. -/
theorem State.apartFromDies_wake (s : State) (ds : List Nat) : (s.wake ⟨[], ds⟩).apartFromDies = s.apartFromDies :=
  foldl_keeps State.apartFromDies (fun a d => a.apartFromDies_wakeDie d false) ds s

theorem State.wakeDie_of_run {d : Nat} (h : (s.die d).state = .run) (run : Bool) : s.wakeDie d run = s := by
  simp [State.wakeDie, h]

theorem State.wake_of_run (h : ∀ d, (s.die d).state = .run) (ds : List Nat) : s.wake ⟨[], ds⟩ = s :=
  List.foldl_fixed' (fun d => State.wakeDie_of_run (h d) false) ds

/-- One piece that an access meets: the stack of its home is asked for. -/
def State.wakeHome (s : State) (e : Nat × PieceId) : State :=
  match s.ctx? e.1 with
  | some x => s.wake ⟨[], x.homeDies [e.2]⟩
  | none => s

theorem State.bar2Wake_eq (hl : s.live = true) : s.bar2Wake fn off len = ((s.fn fn).meets off len).foldl State.wakeHome s := by
  rw [State.bar2Wake, State.bar2Off, hl]
  rfl

theorem State.apartFromDies_wakeHome (s : State) (e : Nat × PieceId) : (s.wakeHome e).apartFromDies = s.apartFromDies := by
  unfold State.wakeHome
  split
  · exact s.apartFromDies_wake _
  · rfl

theorem State.wakeHome_of_run (h : ∀ d, (s.die d).state = .run) (e : Nat × PieceId) : s.wakeHome e = s := by
  unfold State.wakeHome
  split
  · exact State.wake_of_run h _
  · rfl

/-! ### What an access leaves besides its bytes (R304, R387) -/

/-- An access of the aperture once it is counted, if it strays, and has asked for the stacks it reaches. -/
def State.bar2Access (s : State) (fn off len : Nat) : State := (s.countStray fn off len).bar2Wake fn off len

theorem State.countStray_of_inside (hl : s.live = true) (h : (s.fn fn).strays off len = false) : s.countStray fn off len = s := by
  rw [State.countStray, State.bar2Off, hl, h]
  rfl

theorem State.countStray_of_stray (hl : s.live = true) (h : (s.fn fn).strays off len = true) :
    s.countStray fn off len = s.modFn fn (fun f => { f with bar2Unmapped := min (2 ^ 32 - 1) (f.bar2Unmapped + 1) }) := by
  rw [State.countStray, State.bar2Off, hl, h]
  rfl

theorem State.countStray_eq (s : State) (fn off len : Nat) :
    s.countStray fn off len = { s with funs := (s.countStray fn off len).funs } := by
  unfold State.countStray
  split <;> rfl

theorem State.live_countStray (s : State) (fn off len : Nat) : (s.countStray fn off len).live = s.live := by
  rw [State.countStray_eq]
  rfl

theorem State.apartFromDies_bar2Access (hl : s.live = true) :
    (s.bar2Access fn off len).apartFromDies = (s.countStray fn off len).apartFromDies := by
  rw [State.bar2Access, State.bar2Wake_eq (by rwa [State.live_countStray])]
  exact foldl_keeps State.apartFromDies State.apartFromDies_wakeHome _ _

theorem State.funs_bar2Access (hl : s.live = true) : (s.bar2Access fn off len).funs = (s.countStray fn off len).funs :=
  (congrArg State.funs (State.apartFromDies_bar2Access hl) :)

theorem State.bar2Access_eq (hl : s.live = true) (fn off len : Nat) :
    s.bar2Access fn off len
      = { s with funs := (s.bar2Access fn off len).funs, dies := (s.bar2Access fn off len).dies } := by
  refine (State.eq_of_apartFromDies (State.apartFromDies_bar2Access hl)).trans ?_
  rw [State.funs_bar2Access hl, State.countStray_eq]

/-- Where every die runs, no die is asked for. -/
theorem State.dies_bar2Access (hl : s.live = true) (h : ∀ d, (s.die d).state = .run) : (s.bar2Access fn off len).dies = s.dies := by
  have hrun : ∀ d, ((s.countStray fn off len).die d).state = .run := by
    rw [State.countStray_eq]
    exact h
  rw [State.bar2Access, State.bar2Wake_eq (by rwa [State.live_countStray]), List.foldl_fixed' (State.wakeHome_of_run hrun),
    State.countStray_eq]

theorem State.maps_bar2Access (hl : s.live = true) : ((s.bar2Access fn off len).fn fn).maps = (s.fn fn).maps := by
  rw [State.fn, State.funs_bar2Access hl]
  cases h : (s.fn fn).strays off len with
  | false => rw [State.countStray_of_inside hl h]; rfl
  | true =>
    rw [State.countStray_of_stray hl h]
    show ((s.modFn fn _).fn fn).maps = _
    rw [State.modFn, State.fn_setFn_self]

theorem exec_bar2Read (hfn : fn ≤ 62) (hl : s.live = true) (hlen : len ≤ 512) :
    exec (.bar2Read fn off len) s = .next ((s.bar2Access fn off len).emit
      [.readData fn ((List.range len).map (fun i => s.bar2Byte (s.fn fn) (off + i)))]) := by
  obtain ⟨hp, -, -⟩ := State.live_iff.mp hl
  refine (withUnit_next _ (decide_eq_true hfn)).trans ?_
  rw [hp, Bool.not_true, Bool.false_or, if_neg (by simp [hlen]), State.bar2Off, hl]
  rfl

/-! ### A byte written (R304, R321) -/

/-- The mapping with a 64-byte unit marked as written. -/
def Mapping.touch (m : Mapping) (u : Nat) : Mapping := { m with
  touched := if m.touched.contains u then m.touched else m.touched.filter (· < u) ++ [u] ++ m.touched.filter (fun v => u < v) }

/-- The job with one byte of a tensor's image written. -/
def Ctx.putByte (x : Ctx) (handle : Nat) (k : Tensor) (a : Nat) (b : Byte) : Ctx :=
  ({ x with tensors := Tab.set x.tensors handle { k with img := Mem.put k.obj.dflt k.img a b } }).wrotePieces
    [⟨false, handle, a / 65536⟩]

theorem State.bar2Put_mapped (hm : (s.fn fn).mapAt off = some m) (hx : s.ctx? m.2.ctx = some x) (hk : x.tensor? m.2.handle = some k)
    (ha : off - m.1 < k.obj.bytes) :
    s.bar2Put fn off b = (s.setCtx m.2.ctx (x.putByte m.2.handle k (off - m.1) b)).modFn fn
      (fun f => { f with maps := Tab.set f.maps m.1 (m.2.touch ((off - m.1) / 64)) }) := by
  unfold State.bar2Put
  rw [hm]
  dsimp only
  rw [hx, Option.bind_some, hk]
  exact if_pos ha

/-- A change of extents leaves of the tensors all but their extents. -/
theorem Ctx.map_tensor?_modExt {β : Type} (P : Tensor → β) (hP : ∀ (t : Tensor) (es : Tab Ext),
      P { t with exts := es } = P t) (x : Ctx) (e : ExtentId) (f : Ext → Ext) (i : Nat) :
    ((x.modExt e f).tensor? i).map P = (x.tensor? i).map P := by
  unfold Ctx.modExt
  split
  · rfl
  · exact Tab.map_get_modify P (fun t => hP t _) x.tensors e.handle i

theorem Ctx.map_tensor?_wrotePieces {β : Type} (P : Tensor → β) (hP : ∀ (t : Tensor) (es : Tab Ext),
      P { t with exts := es } = P t) (x : Ctx) (ps : List PieceId) (i : Nat) : ((x.wrotePieces ps).tensor? i).map P = (x.tensor? i).map P :=
  foldl_keeps (f := fun (y : Ctx) (p : PieceId) => y.modExt p.ext (Ext.wrote (x.pinTile p) (p.piece % 32)))
    (fun y => (y.tensor? i).map P) (fun y _ => y.map_tensor?_modExt P hP _ _ i) ps x

theorem Ctx.tensor?_putByte_self (x : Ctx) (handle : Nat) (k : Tensor) (a : Nat) (b : Byte) :
    ∃ k2, (x.putByte handle k a b).tensor? handle = some k2 ∧ k2.obj = k.obj ∧ k2.img = Mem.put k.obj.dflt k.img a b := by
  have hface := Ctx.map_tensor?_wrotePieces (fun t => (t.obj, t.img)) (fun _ _ => rfl)
    { x with tensors := Tab.set x.tensors handle { k with img := Mem.put k.obj.dflt k.img a b } } [⟨false, handle, a / 65536⟩] handle
  rw [show Ctx.tensor? { x with tensors := Tab.set x.tensors handle _ } handle = some _ from Tab.get_set_self _ _ _,
    Option.map_some, Option.map_eq_some_iff] at hface
  obtain ⟨k2, hk2, heq⟩ := hface
  obtain ⟨hobj, himg⟩ := Prod.mk.inj heq
  exact ⟨k2, hk2, hobj, himg⟩

theorem Ctx.tensor?_putByte_ne (x : Ctx) (k : Tensor) (a : Nat) (b : Byte) {handle n : Nat} (hn : n ≠ handle) :
    (x.putByte handle k a b).tensor? n = x.tensor? n := by
  have hpieces := Ctx.writesIn_wrotePieces (T := {handle}) (P := ∅)
    { x with tensors := Tab.set x.tensors handle { k with img := Mem.put k.obj.dflt k.img a b } } [⟨false, handle, a / 65536⟩] (by simp)
  exact (hpieces.tensors n hn).trans (Tab.get_set_ne _ _ hn)

/-- The first entry of a table that meets a condition, replaced by one that meets it too, is still the first. -/
theorem Tab.find?_set {α : Type} {t : Tab α} {p : Nat × α → Bool} {i : Nat} {c d : α} (h : t.find? p = some (i, c))
    (hp : p (i, d) = true) :
    (Tab.set t i d).find? p = some (i, d) := by
  induction t with
  | nil => simp at h
  | cons e t ih =>
    obtain ⟨j, v⟩ := e
    rw [Tab.set]
    split
    case isTrue => exact List.find?_cons_of_pos hp
    case isFalse =>
      split
      case isTrue => exact List.find?_cons_of_pos hp
      case isFalse hne =>
        cases hj : p (j, v) with
        | true =>
          rw [List.find?_cons_of_pos hj] at h
          exact absurd (congrArg Prod.fst (Option.some.inj h)).symm hne
        | false =>
          rw [List.find?_cons_of_neg (by simp [hj])] at h ⊢
          exact ih h

/-- Marking a unit of a mapping leaves the offsets that it holds. -/
theorem Func.mapAt_touch {f : Func} (hm : f.mapAt off = some m) (u : Nat) :
    Func.mapAt { f with maps := Tab.set f.maps m.1 (m.2.touch u) } off = some (m.1, m.2.touch u) :=
  Tab.find?_set (c := m.2) hm
    (List.find?_some (p := fun e : Nat × Mapping => e.1 ≤ off && off < e.1 + mapSpan e.2.size) hm :)

/-! ### Bytes written one after another -/

/-- Bytes written through the aperture from an offset on. -/
def State.bar2Puts (fn : Nat) : Nat → List Byte → State → State
  | _, [], s => s
  | off, b :: bs, s => State.bar2Puts fn (off + 1) bs (s.bar2Put fn off b)

theorem State.bar2Puts_eq (s : State) (fn off : Nat) (bs : List Byte) :
    (bs.zip (List.range bs.length)).foldl (fun a e => a.bar2Put fn (off + e.2) e.1) s = State.bar2Puts fn off bs s := by
  have hfrom : ∀ j, (bs.zip (List.range' j bs.length)).foldl (fun a e => a.bar2Put fn (off + e.2) e.1) s
      = State.bar2Puts fn (off + j) bs s := by
    induction bs generalizing s with
    | nil => exact fun _ => rfl
    | cons b bs ih => exact fun j => ih _ (j + 1)
  rw [List.range_eq_range']
  exact hfrom 0

/-- Bytes have been written into the image of a tensor of a job: nothing else of the module changes but the marks of mappings. -/
structure State.WroteImage (s t : State) (ctx handle : Nat) (x y : Ctx) (k k2 : Tensor) (a : Nat) (bs : List Byte) : Prop where
  job : t.ctx? ctx = some y
  tensor : y.tensor? handle = some k2
  obj : k2.obj = k.obj
  img : k2.img = Mem.putAll k.obj.dflt k.img a bs
  jobs : ∀ c, c ≠ ctx → t.ctx? c = s.ctx? c
  tensors : ∀ n, n ≠ handle → y.tensor? n = x.tensor? n
  rest : t = { s with ctxs := t.ctxs, funs := t.funs }

/-- A byte and then those after it. -/
theorem State.WroteImage.cons {u : State} {z : Ctx} {k3 : Tensor} (hb : s.WroteImage t ctx handle x y k k2 a [b])
    (hbs : t.WroteImage u ctx handle y z k2 k3 (a + 1) bs) : s.WroteImage u ctx handle x z k k3 a (b :: bs) where
  job := hbs.job
  tensor := hbs.tensor
  obj := hbs.obj.trans hb.obj
  img := by
    rw [hbs.img, hb.img, hb.obj]
    rfl
  jobs c hc := (hbs.jobs c hc).trans (hb.jobs c hc)
  tensors n hn := (hbs.tensors n hn).trans (hb.tensors n hn)
  rest := by
    rw [hbs.rest, hb.rest]

theorem State.wroteImage_bar2Put (hm : (s.fn fn).mapAt off = some m) (hx : s.ctx? m.2.ctx = some x) (hk : x.tensor? m.2.handle = some k)
    (ha : off - m.1 < k.obj.bytes) (b : Byte) :
    ∃ y k2, s.WroteImage (s.bar2Put fn off b) m.2.ctx m.2.handle x y k k2 (off - m.1) [b] := by
  obtain ⟨k2, hk2, hobj, himg⟩ := x.tensor?_putByte_self m.2.handle k (off - m.1) b
  rw [State.bar2Put_mapped hm hx hk ha]
  exact ⟨_, k2, s.ctx?_setCtx_self _ _, hk2, hobj, himg, fun c hc => s.ctx?_setCtx_ne _ hc,
    fun n hn => x.tensor?_putByte_ne k _ b hn, rfl⟩

/-- The mapping after a byte is written in it. -/
theorem State.mapAt_bar2Put (hm : (s.fn fn).mapAt off = some m) (hx : s.ctx? m.2.ctx = some x) (hk : x.tensor? m.2.handle = some k)
    (ha : off - m.1 < k.obj.bytes) (b : Byte) {i : Nat} (hi : (s.fn fn).mapAt i = some m) :
    ((s.bar2Put fn off b).fn fn).mapAt i = some (m.1, m.2.touch ((off - m.1) / 64)) := by
  rw [State.bar2Put_mapped hm hx hk ha, State.modFn, State.fn_setFn_self]
  exact Func.mapAt_touch hi _

theorem State.wroteImage_bar2Puts (bs : List Byte) (hm : ∀ i < bs.length, (s.fn fn).mapAt (off + i) = some m)
    (hx : s.ctx? m.2.ctx = some x) (hk : x.tensor? m.2.handle = some k) (hlo : m.1 ≤ off) (hhi : off + bs.length ≤ m.1 + k.obj.bytes) :
    ∃ y k2, s.WroteImage (State.bar2Puts fn off bs s) m.2.ctx m.2.handle x y k k2 (off - m.1) bs := by
  induction bs generalizing s m x k off with
  | nil => exact ⟨x, k, hx, hk, rfl, rfl, fun _ _ => rfl, fun _ _ => rfl, rfl⟩
  | cons b bs ih =>
    rw [List.length_cons] at hm hhi
    have hhead : (s.fn fn).mapAt off = some m := hm 0 (Nat.succ_pos _)
    have ha : off - m.1 < k.obj.bytes := by omega
    obtain ⟨y, k2, hput⟩ := State.wroteImage_bar2Put hhead hx hk ha b
    have hnext : ∀ i < bs.length, ((s.bar2Put fn off b).fn fn).mapAt (off + 1 + i) = some (m.1, m.2.touch ((off - m.1) / 64)) :=
      fun i hi => State.mapAt_bar2Put hhead hx hk ha b (by rw [add_assoc, add_comm 1]; exact hm (i + 1) (by omega))
    obtain ⟨z, k3, hputs⟩ := ih (m := (m.1, m.2.touch ((off - m.1) / 64))) hnext hput.job hput.tensor (by omega)
      (by rw [hput.obj]; omega)
    exact ⟨z, k3, hput.cons (Nat.sub_add_comm hlo ▸ hputs)⟩

/-- Two changes, of functions and dies and then of jobs and functions, taken together. -/
theorem State.eq_of_funs_dies_of_ctxs_funs {u : State} (hu : u = { s with funs := u.funs, dies := u.dies })
    (ht : t = { u with ctxs := t.ctxs, funs := t.funs }) : t = { s with ctxs := t.ctxs, funs := t.funs, dies := t.dies } := by
  rw [ht, hu]

theorem exec_bar2Write (hfn : fn ≤ 62) (hl : s.live = true) (hlen : bs.length ≤ 512) :
    exec (.bar2Write fn off bs) s = .next (State.bar2Puts fn off bs (s.bar2Access fn off bs.length)) := by
  obtain ⟨hp, -, -⟩ := State.live_iff.mp hl
  refine (withUnit_next _ (decide_eq_true hfn)).trans ?_
  rw [hp, Bool.not_true, Bool.false_or, if_neg (by simp [hlen]), State.bar2Off, hl, ← State.bar2Puts_eq]
  rfl

end Bar2

/-- Settles O16: an access counts once if it strays and wakes no die that runs (`bar2Access_eq`, `dies_bar2Access`); a byte written
leaves its mapping in place with a unit marked (`mapAt_bar2Put`), so the next byte goes into the same image. -/
theorem bar2RowsComplete : Obligations.Bar2RowsComplete := by
  unfold Obligations.Bar2RowsComplete
  refine ⟨?read, ?write⟩
  case read =>
    intro fn off len s hfn hl hlen
    have heq := State.bar2Access_eq hl fn off len
    refine ⟨_, exec_bar2Read hfn hl hlen, ?_, ?_, fun hrun => State.dies_bar2Access hl hrun, fun hin => ?_, fun hstray => ?_⟩
    · rw [State.hostOut_emit, heq]
    · rw [heq]
      rfl
    · rw [State.funs_emit, State.funs_bar2Access hl, State.countStray_of_inside hl hin]
    · rw [State.fn, State.funs_emit, State.funs_bar2Access hl, State.countStray_of_stray hl hstray]
      exact s.fn_setFn_self fn _
  case write =>
    intro fn off ctx bytes m x k s hfn hl hlen hm hctx hx hk hhi hlo _
    subst hctx
    have heq := State.bar2Access_eq hl fn off bytes.length
    have hmaps : ∀ i < bytes.length, ((s.bar2Access fn off bytes.length).fn fn).mapAt (off + i) = some m := by
      intro i hi
      rw [Func.mapAt, State.maps_bar2Access hl]
      exact hm i hi
    obtain ⟨y, k2, hwrote⟩ := State.wroteImage_bar2Puts bytes hmaps (by rw [heq]; exact hx) hk hlo hhi
    obtain ⟨hy, hk2, hobj, himg, hjobs, htensors, hrest⟩ := hwrote
    refine ⟨_, y, k2, exec_bar2Write hfn hl hlen, hy, hk2, hobj, himg, fun c hc => (hjobs c hc).trans ?_, htensors, ?_, fun hrun => ?_⟩
    · rw [heq]
      rfl
    · exact State.eq_of_funs_dies_of_ctxs_funs heq hrest
    · rw [hrest]
      exact State.dies_bar2Access hl hrun

end Sys2Proof.Machine

namespace Sys2Proof.Machine

/-! SUPPORT. Slices and switches of a partition, pre-emption, the moves and merges of extents (R279, R296, R301, R370 to R375). -/

section SliceRows

variable {n c len : Nat} {p : Part} {sl : Slice} {x : Ctx} {s : State}

/-! ### The end of a slice and its yield point (R370, R371) -/

theorem exec_sliceEnd (hl : s.live = true) (hp : Tab.get s.parts n = some p) (hsl : p.slice = some sl)
    (hover : sl.start + sl.length ≤ s.time.now) (hy : p.yield = none) :
    exec (.sliceEnd n) s = .next (s.modPart n (fun q => { q with yield := some .sliceEnd })) := by
  show execSliceEnd n s = _
  simp only [execSliceEnd, hp, hsl, hl, hy, decide_eq_true hover, Option.isNone_none, Bool.and_self, if_true]

theorem exec_partitionYieldPoint_sliceEnd (hl : s.live = true) (hp : Tab.get s.parts n = some p) (hsl : p.slice = some sl)
    (hy : p.yield = some .sliceEnd) (hat : s.atYield p sl.ctx = true) :
    exec (.partitionYieldPoint n) s
      = .next (if ((s.saveGroups n sl.ctx).passSlice n).switching n then (s.saveGroups n sl.ctx).passSlice n else s.passSlice n) := by
  show execPartitionYieldPoint n s = _
  simp only [execPartitionYieldPoint, hp, hsl, hy, hl, hat, Bool.not_true, Bool.or_self, Bool.false_eq_true, if_false]

theorem exec_partitionYieldPoint_preempt (hl : s.live = true) (hp : Tab.get s.parts n = some p) (hsl : p.slice = some sl)
    (hy : p.yield = some (.preempt c)) (hat : s.atYield p sl.ctx = true) :
    exec (.partitionYieldPoint n) s = .next (s.preemptNow n c p sl) := by
  show execPartitionYieldPoint n s = _
  simp only [execPartitionYieldPoint, hp, hsl, hy, hl, hat, Bool.not_true, Bool.or_self, Bool.false_eq_true, if_false]

/-! ### Pre-emption (R374, R375) -/

@[simp] theorem State.parts_saveGroups (s : State) (part ctx : Nat) : (s.saveGroups part ctx).parts = s.parts := by
  unfold State.saveGroups
  split <;> rfl

@[simp] theorem State.parts_swapOut (s : State) (part v : Nat) : (s.swapOut part v).parts = s.parts := by
  unfold State.swapOut
  split <;> rfl

theorem State.parts_beginSwitch (s : State) (part ctx len : Nat) (out : Option Nat) :
    (s.beginSwitch part ctx len out).parts
      = Tab.modify s.parts part (fun p => { p with slice := none, yield := none, switch := some ⟨some ctx, len, out⟩ }) := by
  unfold State.beginSwitch
  cases out with
  | none => rfl
  | some v => rw [State.parts_modPart, State.parts_swapOut]

/-- The bytes that a pre-emption writes, when it swaps a context out (R375). -/
def State.preemptNeed (s : State) (p : Part) (holder : Nat) : Option Nat → Nat
  | some v => s.spillNeed p holder v
  | none => 0

/-- The holder that is pre-empted stands first among those who resume, unless it had no time left or has lost its seat (R374). -/
def Part.putOff (q : Part) (holder left : Nat) (out : Option Nat) : Part := { q with
  preempted := if left = 0 || out = some holder then q.preempted else (holder, left) :: q.preempted }

theorem Part.mem_preempted_putOff (q : Part) {holder left : Nat} {out : Option Nat} (hleft : left ≠ 0) (hout : out ≠ some holder) :
    (holder, left) ∈ (q.putOff holder left out).preempted := by
  simp [Part.putOff, hleft, hout]

theorem State.preemptNow_taken (hrun : (s.canRun true c || s.canRun false c) = true)
    (hroom : ∀ v, s.preemptOut n c = some v → s.spillNeed p sl.ctx v ≤ s.spillFree n) :
    s.preemptNow n c p sl = ((s.saveGroups n sl.ctx).beginSwitch n c (p.quantum * 1000) (s.preemptOut n c)).modPart n
      (fun q => q.putOff sl.ctx (sl.start + sl.length - s.time.now) (s.preemptOut n c)) := by
  unfold State.preemptNow
  rw [hrun, Bool.not_true, if_neg Bool.false_ne_true]
  dsimp only
  rw [if_neg]
  · rfl
  · cases hout : s.preemptOut n c with
    | none => simp
    | some v => simpa using hroom v hout

/-- The partition after a pre-emption that takes place. -/
theorem State.get_parts_preemptNow (hp : Tab.get s.parts n = some p) (hrun : (s.canRun true c || s.canRun false c) = true)
    (hroom : ∀ v, s.preemptOut n c = some v → s.spillNeed p sl.ctx v ≤ s.spillFree n) :
    Tab.get (s.preemptNow n c p sl).parts n
      = some (Part.putOff { p with slice := none, yield := none, switch := some ⟨some c, p.quantum * 1000, s.preemptOut n c⟩ }
          sl.ctx (sl.start + sl.length - s.time.now) (s.preemptOut n c)) := by
  rw [State.preemptNow_taken hrun hroom, State.parts_modPart, Tab.get_modify, if_pos rfl, State.parts_beginSwitch, Tab.get_modify,
    if_pos rfl, State.parts_saveGroups, hp]
  rfl

theorem State.preemptNow_refused {v : Nat} (hrun : (s.canRun true c || s.canRun false c) = true) (hv : s.preemptOut n c = some v)
    (hfull : s.spillFree n < s.spillNeed p sl.ctx v) :
    s.preemptNow n c p sl = (s.modPart n (fun q => { q with yield := none, retry := some c })).event (s.ownerOf c) 0x02 c n
      (s.spillNeed p sl.ctx v) := by
  unfold State.preemptNow
  rw [hrun, Bool.not_true, if_neg Bool.false_ne_true, hv]
  exact if_pos (decide_eq_true hfull)

/-! ### A context takes its slice (R301, R372) -/

/-- The partitions, and the seat and state of a job: what the work of a switch leaves but for its ends. -/
def State.seating (c : Nat) (s : State) : Tab Part × Option (Bool × CState) := (s.parts, (s.ctx? c).map (fun x => (x.resident, x.state)))

theorem State.seating_modCtx {g : Ctx → Ctx} (hg : ∀ y : Ctx, ((g y).resident, (g y).state) = (y.resident, y.state))
    (s : State) (i c : Nat) : (s.modCtx i g).seating c = s.seating c :=
  Prod.ext rfl (State.map_ctx?_modCtx (fun y : Ctx => (y.resident, y.state)) hg s i c)

@[simp] theorem State.seating_modExt (s : State) (i : Nat) (e : ExtentId) (f : Ext → Ext) (c : Nat) :
    (s.modExt i e f).seating c = s.seating c :=
  State.seating_modCtx (fun y => by unfold Ctx.modExt; split <;> rfl) s i c

@[simp] theorem State.seating_copyTo (s : State) (i m : Nat) (q : PieceId) (c : Nat) : (s.copyTo i m q).seating c = s.seating c := by
  unfold State.copyTo
  repeat' split
  all_goals simp

@[simp] theorem State.seating_bringIn (s : State) (i m : Nat) (qs : List PieceId) (c : Nat) : (s.bringIn i m qs).seating c = s.seating c :=
  foldl_keeps (State.seating c) (fun s q => s.seating_copyTo i m q c) qs s

@[simp] theorem State.seating_setTile (s : State) (m : Nat) (t : Tile) (c : Nat) : (s.setTile m t).seating c = s.seating c := rfl
@[simp] theorem State.seating_touchTile (s : State) (m : Nat) (c : Nat) : (s.touchTile m).seating c = s.seating c := rfl

@[simp] theorem State.seating_fillStage (s : State) (m e c : Nat) : (s.fillStage m e).seating c = s.seating c := by
  unfold State.fillStage
  split
  · rfl
  · dsimp only
    split
    · rw [State.seating_bringIn, State.seating_setTile]
    · rfl

theorem State.seating_restoreGroup (s : State) (v : SavedAt) (c : Nat) : (s.restoreGroup v).seating c = s.seating c := by
  unfold State.restoreGroup
  dsimp only
  split
  · rfl
  · rw [State.seating_touchTile, State.seating_fillStage, State.seating_setTile]

theorem State.seating_wakeCluster (s : State) (m c : Nat) : (s.wakeCluster m).seating c = s.seating c := by
  obtain ⟨hctxs, hparts⟩ := s.jobs_wakeCluster m
  rw [State.seating, State.seating, State.ctx?, hctxs, hparts]
  rfl

theorem State.seating_readBack (s : State) (i : Nat) (id : ExtentId) (e : Ext) (c : Nat) : (s.readBack i id e).seating c = s.seating c := by
  refine foldl_keeps (State.seating c) (fun a q => ?_) e.spilled s
  dsimp only
  repeat' split
  all_goals simp

/-- A context that is swapped in has its seat; its state and the partitions are as before. -/
theorem State.seating_swapIn (hx : s.ctx? c = some x) : (s.swapIn c).seating c = (s.parts, some (true, x.state)) := by
  unfold State.swapIn
  rw [hx]
  refine (foldl_keeps (f := fun (a : State) (e : ExtentId × Ext) => a.readBack c e.1 e.2) (State.seating c)
    (fun a e => a.seating_readBack c e.1 e.2 c) x.exts _).trans ?_
  rw [State.seating, State.ctx?_modCtx, if_pos rfl, hx]
  rfl

/-- The incoming context with its seat, its groups and its clusters, before its slice starts. -/
def State.seated (s : State) (c : Nat) (x : Ctx) : State :=
  let opened := x.saved.filter (fun v => v.group.state = .opened)
  let tiles := (opened.map (·.tile) ++ x.ops.flatMap (fun o => o.placed.map (·.2))).eraseDups
  let s1 := (if x.resident then s else s.swapIn c).modCtx c
    (fun y => { y with saved := x.saved.filter (fun v => v.group.state != .opened) })
  ((tiles.map tileCluster).eraseDups).foldl State.wakeCluster (opened.foldl State.restoreGroup s1)

theorem State.enterSlice_eq (hx : s.ctx? c = some x) (part len : Nat) :
    s.enterSlice part c len = (s.seated c x).modPart part (fun p => { p with switch := none, slice := some ⟨c, s.time.now, len⟩ }) := by
  rw [State.enterSlice, hx]
  rfl

theorem State.seating_seated (hx : s.ctx? c = some x) : (s.seated c x).seating c = (s.parts, some (true, x.state)) := by
  unfold State.seated
  dsimp only
  rw [foldl_keeps (State.seating c) (fun a m => a.seating_wakeCluster m c),
    foldl_keeps (State.seating c) (fun a v => a.seating_restoreGroup v c)]
  refine (State.seating_modCtx (by intro y; rfl) _ c c).trans ?_
  split
  case isTrue hres => rw [State.seating, hx, Option.map_some, hres]
  case isFalse => exact State.seating_swapIn hx

/-- What the start of a slice leaves: the partition with its holder, the context in its seat and its state. -/
theorem State.enterSlice_spec (hx : s.ctx? c = some x) (hp : Tab.get s.parts n = some p) (len : Nat) :
    Tab.get (s.enterSlice n c len).parts n = some { p with switch := none, slice := some ⟨c, s.time.now, len⟩ }
      ∧ ∃ y, (s.enterSlice n c len).ctx? c = some y ∧ y.resident = true ∧ y.state = x.state := by
  obtain ⟨hparts, hjob⟩ := Prod.mk.inj (State.seating_seated hx)
  obtain ⟨y, hy, heq⟩ := Option.map_eq_some_iff.mp hjob
  obtain ⟨hres, hstate⟩ := Prod.mk.inj heq
  rw [State.enterSlice_eq hx]
  refine ⟨?_, y, hy, hres, hstate⟩
  rw [State.parts_modPart, Tab.get_modify, if_pos rfl, hparts, hp]
  rfl

theorem exec_switchDone_enters {out : Option Nat} (hl : s.live = true) (hp : Tab.get s.parts n = some p)
    (hsw : p.switch = some ⟨some c, len, out⟩) (hx : s.ctx? c = some x) (hrun : x.state = .runnable) :
    exec (.switchDone n) s = .next (s.enterSlice n c len) := by
  obtain ⟨-, y, hy, -, hstate⟩ := State.enterSlice_spec hx hp len
  have hruns : (s.enterSlice n c len).isState c .runnable = true := by simp [State.isState, hy, hstate, hrun]
  show execSwitchDone n s = _
  simp [execSwitchDone, hp, hsw, hl, hx, hrun, hruns]

/-- A switch without an incoming context, or whose context has faulted, is over at once. -/
theorem exec_switchDone_passes {inc out : Option Nat} (hl : s.live = true) (hp : Tab.get s.parts n = some p)
    (hsw : p.switch = some ⟨inc, len, out⟩) (hinc : inc = none ∨ ∃ c x, inc = some c ∧ s.ctx? c = some x ∧ x.state = .faulted) :
    exec (.switchDone n) s = .next ((s.modPart n (fun q => { q with switch := none })).passSlice n) := by
  show execSwitchDone n s = _
  rcases hinc with rfl | ⟨c, x, rfl, hx, hf⟩
  · simp [execSwitchDone, hp, hsw, hl]
  · simp [execSwitchDone, hp, hsw, hl, hx, hf]

end SliceRows

/-! ### Extents (R296, R301) -/

section ExtentRows

variable {ctx : Nat} {e : ExtentId} {x : Ctx} {a : Ext} {s : State}

/-- An extent found through its image, after a change of one extent of one image. -/
theorem Tab.bind_get_modify {α : Type} {exts : α → Tab Ext} {g : α → α} {m : Nat} {f : Ext → Ext}
    (hg : ∀ b, exts (g b) = Tab.modify (exts b) m f) (t : Tab α) (i j k : Nat) :
    (Tab.get (Tab.modify t i g) j).bind (fun b => Tab.get (exts b) k)
      = if j = i ∧ k = m then ((Tab.get t j).bind (fun b => Tab.get (exts b) k)).map f
        else (Tab.get t j).bind (fun b => Tab.get (exts b) k) := by
  rw [Tab.get_modify]
  by_cases hj : j = i
  · rw [if_pos hj]
    cases Tab.get t j with
    | none => simp
    | some b => simp [hg, Tab.get_modify, hj]
  · simp [hj]

theorem Ctx.ext?_modExt (x : Ctx) (e : ExtentId) (f : Ext → Ext) (i : ExtentId) :
    (x.modExt e f).ext? i = if i = e then (x.ext? i).map f else x.ext? i := by
  obtain ⟨pool, handle, index⟩ := e
  obtain ⟨pool', handle', index'⟩ := i
  have hpools := Tab.bind_get_modify (exts := Pool.exts) (g := fun p => { p with exts := Tab.modify p.exts index f }) (fun _ => rfl)
    x.pools handle handle' index'
  have htensors := Tab.bind_get_modify (exts := Tensor.exts) (g := fun t => { t with exts := Tab.modify t.exts index f }) (fun _ => rfl)
    x.tensors handle handle' index'
  cases pool <;> cases pool' <;> simp_all [Ctx.ext?, Ctx.modExt, Ctx.tensor?]

/-- A change of one extent of a job that lives: the extent as changed, the others and every image as before. -/
theorem State.modExt_spec (hx : s.ctx? ctx = some x) (ha : x.ext? e = some a) (f : Ext → Ext) :
    s.modExt ctx e f = { s with ctxs := Tab.set s.ctxs ctx (x.modExt e f) } ∧ (x.modExt e f).ext? e = some (f a)
      ∧ (∀ i, i ≠ e → (x.modExt e f).ext? i = x.ext? i)
      ∧ (∀ h, ((x.modExt e f).tensor? h).map (·.img) = (x.tensor? h).map (·.img)) := by
  refine ⟨s.modCtx_some _ hx, ?_, fun i hi => ?_, fun h => x.map_tensor?_modExt (·.img) (fun _ _ => rfl) e f h⟩
  · rw [Ctx.ext?_modExt, if_pos rfl, ha]
    rfl
  · rw [Ctx.ext?_modExt, if_neg hi]

theorem Ext.moved_of_moving {nh : Home} (h : a.moving = some nh) : a.moved = { a with home := nh, moving := none, dirty := [] } := by
  simp [Ext.moved, Ext.target, h]

theorem exec_extentMoveDone (hl : s.live = true) : exec (.extentMoveDone ctx e) s = .next (s.modExt ctx e Ext.moved) :=
  congrArg Host.Outcome.next (if_pos hl)

theorem exec_spillMergeDone (hl : s.live = true) :
    exec (.spillMergeDone ctx e) s = .next (s.modExt ctx e (fun a => { a with spilled := [] })) :=
  congrArg Host.Outcome.next (if_pos hl)

end ExtentRows

/-- Settles O37: at a yield point the branch that the hypotheses name is taken, and the partition it leaves is read off its last
change (`get_parts_preemptNow`); the work of a switch leaves the incoming context's state, so that its slice stands
(`enterSlice_spec`); a move or a merge that ends changes one extent (`modExt_spec`). -/
theorem sliceAndPlacementRowsComplete : Obligations.SliceAndPlacementRowsComplete := by
  unfold Obligations.SliceAndPlacementRowsComplete
  refine ⟨?sliceEnd, ?passes, ?preempts, ?switches, ?window, ?moves, ?merges⟩
  case sliceEnd =>
    intro n p sl s hl hp hsl hover hy
    exact exec_sliceEnd hl hp hsl hover hy
  case passes =>
    intro n p sl s hl hp hsl hy hat
    have hexec := exec_partitionYieldPoint_sliceEnd hl hp hsl hy hat
    exact ⟨fun hsw => by rw [hexec, if_pos hsw], fun hsw => by rw [hexec, hsw, if_neg Bool.false_ne_true]⟩
  case preempts =>
    intro n c p sl s hl hp hsl hy hat hrun
    have hexec := exec_partitionYieldPoint_preempt hl hp hsl hy hat
    refine ⟨fun hnone => ?stay, fun v hv hroom => ?leave, fun v hv hfull => ?refused⟩
    case stay =>
      have hpart := State.get_parts_preemptNow (sl := sl) hp hrun (by simp [hnone])
      rw [hnone] at hpart
      exact ⟨_, _, hexec, hpart, rfl, rfl, fun hleft => Part.mem_preempted_putOff _ (Nat.sub_ne_zero_of_lt hleft) (by simp)⟩
    case leave =>
      have hpart := State.get_parts_preemptNow (sl := sl) hp hrun (by simpa [hv] using hroom)
      rw [hv] at hpart
      exact ⟨_, _, hexec, hpart, rfl, rfl,
        fun hleft hne => Part.mem_preempted_putOff _ (Nat.sub_ne_zero_of_lt hleft) (by simpa using hne)⟩
    case refused => exact hexec.trans (congrArg _ (State.preemptNow_refused hrun hv hfull))
  case switches =>
    intro n len inc out p s hl hp hsw
    refine ⟨fun c x hc hx hrun => ?enters, exec_switchDone_passes hl hp hsw⟩
    subst hc
    obtain ⟨hpart, y, hy, hres, -⟩ := State.enterSlice_spec hx hp len
    exact ⟨_, _, y, exec_switchDone_enters hl hp hsw hx hrun, hpart, rfl, hy, hres⟩
  case window =>
    intro s hl
    exact ⟨_, _, congrArg Host.Outcome.next (if_pos hl), rfl, rfl⟩
  case moves =>
    intro ctx e x a nh s hl hx ha hmoving
    obtain ⟨hset, hself, hothers, himgs⟩ := State.modExt_spec hx ha Ext.moved
    exact ⟨_, _, exec_extentMoveDone hl, hset, hself.trans (congrArg some (Ext.moved_of_moving hmoving)), hothers, himgs⟩
  case merges =>
    intro ctx e x a s hl hx ha
    obtain ⟨hset, hself, hothers, himgs⟩ := State.modExt_spec hx ha (fun a => { a with spilled := [] })
    exact ⟨_, _, exec_spillMergeDone hl, hset, hself, hothers, himgs⟩

end Sys2Proof.Machine

namespace Sys2Proof.Machine

/-! SUPPORT. Lowest free numbers, and C_g as tickets complete (R326, R358). -/

theorem lowestFree_eq_some_iff {n k : Nat} {used : List Nat} :
    lowestFree n used = some k ↔ k < n ∧ k ∉ used ∧ ∀ j < k, j ∈ used := by
  simp only [lowestFree, List.find?_range_eq_some, List.mem_range, Bool.not_eq_true', Bool.not_not, List.contains_eq_mem, decide_eq_true_eq,
    decide_eq_false_iff_not]
  tauto

theorem lowestFree_eq_none_iff {n : Nat} {used : List Nat} : lowestFree n used = none ↔ ∀ j < n, j ∈ used := by
  simp [lowestFree]

/-- C_g, and the completed numbers past it, as `closeGaps` makes them of numbers that are all past it. -/
structure GapsClosed (c : Nat) (done : List Nat) (r : Nat × List Nat) : Prop where
  rises : c ≤ r.1
  filled : ∀ d, c < d → d ≤ r.1 → d ∈ done
  gap : r.1 + 1 ∉ done
  rest : ∀ d, d ∈ r.2 ↔ d ∈ done ∧ r.1 < d

/-- Where the next number has not completed, C_g stands. -/
theorem gapsClosed_of_notMem {c : Nat} {done : List Nat} (hnext : c + 1 ∉ done) (hpast : ∀ d ∈ done, c < d) :
    GapsClosed c done (c, done) :=
  ⟨le_rfl, fun _ hlt hle => absurd hlt hle.not_gt, hnext, fun d => ⟨fun hd => ⟨hd, hpast d hd⟩, And.left⟩⟩

/-- The next number completed, C_g takes it and goes on from there. -/
theorem GapsClosed.of_next {c : Nat} {done : List Nat} {r : Nat × List Nat} (hnext : c + 1 ∈ done)
    (h : GapsClosed (c + 1) (done.filter (· != c + 1)) r) : GapsClosed c done r := by
  obtain ⟨hrises, hfilled, hgap, hrest⟩ := h
  simp only [List.mem_filter, bne_iff_ne, ne_eq] at hfilled hgap hrest
  refine ⟨by omega, fun d hlt hle => ?_, fun hmem => hgap ⟨hmem, by omega⟩, fun d => ?_⟩
  · by_cases hd : d = c + 1
    · exact hd ▸ hnext
    · exact (hfilled d (by omega) hle).1
  · rw [hrest]
    exact ⟨fun ⟨⟨hd, _⟩, hlt⟩ => ⟨hd, hlt⟩, fun ⟨hd, hlt⟩ => ⟨⟨hd, by omega⟩, hlt⟩⟩

theorem gapsClosed_closeGaps {fuel c : Nat} {done : List Nat} (hfuel : done.length ≤ fuel) (hpast : ∀ d ∈ done, c < d) :
    GapsClosed c done (closeGaps fuel c done) := by
  induction fuel generalizing c done with
  | zero =>
    rw [List.eq_nil_of_length_eq_zero (Nat.le_zero.mp hfuel)]
    exact gapsClosed_of_notMem (by simp) (by simp)
  | succ fuel ih =>
    by_cases hnext : c + 1 ∈ done
    · rw [closeGaps, if_pos (List.contains_iff_mem.mpr hnext)]
      refine .of_next hnext (ih (Nat.le_of_lt_succ ?_) fun d hd => ?_)
      · exact lt_of_lt_of_le (List.length_filter_lt_length_iff_exists.mpr ⟨c + 1, hnext, by simp⟩) hfuel
      · have := hpast d (List.mem_of_mem_filter hd)
        have : d ≠ c + 1 := by simpa using List.of_mem_filter hd
        omega
    · rw [closeGaps, if_neg (mt List.contains_iff_mem.mp hnext)]
      exact gapsClosed_of_notMem hnext hpast

/-- Settles O59: the numbers by the library's `find?` over a range; C_g by induction on the fuel (`gapsClosed_closeGaps`). -/
theorem lowestNumbers : Obligations.LowestNumbers := by
  unfold Obligations.LowestNumbers
  refine ⟨fun n used k => lowestFree_eq_some_iff, fun n used => lowestFree_eq_none_iff, fun fuel c done hfuel _ hpast => ?_⟩
  obtain ⟨hrises, hfilled, hgap, hrest⟩ := gapsClosed_closeGaps hfuel hpast
  exact ⟨hrises, hfilled, hgap, hrest⟩

end Sys2Proof.Machine

namespace Sys2Proof.Machine

/-! SUPPORT. What work on jobs leaves of the rest of the module (R326, R370, R377): the serving slots, the ports and the twin's
state; what passing a slice and completing a command leave; what settling a ticket leaves of its job. -/

section JobFrames

variable (s : State)

/-! ### Passing a slice (R370 to R375) -/

/-- The module but for its partitions, jobs and tiles. -/
def State.beyondSlices (s : State) : State := { s with parts := [], ctxs := [], tiles := [] }

@[simp] theorem State.beyondSlices_setCtx (i : Nat) (x : Ctx) : (s.setCtx i x).beyondSlices = s.beyondSlices := rfl
@[simp] theorem State.beyondSlices_modPart (i : Nat) (g : Part → Part) : (s.modPart i g).beyondSlices = s.beyondSlices := rfl

@[simp] theorem State.beyondSlices_swapOut (part v : Nat) : (s.swapOut part v).beyondSlices = s.beyondSlices := by
  unfold State.swapOut
  split <;> rfl

@[simp] theorem State.beyondSlices_beginSwitch (part c len : Nat) (out : Option Nat) :
    (s.beginSwitch part c len out).beyondSlices = s.beyondSlices := by
  unfold State.beginSwitch
  cases out with
  | none => rfl
  | some v => exact s.beyondSlices_swapOut part v

@[simp] theorem State.beyondSlices_passSlice (part : Nat) : (s.passSlice part).beyondSlices = s.beyondSlices := by
  unfold State.passSlice
  dsimp only
  repeat' split
  all_goals simp

@[simp] theorem State.beyondSlices_arrive (ctx : Nat) : (s.arrive ctx).beyondSlices = s.beyondSlices := by
  unfold State.arrive
  dsimp only
  repeat' split
  all_goals simp

/-- Bringing a job up to date is, but for the partitions, jobs and tiles, trying its waiting TENSOR_MAPs. -/
theorem State.beyondSlices_refresh (ctx : Nat) : (s.refresh ctx).beyondSlices = (s.retryMaps ctx).beyondSlices := by
  unfold State.refresh
  dsimp only
  repeat' split
  all_goals simp

@[simp] theorem State.sliceKeeps_arrive (c ctx : Nat) : (s.arrive ctx).sliceKeeps c = s.sliceKeeps c := by
  unfold State.arrive
  dsimp only
  repeat' split
  all_goals simp

theorem State.runs_of_sliceKeeps {s t : State} {c : Nat} (h : t.sliceKeeps c = s.sliceKeeps c) :
    (t.ctx? c).map Ctx.runs = (s.ctx? c).map Ctx.runs := by
  have hlasting : (t.ctx? c).map Ctx.lasting = (s.ctx? c).map Ctx.lasting := congrArg Prod.snd h
  simpa [Option.map_map, Function.comp_def, Ctx.lasting] using congrArg (Option.map (fun l : CState × List Run × (Nat → Bool) => l.2.1)) hlasting

theorem State.refresh_of_no_ctx {ctx : Nat} (hx : s.ctx? ctx = none) : s.refresh ctx = s.retryMaps ctx := by
  unfold State.refresh
  simp only [s.ctx?_retryMaps, hx]

/-- Bringing a job up to date leaves the tickets of every job. -/
theorem State.runs_refresh (ctx c : Nat) : ((s.refresh ctx).ctx? c).map Ctx.runs = (s.ctx? c).map Ctx.runs := by
  have hmaps : ((s.retryMaps ctx).ctx? c).map Ctx.runs = (s.ctx? c).map Ctx.runs := by rw [s.ctx?_retryMaps]
  cases hx : s.ctx? ctx with
  | none => rw [s.refresh_of_no_ctx hx, hmaps]
  | some x =>
    have henters : ∀ st, (((s.retryMaps ctx).setCtx ctx ((s.retryMaps ctx).entering x st)).ctx? c).map Ctx.runs = (s.ctx? c).map Ctx.runs :=
      fun st => (State.map_ctx?_setCtx Ctx.runs ((s.ctx?_retryMaps ctx ctx).trans hx) (y := (s.retryMaps ctx).entering x st) rfl c).trans hmaps
    by_cases hst : (s.retryMaps ctx).cstate ctx x = x.state
    · rw [State.refresh_of_state_eq hx hst, hmaps]
    · by_cases hrun : (s.retryMaps ctx).cstate ctx x = .runnable
      · rw [State.refresh_of_runnable hx hrun (fun h => hst (hrun.trans h.symm)), State.runs_of_sliceKeeps (State.sliceKeeps_arrive _ c ctx)]
        exact henters .runnable
      · rw [State.refresh_of_not_runnable hx rfl (Ne.symm hst) hrun rfl]
        split
        · exact (State.runs_of_sliceKeeps (State.sliceKeeps_passSlice _ c _)).trans (henters _)
        · exact henters _

/-! ### Slots, ports and the twin -/

/-- What work on jobs leaves: the serving slots, the ports, the twin's state. -/
def State.aside (s : State) : Tab Slot × Tab Port × Twin := (s.slots, s.ports, s.twin)

theorem State.slots_of_aside {s t : State} (h : t.aside = s.aside) : t.slots = s.slots := (Prod.mk.inj h).1
theorem State.ports_of_aside {s t : State} (h : t.aside = s.aside) : t.ports = s.ports := (Prod.mk.inj (Prod.mk.inj h).2).1
theorem State.twin_of_aside {s t : State} (h : t.aside = s.aside) : t.twin = s.twin := (Prod.mk.inj (Prod.mk.inj h).2).2

theorem State.aside_of_beyondSlices {s t : State} (h : t.beyondSlices = s.beyondSlices) : t.aside = s.aside :=
  (congrArg State.aside h :)

@[simp] theorem State.aside_setFn (i : Nat) (f : Func) : (s.setFn i f).aside = s.aside := rfl
@[simp] theorem State.aside_modFn (i : Nat) (g : Func → Func) : (s.modFn i g).aside = s.aside := rfl
@[simp] theorem State.aside_setCtx (i : Nat) (x : Ctx) : (s.setCtx i x).aside = s.aside := rfl
@[simp] theorem State.aside_modCtx (i : Nat) (g : Ctx → Ctx) : (s.modCtx i g).aside = s.aside := rfl
@[simp] theorem State.aside_modRing (i : Nat) (g : Ring → Ring) : (s.modRing i g).aside = s.aside := rfl
@[simp] theorem State.aside_modPart (i : Nat) (g : Part → Part) : (s.modPart i g).aside = s.aside := rfl
@[simp] theorem State.aside_modRun (ctx ring tseq : Nat) (g : Run → Run) : (s.modRun ctx ring tseq g).aside = s.aside := rfl
@[simp] theorem State.aside_emit (l : List HostItem) : (s.emit l).aside = s.aside := rfl
@[simp] theorem State.aside_granted (fn : Nat) : (s.granted fn).aside = s.aside := rfl
@[simp] theorem State.aside_makeMapping (fn ctx handle offset size : Nat) : (s.makeMapping fn ctx handle offset size).aside = s.aside := rfl
@[simp] theorem State.aside_send (d : Nat) (p : Option Nat) (m : Msg) : (s.send d p m).aside = s.aside := (congrArg State.aside (s.send_eq d p m) :)
@[simp] theorem State.aside_journal (ring ctx tseq : Nat) (b : List JBody) : (s.journal ring ctx tseq b).aside = s.aside :=
  (congrArg State.aside (s.journal_eq ring ctx tseq b) :)
@[simp] theorem State.aside_event (fn ty ctx a b : Nat) : (s.event fn ty ctx a b).aside = s.aside :=
  (congrArg State.aside (s.event_eq fn ty ctx a b) :)
@[simp] theorem State.aside_passSlice (part : Nat) : (s.passSlice part).aside = s.aside := State.aside_of_beyondSlices (by simp)

@[simp] theorem State.aside_jobWrite (fn a : Nat) (b : List Byte) : (s.jobWrite fn a b).aside = s.aside := by
  unfold State.jobWrite
  dsimp only
  split <;> rfl

@[simp] theorem State.aside_fnWrite (fn a : Nat) (b : List Byte) : (s.fnWrite fn a b).aside = s.aside := by
  unfold State.fnWrite
  split <;> rfl

@[simp] theorem State.aside_fnVector (fn v : Nat) : (s.fnVector fn v).aside = s.aside := by
  unfold State.fnVector
  split <;> rfl

@[simp] theorem State.aside_finishCmd (h : CmdHead) (status cause : Nat) (res : List Byte) :
    (s.finishCmd h status cause res).aside = s.aside := by
  unfold State.finishCmd
  dsimp only
  repeat' split
  all_goals simp

@[simp] theorem State.aside_retryMap (ctx fn : Nat) : (s.retryMap ctx fn).aside = s.aside := by
  unfold State.retryMap
  repeat' split
  all_goals simp

@[simp] theorem State.aside_retryMaps (ctx : Nat) : (s.retryMaps ctx).aside = s.aside :=
  foldl_keeps (f := fun (a : State) (f : Nat × Func) => a.retryMap ctx f.1) State.aside (fun a f => a.aside_retryMap ctx f.1) s.funs s

@[simp] theorem State.aside_refresh (ctx : Nat) : (s.refresh ctx).aside = s.aside :=
  (State.aside_of_beyondSlices (s.beyondSlices_refresh ctx)).trans (s.aside_retryMaps ctx)

/-! ### Results and the end of a ticket (R326, R363) -/

@[simp] theorem State.aside_putRecord (ctx : Nat) (r : Run) (pos : Nat) (rec : List Byte) : (s.putRecord ctx r pos rec).aside = s.aside := by
  unfold State.putRecord
  split <;> simp

@[simp] theorem State.aside_settle (ctx ring tseq : Nat) : (s.settle ctx ring tseq).aside = s.aside := by
  unfold State.settle
  dsimp only
  repeat' split
  all_goals simp

@[simp] theorem State.aside_startDesc (ctx : Nat) (r : Run) : (s.startDesc ctx r).aside = s.aside := rfl

@[simp] theorem State.aside_endDesc (ctx ring tseq pos : Nat) (rec : List Byte) : (s.endDesc ctx ring tseq pos rec).aside = s.aside := by
  unfold State.endDesc
  split <;> simp

@[simp] theorem State.aside_stopRun (ctx : Nat) (r : Run) (status fault : Nat) (bad : Option Nat) :
    (s.stopRun ctx r status fault bad).aside = s.aside := by
  unfold State.stopRun
  rw [State.aside_settle, State.aside_modRun]
  refine foldl_keeps State.aside (fun a i => ?_) _ s
  split <;> simp

/-! ### Job faults (R377) -/

@[simp] theorem State.aside_journalIf (ring ctx tseq : Nat) (b : List JBody) : (s.journalIf ring ctx tseq b).aside = s.aside := by
  unfold State.journalIf
  split <;> simp

@[simp] theorem State.aside_teardown (ctx cause tseq : Nat) : (s.teardown ctx cause tseq).aside = s.aside := by
  unfold State.teardown
  split
  case h_1 => rfl
  case h_2 =>
    dsimp only
    split <;> simp <;> rfl

@[simp] theorem State.aside_faultTickets (ctx cause : Nat) (by_ : Option (Nat × Nat × Nat)) : (s.faultTickets ctx cause by_).aside = s.aside := by
  unfold State.faultTickets
  refine foldl_keeps State.aside (fun a r => ?_) _ s
  repeat' split
  all_goals simp

@[simp] theorem State.aside_jobFault (ctx cause : Nat) (by_ : Option (Nat × Nat × Nat)) : (s.jobFault ctx cause by_).aside = s.aside := by
  unfold State.jobFault
  repeat' split
  all_goals simp

@[simp] theorem State.aside_noReplay (ctx : Nat) : (s.noReplay ctx).aside = s.aside := s.aside_jobFault ctx _ none

/-! ### Commits and their transfer (R330, R333, R346) -/

@[simp] theorem State.aside_decideCommit (ctx ring tseq status : Nat) : (s.decideCommit ctx ring tseq status).aside = s.aside := by
  unfold State.decideCommit
  simp

@[simp] theorem State.aside_endCommits (ctx status : Nat) : (s.endCommits ctx status).aside = s.aside := by
  unfold State.endCommits
  split
  case h_1 => rfl
  case h_2 => exact foldl_keeps State.aside (fun a (c : Commit) => a.aside_decideCommit ctx c.ring c.tseq status) _ _

@[simp] theorem State.aside_resealAll : s.resealAll.aside = s.aside :=
  foldl_keeps (f := fun (a : State) (c : Nat × Ctx) => a.endCommits c.1 0x12) State.aside (fun a c => a.aside_endCommits c.1 0x12) s.ctxs s

end JobFrames

end Sys2Proof.Machine

namespace Sys2Proof.Machine

/-! SUPPORT. The pairing commands (R310, R318, R337, R340). -/

section TwinCommands

variable {h : CmdHead} {s : State}

theorem State.flash_of_hw {s t : State} (h : t.hw = s.hw) : t.flash = s.flash := by
  simp only [State.hw, Prod.mk.injEq] at h
  tauto

/-! ### The twin's state (R318) -/

theorem State.twin_setTwin (s : State) (st : TState) : (s.setTwin st).twin = { s.twin with state := st } := by
  unfold State.setTwin
  split
  case isTrue h => rw [← h]
  case isFalse => rw [State.twin_event]; rfl

/-- A change of STATE changes the twin's state and reports itself. -/
theorem State.setTwin_eq (s : State) (st : TState) :
    s.setTwin st = { s with twin := (s.setTwin st).twin, funs := (s.setTwin st).funs, hostOut := (s.setTwin st).hostOut } := by
  unfold State.setTwin
  split
  · rfl
  · rw [State.event_eq]; rfl

@[simp] theorem State.jr_setTwin (s : State) (st : TState) : (s.setTwin st).jr = s.jr := (congrArg State.jr (s.setTwin_eq st) :)
@[simp] theorem State.ctxs_setTwin (s : State) (st : TState) : (s.setTwin st).ctxs = s.ctxs := (congrArg State.ctxs (s.setTwin_eq st) :)
@[simp] theorem State.flash_setTwin (s : State) (st : TState) : (s.setTwin st).flash = s.flash := (congrArg State.flash (s.setTwin_eq st) :)
@[simp] theorem State.logbook_setTwin (s : State) (st : TState) : (s.setTwin st).logbook = s.logbook :=
  (congrArg State.logbook (s.setTwin_eq st) :)

/-! ### TWIN_PAIR (R310) -/

/-- What a module tells of itself changes the network alone. -/
theorem State.tellTo_eq (s : State) (dest : Nat) (asks : Bool) : s.tellTo dest asks = { s with net := (s.tellTo dest asks).net } := by
  unfold State.tellTo
  split
  · exact s.send_eq _ _ _
  · rfl

theorem State.tellPair_eq (s : State) : s.tellPair = { s with net := s.tellPair.net } := by
  unfold State.tellPair
  split
  · exact s.tellTo_eq _ _
  · rfl

/-- Rows 1 to 4 of Table 11.1 do not all hold before the other end has told of itself. -/
theorem State.pairFirst_of_unheard (hpeer : s.twin.peerInfo = none) (t : Nat) : ∃ c p, s.pairFirst t = some (c, p) := by
  unfold State.pairFirst
  simp only [hpeer]
  repeat' split
  all_goals exact ⟨_, _, rfl⟩

theorem State.pairStep_of_unheard {t : Nat} (hst : s.twin.state = .pairing) (hid : s.twin.twinId = some t) (hpeer : s.twin.peerInfo = none) :
    ∃ c p, s.pairStep = s.refuseTwin c p := by
  obtain ⟨c, p, hfirst⟩ := State.pairFirst_of_unheard hpeer t
  exact ⟨c, p, by simp only [State.pairStep, hst, hid, hfirst]⟩

/-- The module with its twin named, and nothing known of it yet. -/
def State.naming (s : State) (ident : Nat) : State :=
  { s with twin := { s.twin with twinId := some ident, peerInfo := none, auth := {} }, flash := { s.flash with twinId := some ident } }

theorem exec_twinPair {ident : Nat} (ht : Taken h true s) (hid : ident < 2 ^ 18) (hst : s.twin.state = .unpaired) :
    ∃ c p, exec (.twinPair h ident) s = .next (ok h [] (((s.naming ident).setTwin .pairing).tellPair.refuseTwin c p)) := by
  have htold := ((s.naming ident).setTwin .pairing).tellPair_eq
  have htwin : ((s.naming ident).setTwin .pairing).tellPair.twin
      = { s.twin with state := .pairing, twinId := some ident, peerInfo := none, auth := {} } :=
    (congrArg State.twin htold).trans ((s.naming ident).twin_setTwin .pairing)
  obtain ⟨c, p, hstep⟩ := State.pairStep_of_unheard (t := ident) (congrArg Twin.state htwin) (congrArg Twin.twinId htwin)
    (congrArg Twin.peerInfo htwin)
  have hrefuse : (s.twin.state != .unpaired) = false := by simp [hst]
  refine ⟨c, p, (gheit_taken ht (not_fits_eq_false hid)).trans (congrArg Host.Outcome.next ?_)⟩
  rw [refuseIf_false hrefuse, refuseIf_nil, ← hstep]
  refine State.endCmd_of_jr_eq ?_
  change ((s.naming ident).setTwin .pairing).tellPair.pairStep.jr = s.jr
  rw [hstep]
  exact (congrArg State.jr htold).trans ((s.naming ident).jr_setTwin .pairing)

/-! ### TWIN_UNPAIR (R318, R403) -/

theorem State.twin_inPlaceFault (s : State) (ctx : Nat) (x : Ctx) : (s.inPlaceFault ctx x).twin = s.twin :=
  State.twin_of_aside ((State.aside_noReplay _ ctx).trans rfl)

theorem State.twin_inPlace (s : State) (ctx : Nat) (x : Ctx) : (s.inPlace ctx x).twin = s.twin := by
  unfold State.inPlace
  split
  case h_1 =>
    split
    · exact s.twin_inPlaceFault ctx x
    · rfl
  case h_2 => exact s.twin_inPlaceFault ctx x

theorem State.twin_restartInPlace (s : State) : s.restartInPlace.twin = s.twin := by
  refine foldl_keeps State.twin (fun (a : State) (c : Nat × Ctx) => ?_) s.ctxs s
  split
  · exact a.twin_inPlace _ _
  · rfl

/-- What restarting the jobs in place leaves of the twin's state and of flash. -/
theorem State.restartJobs_in_place (s : State) : (s.restartJobs false).twin = s.twin ∧ (s.restartJobs false).flash = s.flash := by
  unfold State.restartJobs
  split
  · exact ⟨State.twin_restartInPlace _, State.flash_of_hw (s := { s with boot := { s.boot with rebuildDue := false } }) (hw_State_restartInPlace _)⟩
  · exact ⟨rfl, rfl⟩

/-- The module without its twin, its jobs restarted in place and their extents to be sealed anew. -/
def State.parted (s : State) : State := ((s.setTwin .unpaired).restartJobs false).resealAll

theorem State.parted_spec (s : State) : s.parted.twin = { s.twin with state := .unpaired } ∧ s.parted.flash = s.flash := by
  obtain ⟨htwin, hflash⟩ := (s.setTwin .unpaired).restartJobs_in_place
  exact ⟨((State.twin_of_aside (State.aside_resealAll _)).trans htwin).trans (s.twin_setTwin _),
    ((State.flash_of_hw (hw_State_resealAll _)).trans hflash).trans (s.flash_setTwin _)⟩

/-- The module once its pairing has ended, before the partner state is given up. -/
def State.released (s : State) : State := { s.parted with
  flash := { s.parted.flash with twinId := none }
  jr := { s.parted.jr with acked := 0, twinFull := false, returning := [], incoming := [] }.sweep
  twin := { s.parted.twin with
    twinId := none, exposed := false, auth := {}, peerInfo := none, refuse := 0, refusePeer := 0
    holdsPartner := s.parted.twin.partnerOf.isSome, withheld := none, serving := none } }

/-- The other end is told before the pairing ends or after it has been withdrawn; for the rest the module is as released. -/
theorem State.unpair_eq (s : State) (discard : Bool) : ∃ u : State, u.twin = s.twin ∧ u.flash = s.flash
    ∧ s.unpair discard = { (if discard then u.released.freePartner else u.released) with net := (s.unpair discard).net } := by
  have hfirst : ∃ u : State, u.twin = s.twin ∧ u.flash = s.flash ∧ ∀ d, s.unpair d
      = (match s.twin.state, s.twin.twinId with
        | .pairing, some t => (if d then u.released.freePartner else u.released).tellTo t false
        | _, _ => (if d then u.released.freePartner else u.released)) := by
    unfold State.unpair
    split
    case h_1 t _ _ =>
      have hsend := s.send_eq t none (.winch .unpaired)
      exact ⟨s.send t none (.winch .unpaired), (congrArg State.twin hsend :), (congrArg State.flash hsend :), fun d => rfl⟩
    case h_2 => exact ⟨s, rfl, rfl, fun d => rfl⟩
  obtain ⟨u, htwin, hflash, hu⟩ := hfirst
  refine ⟨u, htwin, hflash, ?_⟩
  rw [hu]
  split
  · exact State.tellTo_eq _ _ _
  · rfl

theorem exec_twinUnpair {discard : Nat} (ht : Taken h true s) (hd : discard ≤ 1) (hst : s.twin.state ≠ .restoring)
    (hroom : s.overfull (s.unpair (discard = 1)) = false) :
    exec (.twinUnpair h discard) s = .next (ok h [] (s.unpair (discard = 1))) := by
  refine (gheit_taken ht (decide_eq_false hd.not_gt)).trans (congrArg Host.Outcome.next ?_)
  rw [refuseIf_false (decide_eq_false hst), refuseIf_nil]
  exact s.endCmd_ok h [] _ hroom

/-! ### TWIN_SOLO (R337, R339) -/

theorem exec_twinSolo (ht : Taken h true s) (hst : s.twin.state = .twinLost)
    (hroom : s.overfull (s.ctxs.foldl (fun a c => a.endCommits c.1 0x12) (s.setTwin .solo)) = false) :
    exec (.twinSolo h) s = .next (ok h [] (s.ctxs.foldl (fun a c => a.endCommits c.1 0x12) (s.setTwin .solo))) := by
  have hrefuse : (s.twin.state != .twinLost) = false := by simp [hst]
  refine (gheit_taken ht rfl).trans (congrArg Host.Outcome.next ?_)
  rw [refuseIf_false hrefuse, refuseIf_nil]
  exact s.endCmd_ok h [] _ hroom

/-! ### TWIN_RESTORE (R318, R340) -/

theorem exec_twinRestore {survivor me : Nat} (ht : Taken h true s) (hsv : survivor < 2 ^ 18) (hjr : s.jr.own = []) (hparts : s.parts = [])
    (hst : s.twin.state = .unpaired) (hup : 0 < s.tetherUp) (hme : s.ident = some me) :
    exec (.twinRestore h survivor) s = .next (waitsOn h (.restore survivor)
      (s.send survivor none (.restoreRequest ⟨me, survivor, 0x0A, s.ballastCode⟩))) := by
  have hrefuse : (s.twin.state != .unpaired || s.tetherUp = 0 || s.ident.isNone) = false := by simp [hst, hup.ne', hme]
  refine (gheit_taken ht (not_fits_eq_false hsv)).trans (congrArg Host.Outcome.next ?_)
  rw [if_neg (by simp [hjr, hparts]), refuseIf_false hrefuse, refuseIf_nil, hme]
  rfl

theorem exec_twinRestore_notFresh {survivor : Nat} (ht : Taken h true s) (hsv : survivor < 2 ^ 18) (hheld : s.jr.own ≠ [] ∨ s.parts ≠ []) :
    exec (.twinRestore h survivor) s
      = .next ({ s with twin := { s.twin with refuse := 7, refusePeer := survivor } }.finishCmd h 1 0x0C (leBytes 8 0)) := by
  refine (gheit_taken ht (not_fits_eq_false hsv)).trans (congrArg Host.Outcome.next ?_)
  rw [if_pos (by simpa using hheld)]
  rfl

end TwinCommands

/-- Settles O10: no row of Table 11.1 can be passed before the other end has told of itself (`pairStep_of_unheard`); ending a pairing
leaves the twin's state and flash to the last change (`unpair_eq`, `parted_spec`). -/
theorem twinCommandsComplete : Obligations.TwinCommandsComplete := by
  unfold Obligations.TwinCommandsComplete
  refine ⟨?pair, ?unpair, ?solo, ?restore, ?notFresh⟩
  case pair =>
    intro h ident s ht hid hst
    obtain ⟨c, p, hexec⟩ := exec_twinPair ht hid hst
    have htold := ((s.naming ident).setTwin .pairing).tellPair_eq
    have htwin := (congrArg State.twin htold).trans ((s.naming ident).twin_setTwin .pairing)
    exact ⟨_, hexec, congrArg Twin.state htwin, congrArg Twin.twinId htwin,
      (congrArg State.flash htold).trans ((s.naming ident).flash_setTwin .pairing)⟩
  case unpair =>
    intro h discard s ht hd hst hroom
    obtain ⟨u, hutwin, huflash, hunpair⟩ := s.unpair_eq (discard = 1)
    obtain ⟨htwin, hflash⟩ := u.parted_spec
    refine ⟨_, exec_twinUnpair ht hd hst hroom, ?_⟩
    rw [hunpair]
    by_cases h1 : discard = 1
    · simp [h1, State.released, State.freePartner, htwin, hflash, huflash]
    · simp [h1, State.released, htwin, hflash, huflash]
  case solo => exact fun h s ht hst hroom => exec_twinSolo ht hst hroom
  case restore => exact fun h sv me s ht hsv hjr hparts hst hup hme => exec_twinRestore ht hsv hjr hparts hst hup hme
  case notFresh => exact fun h sv s ht hsv hheld => exec_twinRestore_notFresh ht hsv hheld

end Sys2Proof.Machine

namespace Sys2Proof.Machine

/-! SUPPORT. Entries of the own journal (R320, R321, R324), and the commands on a job's commits and journal (R317, R334, R348). -/

section JobCommands

variable {h : CmdHead} {ctx : Nat} {x : Ctx} {k : Kept} {s : State}

/-! ### Messages and entries -/

@[simp] theorem State.jr_send (s : State) (d : Nat) (p : Option Nat) (m : Msg) : (s.send d p m).jr = s.jr := (congrArg State.jr (s.send_eq d p m) :)
@[simp] theorem State.ctxs_send (s : State) (d : Nat) (p : Option Nat) (m : Msg) : (s.send d p m).ctxs = s.ctxs :=
  (congrArg State.ctxs (s.send_eq d p m) :)
@[simp] theorem State.ctx?_send (s : State) (d : Nat) (p : Option Nat) (m : Msg) (c : Nat) : (s.send d p m).ctx? c = s.ctx? c := by
  simp [State.ctx?]

/-- An entry adds its records and takes their numbers. -/
theorem State.jr_journal (s : State) (ring ctx tseq : Nat) (b : List JBody) :
    (s.journal ring ctx tseq b).jr = { s.jr with
      own := s.jr.own ++ entryOf s.jr.nextSeq b.length ring ctx tseq (((s.ctx? ctx).map Ctx.sealedId).getD 0) 0 b
      nextSeq := s.jr.nextSeq + b.length } := by
  unfold State.journal
  dsimp only
  split
  · rw [State.jr_send]
  · rfl

theorem map_body_entryOf (seq count ring ctx tseq commit i : Nat) (b : List JBody) :
    (entryOf seq count ring ctx tseq commit i b).map (·.body) = b := by
  induction b generalizing i with
  | nil => rfl
  | cons a b ih => rw [entryOf, List.map_cons, ih]

theorem State.exists_jr_journal (s : State) (ring ctx tseq : Nat) (b : List JBody) : ∃ recs, recs.map (·.body) = b
    ∧ (s.journal ring ctx tseq b).jr = { s.jr with own := s.jr.own ++ recs, nextSeq := s.jr.nextSeq + b.length } :=
  ⟨_, map_body_entryOf _ _ _ _ _ _ 0 b, s.jr_journal ring ctx tseq b⟩

theorem State.mem_own_journal {r : JRec} (hr : r ∈ s.jr.own) (ring ctx tseq : Nat) (b : List JBody) :
    r ∈ (s.journal ring ctx tseq b).jr.own := by
  rw [State.jr_journal]
  exact List.mem_append_left _ hr

@[simp] theorem State.ctxs_journal (s : State) (ring ctx tseq : Nat) (b : List JBody) : (s.journal ring ctx tseq b).ctxs = s.ctxs :=
  (congrArg State.ctxs (s.journal_eq ring ctx tseq b) :)

/-! ### JOB_ROLLBACK (R348) -/

theorem exec_jobRollback {commit : Nat} (ht : Taken h false s) (ho : Owned h ctx x s) (hc : commit < 2 ^ 64)
    (hk : x.kept.find? (fun k => k.id = commit) = some k) (hst : s.twin.state = .paired)
    (hroom : s.overfull ((s.rollback ctx x k).refresh ctx) = false) :
    exec (.jobRollback h ctx commit) s = .next (ok h [] ((s.rollback ctx x k).refresh ctx)) := by
  have hrefuse : (s.twin.state != .paired) = false := by simp [hst]
  show execJobRollback h ctx commit s = _
  rw [execJobRollback, gheit_owned ht ho (not_fits_eq_false hc), hk]
  dsimp only
  rw [refuseIf_false hrefuse, refuseIf_nil]
  exact congrArg _ (s.endCmd_ok h [] _ hroom)

/-! ### COMMIT_RELEASE (R334) -/

/-- The records that a release leaves in the own journal: those it does not free, of the journal with its own record. -/
theorem State.own_releaseCommit (s : State) (ctx : Nat) (k : Kept) : (s.releaseCommit ctx k).jr.own
    = (s.journal 0xFFFF ctx 0 [.release k.id]).jr.own.filter (fun r => !freedBy ctx k.freezeSeq (some k.header) r) := rfl

theorem State.ctx?_releaseCommit (hx : s.ctx? ctx = some x) (k : Kept) :
    (s.releaseCommit ctx k).ctx? ctx = some { x with kept := x.kept.filter (fun c => k.id ≤ c.id) } := by
  unfold State.releaseCommit
  dsimp only
  rw [State.modCtx_some (x := x)]
  · exact Tab.get_set_self _ _ _
  · rw [State.ctx?, State.ctxs_journal]
    exact hx

theorem State.releaseCommit_eq (s : State) (ctx : Nat) (k : Kept) : s.releaseCommit ctx k
    = { s with ctxs := (s.releaseCommit ctx k).ctxs, jr := (s.releaseCommit ctx k).jr, net := (s.releaseCommit ctx k).net } := by
  unfold State.releaseCommit
  dsimp only
  rw [State.journal_eq]
  rfl

theorem State.overfull_releaseCommit (hroom : s.journalRoom 1 = true) (k : Kept) : s.overfull (s.releaseCommit ctx k) = false := by
  have hlen : (s.releaseCommit ctx k).jr.own.length ≤ s.jr.own.length + 1 := by
    rw [State.own_releaseCommit]
    exact (List.length_filter_le _ _).trans (s.length_journal 0xFFFF ctx 0 [.release k.id]).le
  have hcap : s.jr.own.length + 1 ≤ s.journalCap := of_decide_eq_true hroom
  simp only [State.overfull, Bool.and_eq_false_iff, decide_eq_false_iff_not]
  omega

theorem exec_commitRelease {commit : Nat} (ht : Taken h false s) (ho : Owned h ctx x s) (hc : commit < 2 ^ 64)
    (hk : x.kept.find? (fun k => k.id = commit) = some k) (hroom : s.journalRoom 1 = true) :
    exec (.commitRelease h ctx commit) s = .next (ok h [] (s.releaseCommit ctx k)) := by
  show execCommitRelease h ctx commit s = _
  rw [execCommitRelease, gheit_owned ht ho (not_fits_eq_false hc), hk]
  exact congrArg _ (s.endCmd_ok h [] _ (State.overfull_releaseCommit hroom k))

/-! ### JOURNAL_QUERY (R317) -/

theorem exec_journalQuery_ctx (ht : Taken h false s) (ho : Owned h ctx x s) :
    exec (.journalQuery h false ctx) s = .next (s.finishCmd h 0 0 (s.journalFacts (s.ringsOf ctx) x)) := by
  refine (gheit_taken ht rfl).trans (congrArg Host.Outcome.next ?_)
  rw [if_neg Bool.false_ne_true, forOwner_owned ho]
  exact s.endCmd_ok h _ s (s.overfull_of_own s le_rfl)

theorem exec_journalQuery_ring {g : Nat} {r : Ring} (ht : Taken h false s) (hr : Tab.get s.rings g = some r)
    (ho : Owned h r.params.ctx x s) :
    exec (.journalQuery h true g) s = .next (s.finishCmd h 0 0 (s.journalFacts [g] x)) := by
  refine (gheit_taken ht rfl).trans (congrArg Host.Outcome.next ?_)
  simp only [if_true, hr, forOwner_owned ho]
  exact s.endCmd_ok h _ s (s.overfull_of_own s le_rfl)

theorem State.journalFacts_ring {g : Nat} {r : Ring} (hr : Tab.get s.rings g = some r) : s.journalFacts [g] x
    = result [(8, r.accepted), (8, r.complete), (8, x.sealedId), (8, ((x.kept.head?).map (·.id)).getD 0),
        (8, s.journalCap - s.jr.own.length)] := by
  simp [State.journalFacts, hr]

end JobCommands

/-- Settles O11: each command takes the branch that its hypotheses name; a release leaves of the journal what it does not free
(`own_releaseCommit`). -/
theorem jobCommandsComplete : Obligations.JobCommandsComplete := by
  unfold Obligations.JobCommandsComplete
  refine ⟨?rollback, ?release, ?byJob, ?byRing⟩
  case rollback => exact fun h ctx commit x k s ht ho hc hk hst hroom => exec_jobRollback ht ho hc hk hst hroom
  case release =>
    intro h ctx commit x k s ht ho hc hk hroom
    refine ⟨_, _, exec_commitRelease ht ho hc hk hroom, State.ctx?_releaseCommit ho.1 k, rfl, fun r hr => ?_, fun r hr hfree => ?_,
      s.releaseCommit_eq ctx k⟩
    · rw [State.own_releaseCommit] at hr
      simpa using List.of_mem_filter hr
    · rw [State.own_releaseCommit]
      exact List.mem_filter.mpr ⟨State.mem_own_journal hr _ _ _ _, by simp [hfree]⟩
  case byJob => exact fun h ctx x s ht ho => exec_journalQuery_ctx ht ho
  case byRing =>
    intro h g r x s ht hr ho
    rw [exec_journalQuery_ring ht hr ho, State.journalFacts_ring hr]
    rfl

end Sys2Proof.Machine

namespace Sys2Proof.Machine

/-! SUPPORT. Tickets: fetch, acceptance, completion (R323 to R328, R362, R364, R367). -/

section TicketRows

variable {s : State} {g : Nat} {r : Ring} {x : Ctx} {j : Journaling}

/-! ### What is written to the host (R389, R392) -/

@[simp] theorem State.ctxs_jobWrite (s : State) (fn a : Nat) (b : List Byte) : (s.jobWrite fn a b).ctxs = s.ctxs := by
  unfold State.jobWrite
  dsimp only
  split <;> rfl

@[simp] theorem State.ctxs_jobVector (s : State) (fn v : Nat) : (s.jobVector fn v).ctxs = s.ctxs := by
  unfold State.jobVector
  split <;> rfl

@[simp] theorem State.ctxs_writeCtrl (s : State) (g a n : Nat) : (s.writeCtrl g a n).ctxs = s.ctxs := by
  unfold State.writeCtrl
  split <;> simp

/-- A function that works takes a write at once. -/
theorem State.jobWrite_avail {fn : Nat} (havail : (s.fn fn).avail = true) (hawait : (s.fn fn).awaitResync = false) (a : Nat) (b : List Byte) :
    s.jobWrite fn a b = s.emit [.write fn a b] := by
  simp [State.jobWrite, havail, hawait]

theorem State.clients_of_hw {s t : State} (h : t.hw = s.hw) : t.clients = s.clients := by
  simp only [State.hw, Prod.mk.injEq] at h
  tauto

/-! What is sent to the host only grows. -/

theorem State.hostOut_fnWrite (s : State) (fn a : Nat) (b : List Byte) : s.hostOut <+: (s.fnWrite fn a b).hostOut := by
  unfold State.fnWrite
  split
  · exact List.prefix_append _ _
  · exact List.prefix_rfl

theorem State.hostOut_fnVector (s : State) (fn v : Nat) : s.hostOut <+: (s.fnVector fn v).hostOut := by
  unfold State.fnVector
  split
  · exact List.prefix_append _ _
  · exact List.prefix_rfl

theorem State.hostOut_finishCmd (s : State) (h : CmdHead) (status cause : Nat) (res : List Byte) :
    s.hostOut <+: (s.finishCmd h status cause res).hostOut := by
  have hend : ∀ (t : State) (waits irq : Bool) (v : Nat), s.hostOut <+: t.hostOut →
      s.hostOut <+: (if irq then (if waits then t else t.granted h.fn).fnVector h.fn v else if waits then t else t.granted h.fn).hostOut := by
    intro t waits irq v ht
    have hgranted : s.hostOut <+: (if waits then t else t.granted h.fn).hostOut := by cases waits <;> exact ht
    cases irq with
    | false => exact hgranted
    | true => exact hgranted.trans (State.hostOut_fnVector _ _ _)
  unfold State.finishCmd
  refine hend _ _ _ _ ?_
  rw [State.hostOut_modFn]
  split
  · exact ((s.hostOut_fnWrite _ _ _).trans (State.hostOut_fnWrite _ _ _ _)).trans (State.hostOut_fnWrite _ _ _ _)
  · exact List.prefix_rfl

theorem State.hostOut_retryMap (s : State) (ctx fn : Nat) : s.hostOut <+: (s.retryMap ctx fn).hostOut := by
  unfold State.retryMap
  split
  case h_2 => exact List.prefix_rfl
  case h_1 h c handle off x _ _ =>
    split
    case isFalse => exact List.prefix_rfl
    case isTrue =>
      split
      case h_2 => exact s.hostOut_finishCmd _ _ _ _
      case h_1 t _ =>
        split
        · exact (s.makeMapping h.fn c handle off t.obj.bytes).hostOut_finishCmd _ _ _ _
        · exact s.hostOut_finishCmd _ _ _ _

theorem State.hostOut_retryMaps (s : State) (ctx : Nat) : s.hostOut <+: (s.retryMaps ctx).hostOut := by
  rw [State.retryMaps_eq]
  exact List.foldlRecOn (motive := fun t : State => s.hostOut <+: t.hostOut) s.funs _ List.prefix_rfl
    fun t h f _ => h.trans (t.hostOut_retryMap ctx f.1)

theorem State.hostOut_refresh (s : State) (ctx : Nat) : s.hostOut <+: (s.refresh ctx).hostOut := by
  have hslices : (s.refresh ctx).hostOut = (s.retryMaps ctx).hostOut := (congrArg State.hostOut (s.beyondSlices_refresh ctx) :)
  rw [hslices]
  exact s.hostOut_retryMaps ctx

/-! ### Fetch (R362, R364) -/

theorem State.ringHeld_of_ctx (hx : s.ctx? r.params.ctx = some x) : s.ringHeld g r = x.ringHeld g := by
  simp [State.ringHeld, hx]

/-- A ticket that nothing holds is journaled when there is room. -/
theorem State.journalTicket_of_room (hw : j.written = false) (hheld : s.ringHeld g r = false)
    (hroom : s.journalRoom (ticketBodies j.ticket j.descs).length = true) :
    s.journalTicket g r j = (s.journal g r.params.ctx j.ticket.tseq (ticketBodies j.ticket j.descs)).setRing g { r with
      journaling := some { j with
        firstSeq := s.jr.nextSeq, lastSeq := s.jr.nextSeq + (ticketBodies j.ticket j.descs).length, written := true } } := by
  simp only [State.journalTicket, hw, hheld, hroom, Bool.not_true, Bool.or_self, Bool.false_eq_true, if_false, State.jr_journal]

theorem State.journalTicket_of_written (hw : j.written = true) : s.journalTicket g r j = s := by
  simp [State.journalTicket, hw]

/-- The module once a job has used the COMMIT_ID of a ticket (R329). -/
def State.usedBy (s : State) (ctx : Nat) (x : Ctx) (t : Ticket) : State :=
  { s with ctxs := if t.kind = 3 then Tab.set s.ctxs ctx (x.useCommit t.commitId) else s.ctxs }

theorem State.ite_usedBy (s : State) (ctx : Nat) (x : Ctx) (t : Ticket) :
    (if t.kind = 3 then s.setCtx ctx (x.useCommit t.commitId) else s) = s.usedBy ctx x t := by
  unfold State.usedBy
  split <;> rfl

theorem State.ringHeld_usedBy (hx : s.ctx? r.params.ctx = some x) (t : Ticket) : (s.usedBy r.params.ctx x t).ringHeld g r = x.ringHeld g := by
  rw [← State.ite_usedBy]
  split
  · exact State.ringHeld_of_ctx (x := x.useCommit t.commitId) (s.ctx?_setCtx_self _ _)
  · exact State.ringHeld_of_ctx hx

/-- The next ticket of a ring, when it passes its checks, is the one to be journaled. -/
theorem State.judge_of_good {f : Fetched} {t : Ticket} {ds : List Desc} (ht : t = ticketOf f.ticket) (hds : ds = (descsOf f.descs).take t.descCount)
    (hnext : t.tseq = r.accepted + 1) (hgood : ticketReject x t ds = none) :
    s.judge g r x f = ((s.usedBy r.params.ctx x t).setRing g { r with journaling := some ⟨t, ds, 0, 0, false⟩ }).journalTicket g
      { r with journaling := some ⟨t, ds, 0, 0, false⟩ } ⟨t, ds, 0, 0, false⟩ := by
  subst ht hds
  unfold State.judge
  dsimp only
  rw [if_neg (by omega), if_neg (by simp [hnext]), hgood, ← State.ite_usedBy]

/-- The ring and the arbiter once a ring's turn to fetch has been taken. -/
def State.fetching (s : State) (g : Nat) (r : Ring) : State :=
  { s.setRing g (if r.again.isEmpty then r else r.took) with arb := { s.arb with ringFetch := (g + 1) % 16384 } }

theorem exec_ticketFetch {f : Fetched} (hl : s.live = true) (hwin : s.fetchWinner = some g) (hr : Tab.get s.rings g = some r)
    (hx : s.ctx? r.params.ctx = some x) :
    exec (.ticketFetch g (some f)) s = .next ((s.fetching g r).judge g (if r.again.isEmpty then r else r.took) x f) := by
  have hx' : (s.fetching g r).ctx? r.params.ctx = some x := hx
  refine congrArg Host.Outcome.next ?_
  rw [if_pos (by simp [hl, hwin])]
  simp only [hr]
  change (match some f, (s.fetching g r).ctx? r.params.ctx with | some f, some x => _ | none, _ => _ | _, none => _) = _
  rw [hx']
  rfl

/-- The module once the entry of a good ticket is journaled; `r1` is the ring as its turn to fetch has left it. -/
def State.journaled (s : State) (g : Nat) (r r1 : Ring) (x : Ctx) (t : Ticket) (ds : List Desc) : State :=
  (((s.fetching g r).usedBy r.params.ctx x t).setRing g { r1 with journaling := some ⟨t, ds, 0, 0, false⟩ }).journal g r.params.ctx t.tseq
    (ticketBodies t ds)

theorem exec_ticketFetch_good {f : Fetched} {t : Ticket} {ds : List Desc} {r1 : Ring} (hl : s.live = true) (hwin : s.fetchWinner = some g)
    (hr : Tab.get s.rings g = some r) (hx : s.ctx? r.params.ctx = some x) (ht : t = ticketOf f.ticket)
    (hds : ds = (descsOf f.descs).take t.descCount) (hnext : t.tseq = r.accepted + 1) (hgood : ticketReject x t ds = none)
    (hheld : x.ringHeld g = false) (hroom : s.journalRoom (ticketBodies t ds).length = true)
    (hr1 : r1 = if r.again = [] then r else r.took) :
    exec (.ticketFetch g (some f)) s = .next ((s.journaled g r r1 x t ds).setRing g { r1 with
      journaling := some ⟨t, ds, s.jr.nextSeq, s.jr.nextSeq + (ticketBodies t ds).length, true⟩ }) := by
  have htook : (if r.again.isEmpty then r else r.took) = r1 := by simp only [hr1, List.isEmpty_iff]
  have hparams : r1.params = r.params := by rw [hr1]; split <;> rfl
  have haccepted : r1.accepted = r.accepted := by rw [hr1]; split <;> rfl
  have hfree : (((s.fetching g r).usedBy r1.params.ctx x t).setRing g { r1 with journaling := some ⟨t, ds, 0, 0, false⟩ }).ringHeld g
      { r1 with journaling := some ⟨t, ds, 0, 0, false⟩ } = false := by
    rw [← hheld]
    exact State.ringHeld_usedBy (s := s.fetching g r) (r := r1) (by rw [hparams]; exact hx) t
  have hroom' : (((s.fetching g r).usedBy r1.params.ctx x t).setRing g { r1 with journaling := some ⟨t, ds, 0, 0, false⟩ }).journalRoom
      (ticketBodies t ds).length = true := by
    exact hroom
  rw [exec_ticketFetch hl hwin hr hx, htook, State.judge_of_good ht hds (haccepted ▸ hnext) hgood,
    State.journalTicket_of_room rfl hfree hroom', State.journaled]
  simp only [hparams]
  rfl

/-- The module but for what a fetch changes. -/
def State.beyondFetch (s : State) : State := { s with rings := [], ctxs := [], jr := {}, net := {}, arb := {} }

theorem State.eq_of_beyondFetch {t : State} (h : t.beyondFetch = s.beyondFetch) :
    t = { s with rings := t.rings, ctxs := t.ctxs, jr := t.jr, net := t.net, arb := t.arb } :=
  (congrArg (fun u : State => { u with rings := t.rings, ctxs := t.ctxs, jr := t.jr, net := t.net, arb := t.arb }) h :)

@[simp] theorem State.beyondFetch_journal (s : State) (ring ctx tseq : Nat) (b : List JBody) :
    (s.journal ring ctx tseq b).beyondFetch = s.beyondFetch := (congrArg State.beyondFetch (s.journal_eq ring ctx tseq b) :)
@[simp] theorem State.beyondFetch_setRing (s : State) (g : Nat) (r : Ring) : (s.setRing g r).beyondFetch = s.beyondFetch := rfl
@[simp] theorem State.beyondFetch_usedBy (s : State) (ctx : Nat) (x : Ctx) (t : Ticket) : (s.usedBy ctx x t).beyondFetch = s.beyondFetch := rfl
@[simp] theorem State.beyondFetch_fetching (s : State) (g : Nat) (r : Ring) : (s.fetching g r).beyondFetch = s.beyondFetch := rfl

@[simp] theorem State.arb_journal (s : State) (ring ctx tseq : Nat) (b : List JBody) : (s.journal ring ctx tseq b).arb = s.arb :=
  (congrArg State.arb (s.journal_eq ring ctx tseq b) :)

/-- The entry's records stand in the own journal; a COMMIT's number is used; the arbiter has moved on. -/
theorem State.journaled_spec (s : State) (g : Nat) (r r1 : Ring) (x : Ctx) (t : Ticket) (ds : List Desc) :
    (∃ recs, recs.map (·.body) = ticketBodies t ds ∧ (s.journaled g r r1 x t ds).jr = { s.jr with
          own := s.jr.own ++ recs, nextSeq := s.jr.nextSeq + (ticketBodies t ds).length })
      ∧ (s.journaled g r r1 x t ds).ctxs = (if t.kind = 3 then Tab.set s.ctxs r.params.ctx (x.useCommit t.commitId) else s.ctxs)
      ∧ (s.journaled g r r1 x t ds).arb = { s.arb with ringFetch := (g + 1) % 16384 }
      ∧ (s.journaled g r r1 x t ds).beyondFetch = s.beyondFetch :=
  ⟨State.exists_jr_journal _ g r.params.ctx t.tseq (ticketBodies t ds), State.ctxs_journal _ _ _ _ _, State.arb_journal _ _ _ _ _,
    by simp [State.journaled]⟩

/-! ### Acceptance (R324, R325) -/

/-- The module once a ticket of a working job is accepted, before the job is brought up to date. -/
def State.accepting (s : State) (g : Nat) (r : Ring) (x : Ctx) (j : Journaling) : State :=
  let s1 := (s.setRing g { r with accepted := j.ticket.tseq, journaling := none }).writeCtrl g 0 8
  let s2 := if j.ticket.irqAccept then s1.jobVector x.owner r.params.vector else s1
  (s2.modCtx r.params.ctx (fun y => { y with runs := y.runs ++ [newRun x g j s.jr.nextSeq] })).countClient
    x.params.client (fun c => { c with accepted := c.accepted + 1 })

theorem State.acceptTicket_of_working (hf : x.state ≠ .faulted) (s : State) (g : Nat) (r : Ring) (j : Journaling) :
    s.acceptTicket g r x j = (s.accepting g r x j).refresh r.params.ctx := if_neg hf

theorem State.accepting_spec (hx : s.ctx? r.params.ctx = some x) (g : Nat) (j : Journaling) :
    (s.accepting g r x j).rings = Tab.set s.rings g { r with accepted := j.ticket.tseq, journaling := none }
      ∧ (s.accepting g r x j).clients = Tab.set s.clients x.params.client
          { Tab.getD s.clients x.params.client {} with accepted := (Tab.getD s.clients x.params.client {}).accepted + 1 }
      ∧ (s.accepting g r x j).ctx? r.params.ctx = some { x with runs := x.runs ++ [newRun x g j s.jr.nextSeq] } := by
  have htold : ∀ (t : State) (b : Bool) (fn v : Nat), (if b then t.jobVector fn v else t).hw = t.hw
      ∧ (if b then t.jobVector fn v else t).ctxs = t.ctxs := by
    intro t b fn v
    cases b <;> simp
  obtain ⟨hhw, hctxs⟩ := htold ((s.setRing g { r with accepted := j.ticket.tseq, journaling := none }).writeCtrl g 0 8)
    j.ticket.irqAccept x.owner r.params.vector
  rw [hw_State_writeCtrl] at hhw
  rw [State.ctxs_writeCtrl] at hctxs
  refine ⟨State.rings_of_hw hhw, ?_, ?_⟩
  · unfold State.accepting State.countClient
    simp only [State.clients_modCtx, State.clients_of_hw hhw, State.clients_setRing]
  · have hx' : (if j.ticket.irqAccept then State.jobVector ((s.setRing g { r with accepted := j.ticket.tseq, journaling := none }).writeCtrl g 0 8)
        x.owner r.params.vector else (s.setRing g { r with accepted := j.ticket.tseq, journaling := none }).writeCtrl g 0 8).ctx?
        r.params.ctx = some x := by rw [State.ctx?, hctxs]; exact hx
    unfold State.accepting State.countClient
    simp only [State.modCtx_some _ _ hx']
    exact Tab.get_set_self _ _ _

theorem exec_ticketAccept (hl : s.live = true) (hr : Tab.get s.rings g = some r) (hj : r.journaling = some j) (hw : j.written = true)
    (hx : s.ctx? r.params.ctx = some x) (hheld : x.ringHeld g = false) (hd : s.durable j.lastSeq = true) :
    exec (.ticketAccept g) s = .next (s.acceptTicket g r x j) := by
  refine congrArg Host.Outcome.next ?_
  simp [hr, hj, hl, State.journalTicket_of_written hw, hx, hw, hd, State.ringHeld_of_ctx hx, hheld]

/-! ### Completion (R326 to R328, R343, R367) -/

theorem Ctx.runs_sweepDeleted (x : Ctx) : x.sweepDeleted.runs = x.runs := by
  rw [Ctx.sweepDeleted_eq]
  refine foldl_keeps Ctx.runs (fun y t => ?_) _ x
  unfold Ctx.sweep
  repeat' split
  all_goals rfl

/-- A ticket that leaves is none of its job's any more. -/
theorem Ctx.findRun_leave (x : Ctx) (ring tseq : Nat) : findRun (x.leave ring tseq).runs ring tseq = none := by
  rw [Ctx.leave, Ctx.runs_sweepDeleted]
  refine List.find?_eq_none.mpr fun q hq => ?_
  have hkept := List.of_mem_filter hq
  simpa [imp_iff_not_or] using hkept

/-- The module once a first run's completion has been reported: its entry, then C_g. -/
def State.reported (s : State) (g : Nat) (r : Ring) (x : Ctx) (q : Run) : State := { s with
  rings := Tab.set s.rings g (r.completed q.tseq)
  hostOut := s.hostOut ++ [.write x.owner (r.params.complAddr + 32 * ((q.tseq - 1) % r.params.depth)) q.entry,
    .write x.owner (r.params.ctrlAddr + 8) (slice (r.completed q.tseq).ctrl 8 8)] }

/-- The module once a first run's ticket has left its job. -/
def State.completing (s : State) (ctx g : Nat) (r : Ring) (x : Ctx) (q : Run) : State :=
  ((s.reported g r x q).countClient x.params.client (fun c => c.finish (q.status.getD 0))).modCtx ctx (fun y => y.leave g q.tseq)

theorem Ring.params_completed (r : Ring) (tseq : Nat) : (r.completed tseq).params = r.params := rfl

theorem State.completeTicket_normal {q : Run} (hr : Tab.get s.rings g = some r) (hx : s.ctx? r.params.ctx = some x) (hm : q.mode = .normal)
    (havail : (s.fn x.owner).avail = true) (hawait : (s.fn x.owner).awaitResync = false) (hirq : q.ticket.irqDone = false) :
    s.completeTicket r.params.ctx g r x q = ((s.completing r.params.ctx g r x q).retryMaps r.params.ctx).refresh r.params.ctx := by
  have hentry : s.completion q = q.entry := by simp [State.completion, hm]
  have hctrl : ((s.emit [.write x.owner (r.params.complAddr + 32 * ((q.tseq - 1) % r.params.depth)) q.entry]).modRing g
      (fun k => k.completed q.tseq)).writeCtrl g 8 8 = s.reported g r x q := by
    have howner : s.ownerOf r.params.ctx = x.owner := by simp [State.ownerOf, hx]
    rw [State.modRing, State.rings_emit, Tab.modify_some _ _ hr]
    unfold State.writeCtrl
    simp only [Tab.get_set_self, Ring.params_completed]
    change State.jobWrite _ (s.ownerOf r.params.ctx) _ _ = _
    rw [howner]
    refine (State.jobWrite_avail (fn := x.owner) ?_ ?_ _ _).trans ?_
    · exact havail
    · exact hawait
    · simp [State.emit, State.reported]
  unfold State.completeTicket
  simp only [hm, hentry, State.jobWrite_avail havail hawait, hctrl, hirq]
  rfl

theorem exec_ticketComplete {tseq n : Nat} {q : Run} (hl : s.live = true) (hr : Tab.get s.rings g = some r)
    (hx : s.ctx? r.params.ctx = some x) (hq : findRun x.runs g tseq = some q) (hn : q.doneSeq = some n) (hdue : x.rollbackDue = none)
    (hd : s.durable n = true) : exec (.ticketComplete g tseq) s = .next (s.completeTicket r.params.ctx g r x q) := by
  refine congrArg Host.Outcome.next ?_
  simp [hr, hx, hq, hn, hl, hdue, hd]

/-- What bringing a job up to date after its ticket has left keeps: the rings, the counts, the tickets; the host is sent more. -/
theorem State.refresh_retryMaps_spec (s : State) (ctx : Nat) : ((s.retryMaps ctx).refresh ctx).rings = s.rings
    ∧ ((s.retryMaps ctx).refresh ctx).clients = s.clients ∧ s.hostOut <+: ((s.retryMaps ctx).refresh ctx).hostOut
    ∧ ∀ c, (((s.retryMaps ctx).refresh ctx).ctx? c).map Ctx.runs = (s.ctx? c).map Ctx.runs := by
  have hhw : ((s.retryMaps ctx).refresh ctx).hw = s.hw := by simp
  refine ⟨State.rings_of_hw hhw, State.clients_of_hw hhw, (s.hostOut_retryMaps ctx).trans (State.hostOut_refresh _ ctx), fun c => ?_⟩
  rw [State.runs_refresh, State.ctx?_retryMaps]

theorem Counts.finish_getD (c : Counts) (st : Option Nat) : c.finish (st.getD 0)
    = if st = some 2 ∨ st = some 3 then { c with faulted := c.faulted + 1 } else { c with completed := c.completed + 1 } := by
  cases st <;> simp [Counts.finish]

end TicketRows

/-- Settles O29: the fetch journals the ticket that its checks let through (`exec_ticketFetch_good`); what acceptance and completion
leave is read before the job is brought up to date, which keeps rings, counts and tickets (`accepting_spec`,
`refresh_retryMaps_spec`). -/
theorem ticketRowsComplete : Obligations.TicketRowsComplete := by
  unfold Obligations.TicketRowsComplete
  refine ⟨?fetch, ?accept, ?complete⟩
  case fetch =>
    intro g f tk ds r x s hl hwin hr hx ht hds hnext hgood hheld hroom
    obtain ⟨⟨recs, hbodies, hjr⟩, hctxs, harb, heq⟩ := s.journaled_spec g r (if r.again = [] then r else r.took) x tk ds
    have hseq := congrArg Journals.nextSeq hjr
    refine ⟨_, exec_ticketFetch_good hl hwin hr hx ht hds hnext hgood hheld hroom rfl, ?_, hseq, ⟨recs, ?_, hbodies⟩, harb, hctxs,
      State.eq_of_beyondFetch heq⟩
    · exact (Tab.get_set_self _ _ _).trans (by rw [State.jr_setRing, hseq])
    · rw [State.jr_setRing, hseq]
      exact hjr
  case accept =>
    intro g j r x s hl hr hj hw hx hf hheld hd
    obtain ⟨hrings, hclients, hctx⟩ := State.accepting_spec hx g j
    have hhw := hw_State_refresh (s.accepting g r x j) r.params.ctx
    obtain ⟨x2, hx2, hruns⟩ := Option.map_eq_some_iff.mp
      ((State.runs_refresh (s.accepting g r x j) r.params.ctx r.params.ctx).trans (congrArg (Option.map Ctx.runs) hctx))
    rw [exec_ticketAccept hl hr hj hw hx hheld hd, State.acceptTicket_of_working hf]
    refine ⟨_, _, x2, newRun x g j s.jr.nextSeq, rfl, ?_, rfl, hx2, ?_, rfl, rfl, rfl, rfl, rfl, rfl, ?_, fun c hc => ?_⟩
    · rw [State.rings_of_hw hhw, hrings, Tab.get_set_self]
    · rw [hruns]
      exact List.mem_append_right _ (List.mem_singleton_self _)
    · rw [State.clients_of_hw hhw, hclients, Tab.getD_set_self]
    · rw [State.clients_of_hw hhw, hclients, Tab.get_set_ne _ _ hc]
  case complete =>
    intro g tseq n r x q s hl hr hx hq hn hm hdue hd havail hawait hirq
    obtain ⟨hrings, hclients, hhost, hruns⟩ := (s.completing r.params.ctx g r x q).refresh_retryMaps_spec r.params.ctx
    have hx1 : ((s.reported g r x q).countClient x.params.client (fun c => c.finish (q.status.getD 0))).ctx? r.params.ctx = some x := hx
    have hleft : (s.completing r.params.ctx g r x q).ctx? r.params.ctx = some (x.leave g q.tseq) := by
      rw [State.completing, State.modCtx_some _ _ hx1]
      exact Tab.get_set_self _ _ _
    rw [exec_ticketComplete hl hr hx hq hn hdue hd, State.completeTicket_normal hr hx hm havail hawait hirq]
    refine ⟨_, _, rfl, ?_, rfl, ?_, fun x2 hx2 => ?_, ?_⟩
    · rw [hrings]
      exact Tab.get_set_self _ _ _
    · obtain ⟨more, hmore⟩ := hhost
      exact ⟨more, hmore.symm⟩
    · have hsame := hruns r.params.ctx
      rw [hx2, hleft, Option.map_some, Option.map_some] at hsame
      rw [Option.some.inj hsame]
      exact x.findRun_leave g q.tseq
    · rw [hclients]
      exact (Tab.getD_set_self _ _ _ _).trans (Counts.finish_getD _ q.status)

end Sys2Proof.Machine

namespace Sys2Proof.Machine

/-! SUPPORT. Journal records and answers between twins (R314, R320, R321, R324, R334, R340, R348), and SLOT_SET (R344, R379, R380). -/

section Messages

variable {s : State} {src vc : Nat} {a : Arrived} {rest : List Arrived}

/-! ### A delivered message -/

/-- A delivered message is acted on as its row says, in the state without it in the inbox. -/
theorem onMessage_of_some {f : State → Arrived → Option State} {t : State} (hdel : Delivered src vc a rest s)
    (hf : f (s.setInbox rest) a = some t) : onMessage src vc s f = t := by
  have htag := hdel.tagFails_eq_false
  obtain ⟨hl, htake, -⟩ := hdel
  simp only [onMessage, hl, htake, hf, htag, Bool.not_true, Bool.false_eq_true, if_false]

/-- One whose row cannot act on it yet stays. -/
theorem onMessage_of_none {f : State → Arrived → Option State} (hdel : Delivered src vc a rest s) (hf : f (s.setInbox rest) a = none) :
    onMessage src vc s f = s := by
  obtain ⟨hl, htake, -⟩ := hdel
  simp only [onMessage, hl, htake, hf, Bool.not_true, Bool.false_eq_true, if_false]

/-- What a journal message does to the module that it has come to. -/
def State.onJournal (s : State) (src : Nat) : Msg → Option State
  | .journal recs => some (if s.isTwin src then s.takeRecords src recs else s)
  | .journalAck upTo => some (if s.isTwin src then { s with jr := { s.jr with acked := max s.jr.acked upTo } } else s)
  | .journalFull => some (if s.isTwin src then { s with jr := { s.jr with twinFull := true } } else s)
  | .journalRoom => some (if s.isTwin src then { s with jr := { s.jr with twinFull := false } }.resendRecords src else s)
  | .tables t => some (if s.isTwin src then { s with jr := { s.jr with partnerTables := some t } } else s)
  | .restoreTables t => some (s.modTwin (fun w => { w with restoring := w.restoring.map (fun r =>
      if r.survivor = src && r.step = 2 then { r with tables := some t } else r) }))
  | _ => none

theorem exec_journalRecords {m : Msg} {t : State} (hdel : Delivered src 0 a rest s) (ha : a.msg = m)
    (ht : (s.setInbox rest).onJournal src m = some t) : exec (.journalRecords src) s = .next t := by
  refine congrArg Host.Outcome.next (onMessage_of_some hdel ?_)
  rw [← ht, ha]
  cases m <;> rfl

end Messages

/-! ### Records (R320, R324) -/

section Records

variable {s : State} {src : Nat} {recs new : List JRec} {r : JRec}

theorem foldl_eq_self {σ α : Type} {f : σ → α → σ} {s : σ} {l : List α} (h : ∀ a ∈ l, f s a = s) : l.foldl f s = s := by
  induction l with
  | nil => rfl
  | cons a l ih => rw [List.foldl_cons, h a (List.mem_cons_self ..), ih fun b hb => h b (List.mem_cons_of_mem a hb)]

theorem mem_putRec_iff {l : List JRec} {q : JRec} : q ∈ putRec l r ↔ q = r ∨ (q ∈ l ∧ q.seq ≠ r.seq) := by
  simp only [putRec, List.mem_append, List.mem_filter, List.mem_singleton, decide_eq_true_eq]
  have : q.seq ≠ r.seq ↔ q.seq < r.seq ∨ r.seq < q.seq := Nat.ne_iff_lt_or_gt
  tauto

/-- Records under numbers that the journal does not hold, each under its own, all enter it. -/
theorem mem_foldl_putRec {l : List JRec} (hown : (new.map (·.seq)).Nodup) (hnew : ∀ r ∈ new, ∀ q ∈ l, q.seq ≠ r.seq) (q : JRec) :
    q ∈ new.foldl putRec l ↔ q ∈ l ∨ q ∈ new := by
  induction new generalizing l with
  | nil => simp
  | cons r new ih =>
    rw [List.map_cons, List.nodup_cons] at hown
    obtain ⟨hr, hown⟩ := hown
    rw [List.forall_mem_cons] at hnew
    obtain ⟨hfirst, hothers⟩ := hnew
    have hput : q ∈ putRec l r ↔ q ∈ l ∨ q = r := by
      rw [mem_putRec_iff]
      exact ⟨fun h => h.elim .inr fun h => .inl h.1, fun h => h.elim (fun h => .inr ⟨h, hfirst q h⟩) .inl⟩
    rw [List.foldl_cons, ih hown, hput, List.mem_cons, or_assoc]
    intro p hp k hk
    rcases mem_putRec_iff.mp hk with rfl | ⟨hk, -⟩
    · exact fun heq => hr (heq ▸ List.mem_map_of_mem hp)
    · exact hothers p hp k hk

/-- A record that neither frees anything on the twin nor asks it for an image (R334, R348, R358). -/
def JRec.plain (r : JRec) : Prop := (∀ k, r.body ≠ .release k) ∧ (∀ k, r.body ≠ .rollback k) ∧ (∀ n, r.body ≠ .config (.contextDestroy n))

theorem JRec.plain.recordFrees (h : r.plain) (s : State) : s.recordFrees r = s := by
  obtain ⟨hrelease, -, hdestroy⟩ := h
  unfold State.recordFrees
  split
  case h_1 k hb => exact absurd hb (hrelease k)
  case h_2 n hb => exact absurd hb (hdestroy n)
  case h_3 => rfl

theorem JRec.plain.recordAsks (h : r.plain) (s : State) : State.recordAsks src s r = s := by
  obtain ⟨-, hrollback, -⟩ := h
  unfold State.recordAsks
  split
  case h_1 k hb => exact absurd hb (hrollback k)
  case h_2 => rfl

/-- The partner journal with records written into it. -/
def Journals.withRecords (j : Journals) (new : List JRec) : Journals :=
  { j with partner := new.foldl putRec j.partner, partnerTables := j.partnerTables.map (fun b => new.foldl ModTables.take b) }

/-- Nothing has been turned away, and there is room once the new records have freed what they free: they are written, what they
ask for follows, and they are acknowledged. -/
theorem State.takeRecords_of_room {u : State} (hnew : recs.filter (fun r => !s.jr.partner.any (fun q => q.seq = r.seq)) = new)
    (hu : new.foldl State.recordFrees s = u) (hclear : u.jr.refusedAt = none) (hroom : u.jr.partner.length + new.length ≤ u.journalCap) :
    s.takeRecords src recs = (new.foldl (State.recordAsks src) { u with jr := u.jr.withRecords new }).send src none
      (.journalAck (recs.foldl (fun n r => max n (r.seq + 1)) 0)) := by
  have hsame : ({ u.jr with
      partner := new.foldl putRec u.jr.partner, refusedAt := none
      partnerTables := u.jr.partnerTables.map (fun t => new.foldl ModTables.take t) } : Journals) = u.jr.withRecords new := by
    rw [Journals.withRecords, hclear]
  unfold State.takeRecords
  simp only [hnew, hu]
  rw [if_pos (by simp [hclear, hroom]), hsame]

/-- Without room for records that free nothing they are turned away, and the twin is told. -/
theorem State.takeRecords_of_full (hnew : recs.filter (fun r => !s.jr.partner.any (fun q => q.seq = r.seq)) = new)
    (hplain : ∀ r ∈ new, r.plain) (hclear : s.jr.refusedAt = none) (hfull : s.journalCap < s.jr.partner.length + new.length) :
    s.takeRecords src recs
      = State.send { s with jr := { s.jr with refusedAt := some (((recs.head?).map (·.seq)).getD 0) } } src none .journalFull := by
  unfold State.takeRecords
  simp only [hnew, foldl_eq_self fun r hr => (hplain r hr).recordFrees s]
  rw [if_neg (by simp [hfull])]
  simp [hclear]

/-- One record that the twin does not hold is the new one. -/
theorem filter_new_singleton {l : List JRec} (h : ∀ q ∈ l, q.seq ≠ r.seq) : [r].filter (fun r => !l.any (fun q => q.seq = r.seq)) = [r] := by
  have : l.any (fun q => q.seq = r.seq) = false := by simpa using h
  simp [this]

/-- One record that the twin does not hold, with room for it. -/
theorem State.takeRecords_one {u : State} (hfresh : ∀ q ∈ s.jr.partner, q.seq ≠ r.seq) (hu : s.recordFrees r = u)
    (hclear : u.jr.refusedAt = none) (hroom : u.jr.partner.length < u.journalCap) :
    s.takeRecords src [r]
      = (State.recordAsks src { u with jr := u.jr.withRecords [r] } r).send src none (.journalAck (r.seq + 1)) := by
  rw [State.takeRecords_of_room (filter_new_singleton hfresh) hu hclear hroom, List.foldl_cons, List.foldl_nil, List.foldl_cons,
    List.foldl_nil, Nat.zero_max]

/-- A release frees records and never adds one. -/
theorem State.length_partner_releaseHere (s : State) (ctx k : Nat) : (s.releaseHere ctx k).jr.partner.length ≤ s.jr.partner.length :=
  List.length_filter_le _ _

end Records

/-! ### SLOT_SET (R344, R379, R380) -/

section SlotSet

variable {s : State} {ctx : Nat} {x : Ctx} {r : Run} {d : Desc}

/-- The serving slots with the lengths that a SLOT_SET gives them. -/
def State.withLengths (s : State) (d : Desc) : State := { s with
  slots := (slotEntries d).foldl (fun l e => Tab.modify l e.1 (fun y => { y with obj := { y.obj with length := e.2 } })) s.slots }

/-- A batch restarts when its first descriptor is next and it names a slot of the job that has RESTART set. -/
def State.restarts (s : State) (ctx : Nat) (r : Run) : Prop :=
  r.next = 0 ∧ ∃ n ∈ r.slots, s.slotOf ctx n = true ∧ ∃ l, Tab.get s.slots n = some l ∧ l.restart = true

theorem State.restarts_iff : s.restarts ctx r
    ↔ (decide (r.next = 0) && r.slots.any (fun n => s.slotOf ctx n && ((Tab.get s.slots n).map (·.restart)).getD false)) = true := by
  have hslot : ∀ n, ((Tab.get s.slots n).map (·.restart)).getD false = true ↔ ∃ l, Tab.get s.slots n = some l ∧ l.restart = true := by
    intro n
    cases Tab.get s.slots n <;> simp
  simp only [State.restarts, Bool.and_eq_true, decide_eq_true_eq, List.any_eq_true, hslot]

theorem State.fuses_of_hw {s t : State} (h : t.hw = s.hw) : t.fuses = s.fuses := by
  simp only [State.hw, Prod.mk.injEq] at h
  tauto

theorem State.boot_of_hw {s t : State} (h : t.hw = s.hw) : t.boot = s.boot := by
  simp only [State.hw, Prod.mk.injEq] at h
  tauto

theorem exec_slotSet (hd : s.dispatchable ctx 0x60 none false = some (x, r, d)) (hrun : ¬ s.restarts ctx r)
    (hown : ∀ e ∈ slotEntries d, s.slotOf ctx e.1 = true) :
    exec (.slotSet ctx) s
      = .next (((((s.withLengths d).startDesc ctx r).endDesc ctx r.ring r.tseq r.next (statusRecord 0))).refresh ctx) := by
  refine congrArg Host.Outcome.next ?_
  rw [State.restarts_iff] at hrun
  simp only [hd]
  rw [if_neg hrun, if_neg (by simpa using hown)]
  rfl

theorem exec_slotSet_foreign (hd : s.dispatchable ctx 0x60 none false = some (x, r, d)) (hrun : ¬ s.restarts ctx r)
    (hforeign : ∃ e ∈ slotEntries d, s.slotOf ctx e.1 = false) : exec (.slotSet ctx) s = .next ((s.rejectDesc ctx r).refresh ctx) := by
  refine congrArg Host.Outcome.next ?_
  rw [State.restarts_iff] at hrun
  simp only [hd]
  rw [if_neg hrun, if_pos (by simpa using hforeign)]

theorem exec_slotSet_restarts (hd : s.dispatchable ctx 0x60 none false = some (x, r, d)) (hrun : s.restarts ctx r) :
    exec (.slotSet ctx) s = .next ((s.stopRun ctx r 4 0 none).refresh ctx) := by
  refine congrArg Host.Outcome.next ?_
  rw [State.restarts_iff] at hrun
  simp only [hd]
  exact if_pos hrun

end SlotSet

/-- Settles O30: records are taken, or turned away, by `takeRecords_of_room` and `takeRecords_of_full`; what a SLOT_SET leaves of the
slots, the ports and the hardware is read off the end of its descriptor (`aside_endDesc`). -/
theorem journalAndSlotSetRowsComplete : Obligations.JournalAndSlotSetRowsComplete := by
  unfold Obligations.JournalAndSlotSetRowsComplete
  refine ⟨?records, ?asks, ?answers, ?tables, ?slotSet⟩
  case records =>
    intro src a rest recs new s hdel ha htwin hclear hown hplain hnew
    have hexec := exec_journalRecords hdel ha (congrArg some (if_pos htwin))
    have hplain' : ∀ r ∈ new, r.plain := fun r hr => hplain r (List.mem_of_mem_filter (hnew ▸ hr))
    refine ⟨fun hroom => ?taken, fun hfull => ?refused⟩
    case taken =>
      have htaken := State.takeRecords_of_room (s := s.setInbox rest) (src := src) hnew.symm
        (foldl_eq_self fun r hr => (hplain' r hr).recordFrees _) hclear hroom
      rw [foldl_eq_self fun r hr => (hplain' r hr).recordAsks _] at htaken
      refine ⟨_, hexec.trans (congrArg _ htaken), ?_, ?_, ?_⟩
      · rw [State.jr_send]
        refine mem_foldl_putRec ?_ fun r hr q hq => ?_
        · exact hown.sublist ((hnew ▸ List.filter_sublist).map _)
        · have hfree := List.of_mem_filter (hnew ▸ hr)
          simp only [Bool.not_eq_true', List.any_eq_false, decide_eq_true_eq] at hfree
          exact hfree q hq
      · rw [State.jr_send]
        rfl
      · rw [State.jr_send]
        rfl
    case refused => exact hexec.trans (congrArg _ (State.takeRecords_of_full (s := s.setInbox rest) hnew.symm hplain' hclear hfull))
  case asks =>
    intro src a rest r s hdel ha htwin hclear hfresh hroom
    have hexec := exec_journalRecords hdel ha (congrArg some (if_pos htwin))
    refine ⟨fun k hk => ⟨_, _, rfl, rfl, hexec.trans (congrArg _ ?_)⟩, fun k hk => ⟨_, rfl, hexec.trans (congrArg _ ?_)⟩⟩
    · rw [State.takeRecords_one (s := s.setInbox rest) (u := (s.setInbox rest).releaseHere r.ctx k) hfresh
        (by simp only [State.recordFrees, hk]) hclear ((State.length_partner_releaseHere _ _ _).trans_lt hroom)]
      simp only [State.recordAsks, hk]
      rfl
    · rw [State.takeRecords_one (s := s.setInbox rest) (u := s.setInbox rest) hfresh (by simp only [State.recordFrees, hk]) hclear hroom]
      simp only [State.recordAsks, hk]
      rfl
  case answers =>
    intro src a rest s hdel htwin
    refine ⟨fun n ha => ?_, fun ha => ?_, fun ha => ?_, fun b ha => ?_⟩
    all_goals exact exec_journalRecords hdel ha (congrArg some (if_pos htwin))
  case tables =>
    intro src a rest b r s hdel ha hr hsrc hstep
    refine exec_journalRecords hdel ha (congrArg some ?_)
    rw [State.modTwin, State.twin_setInbox, hr, Option.map_some, if_pos (by simp [hsrc, hstep])]
  case slotSet =>
    intro ctx x r d s hd
    refine ⟨fun hrun => ?_, fun hrun => exec_slotSet_restarts hd hrun⟩
    have hruns : ¬ s.restarts ctx r := by
      rintro ⟨hnext, n, hn, hslot, l, hl, hrestart⟩
      rcases hrun with hrun | hrun
      · exact hrun hnext
      · rw [hrun n hn hslot l hl] at hrestart
        exact Bool.false_ne_true hrestart
    refine ⟨fun hown => ⟨_, exec_slotSet hd hruns hown, ?_⟩, fun hforeign => exec_slotSet_foreign hd hruns hforeign⟩
    have haside := (State.aside_refresh (((s.withLengths d).startDesc ctx r).endDesc ctx r.ring r.tseq r.next (statusRecord 0)) ctx).trans
      ((State.aside_endDesc _ _ _ _ _ _).trans (State.aside_startDesc (s.withLengths d) ctx r))
    have hhw : ((((s.withLengths d).startDesc ctx r).endDesc ctx r.ring r.tseq r.next (statusRecord 0)).refresh ctx).hw = s.hw := by
      rw [hw_State_refresh, hw_State_endDesc, hw_State_startDesc]
      rfl
    exact ⟨State.slots_of_aside haside, State.fuses_of_hw hhw, State.flash_of_hw hhw, State.boot_of_hw hhw,
      State.ports_of_aside (s := s.withLengths d) haside⟩

end Sys2Proof.Machine

namespace Sys2Proof.Machine

/-! SUPPORT. Replay of a job (R342, R343). -/

section JobReplay

variable {s : State} {ctx n : Nat} {consumed : Tab Nat} {x y : Ctx} {p q : Replay} {r : JRec} {rest : List JRec}

/-- The first of n records, and the rest of them. -/
theorem take_cons_pred {α : Type} {a : α} {l : List α} {n : Nat} (hn : 0 < n) : (a :: l).take n = a :: l.take (n - 1) := by
  obtain ⟨m, rfl⟩ := Nat.exists_eq_succ_of_ne_zero hn.ne'
  rfl

theorem exec_jobReplay_ends (hl : s.live = true) (hx : s.ctx? ctx = some x) (hp : x.replay = some p) (hdue : x.rollbackDue = none)
    (hrecords : p.records = []) (htaken : ∀ r ∈ x.runs, r.takenUp = true) :
    exec (.jobReplay ctx consumed) s = .next (((s.setCtx ctx { x with replay := none }).serveReads ctx).refresh ctx) := by
  refine congrArg Host.Outcome.next ?_
  simp only [hx, hp]
  rw [if_neg (by simp [hl, hdue]), hrecords]
  exact if_pos (List.all_eq_true.mpr htaken)

/-- The next entry of the journal is taken up, when it can be; else it waits for the job's earlier work. -/
theorem exec_jobReplay_next (hl : s.live = true) (hx : s.ctx? ctx = some x) (hp : x.replay = some p) (hdue : x.rollbackDue = none)
    (hrecords : p.records = r :: rest) (hn : n = max 1 (r.count - r.part)) (hq : q = { p with hostRead := some (p.hostRead.getD consumed) })
    (hy : y = { x with replay := some { q with records := (r :: rest).drop n } }) :
    exec (.jobReplay ctx consumed) s = .next (((s.setCtx ctx y).replayEntry ctx y q (r :: rest.take (n - 1))).elim
      (s.setCtx ctx { x with replay := some q }) (fun t => t.refresh ctx)) := by
  rw [← take_cons_pred (a := r) (l := rest) (by omega)]
  subst hy hq hn
  refine congrArg Host.Outcome.next ?_
  simp only [hx, hp]
  rw [if_neg (by simp [hl, hdue])]
  simp only [hrecords]
  split
  case h_1 t ht => rw [ht]; rfl
  case h_2 ht => rw [ht]; rfl

/-! ### One entry (R342, R343) -/

theorem State.replayEntry_accept {tk : Ticket} (hr : r.body = .accept tk) (s : State) (ctx : Nat) (x : Ctx) (p : Replay) (more : List JRec) :
    s.replayEntry ctx x p (r :: more) = some (s.addReplayed ctx
      (s.replayRun x p r tk (more.flatMap (fun k => match k.body with | .desc l => l | _ => [])))) := by
  simp only [State.replayEntry, hr] <;> rfl

/-- Earlier work of a job is over, but for frozen COMMITs. -/
def Ctx.quiet (x : Ctx) : Prop := ∀ k ∈ x.runs, k.over = true ∨ (k.ticket.kind = 3 ∧ k.frozen = true)

theorem Ctx.quiet_iff (x : Ctx) : x.quiet ↔ x.runs.all (fun r => r.over || (decide (r.ticket.kind = 3) && r.frozen)) = true := by
  simp [Ctx.quiet]

theorem State.replayEntry_config {op : ConfigOp} (hr : r.body = .config op) (hf : x.state ≠ .faulted) (hquiet : x.quiet) (s : State)
    (ctx : Nat) (p : Replay) (more : List JRec) : s.replayEntry ctx x p (r :: more)
      = some (s.applyOp ctx x r.seq op (more.flatMap (fun k => match k.body with | .prompt _ b => b | _ => []))) := by
  simp only [State.replayEntry, hr, if_neg hf, if_pos (x.quiet_iff.mp hquiet)] <;> rfl

theorem State.replayEntry_hostWrite {h off : Nat} {bs : List Byte} (hr : r.body = .hostWrite h off bs) (hf : x.state ≠ .faulted)
    (hquiet : x.quiet) (s : State) (ctx : Nat) (p : Replay) (more : List JRec) :
    s.replayEntry ctx x p (r :: more) = some (s.replayWrites ctx (r :: more)) := by
  simp only [State.replayEntry, hr, if_neg hf, if_pos (x.quiet_iff.mp hquiet)]

theorem State.replayEntry_config_waits {op : ConfigOp} (hr : r.body = .config op) (hf : x.state ≠ .faulted) (hbusy : ¬ x.quiet) (s : State)
    (ctx : Nat) (p : Replay) (more : List JRec) : s.replayEntry ctx x p (r :: more) = none := by
  rw [Ctx.quiet_iff] at hbusy
  simp only [State.replayEntry, hr, if_neg hf, if_neg hbusy]

end JobReplay

/-- Settles O31: an entry that can be taken up is (`exec_jobReplay_next`), as its first record says (`replayEntry_accept`,
`replayEntry_config`, `replayEntry_hostWrite`). -/
theorem jobReplayCompletes : Obligations.JobReplayCompletes := by
  unfold Obligations.JobReplayCompletes
  refine ⟨?ends, ?entry⟩
  case ends => exact fun ctx consumed x p s hl hx hp hdue hrecords htaken => exec_jobReplay_ends hl hx hp hdue hrecords htaken
  case entry =>
    intro ctx n consumed x y p q r rest s hl hx hp hdue hrecords hn hq hy
    have hexec := exec_jobReplay_next hl hx hp hdue hrecords hn hq hy
    have hstate : y.state = x.state := by rw [hy]
    have hruns : y.runs = x.runs := by rw [hy]
    refine ⟨fun tk hr => ?accept, fun hf hquiet => ?quiet, fun hf hbusy hr => ?waits⟩
    case accept =>
      rw [State.replayEntry_accept hr] at hexec
      refine hexec.trans ?_
      rfl
    case quiet =>
      have hf' : y.state ≠ .faulted := hstate ▸ hf
      have hquiet' : y.quiet := by rw [Ctx.quiet, hruns]; exact hquiet
      refine ⟨fun op hr => ?_, fun h off bs hr => ?_⟩
      · rw [State.replayEntry_config hr hf' hquiet'] at hexec
        refine hexec.trans ?_
        rfl
      · rw [State.replayEntry_hostWrite hr hf' hquiet'] at hexec
        exact hexec
    case waits =>
      obtain ⟨op, hr⟩ := hr
      obtain ⟨k, hk, hover, hcommit⟩ := hbusy
      have hbusy : ¬ y.quiet := fun hquiet => (hquiet k (hruns ▸ hk)).elim (fun h => Bool.false_ne_true (hover.symm.trans h)) hcommit
      rw [State.replayEntry_config_waits hr (hstate ▸ hf) hbusy] at hexec
      exact hexec

end Sys2Proof.Machine

namespace Sys2Proof.Machine

/-! SUPPORT. Commits: freeze, copies, transfer, seal, and images on their way back (R330 to R336, R340, R348). -/

section Freeze

variable {s : State} {ctx : Nat} {x : Ctx} {r : Run}

/-! ### Lists and tables -/

theorem Tab.mem_of_get {α : Type} {t : Tab α} {i : Nat} {a : α} (h : Tab.get t i = some a) : (i, a) ∈ t := by
  induction t with
  | nil => exact absurd h (by simp [Tab.get])
  | cons e t ih =>
    obtain ⟨k, b⟩ := e
    by_cases hk : k = i
    · rw [Tab.get, if_pos hk] at h
      exact List.mem_cons.mpr (.inl (Prod.ext hk.symm (Option.some.inj h).symm))
    · rw [Tab.get, if_neg hk] at h
      exact List.mem_cons_of_mem _ (ih h)

/-- Entries of which a function sees the same are the same to it once set. -/
theorem Tab.map_set_congr {α β : Type} (f : Nat × α → β) {i : Nat} {a b : α} (hab : f (i, a) = f (i, b)) (t : Tab α) :
    (Tab.set t i a).map f = (Tab.set t i b).map f := by
  induction t with
  | nil => simp [Tab.set, hab]
  | cons e t ih =>
    simp only [Tab.set]
    split
    · simp [hab]
    · split
      · simp [hab]
      · simp [ih]

theorem mem_insertBy {α : Type} {f : α → Nat} {a b : α} {l : List α} : b ∈ insertBy f a l ↔ b = a ∨ b ∈ l := by
  induction l with
  | nil => simp [insertBy]
  | cons c l ih =>
    rw [insertBy]
    split
    · exact List.mem_cons
    · rw [List.mem_cons, ih, List.mem_cons]
      tauto

theorem mem_sortBy {α : Type} {f : α → Nat} {b : α} {l : List α} : b ∈ sortBy f l ↔ b ∈ l := by
  induction l with
  | nil => rfl
  | cons a l ih => rw [sortBy, mem_insertBy, ih, List.mem_cons]

theorem length_insertBy {α : Type} (f : α → Nat) (a : α) (l : List α) : (insertBy f a l).length = l.length + 1 := by
  induction l with
  | nil => rfl
  | cons c l ih =>
    rw [insertBy]
    split
    · rfl
    · rw [List.length_cons, ih, List.length_cons]

theorem length_sortBy {α : Type} (f : α → Nat) (l : List α) : (sortBy f l).length = l.length := by
  induction l with
  | nil => rfl
  | cons a l ih => rw [sortBy, length_insertBy, ih, List.length_cons]

/-! ### The freeze (R330, R331) -/

/-- The FREEZE record changes the journals and the network alone. -/
theorem State.freezeRecord_spec (s : State) (ctx ring tseq id : Nat) : (s.freezeRecord ctx ring tseq id).1.ctxs = s.ctxs
    ∧ (s.freezeRecord ctx ring tseq id).1.twin = s.twin ∧ (s.freezeRecord ctx ring tseq id).1.mirrorSlots = s.mirrorSlots := by
  unfold State.freezeRecord
  split
  · exact ⟨rfl, rfl, rfl⟩
  · have heq := s.journal_eq ring ctx tseq [.freeze id]
    exact ⟨(congrArg State.ctxs heq :), (congrArg State.twin heq :), (congrArg State.mirrorSlots heq :)⟩

/-- A job whose latest freeze is noted. -/
def Ctx.froze (k : Kept) (x : Ctx) : Ctx := { x with wrote := false, lastFreeze := some k }

/-- The module once the freeze of a COMMIT is journaled and noted. -/
def State.noted (s : State) (ctx : Nat) (x : Ctx) (r : Run) : State :=
  (s.freezeRecord ctx r.ring r.tseq r.ticket.commitId).1.modCtx ctx (Ctx.froze {
    id := r.ticket.commitId, freezeSeq := (s.freezeRecord ctx r.ring r.tseq r.ticket.commitId).2, map := []
    header := (s.freezeRecord ctx r.ring r.tseq r.ticket.commitId).1.header ctx x, rollbacks := 0 })

/-- The commit that a freeze makes. -/
def State.newCommit (s : State) (ctx : Nat) (x : Ctx) (r : Run) : Commit :=
  { id := r.ticket.commitId, ring := r.ring, tseq := r.tseq, header := (s.noted ctx x r).header ctx x, dirty := sortBy extentKey x.dirty
    image := (sortBy extentKey x.dirty).map (fun e => (e, x.extentBytes e)), transferring := false, sent := [], acked := []
    headerAcked := false, requested := none, cow := [], freezeSeq := (s.freezeRecord ctx r.ring r.tseq r.ticket.commitId).2 }

/-- A COMMIT that is not kept yet and can be sealed becomes an unsealed commit. -/
theorem State.freeze_of_sealable (hkept : x.kept.find? (fun k => k.id = r.ticket.commitId) = none)
    (hseals : (s.noted ctx x r).unsealable x (sortBy extentKey x.dirty).length = none) :
    s.freeze ctx x r = ((s.noted ctx x r).modCtx ctx (fun y => { y with commits := y.commits ++ [s.newCommit ctx x r], dirty := [] })).modRun
      ctx r.ring r.tseq (fun q => { q with frozen := true }) := by
  unfold State.freeze
  dsimp only
  rw [hkept]
  change (match (s.noted ctx x r).unsealable x (sortBy extentKey x.dirty).length with | some _ => _ | none => _) = _
  rw [hseals]
  rfl

/-- A PAIRED module seals what its twin has room for, of a job that holds no stash. -/
theorem State.unsealable_noted (hx : s.ctx? ctx = some x) (hstash : x.stash = []) (hst : s.twin.state = .paired)
    (hroom : s.mirrorSlots ≥ x.dirty.length + ((Tab.set s.ctxs ctx x).map (fun c => c.2.latestMap.length)).sum) :
    (s.noted ctx x r).unsealable x (sortBy extentKey x.dirty).length = none := by
  obtain ⟨hctxs, htwin, hslots⟩ := s.freezeRecord_spec ctx r.ring r.tseq r.ticket.commitId
  have hx' : (s.freezeRecord ctx r.ring r.tseq r.ticket.commitId).1.ctx? ctx = some x := by rw [State.ctx?, hctxs]; exact hx
  have hlatest : (s.noted ctx x r).ctxs.map (fun c => c.2.latestMap.length) = (Tab.set s.ctxs ctx x).map (fun c => c.2.latestMap.length) := by
    rw [State.noted, State.modCtx_some _ _ hx', hctxs]
    exact Tab.map_set_congr (fun c : Nat × Ctx => c.2.latestMap.length) (i := ctx) (a := Ctx.froze _ x) (b := x) rfl s.ctxs
  have htwin' : (s.noted ctx x r).twin = s.twin := htwin
  have hslots' : (s.noted ctx x r).mirrorSlots = s.mirrorSlots := hslots
  unfold State.unsealable
  dsimp only
  rw [hlatest, htwin', hslots', length_sortBy, hst, if_neg (by simp [hstash]), if_neg (by simp), if_neg hroom.not_gt]

theorem State.ctx?_freeze_of_sealable (hx : s.ctx? ctx = some x) (hkept : x.kept.find? (fun k => k.id = r.ticket.commitId) = none)
    (hseals : (s.noted ctx x r).unsealable x (sortBy extentKey x.dirty).length = none) :
    ∃ y : Ctx, (s.freeze ctx x r).ctx? ctx = some y ∧ y.commits = x.commits ++ [s.newCommit ctx x r] ∧ y.dirty = [] := by
  have hx' : (s.freezeRecord ctx r.ring r.tseq r.ticket.commitId).1.ctx? ctx = some x := by
    rw [State.ctx?, (s.freezeRecord_spec _ _ _ _).1]
    exact hx
  rw [State.freeze_of_sealable hkept hseals]
  simp only [State.modRun, State.noted, State.ctx?_modCtx, if_true, hx', Option.map_some]
  exact ⟨_, rfl, rfl, rfl⟩

theorem exec_commitFreeze (hl : s.live = true) (hx : s.ctx? ctx = some x) (hnext : commitNext x.runs = some r) (htwo : x.commits.length < 2)
    (hdue : x.rollbackDue = none) (hf : x.state ≠ .faulted) (hroom : s.journalRoom 1 = true) :
    exec (.commitFreeze ctx) s = .next ((s.freeze ctx x r).refresh ctx) := by
  refine congrArg Host.Outcome.next ?_
  simp only [hx, hnext]
  exact if_pos (by simp [hl, htwo, hdue, hf, hroom])

/-! ### Copies (R332) -/

theorem exec_cowCopy {e : ExtentId} {p : Part} (hl : s.live = true) (hx : s.ctx? ctx = some x) (hp : Tab.get s.parts x.params.partition = some p)
    (hroom : ((s.ctxsOf x.params.partition).map (fun c => (c.2.commits.map (fun k => (k.cow.filter (fun e => !k.sent.contains e)).length)).sum)).sum
      < p.params.cowHbm)
    (hfrozen : x.commits.any (fun c => c.dirty.contains e && !c.sent.contains e && !c.cow.contains e) = true) :
    exec (.cowCopy ctx e) s = .next ((s.setCtx ctx { x with commits := x.commits.map (fun c =>
      if c.dirty.contains e && !c.sent.contains e && !c.cow.contains e then { c with cow := c.cow ++ [e] } else c) }).refresh ctx) := by
  refine congrArg Host.Outcome.next ?_
  simp only [hx, hp, Option.map_some, Option.getD_some]
  exact if_pos (by rw [hl, hfrozen, decide_eq_true hroom]; rfl)

/-! ### Transfer (R333, R334) -/

variable {c : Commit} {rest : List Commit} {tw : Nat}

/-- A transfer is messages alone: what they leave, it leaves. -/
theorem State.sendCommit_keeps {β : Type} {P : State → β} (hP : ∀ (b : State) (m : Msg), P (b.send tw none m) = P b) (s : State) (ctx : Nat)
    (c : Commit) : P (s.sendCommit tw ctx c) = P s := by
  have hheader : P (if c.headerAcked then s else s.send tw none (.mirror ⟨false, ctx, c.id, some c.header, none, []⟩)) = P s := by
    split
    · rfl
    · exact hP _ _
  have hextent : ∀ (b : State) (e : ExtentId × Mem), P (if c.acked.contains e.1 then b
      else b.send tw none (.mirror ⟨false, ctx, c.id, none, some e.1, e.2⟩)) = P b := by
    intro b e
    split
    · rfl
    · exact hP _ _
  unfold State.sendCommit
  dsimp only
  split
  · exact (hP _ _).trans ((foldl_keeps P hextent _ _).trans hheader)
  · exact (foldl_keeps P hextent _ _).trans hheader

@[simp] theorem State.ctxs_sendCommit (s : State) (tw ctx : Nat) (c : Commit) : (s.sendCommit tw ctx c).ctxs = s.ctxs :=
  State.sendCommit_keeps (fun b m => b.ctxs_send tw none m) s ctx c

theorem exec_commitTransfer (hl : s.live = true) (hx : s.ctx? ctx = some x) (htw : s.twin.twinId = some tw) (hst : s.twin.state = .paired)
    (hc : x.commits = c :: rest) (htransfer : c.transferring = false) :
    exec (.commitTransfer ctx) s = .next (if s.slotsUsed + c.dirty.length ≤ s.mirrorSlots then
      ((s.sendCommit tw ctx c).setCtx ctx { x with commits := { c with transferring := true, sent := c.dirty, cow := [] } :: rest }).refresh ctx
      else s) := by
  have hx' : (s.sendCommit tw ctx c).ctx? ctx = some x := by rw [State.ctx?, State.ctxs_sendCommit]; exact hx
  refine congrArg Host.Outcome.next ?_
  simp only [hx, htw, hc, State.modCtx_some _ _ hx']
  exact if_pos (by simp [hl, hst, htransfer])

theorem State.mirrorWaits_of_full (hx : s.ctx? ctx = some x) (hst : s.twin.state = .paired) (hc : x.commits = c :: rest)
    (htransfer : c.transferring = false) (hfull : s.mirrorSlots < s.slotsUsed + c.dirty.length) : s.mirrorWaits = true := by
  unfold State.mirrorWaits
  rw [hst, Bool.and_eq_true]
  refine ⟨rfl, List.any_eq_true.mpr ⟨(ctx, x), Tab.mem_of_get hx, ?_⟩⟩
  simp only [hc, htransfer, decide_eq_true hfull]
  rfl

end Freeze

/-! ### The mirror on the twin (R314, R333) -/

section Mirror

variable {s : State} {src vc ctx commit : Nat} {a : Arrived} {rest : List Arrived} {m : MirrorMsg} {e : ExtentId}

theorem exec_memoryWrite (hdel : Delivered src 3 a rest s) (ha : a.msg = .mirror m) (htwin : s.isTwin src = true) (himage : m.image = false)
    {u : State} (hu : (s.setInbox rest).mirrorWrite m = some u) :
    exec (.memoryWrite src) s = .next (u.send src none (.mirrorAck false m.ctx m.commit m.extent)) := by
  refine congrArg Host.Outcome.next (onMessage_of_some hdel ?_)
  have htwin' : (s.setInbox rest).isTwin src = true := htwin
  simp only [ha, htwin', himage, hu]
  rfl

/-- One for which there is no slot stays in the inbox. -/
theorem exec_memoryWrite_waits (hdel : Delivered src 3 a rest s) (ha : a.msg = .mirror m) (htwin : s.isTwin src = true) (himage : m.image = false)
    (hfull : (s.setInbox rest).mirrorWrite m = none) : exec (.memoryWrite src) s = .next s := by
  refine congrArg Host.Outcome.next (onMessage_of_none hdel ?_)
  have htwin' : (s.setInbox rest).isTwin src = true := htwin
  simp only [ha, htwin', himage, hfull]
  rfl

theorem exec_memoryWrite_image (hdel : Delivered src 3 a rest s) (ha : a.msg = .mirror m) (htwin : s.isTwin src = true) (himage : m.image = true) :
    exec (.memoryWrite src) s = .next ((s.setInbox rest).imageIn src m) := by
  refine congrArg Host.Outcome.next (onMessage_of_some hdel ?_)
  have htwin' : (s.setInbox rest).isTwin src = true := htwin
  simp only [ha, htwin', himage]
  rfl

/-- A transfer is entered under its job and commit. -/
theorem Journals.key_incomingOf (j : Journals) (ctx commit : Nat) :
    (j.incomingOf ctx commit).ctx = ctx ∧ (j.incomingOf ctx commit).commit = commit := by
  unfold Journals.incomingOf
  cases hi : j.incoming.find? (fun i => i.ctx = ctx && i.commit = commit) with
  | none => exact ⟨rfl, rfl⟩
  | some i => simpa using List.find?_some hi

theorem Journals.find?_setIncoming (j : Journals) {i : Incoming} (hctx : i.ctx = ctx) (hcommit : i.commit = commit) :
    (j.setIncoming i).incoming.find? (fun k => k.ctx = ctx && k.commit = commit) = some i := by
  subst hctx hcommit
  rw [Journals.setIncoming, List.find?_append, List.find?_eq_none.mpr, Option.none_or]
  · simp
  · intro k hk
    have hother := List.of_mem_filter hk
    simp only [Bool.not_eq_true'] at hother
    simp [hother]

/-- A transfer with the header that a mirror message may carry. -/
def MirrorMsg.headed (m : MirrorMsg) (i : Incoming) : Incoming := match m.header with | some h => { i with header := some h } | none => i

theorem MirrorMsg.headed_spec (m : MirrorMsg) (i : Incoming) :
    (m.headed i).ctx = i.ctx ∧ (m.headed i).commit = i.commit ∧ (m.headed i).map = i.map := by
  unfold MirrorMsg.headed
  split <;> exact ⟨rfl, rfl, rfl⟩

theorem State.mirrorWrite_header (he : m.extent = none) :
    s.mirrorWrite m = some { s with jr := s.jr.setIncoming (m.headed (s.jr.incomingOf m.ctx m.commit)) } := by
  unfold State.mirrorWrite
  simp only [he]
  rfl

/-- An extent is written where a slot of its transfer holds it, or else into the lowest free slot. -/
theorem State.mirrorWrite_extent (he : m.extent = some e) : s.mirrorWrite m
    = match (s.jr.incomingOf m.ctx m.commit).map.find? (fun k => k.1 = e) with
      | some k => some { s with jr := { s.jr.setIncoming (m.headed (s.jr.incomingOf m.ctx m.commit)) with slots := Tab.set s.jr.slots k.2 m.bytes } }
      | none => (lowestFree s.mirrorSlots s.jr.named).map (fun n => { s with jr := { s.jr.setIncoming { m.headed (s.jr.incomingOf m.ctx m.commit) with
          map := (s.jr.incomingOf m.ctx m.commit).map ++ [(e, n)] } with slots := Tab.set s.jr.slots n m.bytes } }) := by
  obtain ⟨-, -, hmap⟩ := m.headed_spec (s.jr.incomingOf m.ctx m.commit)
  rw [← hmap]
  unfold State.mirrorWrite
  simp only [he]
  rfl

/-- An extent with a slot, its own or a free one, stands in it afterwards. -/
theorem State.exists_mirrorWrite (he : m.extent = some e)
    (hslot : (lowestFree s.mirrorSlots s.jr.named).isSome = true ∨ ∃ n, (e, n) ∈ (s.jr.incomingOf m.ctx m.commit).map) :
    ∃ (u : State) (i : Incoming) (n : Nat), s.mirrorWrite m = some u
      ∧ u.jr.incoming.find? (fun k => k.ctx = m.ctx && k.commit = m.commit) = some i ∧ (e, n) ∈ i.map ∧ Tab.get u.jr.slots n = some m.bytes := by
  obtain ⟨hctx, hcommit⟩ := s.jr.key_incomingOf m.ctx m.commit
  obtain ⟨hctx', hcommit', hmap⟩ := m.headed_spec (s.jr.incomingOf m.ctx m.commit)
  rw [State.mirrorWrite_extent he]
  cases hheld : (s.jr.incomingOf m.ctx m.commit).map.find? (fun k => k.1 = e) with
  | some k =>
    have hk : k.1 = e := by simpa using List.find?_some hheld
    refine ⟨_, _, k.2, rfl, Journals.find?_setIncoming _ (hctx'.trans hctx) (hcommit'.trans hcommit), ?_, Tab.get_set_self _ _ _⟩
    rw [hmap, ← hk]
    exact List.mem_of_find?_eq_some hheld
  | none =>
    rcases hslot with hfree | ⟨n, hn⟩
    · obtain ⟨n, hn⟩ := Option.isSome_iff_exists.mp hfree
      rw [hn]
      exact ⟨_, _, n, rfl, Journals.find?_setIncoming _ (hctx'.trans hctx) (hcommit'.trans hcommit),
        List.mem_append_right _ (List.mem_singleton_self _), Tab.get_set_self _ _ _⟩
    · exact absurd (List.find?_eq_none.mp hheld _ hn) (by simp)

theorem State.mirrorWrite_of_full (he : m.extent = some e) (hfull : lowestFree s.mirrorSlots s.jr.named = none)
    (hnew : ∀ n, (e, n) ∉ (s.jr.incomingOf m.ctx m.commit).map) : s.mirrorWrite m = none := by
  have hheld : (s.jr.incomingOf m.ctx m.commit).map.find? (fun k => k.1 = e) = none := by
    refine List.find?_eq_none.mpr fun k hk heq => hnew k.2 ?_
    rw [← of_decide_eq_true heq]
    exact hk
  rw [State.mirrorWrite_extent he, hheld, hfull]
  rfl

/-! ### Images on their way back (R340, R348) -/

variable {x : Ctx}

theorem State.imageDue_of_due (hx : s.ctx? ctx = some x) (hdue : x.rollbackDue = some (.image commit)) : s.imageDue ctx commit = true := by
  simp [State.imageDue, hx, hdue]

theorem State.imageIn_extent (hx : s.ctx? m.ctx = some x) (hdue : x.rollbackDue = some (.image m.commit)) (he : m.extent = some e) :
    s.imageIn src m = s.setCtx m.ctx (x.putExtents [(e, m.bytes)]) := by
  unfold State.imageIn
  simp only [he, State.imageDue_of_due hx hdue, if_true]
  exact State.modCtx_some _ _ hx

theorem State.imageIn_end (hx : s.ctx? m.ctx = some x) (hdue : x.rollbackDue = some (.image m.commit)) (he : m.extent = none) :
    s.imageIn src m = (((s.setCtx m.ctx { x with rollbackDue := none }).serveReads m.ctx).refresh m.ctx).send src none
      (.mirrorAck true m.ctx m.commit none) := by
  unfold State.imageIn
  simp only [he, State.imageDue_of_due hx hdue, if_true]
  rw [State.modCtx_some _ _ hx]
  rfl

/-! ### The seal on the twin (R333) -/

/-- The seal of a transfer that is whole adds its image and ends the transfer. -/
theorem State.sealHere_spec {i : Incoming} {hd : JobHeader} (hi : s.jr.incoming.find? (fun i => i.ctx = ctx && i.commit = commit) = some i)
    (hhd : i.header = some hd) (rc : JRec) : ∃ g : SealedImage, g.ctx = ctx ∧ g.commit = commit ∧ g.header = hd ∧ g.lost = false
      ∧ (∀ e ∈ i.map, e ∈ g.map) ∧ s.sealHere ctx commit rc = { s with jr := { s.jr with
        images := s.jr.images ++ [g], incoming := s.jr.incoming.filter (fun k => !(k.ctx = ctx && k.commit = commit))
        partner := putRec s.jr.partner rc } } := by
  unfold State.sealHere
  rw [hi]
  dsimp only
  rw [hhd]
  exact ⟨_, rfl, rfl, rfl, rfl, fun e he => mem_sortBy.mpr (List.mem_append_left _ he), rfl⟩

theorem exec_commitCoordination {rc : JRec} {i : Incoming} {hd : JobHeader} (hdel : Delivered src 0 a rest s) (ha : a.msg = .sealRequest ctx commit rc)
    (htwin : s.isTwin src = true) (hnew : s.jr.images.any (fun g => g.ctx = ctx && g.commit = commit) = false)
    (hroom : s.jr.partner.length < s.journalCap) (hi : s.jr.incoming.find? (fun i => i.ctx = ctx && i.commit = commit) = some i)
    (hhd : i.header = some hd) :
    exec (.commitCoordination src) s = .next (((s.setInbox rest).sealHere ctx commit rc).send src none (.sealAck ctx commit)) := by
  refine congrArg Host.Outcome.next (onMessage_of_some hdel ?_)
  obtain ⟨g, hctx, hcommit, -, -, -, heq⟩ := State.sealHere_spec (s := s.setInbox rest) hi hhd rc
  have htwin' : (s.setInbox rest).isTwin src = true := htwin
  have hnew' : (s.setInbox rest).jr.images.any (fun g => g.ctx = ctx && g.commit = commit) = false := hnew
  have hroom' : ¬ (s.setInbox rest).journalCap ≤ (s.setInbox rest).jr.partner.length := hroom.not_ge
  have hheld : ((s.setInbox rest).sealHere ctx commit rc).jr.images.any (fun g => g.ctx = ctx && g.commit = commit) = true := by
    rw [heq]
    simp [hctx, hcommit]
  simp only [ha, htwin', hnew', hheld, Bool.not_true, Bool.false_eq_true, if_false, if_neg hroom', if_true]

end Mirror

/-! ### Acknowledgements (R333) -/

section Acks

variable {s : State} {src ctx commit : Nat} {ext : Option ExtentId} {a : Arrived} {rest : List Arrived} {x : Ctx} {c : Commit} {more : List Commit}

/-- A commit with one more part of its transfer acknowledged: an extent, or the header. -/
def Commit.ack (c : Commit) (ext : Option ExtentId) : Commit :=
  match ext with
  | some e => { c with acked := if c.acked.contains e then c.acked else c.acked ++ [e] }
  | none => { c with headerAcked := true }

/-- Is the whole transfer acknowledged? -/
def Commit.whole (c : Commit) : Bool := c.headerAcked && c.dirty.all (fun e => c.acked.contains e)

theorem Commit.mem_acked_ack {e : ExtentId} : e ∈ (c.ack ext).acked ↔ e ∈ c.acked ∨ ext = some e := by
  cases ext with
  | none => simp [Commit.ack]
  | some d =>
    by_cases hd : d ∈ c.acked
    · simp only [Commit.ack, List.contains_iff_mem, hd, if_true, Option.some.injEq]
      exact ⟨.inl, fun h => h.elim (fun h => h) (fun h => h ▸ hd)⟩
    · simp [Commit.ack, hd, eq_comm]

theorem Commit.headerAcked_ack : (c.ack ext).headerAcked = true ↔ c.headerAcked = true ∨ ext = none := by
  cases ext <;> simp [Commit.ack]

theorem Commit.ack_rest : (c.ack ext).dirty = c.dirty ∧ (c.ack ext).requested = c.requested ∧ (c.ack ext).id = c.id := by
  cases ext <;> exact ⟨rfl, rfl, rfl⟩

theorem Commit.whole_iff : c.whole = true ↔ c.headerAcked = true ∧ ∀ e ∈ c.dirty, e ∈ c.acked := by simp [Commit.whole]

/-- A transfer goes on: once the whole of it is acknowledged the seal is asked for. -/
def State.goOn (s : State) (src ctx : Nat) (x : Ctx) (c : Commit) (more : List Commit) : State :=
  if c.whole && c.requested.isNone then s.requestSeal src ctx x c more else s.setCtx ctx { x with commits := c :: more }

theorem exec_mirrorExtentAck (hdel : Delivered src 3 a rest s) (ha : a.msg = .mirrorAck false ctx commit ext) (htwin : s.isTwin src = true)
    (hx : s.ctx? ctx = some x) (hc : x.commits = c :: more) (hid : c.id = commit) (htransfer : c.transferring = true) :
    exec (.mirrorExtentAck src) s = .next ((s.setInbox rest).goOn src ctx x (c.ack ext) more) := by
  refine congrArg Host.Outcome.next (onMessage_of_some hdel ?_)
  have htwin' : (s.setInbox rest).isTwin src = true := htwin
  have hx' : (s.setInbox rest).ctx? ctx = some x := hx
  simp only [ha, hx', hc]
  exact if_pos (by simp [hid, htransfer, htwin'])

theorem exec_mirrorExtentAck_image (hdel : Delivered src 3 a rest s) (ha : a.msg = .mirrorAck true ctx commit ext) (htwin : s.isTwin src = true) :
    exec (.mirrorExtentAck src) s
      = .next { s.setInbox rest with jr := { s.jr with returning := s.jr.returning.filter (· != (ctx, commit)) } } := by
  refine congrArg Host.Outcome.next (onMessage_of_some hdel ?_)
  simp only [ha]
  exact congrArg some (if_pos htwin)

theorem State.requestSeal_spec (s : State) (src ctx : Nat) (x : Ctx) (c : Commit) (more : List Commit) :
    (s.requestSeal src ctx x c more).ctx? ctx = some { x with commits := { c with requested := some (s.sealRecord ctx x c) } :: more }
      ∧ (s.requestSeal src ctx x c more).jr.nextSeq = s.jr.nextSeq + 1 := by
  unfold State.requestSeal
  dsimp only
  rw [State.ctx?_send, State.ctx?_setCtx_self, State.jr_send]
  exact ⟨rfl, rfl⟩

/-- What has been acknowledged stands; a seal is asked for once, under the next number. -/
theorem State.goOn_spec (s : State) (src ctx : Nat) (x : Ctx) (c : Commit) (more : List Commit) : ∃ c2 : Commit,
    (s.goOn src ctx x c more).ctx? ctx = some { x with commits := c2 :: more } ∧ c2.acked = c.acked ∧ c2.headerAcked = c.headerAcked
      ∧ (c2.requested.isSome = true ↔ c.requested.isSome = true ∨ c.whole = true)
      ∧ (c.requested = none → ∀ r, c2.requested = some r →
        r = s.sealRecord ctx x c ∧ (s.goOn src ctx x c more).jr.nextSeq = s.jr.nextSeq + 1) := by
  obtain ⟨hctx, hseq⟩ := s.requestSeal_spec src ctx x c more
  by_cases hask : (c.whole && c.requested.isNone) = true
  · rw [State.goOn, if_pos hask]
    exact ⟨_, hctx, rfl, rfl, ⟨fun _ => .inr (Bool.and_eq_true_iff.mp hask).1, fun _ => rfl⟩, fun _ r hr => ⟨(Option.some.inj hr).symm, hseq⟩⟩
  · rw [State.goOn, if_neg hask]
    refine ⟨c, State.ctx?_setCtx_self _ _ _, rfl, rfl, ⟨.inl, fun h => h.elim (fun h => h) fun hwhole => ?_⟩, fun hnone r hr => ?_⟩
    · simpa [hwhole, Option.isSome_iff_ne_none] using hask
    · exact absurd (hnone.symm.trans hr) (by simp)

/-! ### The seal on the module (R333) -/

/-- A job but for its tickets in progress. -/
def Ctx.apartFromRuns (x : Ctx) : Ctx := { x with runs := [] }

theorem State.apart_modRun (s : State) (ctx ring tseq : Nat) (g : Run → Run) (i : Nat) :
    ((s.modRun ctx ring tseq g).ctx? i).map Ctx.apartFromRuns = (s.ctx? i).map Ctx.apartFromRuns :=
  State.map_ctx?_modCtx _ (by exact fun _ => rfl) s ctx i

theorem State.apart_settle (s : State) (ctx ring tseq i : Nat) :
    ((s.settle ctx ring tseq).ctx? i).map Ctx.apartFromRuns = (s.ctx? i).map Ctx.apartFromRuns := by
  unfold State.settle
  split
  · split
    · dsimp only
      split
      · rfl
      · rw [State.apart_modRun]
        split
        · rw [State.ctx?, State.ctxs_journal]
          rfl
        · rfl
    · rfl
  · rfl

theorem State.mem_own_settle {r : JRec} (hr : r ∈ s.jr.own) (ctx ring tseq : Nat) : r ∈ (s.settle ctx ring tseq).jr.own := by
  unfold State.settle
  split
  · split
    · dsimp only
      split
      · exact hr
      · rw [State.modRun, State.jr_modCtx]
        split
        · exact State.mem_own_journal hr _ _ _ _
        · exact hr
    · exact hr
  · exact hr

theorem State.exists_ctx?_seal {rq : JRec} (hrq : c.requested = some rq) : ∃ y : Ctx, (s.seal ctx x c more).ctx? ctx = some y
    ∧ (∃ k : Kept, y.kept = x.kept ++ [k] ∧ k.id = c.id) ∧ y.commits = more ∧ y.damaged = false := by
  unfold State.seal
  simp only [hrq]
  have hapart := fun (t : State) => (State.apart_settle _ ctx c.ring c.tseq ctx).trans
    (State.apart_modRun t ctx c.ring c.tseq (fun q => { q with status := some (q.status.getD 0), frozen := true }) ctx)
  obtain ⟨y, hy, heq⟩ := Option.map_eq_some_iff.mp ((hapart _).trans (congrArg (Option.map _) (State.ctx?_setCtx_self _ ctx _)))
  exact ⟨y, hy, ⟨_, (congrArg Ctx.kept heq :), rfl⟩, (congrArg Ctx.commits heq :), (congrArg Ctx.damaged heq :)⟩

theorem State.mem_own_seal {rq : JRec} (hrq : c.requested = some rq) : rq ∈ (s.seal ctx x c more).jr.own := by
  unfold State.seal
  simp only [hrq]
  exact State.mem_own_settle (mem_putRec_iff.mpr (.inl rfl)) _ _ _

theorem exec_commitSealed {rq : JRec} (hdel : Delivered src 0 a rest s) (ha : a.msg = .sealAck ctx commit) (htwin : s.isTwin src = true)
    (hx : s.ctx? ctx = some x) (hc : x.commits = c :: more) (hid : c.id = commit) (hrq : c.requested = some rq) (hroom : s.journalRoom 1 = true) :
    exec (.commitSealed src) s = .next (((s.setInbox rest).seal ctx x c more).refresh ctx) := by
  refine congrArg Host.Outcome.next (onMessage_of_some hdel ?_)
  have htwin' : (s.setInbox rest).isTwin src = true := htwin
  have hx' : (s.setInbox rest).ctx? ctx = some x := hx
  have hroom' : (s.setInbox rest).journalRoom 1 = true := hroom
  simp only [ha, hx', hc, hid, hrq, htwin', hroom', decide_true, Option.isSome_some, Bool.and_true, if_true]

end Acks

/-- Settles O32: the freeze by `ctx?_freeze_of_sealable`, a mirror message by `exists_mirrorWrite`, the seal on the twin by
`sealHere_spec` and on the module by `exists_ctx?_seal`. -/
theorem commitRowsComplete : Obligations.CommitRowsComplete := by
  unfold Obligations.CommitRowsComplete
  refine ⟨?freeze, fun ctx e x p s hl hx hp hroom hfrozen => exec_cowCopy hl hx hp hroom hfrozen, ?transfer, ?write, ?ack, ?imageAck, ?sealed, ?kept⟩
  case freeze =>
    intro ctx x r s hl hx hnext htwo hdue hf hroom
    refine ⟨exec_commitFreeze hl hx hnext htwo hdue hf hroom, fun hkept hstash hst hslots => ?_⟩
    have hkept' : x.kept.find? (fun k => k.id = r.ticket.commitId) = none := List.find?_eq_none.mpr (List.any_eq_false.mp hkept)
    obtain ⟨y, hy, hcommits, hdirty⟩ := State.ctx?_freeze_of_sealable hx hkept' (State.unsealable_noted hx hstash hst hslots)
    exact ⟨y, s.newCommit ctx x r, hy, hcommits, hdirty, rfl, rfl, rfl, rfl, rfl, rfl⟩
  case transfer =>
    intro ctx tw x c rest s hl hx htw hst hc htransfer
    have hexec := exec_commitTransfer hl hx htw hst hc htransfer
    refine ⟨fun hroom => ⟨_, rfl, hexec.trans (congrArg _ (if_pos hroom))⟩, fun hfull => ⟨hexec.trans (congrArg _ (if_neg hfull.not_ge)), ?_⟩⟩
    exact State.mirrorWaits_of_full hx hst hc htransfer hfull
  case write =>
    intro src a rest m s hdel ha htwin
    refine ⟨fun himage hslot => ?taken, fun e himage he hfull hnew => ?full, fun x himage hx hdue => ⟨fun e he => ?extent, fun he => ?last⟩⟩
    case taken =>
      cases he : m.extent with
      | none =>
        have hu := State.mirrorWrite_header (s := s.setInbox rest) he
        exact ⟨_, hu, fun e h => absurd h (by simp), he ▸ exec_memoryWrite hdel ha htwin himage hu⟩
      | some e =>
        have hslot' : (lowestFree s.mirrorSlots s.jr.named).isSome = true ∨ ∃ n, (e, n) ∈ (s.jr.incomingOf m.ctx m.commit).map := by
          simpa [he] using hslot
        obtain ⟨u, i, n, hu, hi, hmap, hbytes⟩ := State.exists_mirrorWrite (s := s.setInbox rest) he hslot'
        refine ⟨u, hu, fun d hd => ⟨i, n, hi, ?_, hbytes⟩, he ▸ exec_memoryWrite hdel ha htwin himage hu⟩
        rw [← Option.some.inj hd]
        exact hmap
    case full => exact exec_memoryWrite_waits hdel ha htwin himage (State.mirrorWrite_of_full (s := s.setInbox rest) he hfull hnew)
    case extent =>
      exact (exec_memoryWrite_image hdel ha htwin himage).trans (congrArg _ (State.imageIn_extent (s := s.setInbox rest) hx hdue he))
    case last => exact (exec_memoryWrite_image hdel ha htwin himage).trans (congrArg _ (State.imageIn_end (s := s.setInbox rest) hx hdue he))
  case ack =>
    intro src ctx commit ext a rest x c more s hdel ha htwin hx hc hid htransfer
    have hexec := exec_mirrorExtentAck hdel ha htwin hx hc hid htransfer
    obtain ⟨hdirty, hrequested, hid'⟩ := Commit.ack_rest (c := c) (ext := ext)
    obtain ⟨c2, hctx, hacked, hheader, hasked, hnew⟩ := (s.setInbox rest).goOn_spec src ctx x (c.ack ext) more
    rw [hrequested] at hasked hnew
    rw [Commit.whole_iff, hdirty] at hasked
    rw [← hacked, ← hheader] at hasked
    refine ⟨_, _, c2, hexec, hctx, rfl, fun e => hacked ▸ Commit.mem_acked_ack, hheader ▸ Commit.headerAcked_ack, hasked, fun hnone r hr => ?_⟩
    obtain ⟨rfl, hseq⟩ := hnew hnone r hr
    exact ⟨rfl, congrArg JBody.sealed (hid'.trans hid), rfl, hseq⟩
  case imageAck => exact fun src ctx commit ext a rest s hdel ha htwin => exec_mirrorExtentAck_image hdel ha htwin
  case sealed =>
    intro src ctx commit rc a rest i hd s hdel ha htwin hnew hroom hi hhd
    obtain ⟨g, hctx, hcommit, hheader, hlost, hmap, heq⟩ := State.sealHere_spec (s := s.setInbox rest) hi hhd rc
    refine ⟨_, g, exec_commitCoordination hdel ha htwin hnew hroom hi hhd, ?_⟩
    rw [State.jr_send, heq]
    refine ⟨rfl, hctx, hcommit, hheader, hlost, hmap, rfl, rfl, fun k hk => ?_⟩
    have hother := List.of_mem_filter hk
    simp only [Bool.not_eq_true', Bool.and_eq_false_iff, decide_eq_false_iff_not] at hother
    tauto
  case kept =>
    intro src ctx commit a rest x c rq more s hdel ha htwin hx hc hid hrq hroom
    obtain ⟨y, hy, ⟨k, hkept, hk⟩, hcommits, hdamaged⟩ := State.exists_ctx?_seal (s := s.setInbox rest) (ctx := ctx) (x := x) (more := more) hrq
    exact ⟨exec_commitSealed hdel ha htwin hx hc hid hrq hroom, ⟨y, k, hy, hkept, hk.trans hid, hcommits, hdamaged⟩, State.mem_own_seal hrq⟩

end Sys2Proof.Machine

namespace Sys2Proof.Machine

/-! SUPPORT. Authentication of twins (R312, R313), pairing retries (R310) and the loss of the twin (R338). -/

section TwinAuth

variable {s : State} {src p : Nat} {a : Arrived} {rest : List Arrived}

/-! ### Messages of the authentication (R312) -/

/-- What a message of the authentication does to the module that authenticates with its sender. -/
def State.onAuth (s : State) (src : Nat) : AuthMsg → State
  | .hello fresh certs key => s.authHello src fresh certs key
  | .cipher c => if s.twin.auth.encDraw.isSome then s.authCipher src c else s
  | .signed sig => if s.authVerified src sig then s.authDone src else s.authFailed src

theorem exec_twinAuth {m : AuthMsg} (hdel : Delivered src 1 a rest s) (ha : a.msg = .auth m) (hpeer : s.authPeer = some src) :
    exec (.twinAuth src) s = .next ((s.setInbox rest).onAuth src m) := by
  refine congrArg Host.Outcome.next (onMessage_of_some hdel ?_)
  have hpeer' : ((s.setInbox rest).authPeer != some src) = false := by rw [show (s.setInbox rest).authPeer = some src from hpeer, bne_self_eq_false]
  simp only [ha, hpeer', Bool.false_eq_true, if_false]
  cases m with
  | hello fresh certs key => rfl
  | cipher c => exact (apply_ite some _ _ _).symm
  | signed sig => exact (apply_ite some _ _ _).symm

/-- Step 1 draws one key and leaves the rest of the module but for the network. -/
theorem State.exists_beginAuth (hp : s.authPeer = some p) : ∃ net, s.beginAuth = { s with
    net := net, freeCtr := s.freeCtr + 1, twin := { s.twin with auth := { s.twin.auth.keys with keyDraw := some s.freeCtr } } } := by
  unfold State.beginAuth
  rw [hp]
  exact ⟨_, State.send_eq _ _ _ _⟩

/-- The keys once the peer has said whether it still holds a session key: where it does not, this end's is none either. -/
def Auth.heard (x : Auth) (fresh : Bool) : Auth :=
  if fresh then { x with sessionKey := none, oldKey := x.sessionKey.orElse (fun _ => x.oldKey) } else x

theorem Auth.heard_spec (x : Auth) (fresh : Bool) : (x.heard fresh).sessionKey = (if fresh then none else x.sessionKey)
    ∧ (x.heard fresh).keyDraw = x.keyDraw := by
  cases fresh <;> exact ⟨rfl, rfl⟩

/-- A module that has heard so. -/
def State.hear (s : State) (fresh : Bool) : State := s.modTwin (fun t => { t with auth := t.auth.heard fresh })

/-- Step 2: the peer's certificates and key are kept, and a secret is drawn for it. -/
def State.answerHello (s : State) (p : Nat) (certs key : List Byte) : State :=
  State.send { s with
    freeCtr := s.freeCtr + 1
    twin := { s.twin with auth := { s.twin.auth with peerCerts := some certs, peerKey := some key, encDraw := some s.freeCtr } } } p none
    (.auth (.cipher (Config.kemCipher key s.freeCtr)))

theorem State.exists_answerHello (s : State) (p : Nat) (certs key : List Byte) : ∃ net, s.answerHello p certs key = { s with
    net := net, freeCtr := s.freeCtr + 1
    twin := { s.twin with auth := { s.twin.auth with peerCerts := some certs, peerKey := some key, encDraw := some s.freeCtr } } } :=
  ⟨_, State.send_eq _ _ _ _⟩

/-- A hello is heard, this module's own step 1 follows if the exchange is a new one, then step 2. -/
theorem State.authHello_eq (s : State) (p : Nat) (fresh : Bool) (certs key : List Byte) : s.authHello p fresh certs key
    = (if s.twin.auth.keyDraw.isSome && s.twin.auth.peerCerts.isNone then s.hear fresh else (s.hear fresh).beginAuth).answerHello p certs key := by
  cases fresh <;> rfl

variable {fresh : Bool} {certs key : List Byte}

/-- In an exchange under way step 2 alone draws. -/
theorem State.exists_authHello_going (hgoing : s.twin.auth.keyDraw.isSome = true ∧ s.twin.auth.peerCerts = none) :
    ∃ net, s.authHello p fresh certs key = { s with
      net := net, freeCtr := s.freeCtr + 1
      twin := { s.twin with auth := { s.twin.auth.heard fresh with
        peerCerts := some certs, peerKey := some key, encDraw := some s.freeCtr } } } := by
  rw [State.authHello_eq, if_pos (by simp [hgoing])]
  exact (s.hear fresh).exists_answerHello p certs key

/-- In a new one step 1 draws before it. -/
theorem State.exists_authHello_new (hp : s.authPeer = some p) (hnew : ¬ (s.twin.auth.keyDraw.isSome = true ∧ s.twin.auth.peerCerts = none)) :
    ∃ net, s.authHello p fresh certs key = { s with
      net := net, freeCtr := s.freeCtr + 1 + 1
      twin := { s.twin with auth := { (s.twin.auth.heard fresh).keys with
        keyDraw := some s.freeCtr, peerCerts := some certs, peerKey := some key, encDraw := some (s.freeCtr + 1) } } } := by
  obtain ⟨net, hbegin⟩ := State.exists_beginAuth (s := s.hear fresh) hp
  rw [State.authHello_eq, if_neg (by simpa using hnew), hbegin]
  exact State.exists_answerHello _ p certs key

/-- Step 3 draws the signature. -/
theorem State.exists_authCipher (s : State) (p : Nat) (c : List Byte) : ∃ net, s.authCipher p c = { s with
    net := net, freeCtr := s.freeCtr + 1, twin := { s.twin with auth := { s.twin.auth with cipher := some c } } } :=
  ⟨_, State.send_eq _ _ _ _⟩

/-! ### An authentication that fails -/

theorem State.authFailed_alone (hrestoring : s.twin.restoring = none) (hserving : s.twin.serving = none) : s.authFailed p
    = s.modTwin (fun t => { t with
        auth := {}
        refuse := if t.state = .pairing then 4 else t.refuse
        refusePeer := if t.state = .pairing then p else t.refusePeer }) := by
  unfold State.authFailed
  simp only [hrestoring, hserving]
  by_cases hst : s.twin.state = .pairing
  · simp only [State.modTwin, State.refuseTwin, hst, if_true]
  · simp only [State.modTwin, hst, if_false]

theorem State.authFailed_serving {v : Serving} (hrestoring : s.twin.restoring = none) (hserving : s.twin.serving = some v) : s.authFailed p
    = (s.modTwin (fun t => { t with auth := {}, serving := none, refuse := 4, refusePeer := p })).send p none (.winch (.restoreChecked false)) := by
  unfold State.authFailed
  simp only [hrestoring, hserving]
  rfl

theorem State.restoreFails_eq {h : CmdHead} {sv : Nat} (hwait : s.restoreWaiter = some (h, sv)) (cause : Nat) : s.restoreFails cause
    = (s.modTwin (fun t => { t with restoring := none, auth := {}, refuse := cause, refusePeer := sv })).finishCmd h 1 0x13 (leBytes 8 0) := by
  unfold State.restoreFails
  rw [hwait]
  rfl

theorem State.authFailed_restoring {r : Restoring} {h : CmdHead} {sv : Nat} (hrestoring : s.twin.restoring = some r) (hstep : r.step = 1)
    (hwait : s.restoreWaiter = some (h, sv)) : s.authFailed p
    = (s.modTwin (fun t => { t with auth := {}, restoring := none, refuse := 4, refusePeer := sv })).finishCmd h 1 0x13 (leBytes 8 0) := by
  unfold State.authFailed
  simp only [hrestoring, hstep, if_true]
  exact State.restoreFails_eq (s := s.modTwin (fun t => { t with auth := {} })) hwait 4

/-! ### The loss of the twin (R338) -/

/-- The module that has lost its twin, before it answers a restore request. -/
def State.twinGone (s : State) : State :=
  ((s.modTwin (fun t => { t with
    exposed := true, holdsPartner := true, partnerOf := t.twinId, auth := {}, peerInfo := none })).setTwin .twinLost).countEvent 9

theorem State.twin_twinGone (s : State) : s.twinGone.twin
    = { s.twin with state := .twinLost, exposed := true, holdsPartner := true, partnerOf := s.twin.twinId, auth := {}, peerInfo := none } :=
  State.twin_setTwin _ _

theorem State.loseTwin_eq (s : State) : s.loseTwin = match s.twin.withheld with | some r => s.twinGone.answerRestore r | none => s.twinGone := by
  have hwithheld : s.twinGone.twin.withheld = s.twin.withheld := by rw [State.twin_twinGone]
  rw [← hwithheld]
  rfl

theorem State.events_countEvent (s : State) (i : Nat) :
    Tab.getD (s.countEvent i).logbook.events i 0 = min (2 ^ 64 - 1) (Tab.getD s.logbook.events i 0 + 1) := getD_bump_self 64 s.logbook.events i 1

theorem State.events_twinGone (s : State) :
    Tab.getD s.twinGone.logbook.events 9 0 = min (2 ^ 64 - 1) (Tab.getD s.logbook.events 9 0 + 1) := by
  unfold State.twinGone
  rw [State.events_countEvent, State.logbook_setTwin]
  rfl

/-- The loss changes the twin's state, the count of losses and what the host is told. -/
theorem State.twinGone_eq (s : State) : s.twinGone = { s with
    twin := s.twinGone.twin, logbook := { s.logbook with events := s.twinGone.logbook.events }, funs := s.twinGone.funs
    hostOut := s.twinGone.hostOut } := by
  unfold State.twinGone State.countEvent
  rw [State.setTwin_eq]
  rfl

theorem exec_twinLost {since : Nat} (hl : s.live = true) (hst : s.twin.state = .paired) (hdown : s.twin.tetherDownAt = some since)
    (hlong : since + 200000000 ≤ s.time.now) : exec .twinLost s = .next s.loseTwin := by
  refine congrArg Host.Outcome.next ?_
  simp only [hdown]
  exact if_pos (by simp [hl, hst, hlong])

end TwinAuth

/-- Settles O33: step 1 received by `authHello_eq`, a failure by the lemma for what was under way, the loss by `loseTwin_eq`. -/
theorem twinAuthRowsComplete : Obligations.TwinAuthRowsComplete := by
  unfold Obligations.TwinAuthRowsComplete
  refine ⟨?hello, ?cipher, ?signed, ?rekey, ?retry, ?lost⟩
  case hello =>
    intro src a rest fresh certs key s hdel ha hpeer
    have hexec := exec_twinAuth hdel ha hpeer
    obtain ⟨hsession, hdraw⟩ := s.twin.auth.heard_spec fresh
    by_cases hgoing : s.twin.auth.keyDraw.isSome = true ∧ s.twin.auth.peerCerts = none
    · obtain ⟨net, hnet⟩ := State.exists_authHello_going (s := s.setInbox rest) (p := src) (fresh := fresh) (certs := certs) (key := key) hgoing
      refine ⟨_, s.freeCtr, hexec.trans (congrArg _ hnet), (if_pos hgoing).symm, rfl, rfl, rfl, rfl, ?_, hsession, rfl⟩
      rw [if_pos rfl]
      exact hdraw
    · obtain ⟨net, hnet⟩ := State.exists_authHello_new (s := s.setInbox rest) (fresh := fresh) (certs := certs) (key := key) hpeer hgoing
      refine ⟨_, s.freeCtr + 1, hexec.trans (congrArg _ hnet), (if_neg hgoing).symm, rfl, rfl, rfl, rfl, (if_neg (Nat.succ_ne_self _)).symm,
        hsession, rfl⟩
  case cipher =>
    intro src a rest c s hdel ha hpeer henc
    obtain ⟨net, hnet⟩ := (s.setInbox rest).exists_authCipher src c
    exact ⟨_, (exec_twinAuth hdel ha hpeer).trans (congrArg _ ((if_pos henc).trans hnet)), rfl, rfl, rfl⟩
  case signed =>
    intro src a rest sig s hdel ha hpeer
    have hexec := exec_twinAuth hdel ha hpeer
    refine ⟨hexec, fun hfails => ?_⟩
    have hexec' := hexec.trans (congrArg Host.Outcome.next (if_neg (ne_true_of_eq_false hfails)))
    refine ⟨fun hrestoring hserving => ?_, fun v hrestoring hserving => ?_, fun r h sv hrestoring hstep hwait => ?_⟩
    · exact hexec'.trans (congrArg _ (State.authFailed_alone (s := s.setInbox rest) hrestoring hserving))
    · exact hexec'.trans (congrArg _ (State.authFailed_serving (s := s.setInbox rest) hrestoring hserving))
    · exact hexec'.trans (congrArg _ (State.authFailed_restoring (s := s.setInbox rest) hrestoring hstep hwait))
  case rekey =>
    intro p s hl hst hsession hpeer
    obtain ⟨net, hnet⟩ := State.exists_beginAuth (s := s.modTwin (fun t => { t with rekeys := t.rekeys + 1 })) hpeer
    refine ⟨_, congrArg Host.Outcome.next ((if_pos ?_).trans hnet), rfl, rfl, rfl, rfl⟩
    simpa [hl, hsession] using hst
  case retry => exact fun s hl hst => congrArg Host.Outcome.next (if_pos (by simp [hl, hst]))
  case lost =>
    intro since s hl hst hdown hlong
    have hexec := (exec_twinLost hl hst hdown hlong).trans (congrArg _ s.loseTwin_eq)
    refine ⟨s.twinGone, s.twin_twinGone, s.events_twinGone, s.twinGone_eq, fun hnone => ?_, fun r hr => ?_⟩
    · rw [hexec, hnone]
    · rw [hexec, hr]

end Sys2Proof.Machine

namespace Sys2Proof.Machine

/-! SUPPORT. Restores of a module from its survivor (R5, R318, R340). -/

section Restores

variable {s : State} {src sv : Nat} {a : Arrived} {rest : List Arrived} {q : RestoreReq} {h : CmdHead} {r : Restoring} {v : Serving}

/-! ### What is sent again leaves the twin's state (R314, R339, R340) -/

@[simp] theorem State.aside_resendRecords (s : State) (t : Nat) : (s.resendRecords t).aside = s.aside := by
  unfold State.resendRecords
  dsimp only
  split <;> simp

@[simp] theorem State.aside_sendCommit (s : State) (t ctx : Nat) (c : Commit) : (s.sendCommit t ctx c).aside = s.aside :=
  State.sendCommit_keeps (fun b m => b.aside_send t none m) s ctx c

@[simp] theorem State.aside_sendImage (s : State) (dest ctx commit : Nat) : (s.sendImage dest ctx commit).aside = s.aside := by
  unfold State.sendImage
  split
  · rw [State.aside_send]
    exact foldl_keeps State.aside (fun b e => b.aside_send _ _ _) _ s
  · rfl

@[simp] theorem State.aside_returnImage (s : State) (dest ctx commit : Nat) : (s.returnImage dest ctx commit).aside = s.aside :=
  State.aside_sendImage _ dest ctx commit

@[simp] theorem State.aside_resume (s : State) (t : Nat) : (s.resume t).aside = s.aside := by
  have hcommits : ∀ (c : Nat × Ctx) (b : State),
      ((c.2.commits.filter (·.transferring)).foldl (fun b k => b.sendCommit t c.1 k) b).aside = b.aside :=
    fun c b => foldl_keeps State.aside (fun b k => b.aside_sendCommit t c.1 k) _ b
  unfold State.resume
  dsimp only
  refine (foldl_keeps State.aside (fun (b : State) (e : Nat × Nat) => b.aside_sendImage t e.1 e.2) _ _).trans ?_
  refine (foldl_keeps State.aside (fun (b : State) (c : Nat × Ctx) => hcommits c b) _ _).trans ?_
  rw [State.aside_send, State.aside_resendRecords]

/-! ### The survivor's answer (R340) -/

/-- What a restore request does to the module that it has come to. -/
def State.onRestoreRequest (s : State) (q : RestoreReq) : State :=
  match s.twin.state with
  | .restoring => s
  | .paired | .pairing => s.modTwin (fun t => { t with withheld := some q })
  | _ => s.answerRestore q

theorem exec_restoreRequest {t : State} (hdel : Delivered src 1 a rest s) (ha : a.msg = .restoreRequest q)
    (ht : (s.setInbox rest).onRestoreRequest q = t) : exec (.restoreRequest src) s = .next t := by
  refine congrArg Host.Outcome.next (onMessage_of_some hdel ?_)
  rw [← ht, State.onRestoreRequest, State.twin_setInbox]
  simp only [ha]
  cases s.twin.state <;> rfl

theorem State.answerRestore_of_other (hother : ¬ (s.twin.holdsPartner = true ∧ s.twin.partnerOf = some q.ident)) : s.answerRestore q
    = (s.modTwin (fun t => { t with withheld := none })).send q.ident none (.winch (.restoreAnswer none)) := by
  unfold State.answerRestore
  exact if_pos (by simpa [imp_iff_not_or] using hother)

/-- A survivor that holds the state of the module serves it when rows 3 and 4 of Table 11.1 hold. -/
theorem State.answerRestore_of_passes (hholds : s.twin.holdsPartner = true) (hof : s.twin.partnerOf = some q.ident)
    (hpasses : s.requestFails q = none) : ∃ net, s.answerRestore q
      = { s with net := net, twin := { s.twin with withheld := none, serving := some ⟨q, 1, false⟩, auth := {} } } := by
  unfold State.answerRestore
  dsimp only
  rw [if_neg (by simp [hholds, hof]), hpasses]
  dsimp only
  rw [State.send_eq]
  exact ⟨_, rfl⟩

theorem State.answerRestore_of_fails {c : Nat} (hholds : s.twin.holdsPartner = true) (hof : s.twin.partnerOf = some q.ident)
    (hfails : s.requestFails q = some c) : ∃ net, s.answerRestore q
      = { s with net := net, twin := { s.twin with withheld := none, refuse := c, refusePeer := q.ident } } := by
  unfold State.answerRestore
  dsimp only
  rw [if_neg (by simp [hholds, hof]), hfails]
  dsimp only
  rw [State.send_eq, State.send_eq (s.modTwin _)]
  exact ⟨_, rfl⟩

theorem State.requestFails_eq_none (hrev : q.revision = 0x0A) (hballast : q.ballast = s.ballastCode) (hident : s.ident = some q.survivor) :
    s.requestFails q = none := by simp [State.requestFails, hident, hrev, hballast]

theorem State.requestFails_of_mismatch (hdiffers : q.revision ≠ 0x0A ∨ q.ballast ≠ s.ballastCode) (hident : s.ident = some q.survivor) :
    s.requestFails q = some 3 := by simp [State.requestFails, hident, hdiffers]

/-! ### Step 1 on the fresh module (R318, R340) -/

theorem exec_twinRestoreTimeout (hl : s.live = true) (hwait : s.restoreWaiter = some (h, sv)) :
    exec .twinRestoreTimeout s = .next ((s.modTwin (fun t => { t with restoring := none, auth := {} })).finishCmd h 1 0x0F (leBytes 8 0)) := by
  refine congrArg Host.Outcome.next ?_
  rw [hwait]
  exact if_pos hl

theorem State.restoreAnswered_of_none (hwait : s.restoreWaiter = some (h, src)) : s.restoreAnswered src none
    = (s.modTwin (fun t => { t with restoring := none, auth := {}, refuse := 6, refusePeer := src })).finishCmd h 1 0x0D (leBytes 8 0) := by
  unfold State.restoreAnswered
  rw [hwait]
  exact if_neg (by simp)

theorem State.restoreAnswered_of_mismatch {f : Nat × Nat} (hwait : s.restoreWaiter = some (h, src)) (hf : f.1 ≠ 0x0A ∨ f.2 ≠ s.ballastCode) :
    s.restoreAnswered src (some f) = s.restoreFails 3 := by
  unfold State.restoreAnswered
  rw [hwait]
  dsimp only
  rw [if_neg (by simp), if_pos (by simpa using hf)]

/-- A survivor of this revision and order code is authenticated. -/
theorem State.restoreAnswered_of_match (hwait : s.restoreWaiter = some (h, src)) : ∃ net,
    s.restoreAnswered src (some (0x0A, s.ballastCode)) = { s with
      net := net, freeCtr := s.freeCtr + 1
      twin := { s.twin with restoring := some ⟨src, 1, false, false, none⟩, auth := { keyDraw := some s.freeCtr } } } := by
  unfold State.restoreAnswered
  rw [hwait]
  dsimp only
  rw [if_neg (by simp), if_neg (by simp)]
  exact State.exists_beginAuth (s := s.modTwin (fun t => { t with auth := {}, restoring := some ⟨src, 1, false, false, none⟩ })) rfl

theorem State.restoreHeard_of_fails (hr : s.twin.restoring = some r) (hsrc : r.survivor = src) (hstep : r.step = 1) :
    s.restoreHeard src false = s.restoreFails 4 := by
  unfold State.restoreHeard
  simp [hr, hsrc, hstep]

/-- Once both ends have passed step 1 the module is RESTORING and the command completes. -/
theorem State.restoreHeard_of_passes (hwait : s.restoreWaiter = some (h, src)) (hr : s.twin.restoring = some r) (hsrc : r.survivor = src)
    (hstep : r.step = 1) (hown : r.ownOk = true) : (s.restoreHeard src true).flash = { s.flash with twinId := some src }
      ∧ (s.restoreHeard src true).twin
        = { s.twin with state := .restoring, twinId := some src, restoring := some { r with peerOk := true, step := 2 } } := by
  have hwait' : (s.modTwin (fun t => { t with restoring := some { r with peerOk := true } })).restoreWaiter = some (h, src) := hwait
  have hheard : s.restoreHeard src true = (s.modTwin (fun t => { t with restoring := some { r with peerOk := true } })).restorePasses := by
    unfold State.restoreHeard
    rw [hr]
    dsimp only
    rw [if_neg (by simp [hsrc, hstep]), if_pos rfl]
  rw [hheard]
  unfold State.restorePasses
  rw [hwait', State.twin_modTwin]
  dsimp only
  rw [if_pos (by simp [hstep, hown]), State.flash_of_hw (hw_State_finishCmd _ h 0 0 []), State.twin_of_aside (State.aside_finishCmd _ h 0 0 []),
    State.flash_setTwin, State.twin_setTwin]
  exact ⟨rfl, rfl⟩

/-! ### Steps 2 to 5 (Table 11.13) -/

theorem exec_restoreStepDone_restoring (hl : s.live = true) (hr : s.twin.restoring = some r) (n : Nat) :
    exec (.restoreStepDone n) s = .next (if r.step = n then s.restoreNext r else s) := by
  refine congrArg Host.Outcome.next ?_
  simp only [hl, hr, Bool.not_true, Bool.false_eq_true, if_false]

/-- A restored module, PAIRED again, before it sends what it has journaled. -/
def State.restored (s : State) (r : Restoring) : State :=
  ((s.modTwin (fun t => { t with restoring := none, partnerOf := some r.survivor, holdsPartner := false })).setTwin .paired).countEvent 11

theorem State.twin_restored (s : State) (r : Restoring) : (s.restored r).twin
    = { s.twin with state := .paired, restoring := none, partnerOf := some r.survivor, holdsPartner := false } := State.twin_setTwin _ _

theorem State.events_restored (s : State) (r : Restoring) :
    Tab.getD (s.restored r).logbook.events 11 0 = min (2 ^ 64 - 1) (Tab.getD s.logbook.events 11 0 + 1) := by
  unfold State.restored
  rw [State.events_countEvent, State.logbook_setTwin]
  rfl

theorem State.restoreEnds_of_whole (hwhole : ∀ c ∈ s.ctxs, c.2.rollbackDue = none) (r : Restoring) :
    s.restoreEnds r = (s.restored r).resume r.survivor := by
  unfold State.restoreEnds
  exact if_pos (List.all_eq_true.mpr fun c hc => by rw [hwhole c hc]; rfl)

/-! ### The survivor's side of the steps -/

theorem exec_restoreStepDone_serving (hl : s.live = true) (hrestoring : s.twin.restoring = none) (hserving : s.twin.serving = some v)
    (hchecked : v.checked = true) : exec (.restoreStepDone v.step) s = .next (if v.step = 1
      then (s.modTwin (fun t => { t with serving := some { v with step := 2 } })).send v.req.ident none (.restoreTables s.restoreData)
      else s.served v.req) := by
  refine congrArg Host.Outcome.next ?_
  simp only [hl, hrestoring, hserving, hchecked, Bool.not_true, Bool.false_eq_true, if_false, Bool.false_or, bne_self_eq_false]

/-- A survivor that is PAIRED with the replacement, before it sends anything (step 4). -/
def State.adopted (s : State) (q : RestoreReq) : State :=
  ({ s.resealAll with
    flash := { s.resealAll.flash with twinId := some q.ident }
    jr := { s.resealAll.jr with acked := 0, twinFull := false, refusedAt := none, returning := [], incoming := [] }.sweep
    twin := { s.resealAll.twin with
      twinId := some q.ident, serving := none, holdsPartner := false, partnerOf := some q.ident, exposed := false
      tetherDownAt := none } }.setTwin .paired).countEvent 10

theorem State.twin_adopted (s : State) (q : RestoreReq) : (s.adopted q).twin = { s.resealAll.twin with
    state := .paired, twinId := some q.ident, serving := none, holdsPartner := false, partnerOf := some q.ident, exposed := false
    tetherDownAt := none } := State.twin_setTwin _ _

theorem State.flash_adopted (s : State) (q : RestoreReq) : (s.adopted q).flash.twinId = some q.ident := by
  unfold State.adopted
  show (State.setTwin _ _).flash.twinId = _
  rw [State.flash_setTwin]

/-- What it then sends leaves its twin's state and its hardware. -/
theorem State.served_keeps {β : Type} {P : State → β} (hresume : ∀ (b : State) (t : Nat), P (b.resume t) = P b)
    (himage : ∀ (b : State) (d ctx commit : Nat), P (b.returnImage d ctx commit) = P b) (s : State) (q : RestoreReq) :
    P (s.served q) = P (s.adopted q) := by
  refine (foldl_keeps P (fun b k => ?_) s.jr.keptOf ((s.adopted q).resume q.ident)).trans (hresume _ _)
  split
  · split
    · rfl
    · exact himage _ _ _ _
  · rfl

theorem State.twin_served (s : State) (q : RestoreReq) : (s.served q).twin = (s.adopted q).twin :=
  State.twin_of_aside (State.served_keeps State.aside_resume State.aside_returnImage s q)

theorem State.flash_served (s : State) (q : RestoreReq) : (s.served q).flash = (s.adopted q).flash :=
  State.flash_of_hw (State.served_keeps hw_State_resume hw_State_returnImage s q)

end Restores

/-- Settles O34: the survivor's answer by `answerRestore_of_passes` and `answerRestore_of_fails`, step 1 by
`restoreHeard_of_passes`, the survivor's last step by `served_keeps`. -/
theorem restoreRowsComplete : Obligations.RestoreRowsComplete := by
  unfold Obligations.RestoreRowsComplete
  refine ⟨?request, fun h sv s hl hwait => exec_twinRestoreTimeout hl hwait, ?heard, ?steps, ?serving⟩
  case request =>
    intro src a rest r s hdel ha
    refine ⟨fun hst => exec_restoreRequest hdel ha (by rw [State.onRestoreRequest, State.twin_setInbox, hst]), fun hst => ?_, fun hst => ?_⟩
    · rcases hst with hst | hst <;> exact exec_restoreRequest hdel ha (by rw [State.onRestoreRequest, State.twin_setInbox, hst])
    have hexec : exec (.restoreRequest src) s = .next ((s.setInbox rest).answerRestore r) := by
      rcases hst with hst | hst | hst <;> exact exec_restoreRequest hdel ha (by rw [State.onRestoreRequest, State.twin_setInbox, hst])
    refine ⟨fun hother => ?other, fun hholds hof hrev hballast hident => ?passes, fun hholds hof hdiffers hident => ?mismatch⟩
    case other => exact hexec.trans (congrArg _ (State.answerRestore_of_other (s := s.setInbox rest) hother))
    case passes =>
      obtain ⟨net, hnet⟩ := State.answerRestore_of_passes (s := s.setInbox rest) hholds hof (State.requestFails_eq_none hrev hballast hident)
      exact ⟨_, hexec.trans (congrArg _ hnet), rfl⟩
    case mismatch =>
      obtain ⟨net, hnet⟩ := State.answerRestore_of_fails (s := s.setInbox rest) hholds hof (State.requestFails_of_mismatch hdiffers hident)
      exact ⟨_, hexec.trans (congrArg _ hnet), rfl⟩
  case heard =>
    intro src a rest h s hdel hwait
    have hwait' : (s.setInbox rest).restoreWaiter = some (h, src) := hwait
    refine ⟨fun ha => ?none, fun f ha hf => ?mismatch, fun ha => ?begins, fun r ha hr hsrc hstep hown => ?passes, fun r ha hr hsrc hstep => ?fails⟩
    case none => exact (exec_winchControl hdel ha).trans (congrArg _ (State.restoreAnswered_of_none hwait'))
    case mismatch =>
      exact (exec_winchControl hdel ha).trans (congrArg _ ((State.restoreAnswered_of_mismatch hwait' hf).trans (State.restoreFails_eq hwait' 3)))
    case begins =>
      obtain ⟨net, hnet⟩ := State.restoreAnswered_of_match hwait'
      exact ⟨_, (exec_winchControl hdel ha).trans (congrArg _ hnet), rfl, rfl, rfl⟩
    case passes =>
      obtain ⟨hflash, htwin⟩ := State.restoreHeard_of_passes (s := s.setInbox rest) hwait' hr hsrc hstep hown
      exact ⟨_, exec_winchControl hdel ha, (congrArg Twin.state htwin :), (congrArg Twin.twinId htwin :), hflash, (congrArg Twin.restoring htwin :)⟩
    case fails =>
      exact (exec_winchControl hdel ha).trans (congrArg _
        ((State.restoreHeard_of_fails (s := s.setInbox rest) hr hsrc hstep).trans (State.restoreFails_eq hwait' 4)))
  case steps =>
    intro r s hl hr
    have hexec := exec_restoreStepDone_restoring hl hr
    have hnext := (hexec r.step).trans (congrArg _ (if_pos rfl))
    refine ⟨fun n hn => (hexec n).trans (congrArg _ (if_neg hn.symm)), fun tb hstep htb => ?two, fun hstep htb => ?waits, fun hstep => ?three,
      fun hstep htables => ?four, fun hstep hwhole hst => ?five⟩
    case two => exact hnext.trans (congrArg _ (by simp only [State.restoreNext, hstep, htb]))
    case waits => exact hnext.trans (congrArg _ (by simp only [State.restoreNext, hstep, htb]))
    case three => exact hnext.trans (congrArg _ (by simp only [State.restoreNext, hstep]))
    case four =>
      refine hnext.trans (congrArg _ ?_)
      simp only [State.restoreNext, hstep, htables, if_true, State.modTwin, hr, Option.map_some]
    case five =>
      have hends : s.restoreNext r = (s.restored r).resume r.survivor := by
        simp only [State.restoreNext, hstep, State.restoreEnds_of_whole hwhole]
      refine ⟨s.restored r, hnext.trans (congrArg _ hends), s.twin_restored r, s.events_restored r, ?_, ?_⟩
      · exact State.ctxs_setTwin _ _
      · exact State.jr_setTwin _ _
  case serving =>
    intro v s hl hrestoring hserving hchecked
    have hexec := exec_restoreStepDone_serving hl hrestoring hserving hchecked
    refine ⟨fun hstep => ?two, fun hstep => ?four⟩
    case two =>
      have htwin : ((s.modTwin (fun t => { t with serving := some { v with step := 2 } })).send v.req.ident none
          (.restoreTables s.restoreData)).twin = { s.twin with serving := some { v with step := 2 } } :=
        State.twin_of_aside (State.aside_send _ _ _ _)
      refine ⟨_, hexec.trans (congrArg _ (if_pos hstep)), ?_, ?_⟩
      · rw [State.send_eq]
        rfl
      · rw [htwin]
        rfl
    case four =>
      have htwin := (s.twin_served v.req).trans (s.twin_adopted v.req)
      exact ⟨_, hexec.trans (congrArg _ (if_neg (by simp [hstep]))), (congrArg Twin.state htwin :), (congrArg Twin.twinId htwin :),
        (congrArg Twin.serving htwin :), (congrArg Twin.partnerOf htwin :),
        (congrArg Flash.twinId (s.flash_served v.req) :).trans (s.flash_adopted v.req)⟩

end Sys2Proof.Machine

namespace Sys2Proof.Machine

/-! SUPPORT. What every command leaves: the nine that write what lasts, or the power, are told apart from the others (R396, R402, R426). -/

/-- The commands that may write a fuse, the image in flash, HALTED or the presence of 54 V. -/
def writesLasting : Instr → Bool
  | .fwUpdate _ _ _ _ | .errorDetected _ | .patrolScrub _ | .thermalShutdown _ | .powerApplied | .inputDisconnect _ _ => true
  | .firmwareReady | .recoveryImageReceived _ | .warmReset => true
  | _ => false

/-- Every other command leaves all of these. -/
theorem exec_keep (c : Instr) (s : State) (hc : writesLasting c = false) : Out.keeps (fun t => t.keep = s.keep) (exec c s) :=
  match c, hc with
  | .partitionCreate h p, _ => keep_execPartitionCreate h p s
  | .partitionDestroy h part, _ => keep_execPartitionDestroy h part s
  | .partitionQuantum h part quantum, _ => keep_execPartitionQuantum h part quantum s
  | .contextCreate h p, _ => keep_execContextCreate h p s
  | .contextDestroy h ctx, _ => keep_execContextDestroy h ctx s
  | .contextPriority h ctx prio, _ => keep_execContextPriority h ctx prio s
  | .contextQuery h ctx, _ => keep_execContextQuery h ctx s
  | .ringCreate h p, _ => keep_execRingCreate h p s
  | .ringDestroy h ring, _ => keep_execRingDestroy h ring s
  | .clientCounts h client, _ => keep_execClientCounts h client s
  | .tensorCreate h ctx p, _ => keep_execTensorCreate h ctx p s
  | .tensorDelete h ctx handle, _ => keep_execTensorDelete h ctx handle s
  | .tensorMap h ctx handle offset, _ => keep_execTensorMap h ctx handle offset s
  | .tensorUnmap h ctx handle, _ => keep_execTensorUnmap h ctx handle s
  | .tensorQuery h ctx handle, _ => keep_execTensorQuery h ctx handle s
  | .kvPoolCreate h ctx pages persistent, _ => keep_execKvPoolCreate h ctx pages persistent s
  | .kvMap h ctx slot first count entries, _ => keep_execKvMap h ctx slot first count entries s
  | .kvPoolDestroy h ctx pool, _ => keep_execKvPoolDestroy h ctx pool s
  | .slotAssign h ctx bytes prompt, _ => keep_execSlotAssign h ctx bytes prompt s
  | .slotRelease h ctx slot, _ => keep_execSlotRelease h ctx slot s
  | .slotQuery h ctx slot addr, _ => keep_execSlotQuery h ctx slot addr s
  | .queueCreate h ctx p, _ => keep_execQueueCreate h ctx p s
  | .xgroupCreate h ctx group count members, _ => keep_execXgroupCreate h ctx group count members s
  | .gatherBudget h ctx units, _ => keep_execGatherBudget h ctx units s
  | .mapPlan h ctx p readFails, _ => keep_execMapPlan h ctx p readFails s
  | .queueDestroy h ctx queue, _ => keep_execQueueDestroy h ctx queue s
  | .xgroupDestroy h ctx group, _ => keep_execXgroupDestroy h ctx group s
  | .mapPlanDrop h ctx plan, _ => keep_execMapPlanDrop h ctx plan s
  | .moduleIdSet h ident size, _ => keep_execModuleIdSet h ident size s
  | .fabricReserve h part share lend, _ => keep_execFabricReserve h part share lend s
  | .portReset h port, _ => keep_execPortReset h port s
  | .cartridgeRelease h cart, _ => keep_execCartridgeRelease h cart s
  | .twinPair h ident, _ => keep_execTwinPair h ident s
  | .twinUnpair h discard, _ => keep_execTwinUnpair h discard s
  | .twinSolo h, _ => keep_execTwinSolo h s
  | .twinRestore h survivor, _ => keep_execTwinRestore h survivor s
  | .jobRollback h ctx commit, _ => keep_execJobRollback h ctx commit s
  | .commitRelease h ctx commit, _ => keep_execCommitRelease h ctx commit s
  | .journalQuery h byRing number, _ => keep_execJournalQuery h byRing number s
  | .moduleReset h, _ => keep_execModuleReset h s
  | .functionResync h discard, _ => keep_execFunctionResync h discard s
  | .certRead h addr, _ => keep_execCertRead h addr s
  | .attestQuote h nonce scope ctx addr, _ => keep_execAttestQuote h nonce scope ctx addr s
  | .regionQuery h addr, _ => keep_execRegionQuery h addr s
  | .winchMboxCfgWrite fn value, _ => keep_execWinchMboxCfgWrite fn value s
  | .winchEvqCfgWrite fn value, _ => keep_execWinchEvqCfgWrite fn value s
  | .ringDoorbell fn ring width tailSeq, _ => keep_execRingDoorbell fn ring width tailSeq s
  | .fabricTimeLoRead fn, _ => keep_execFabricTimeLoRead fn s
  | .logSnap fn value, _ => keep_execLogSnap fn value s
  | .logSnapDone, _ => keep_execLogSnapDone s
  | .logDataRead fn, _ => keep_execLogDataRead fn s
  | .xdTelemCfgWrite fn value, _ => keep_execXdTelemCfgWrite fn value s
  | .xdTelemPeriodWrite fn value, _ => keep_execXdTelemPeriodWrite fn value s
  | .keepAwakeWrite fn value, _ => keep_execKeepAwakeWrite fn value s
  | .recoveryGo fn value, _ => keep_execRecoveryGo fn value s
  | .registerWrite fn offset width value, _ => keep_execRegisterWrite fn offset width value s
  | .bar2Read fn offset len, _ => keep_execBar2Read fn offset len s
  | .bar2Write fn offset bytes, _ => keep_execBar2Write fn offset bytes s
  | .ticketFetch ring got, _ => keep_execTicketFetch ring got s
  | .ticketAccept ring, _ => keep_execTicketAccept ring s
  | .ticketComplete ring tseq, _ => keep_execTicketComplete ring tseq s
  | .journalRecords src, _ => keep_execJournalRecords src s
  | .matrix ctx, _ => keep_execMatrix ctx s
  | .operandsReady tile task, _ => keep_execOperandsReady tile task s
  | .taskDispatch tile, _ => keep_execTaskDispatch tile s
  | .roundStart tile eng, _ => keep_execRoundStart tile eng s
  | .windowClose tile eng, _ => keep_execWindowClose tile eng s
  | .groupClose tile eng, _ => keep_execGroupClose tile eng s
  | .groupPark tile eng group, _ => keep_execGroupPark tile eng group s
  | .mergeCombine task, _ => keep_execMergeCombine task s
  | .groupDrainStart tile, _ => keep_execGroupDrainStart tile s
  | .groupDrainReadDone tile, _ => keep_execGroupDrainReadDone tile s
  | .drainStageDone tile, _ => keep_execDrainStageDone tile s
  | .convert ctx, _ => keep_execConvert ctx s
  | .add ctx, _ => keep_execAdd ctx s
  | .sub ctx, _ => keep_execSub ctx s
  | .mul ctx, _ => keep_execMul ctx s
  | .div ctx, _ => keep_execDiv ctx s
  | .mulAdd ctx, _ => keep_execMulAdd ctx s
  | .max ctx, _ => keep_execMax ctx s
  | .min ctx, _ => keep_execMin ctx s
  | .ladd ctx, _ => keep_execLadd ctx s
  | .square ctx, _ => keep_execSquare ctx s
  | .sqrt ctx, _ => keep_execSqrt ctx s
  | .recip ctx, _ => keep_execRecip ctx s
  | .exp ctx, _ => keep_execExp ctx s
  | .log ctx, _ => keep_execLog ctx s
  | .act ctx, _ => keep_execAct ctx s
  | .abs ctx, _ => keep_execAbs ctx s
  | .epilogue ctx, _ => keep_execEpilogue ctx s
  | .sum ctx, _ => keep_execSum ctx s
  | .sumsq ctx, _ => keep_execSumsq ctx s
  | .reduceMax ctx, _ => keep_execReduceMax ctx s
  | .reduceMin ctx, _ => keep_execReduceMin ctx s
  | .count ctx, _ => keep_execCount ctx s
  | .lse ctx, _ => keep_execLse ctx s
  | .meanvar ctx, _ => keep_execMeanvar ctx s
  | .softmax ctx, _ => keep_execSoftmax ctx s
  | .layer ctx, _ => keep_execLayer ctx s
  | .scopeComplete ctx, _ => keep_execScopeComplete ctx s
  | .stashMove ctx handle, _ => keep_execStashMove ctx handle s
  | .recompute ctx handle, _ => keep_execRecompute ctx handle s
  | .qsend ctx, _ => keep_execQsend ctx s
  | .qrecv ctx, _ => keep_execQrecv ctx s
  | .queueSlot src vc, _ => keep_execQueueSlot src vc s
  | .slotWrittenAck src vc, _ => keep_execSlotWrittenAck src vc s
  | .queueCredit src vc, _ => keep_execQueueCredit src vc s
  | .xreduce ctx, _ => keep_execXreduce ctx s
  | .xgather ctx, _ => keep_execXgather ctx s
  | .permute ctx, _ => keep_execPermute ctx s
  | .xs src, _ => keep_execXs src s
  | .xd src, _ => keep_execXd src s
  | .xv src, _ => keep_execXv src s
  | .xgatherData src, _ => keep_execXgatherData src s
  | .permuteData src, _ => keep_execPermuteData src s
  | .chainWords src, _ => keep_execChainWords src s
  | .regather ctx handle, _ => keep_execRegather ctx handle s
  | .slotSet ctx, _ => keep_execSlotSet ctx s
  | .commitFreeze ctx, _ => keep_execCommitFreeze ctx s
  | .cowCopy ctx ext, _ => keep_execCowCopy ctx ext s
  | .commitTransfer ctx, _ => keep_execCommitTransfer ctx s
  | .memoryWrite src, _ => keep_execMemoryWrite src s
  | .mirrorExtentAck src, _ => keep_execMirrorExtentAck src s
  | .commitCoordination src, _ => keep_execCommitCoordination src s
  | .commitSealed src, _ => keep_execCommitSealed src s
  | .memoryReadRequest src, _ => keep_execMemoryReadRequest src s
  | .memoryReadData src, _ => keep_execMemoryReadData src s
  | .winchControl src, _ => keep_execWinchControl src s
  | .twinAuth src, _ => keep_execTwinAuth src s
  | .sessionRekey, _ => keep_execSessionRekey s
  | .twinPairRetry, _ => keep_execTwinPairRetry s
  | .twinLost, _ => keep_execTwinLost s
  | .restoreRequest src, _ => keep_execRestoreRequest src s
  | .twinRestoreTimeout, _ => keep_execTwinRestoreTimeout s
  | .restoreStepDone step, _ => keep_execRestoreStepDone step s
  | .jobReplay ctx consumed, _ => keep_execJobReplay ctx consumed s
  | .partitionYieldPoint part, _ => keep_execPartitionYieldPoint part s
  | .sliceEnd part, _ => keep_execSliceEnd part s
  | .switchDone part, _ => keep_execSwitchDone part s
  | .lightDetected port, _ => keep_execLightDetected port s
  | .lightLost port, _ => keep_execLightLost port s
  | .trainingStepTimeout port, _ => keep_execTrainingStepTimeout port s
  | .trainingTimeout port, _ => keep_execTrainingTimeout port s
  | .portRetry port, _ => keep_execPortRetry port s
  | .train port flit, _ => keep_execTrain port flit s
  | .fecGroupReceive port group, _ => keep_execFecGroupReceive port group s
  | .packetReceive port packet, _ => keep_execPacketReceive port packet s
  | .ack port seq nak, _ => keep_execAck port seq nak s
  | .replay port got, _ => keep_execReplay port got s
  | .nakResendTimeout port, _ => keep_execNakResendTimeout port s
  | .ackInterval port, _ => keep_execAckInterval port s
  | .credit port counts, _ => keep_execCredit port counts s
  | .packetTransmit port, _ => keep_execPacketTransmit port s
  | .down port, _ => keep_execDown port s
  | .timeSync port flit, _ => keep_execTimeSync port flit s
  | .timeReply port t2 t3, _ => keep_execTimeReply port t2 t3 s
  | .timeSyncTimer port, _ => keep_execTimeSyncTimer port s
  | .rootTimeout, _ => keep_execRootTimeout s
  | .rootInSync, _ => keep_execRootInSync s
  | .portWindowEnd port, _ => keep_execPortWindowEnd port s
  | .laserBiasLimit laser bias, _ => keep_execLaserBiasLimit laser bias s
  | .cartridgeInsert cart serial factory, _ => keep_execCartridgeInsert cart serial factory s
  | .laserLock cart, _ => keep_execLaserLock cart s
  | .mapPlanTimeout ctx plan, _ => keep_execMapPlanTimeout ctx plan s
  | .placementWindow, _ => keep_execPlacementWindow s
  | .extentMoveDone ctx ext, _ => keep_execExtentMoveDone ctx ext s
  | .errorWindowClose, _ => keep_execErrorWindowClose s
  | .logbookCommit, _ => keep_execLogbookCommit s
  | .logbookSecondSample, _ => keep_execLogbookSecondSample s
  | .logbookHourlySample, _ => keep_execLogbookHourlySample s
  | .powerSample r, _ => keep_execPowerSample r s
  | .governorInterval, _ => keep_execGovernorInterval s
  | .stepUpCheck, _ => keep_execStepUpCheck s
  | .clockStepApply, _ => keep_execClockStepApply s
  | .engineGate tile eng, _ => keep_execEngineGate tile eng s
  | .engineStart tile eng, _ => keep_execEngineStart tile eng s
  | .clusterSleep cluster, _ => keep_execClusterSleep cluster s
  | .dieNap die, _ => keep_execDieNap die s
  | .dieOff die, _ => keep_execDieOff die s
  | .dieRailUp die, _ => keep_execDieRailUp die s
  | .dieWakeDone die, _ => keep_execDieWakeDone die s
  | .clusterWakeDone cluster, _ => keep_execClusterWakeDone cluster s
  | .telemetryWindowEnd, _ => keep_execTelemetryWindowEnd s
  | .bootHeaderRead, _ => keep_execBootHeaderRead s
  | .bootBodyVerified, _ => keep_execBootBodyVerified s
  | .recoveryHeader source header, _ => keep_execRecoveryHeader source header s
  | .recoveryImageRequest ident, _ => keep_execRecoveryImageRequest ident s
  | .linkReset, _ => keep_execLinkReset s
  | .functionLevelReset fn, _ => keep_execFunctionLevelReset fn s
  | .functionUnavailable fn, _ => keep_execFunctionUnavailable fn s
  | .functionAvailable fn, _ => keep_execFunctionAvailable fn s
  | .winchMboxTailWrite fn value readFails, _ => keep_execWinchMboxTailWrite fn value readFails s
  | .equaliserLocked port, _ => keep_execEqualiserLocked port s
  | .codewordBoundariesFound port, _ => keep_execCodewordBoundariesFound port s
  | .cartridgeReleaseTimeout cart, _ => keep_execCartridgeReleaseTimeout cart s
  | .spillMergeDone ctx ext, _ => keep_execSpillMergeDone ctx ext s

/-- A command of jobs leaves the hardware state, row by row. -/
theorem exec_hw (c : Instr) (s : State) (hc : changesHardware c = false) : Out.keeps (fun t => t.hw = s.hw) (exec c s) :=
  match c, hc with
  | .partitionQuantum h part quantum, _ => hw_execPartitionQuantum h part quantum s
  | .contextCreate h p, _ => hw_execContextCreate h p s
  | .contextDestroy h ctx, _ => hw_execContextDestroy h ctx s
  | .contextPriority h ctx prio, _ => hw_execContextPriority h ctx prio s
  | .contextQuery h ctx, _ => hw_execContextQuery h ctx s
  | .clientCounts h client, _ => hw_execClientCounts h client s
  | .tensorCreate h ctx p, _ => hw_execTensorCreate h ctx p s
  | .tensorDelete h ctx handle, _ => hw_execTensorDelete h ctx handle s
  | .tensorMap h ctx handle offset, _ => hw_execTensorMap h ctx handle offset s
  | .tensorUnmap h ctx handle, _ => hw_execTensorUnmap h ctx handle s
  | .tensorQuery h ctx handle, _ => hw_execTensorQuery h ctx handle s
  | .kvPoolCreate h ctx pages persistent, _ => hw_execKvPoolCreate h ctx pages persistent s
  | .kvMap h ctx slot first count entries, _ => hw_execKvMap h ctx slot first count entries s
  | .kvPoolDestroy h ctx pool, _ => hw_execKvPoolDestroy h ctx pool s
  | .slotAssign h ctx bytes prompt, _ => hw_execSlotAssign h ctx bytes prompt s
  | .slotRelease h ctx slot, _ => hw_execSlotRelease h ctx slot s
  | .slotQuery h ctx slot addr, _ => hw_execSlotQuery h ctx slot addr s
  | .queueCreate h ctx p, _ => hw_execQueueCreate h ctx p s
  | .xgroupCreate h ctx group count members, _ => hw_execXgroupCreate h ctx group count members s
  | .gatherBudget h ctx units, _ => hw_execGatherBudget h ctx units s
  | .mapPlan h ctx p readFails, _ => hw_execMapPlan h ctx p readFails s
  | .queueDestroy h ctx queue, _ => hw_execQueueDestroy h ctx queue s
  | .xgroupDestroy h ctx group, _ => hw_execXgroupDestroy h ctx group s
  | .mapPlanDrop h ctx plan, _ => hw_execMapPlanDrop h ctx plan s
  | .portReset h port, _ => hw_execPortReset h port s
  | .twinSolo h, _ => hw_execTwinSolo h s
  | .twinRestore h survivor, _ => hw_execTwinRestore h survivor s
  | .jobRollback h ctx commit, _ => hw_execJobRollback h ctx commit s
  | .commitRelease h ctx commit, _ => hw_execCommitRelease h ctx commit s
  | .journalQuery h byRing number, _ => hw_execJournalQuery h byRing number s
  | .functionResync h discard, _ => hw_execFunctionResync h discard s
  | .certRead h addr, _ => hw_execCertRead h addr s
  | .attestQuote h nonce scope ctx addr, _ => hw_execAttestQuote h nonce scope ctx addr s
  | .regionQuery h addr, _ => hw_execRegionQuery h addr s
  | .winchMboxCfgWrite fn value, _ => hw_execWinchMboxCfgWrite fn value s
  | .winchEvqCfgWrite fn value, _ => hw_execWinchEvqCfgWrite fn value s
  | .keepAwakeWrite fn value, _ => hw_execKeepAwakeWrite fn value s
  | .bar2Read fn offset len, _ => hw_execBar2Read fn offset len s
  | .bar2Write fn offset bytes, _ => hw_execBar2Write fn offset bytes s
  | .journalRecords src, _ => hw_execJournalRecords src s
  | .matrix ctx, _ => hw_execMatrix ctx s
  | .operandsReady tile task, _ => hw_execOperandsReady tile task s
  | .taskDispatch tile, _ => hw_execTaskDispatch tile s
  | .roundStart tile eng, _ => hw_execRoundStart tile eng s
  | .windowClose tile eng, _ => hw_execWindowClose tile eng s
  | .groupClose tile eng, _ => hw_execGroupClose tile eng s
  | .groupPark tile eng group, _ => hw_execGroupPark tile eng group s
  | .mergeCombine task, _ => hw_execMergeCombine task s
  | .groupDrainStart tile, _ => hw_execGroupDrainStart tile s
  | .groupDrainReadDone tile, _ => hw_execGroupDrainReadDone tile s
  | .drainStageDone tile, _ => hw_execDrainStageDone tile s
  | .convert ctx, _ => hw_execConvert ctx s
  | .add ctx, _ => hw_execAdd ctx s
  | .sub ctx, _ => hw_execSub ctx s
  | .mul ctx, _ => hw_execMul ctx s
  | .div ctx, _ => hw_execDiv ctx s
  | .mulAdd ctx, _ => hw_execMulAdd ctx s
  | .max ctx, _ => hw_execMax ctx s
  | .min ctx, _ => hw_execMin ctx s
  | .ladd ctx, _ => hw_execLadd ctx s
  | .square ctx, _ => hw_execSquare ctx s
  | .sqrt ctx, _ => hw_execSqrt ctx s
  | .recip ctx, _ => hw_execRecip ctx s
  | .exp ctx, _ => hw_execExp ctx s
  | .log ctx, _ => hw_execLog ctx s
  | .act ctx, _ => hw_execAct ctx s
  | .abs ctx, _ => hw_execAbs ctx s
  | .epilogue ctx, _ => hw_execEpilogue ctx s
  | .sum ctx, _ => hw_execSum ctx s
  | .sumsq ctx, _ => hw_execSumsq ctx s
  | .reduceMax ctx, _ => hw_execReduceMax ctx s
  | .reduceMin ctx, _ => hw_execReduceMin ctx s
  | .count ctx, _ => hw_execCount ctx s
  | .lse ctx, _ => hw_execLse ctx s
  | .meanvar ctx, _ => hw_execMeanvar ctx s
  | .softmax ctx, _ => hw_execSoftmax ctx s
  | .layer ctx, _ => hw_execLayer ctx s
  | .scopeComplete ctx, _ => hw_execScopeComplete ctx s
  | .stashMove ctx handle, _ => hw_execStashMove ctx handle s
  | .recompute ctx handle, _ => hw_execRecompute ctx handle s
  | .qsend ctx, _ => hw_execQsend ctx s
  | .qrecv ctx, _ => hw_execQrecv ctx s
  | .queueSlot src vc, _ => hw_execQueueSlot src vc s
  | .slotWrittenAck src vc, _ => hw_execSlotWrittenAck src vc s
  | .queueCredit src vc, _ => hw_execQueueCredit src vc s
  | .xreduce ctx, _ => hw_execXreduce ctx s
  | .xgather ctx, _ => hw_execXgather ctx s
  | .permute ctx, _ => hw_execPermute ctx s
  | .xs src, _ => hw_execXs src s
  | .xd src, _ => hw_execXd src s
  | .xv src, _ => hw_execXv src s
  | .xgatherData src, _ => hw_execXgatherData src s
  | .permuteData src, _ => hw_execPermuteData src s
  | .chainWords src, _ => hw_execChainWords src s
  | .regather ctx handle, _ => hw_execRegather ctx handle s
  | .slotSet ctx, _ => hw_execSlotSet ctx s
  | .commitFreeze ctx, _ => hw_execCommitFreeze ctx s
  | .cowCopy ctx ext, _ => hw_execCowCopy ctx ext s
  | .commitTransfer ctx, _ => hw_execCommitTransfer ctx s
  | .memoryWrite src, _ => hw_execMemoryWrite src s
  | .mirrorExtentAck src, _ => hw_execMirrorExtentAck src s
  | .commitCoordination src, _ => hw_execCommitCoordination src s
  | .commitSealed src, _ => hw_execCommitSealed src s
  | .memoryReadRequest src, _ => hw_execMemoryReadRequest src s
  | .memoryReadData src, _ => hw_execMemoryReadData src s
  | .sessionRekey, _ => hw_execSessionRekey s
  | .twinLost, _ => hw_execTwinLost s
  | .restoreRequest src, _ => hw_execRestoreRequest src s
  | .twinRestoreTimeout, _ => hw_execTwinRestoreTimeout s
  | .jobReplay ctx consumed, _ => hw_execJobReplay ctx consumed s
  | .partitionYieldPoint part, _ => hw_execPartitionYieldPoint part s
  | .sliceEnd part, _ => hw_execSliceEnd part s
  | .switchDone part, _ => hw_execSwitchDone part s
  | .lightDetected port, _ => hw_execLightDetected port s
  | .trainingStepTimeout port, _ => hw_execTrainingStepTimeout port s
  | .trainingTimeout port, _ => hw_execTrainingTimeout port s
  | .portRetry port, _ => hw_execPortRetry port s
  | .train port flit, _ => hw_execTrain port flit s
  | .packetReceive port packet, _ => hw_execPacketReceive port packet s
  | .replay port got, _ => hw_execReplay port got s
  | .nakResendTimeout port, _ => hw_execNakResendTimeout port s
  | .ackInterval port, _ => hw_execAckInterval port s
  | .credit port counts, _ => hw_execCredit port counts s
  | .packetTransmit port, _ => hw_execPacketTransmit port s
  | .timeReply port t2 t3, _ => hw_execTimeReply port t2 t3 s
  | .timeSyncTimer port, _ => hw_execTimeSyncTimer port s
  | .rootTimeout, _ => hw_execRootTimeout s
  | .rootInSync, _ => hw_execRootInSync s
  | .portWindowEnd port, _ => hw_execPortWindowEnd port s
  | .mapPlanTimeout ctx plan, _ => hw_execMapPlanTimeout ctx plan s
  | .placementWindow, _ => hw_execPlacementWindow s
  | .extentMoveDone ctx ext, _ => hw_execExtentMoveDone ctx ext s
  | .errorWindowClose, _ => hw_execErrorWindowClose s
  | .logbookSecondSample, _ => hw_execLogbookSecondSample s
  | .logbookHourlySample, _ => hw_execLogbookHourlySample s
  | .governorInterval, _ => hw_execGovernorInterval s
  | .stepUpCheck, _ => hw_execStepUpCheck s
  | .clockStepApply, _ => hw_execClockStepApply s
  | .engineGate tile eng, _ => hw_execEngineGate tile eng s
  | .engineStart tile eng, _ => hw_execEngineStart tile eng s
  | .clusterSleep cluster, _ => hw_execClusterSleep cluster s
  | .dieNap die, _ => hw_execDieNap die s
  | .dieOff die, _ => hw_execDieOff die s
  | .dieRailUp die, _ => hw_execDieRailUp die s
  | .dieWakeDone die, _ => hw_execDieWakeDone die s
  | .clusterWakeDone cluster, _ => hw_execClusterWakeDone cluster s
  | .recoveryImageRequest ident, _ => hw_execRecoveryImageRequest ident s
  | .winchMboxTailWrite fn value readFails, _ => hw_execWinchMboxTailWrite fn value readFails s
  | .equaliserLocked port, _ => hw_execEqualiserLocked port s
  | .codewordBoundariesFound port, _ => hw_execCodewordBoundariesFound port s
  | .spillMergeDone ctx ext, _ => hw_execSpillMergeDone ctx ext s



/-! ### What lasts (R396, R426) -/

/-- A step that undoes nothing that lasts, takes nothing more from the queue, and ends no halt but by the loss of 54 V. -/
structure Endures (c : Instr) (s t : State) : Prop where
  lasting : Lasting s t
  pending : t.pending = s.pending
  halt : s.boot.powered = true → s.errs.halted = true → t.errs.halted = true ∨ ∃ vin micros, c = .inputDisconnect vin micros

section Endures

variable {c : Instr} {s t u : State}

theorem Lasting.refl (s : State) : Lasting s s := ⟨rfl, rfl, le_rfl, id, id, fun _ h => .inl h⟩

/-- What lasts is a part of `keep`. -/
theorem Lasting.congr (hu : Lasting s u) (h : t.keep = u.keep) : Lasting s t := by
  simp only [State.keep, Prod.mk.injEq] at h
  obtain ⟨-, horder, hfuses, himage, hhalted, hpowered⟩ := h
  exact ⟨horder.trans hu.order, hfuses ▸ hu.fuses, hfuses ▸ hu.svn, hfuses ▸ hu.key0, himage ▸ hu.image, hhalted ▸ hpowered ▸ hu.halted⟩

theorem Endures.congr (hu : Endures c s u) (h : t.keep = u.keep) : Endures c s t := by
  have hkeep := h
  simp only [State.keep, Prod.mk.injEq] at h
  obtain ⟨hpending, -, -, -, hhalted, -⟩ := h
  exact ⟨hu.lasting.congr hkeep, hpending.trans hu.pending, hhalted ▸ hu.halt⟩

theorem Endures.refl (c : Instr) (s : State) : Endures c s s := ⟨Lasting.refl s, rfl, fun _ h => .inl h⟩

theorem Endures.of_keep (h : t.keep = s.keep) : Endures c s t := (Endures.refl c s).congr h

/-- The module halts, and nothing else that lasts changes (R426, R450). -/
theorem Endures.halted (c : Instr) (s : State) : Endures c s { s with errs := { s.errs with halted := true } } :=
  ⟨⟨rfl, rfl, le_rfl, id, id, fun _ _ => .inl rfl⟩, rfl, fun _ _ => .inl rfl⟩

/-- Bytes written to the image area leave it in canonical form (R395). -/
theorem Endures.writeImageArea (c : Instr) (s : State) (img : List Byte) : Endures c s (s.writeImageArea img) :=
  ⟨⟨rfl, rfl, le_rfl, id, Mem.wf_putAll pageDflt _ 0 img, fun _ h => .inl h⟩, rfl, fun _ h => .inl h⟩

/-- At READY, MIN_SVN can only rise and the key's revocation only be blown (R399). -/
theorem Endures.afterReady (c : Instr) (s : State) (r : Running) : Endures c s { s with fuses := s.fuses.afterReady r } := by
  refine ⟨⟨rfl, rfl, ?svn, ?key0, id, fun _ h => .inl h⟩, rfl, fun _ h => .inl h⟩
  case svn =>
    show s.fuses.minSvn ≤ if r.commitSvn then max s.fuses.minSvn r.svn else s.fuses.minSvn
    split
    · exact Nat.le_max_left _ _
    · exact le_rfl
  case key0 =>
    intro h
    simp [Fuses.afterReady, h]

/-! ### The nine commands -/

theorem State.keep_halted (h : t.keep = s.keep) :
    State.keep { t with errs := { t.errs with halted := true } } = State.keep { s with errs := { s.errs with halted := true } } := by
  simp only [State.keep, Prod.mk.injEq] at h ⊢
  obtain ⟨hpending, horder, hfuses, himage, -, hpowered⟩ := h
  exact ⟨hpending, horder, hfuses, himage, trivial, hpowered⟩

theorem State.keep_haltModule (s : State) (r : ErrRec) : (s.haltModule r).keep = State.keep { s with errs := { s.errs with halted := true } } :=
  State.keep_halted (by simp)

/-- A detected error halts the module or leaves what lasts (R422 to R428). -/
theorem State.endures_detect (c : Instr) (s : State) (r : ErrorReport) : Endures c s (s.detect r) := by
  unfold State.detect
  split
  · exact .of_keep (by simp)
  · split
    case h_10 | h_13 => exact (Endures.halted c s).congr (s.keep_haltModule _)
    all_goals exact .of_keep (by simp)

theorem endures_errorDetected (r : ErrorReport) (s : State) : Out.keeps (Endures (.errorDetected r) s) (exec (.errorDetected r) s) := by
  refine keeps_next _ _ ?_
  split
  · exact s.endures_detect _ r
  · exact .refl _ s

/-- A die that is woken first changes nothing of this. -/
theorem Endures.of_wakeDie {d : Nat} {run : Bool} (h : Endures c (s.wakeDie d run) t) : Endures c s t := by
  have hkeep : (s.wakeDie d run).keep = s.keep := by simp
  simp only [State.keep, Prod.mk.injEq] at hkeep
  obtain ⟨hpending, horder, hfuses, himage, hhalted, hpowered⟩ := hkeep
  obtain ⟨⟨ho, hf, hs, hk, hi, hh⟩, hp, hhalt⟩ := h
  rw [horder] at ho; rw [hfuses] at hf hs hk; rw [himage] at hi; rw [hhalted, hpowered] at hh hhalt; rw [hpending] at hp
  exact ⟨⟨ho, hf, hs, hk, hi, hh⟩, hp, hhalt⟩

theorem endures_patrolScrub (p : ScrubPass) (s : State) : Out.keeps (Endures (.patrolScrub p) s) (exec (.patrolScrub p) s) := by
  refine keeps_withUnit _ _ _ ?_
  obtain ⟨die, found⟩ := p
  split
  · exact .refl _ s
  · cases die with
    | none => cases found with
      | none => exact .refl _ s
      | some r => exact s.endures_detect _ _
    | some d => cases found with
      | none => exact .of_keep (by simp)
      | some r => exact .of_wakeDie ((s.wakeDie d false).endures_detect _ _)

theorem endures_thermalShutdown (r : Sensors) (s : State) : Out.keeps (Endures (.thermalShutdown r) s) (exec (.thermalShutdown r) s) := by
  show Out.keeps _ (execThermalShutdown r s)
  unfold execThermalShutdown
  refine keeps_next _ _ ?_
  split
  · refine (Endures.halted _ s).congr ?_
    have hkeep : ((s.stopAll.countEvent 6).commitLogbook).downAll.keep = s.keep := by simp
    generalize ((s.stopAll.countEvent 6).commitLogbook).downAll = u at hkeep
    exact State.keep_halted hkeep
  · exact .refl _ s

theorem endures_powerApplied (s : State) : Out.keeps (Endures .powerApplied s) (exec .powerApplied s) := by
  refine keeps_next _ _ ?_
  split
  case isTrue => exact .refl _ s
  case isFalse hoff => exact ⟨⟨rfl, rfl, le_rfl, id, id, fun hon => absurd hon hoff⟩, rfl, fun hon => absurd hon hoff⟩

theorem endures_inputDisconnect (vin micros : Nat) (s : State) :
    Out.keeps (Endures (.inputDisconnect vin micros) s) (exec (.inputDisconnect vin micros) s) := by
  refine keeps_next _ _ ?_
  split
  · exact ⟨⟨rfl, rfl, le_rfl, id, id, fun _ _ => .inr rfl⟩, rfl, fun _ _ => .inr ⟨vin, micros, rfl⟩⟩
  · exact .refl _ s

/-- The ports of a lit cartridge train. -/
theorem keep_trainLit (s : State) (c : Nat) :
    (if (s.cart c).locked then
      (cartPorts c).foldl (fun b i => if (b.port i).state = .inService then b else b.beginTraining i) s
    else s).keep = s.keep := by
  split
  · refine keep_foldl _ (fun b i => ?_) _ _
    split
    · rfl
    · exact keep_State_beginTraining b i
  · rfl

theorem endures_firmwareReady (s : State) : Out.keeps (Endures .firmwareReady s) (exec .firmwareReady s) := by
  refine keeps_next _ _ ?_
  split
  case h_2 => exact .refl _ s
  case h_1 r hr =>
    split
    · refine (Endures.afterReady _ s r).congr ?_
      calc
        _ = _ := keep_foldl _ (fun a (e : Nat × Ctx) => keep_State_refresh a e.1) _ _
        _ = _ := keep_State_bootTwin _
        _ = _ := keep_foldl _ keep_trainLit _ _
        _ = _ := keep_State_elect _
        _ = _ := keep_State_countEvent _ _
    · exact .refl _ s

theorem endures_recoveryImageReceived (image : Option (List Byte)) (s : State) :
    Out.keeps (Endures (.recoveryImageReceived image) s) (exec (.recoveryImageReceived image) s) := by
  refine keeps_next _ _ ?_
  split
  · exact .refl _ s
  · split
    · exact .refl _ s
    · split
      · split
        · exact .of_keep (by simp)
        · exact .of_keep (by simp)
      · next src _ _ _ b =>
        have himage := Endures.writeImageArea (.recoveryImageReceived (some b)) s
          ((s.boot.recHeader ++ b.drop 4096).take (fieldAt s.boot.recHeader 0x14 4))
        dsimp only
        split
        · exact himage.congr (by simp)
        · exact himage.congr (by simp)

theorem State.keep_warmReset (hon : s.boot.powered = true) : s.warmReset.keep = s.keep := by
  have hfns : (allFns.foldl (fun a f => a.resetFn f) s).keep = s.keep := keep_foldl _ (fun a f => keep_State_resetFn a f) _ _
  unfold State.warmReset
  generalize allFns.foldl (fun a f => a.resetFn f) s = u at hfns
  refine (keep_upd u ?_ ?_ ?_).trans hfns
  · rfl
  · rfl
  · simp only [State.keep, Prod.mk.injEq] at hfns
    obtain ⟨-, -, -, -, -, hpowered⟩ := hfns
    exact (hpowered.trans hon).symm

theorem endures_warmReset (s : State) : Out.keeps (Endures .warmReset s) (exec .warmReset s) := by
  refine keeps_next _ _ ?_
  split
  case isTrue hdue =>
    simp only [Bool.and_eq_true] at hdue
    exact .of_keep (State.keep_warmReset hdue.1.1)
  case isFalse => exact .refl _ s

/-- FW_UPDATE ends with flash untouched, or with the image area written (R407). -/
theorem endures_fwUpdate (h : CmdHead) (addr len : Nat) (image : Option (List Byte)) (s : State) :
    Out.keeps (Endures (.fwUpdate h addr len image) s) (exec (.fwUpdate h addr len image) s) := by
  refine keeps_withUnit _ _ _ ?_
  unfold runCmd
  split
  · exact .refl _ s
  split
  · exact .of_keep (by simp [State.endCmd])
  split
  · exact .of_keep (by simp [State.endCmd])
  cases image with
  | none => exact .of_keep (by simp [State.endCmd])
  | some bytes =>
    dsimp only
    split
    · exact .of_keep (by simp [State.endCmd])
    · simp only [State.endCmd]
      split
      · exact .refl _ s
      · exact (Endures.writeImageArea _ s ((bytes.take len).take (fieldAt (bytes.take len) 0x14 4))).congr (by simp)

theorem exec_endures (c : Instr) (s : State) : Out.keeps (Endures c s) (exec c s) := by
  cases hc : writesLasting c with
  | false => exact fun t ht => .of_keep (exec_keep c s hc t ht)
  | true =>
    match c, hc with
    | .fwUpdate h addr len image, _ => exact endures_fwUpdate h addr len image s
    | .errorDetected r, _ => exact endures_errorDetected r s
    | .patrolScrub p, _ => exact endures_patrolScrub p s
    | .thermalShutdown r, _ => exact endures_thermalShutdown r s
    | .powerApplied, _ => exact endures_powerApplied s
    | .inputDisconnect vin micros, _ => exact endures_inputDisconnect vin micros s
    | .firmwareReady, _ => exact endures_firmwareReady s
    | .recoveryImageReceived image, _ => exact endures_recoveryImageReceived image s
    | .warmReset, _ => exact endures_warmReset s

end Endures

/-- Settles O1: it is how a step treats a queue that is not empty. -/
theorem stepRunsFront : Obligations.StepRunsFront := by
  intro c rest s h
  simp only [step, h]

/-- Settles O46: a command endures by its row (`exec_endures`), and a tick of an empty queue writes nothing that lasts. -/
theorem everyStepLasts : Obligations.EveryStepLasts := by
  intro s t ht
  cases hp : s.pending with
  | nil =>
    have htick : s.tick = t := by simpa only [step, hp, Host.Outcome.next.injEq] using ht
    have hkeep : t.keep = s.keep := htick ▸ keep_State_tick s
    have hlasting : Lasting s t := (Lasting.refl s).congr hkeep
    simp only [State.keep, Prod.mk.injEq] at hkeep
    obtain ⟨hpending, -, -, -, hhalted, -⟩ := hkeep
    exact ⟨hlasting, nofun, fun _ => hpending.trans hp, fun _ h => .inl (hhalted.trans h)⟩
  | cons c rest =>
    have he : Endures c { s with pending := rest } t := exec_endures c _ t (by simpa only [step, hp] using ht)
    refine ⟨⟨he.lasting.order, he.lasting.fuses, he.lasting.svn, he.lasting.key0, he.lasting.image, he.lasting.halted⟩, ?_, nofun, ?_⟩
    · rintro c' rest' h
      cases h
      exact he.pending
    · intro hon hhalted
      refine (he.halt hon hhalted).imp id ?_
      rintro ⟨vin, micros, rfl⟩
      exact ⟨vin, micros, rest, rfl⟩

/-- Settles O48: the rows of jobs leave the hardware state (`exec_hw`), whose parts the statement names. -/
theorem hardwareFrame : Obligations.HardwareFrame := by
  intro c s t hc ht
  have hhw : t.hw = s.hw := exec_hw c s hc t ht
  simp only [State.hw, Prod.mk.injEq] at hhw
  obtain ⟨hpending, horder, hfuses, hflash, hboot, hlink, hvfs, hregions, hlend, hlasers, hcarts, hlogRegs, htelem, hrings, hclients⟩ := hhw
  exact ⟨horder, hfuses, hflash, hboot, hlink, hvfs, hregions, hlend, hlasers, hcarts, hlogRegs, htelem, hrings, hclients, hpending⟩

end Sys2Proof.Machine

namespace Sys2Proof.Machine

/-! SUPPORT. Commands on contexts, rings and client counts (R288, R358 to R360). -/

section ContextCommands

variable {h : CmdHead} {ctx : Nat} {x : Ctx} {s : State}

/-! ### CONTEXT_CREATE (R358) -/

theorem exec_contextCreate {p : ContextParams} {part : Part} {n : Nat} (ht : Taken h false s) (hclient : p.client ≤ 4095)
    (hprio : p.priority ≤ 3) (hchain : 32 ≤ p.chainArea) (hpart : Tab.get s.parts p.partition = some part)
    (hserves : part.params.functions.getLsbD h.fn = true) (hn : lowestFree 1024 (Tab.keys s.ctxs) = some n)
    (hquota : s.quotaExceeded part p = false) (hroom : s.journalRoom 1 = true) :
    exec (.contextCreate h p) s
      = .next (ok h [(2, n)] (((s.setCtx n (newCtx h.fn p)).takeEarly n).journalOp n (.contextCreate h.fn p))) := by
  have hrange : (decide (4095 < p.client) || decide (3 < p.priority) || decide (p.chainArea < 32)) = false := by
    simp [hclient, hprio, hchain]
  show execContextCreate h p s = _
  rw [execContextCreate, gheit_taken ht hrange, hpart]
  dsimp only
  rw [hserves, Bool.not_true, if_neg Bool.false_ne_true, hn]
  dsimp only
  rw [refuseIf_false hquota, refuseIf_nil]
  exact congrArg _ (State.endCmd_journalOp hroom le_rfl)

/-- The context that CONTEXT_CREATE makes, with the messages that came before it (log entry 147). -/
theorem State.takeEarly_setCtx (s : State) (n : Nat) (x : Ctx) (hx : x.waitingMsgs = []) :
    (s.setCtx n x).takeEarly n = { s with
      ctxs := Tab.set s.ctxs n { x with waitingMsgs := (s.net.early.filter (fun e => e.1 = n)).map (·.2) }
      net := { s.net with early := s.net.early.filter (fun e => e.1 != n) } } := by
  rw [State.takeEarly, State.modCtx_some _ _ (State.ctx?_setCtx_self s n x), hx, State.ctxs_setCtx, Tab.set_set]
  rfl

/-! ### CONTEXT_DESTROY (R358) -/

/-- Ending the commands that wait for a context that goes leaves the journals. -/
theorem State.jr_endWaiters (s : State) (ctx : Nat) : (s.endWaiters ctx).jr = s.jr := by
  unfold State.endWaiters
  refine foldl_keeps State.jr (fun a f => ?_) _ _
  split
  · split
    · exact State.jr_finishCmd _ _ _ _ _
    · rfl
  · rfl

theorem exec_contextDestroy (ht : Taken h false s) (ho : Owned h ctx x s) (hkey : s.key ctx = none) (hroom : s.journalRoom 1 = true) :
    exec (.contextDestroy h ctx) s
      = .next (ok h [] (((s.dropCtx ctx).endWaiters ctx).journalOp 0xFFFF (.contextDestroy ctx))) := by
  show execContextDestroy h ctx s = _
  rw [execContextDestroy, gheit_owned ht ho rfl, refuseIf_false (by rw [hkey]; rfl), refuseIf_nil]
  refine congrArg _ (State.endCmd_journalOp hroom ?_)
  rw [State.jr_endWaiters]
  exact List.length_filter_le _ _

/-! ### CONTEXT_PRIORITY, CONTEXT_QUERY (R358, R374) -/

/-- The state with a context's priority changed and the change journaled. -/
def State.withPriority (s : State) (ctx : Nat) (x : Ctx) (prio : Nat) : State :=
  State.journalOp { s with ctxs := Tab.set s.ctxs ctx { x with priority := prio } } ctx (.contextPriority ctx prio)

theorem State.overfull_withPriority {prio : Nat} (hroom : s.journalRoom 1 = true) : s.overfull (s.withPriority ctx x prio) = false :=
  State.overfull_journalOp (t := { s with ctxs := Tab.set s.ctxs ctx { x with priority := prio } }) hroom le_rfl

theorem exec_contextPriority {prio : Nat} (ht : Taken h false s) (ho : Owned h ctx x s) (hprio : prio ≤ 3) (hroom : s.journalRoom 1 = true) :
    exec (.contextPriority h ctx prio) s = .next (ok h []
      (if x.priority < prio && x.state = .runnable && !s.holdsSlice ctx then (s.withPriority ctx x prio).arrive ctx
       else s.withPriority ctx x prio)) := by
  have hfits : s.overfull (if x.priority < prio && x.state = .runnable && !s.holdsSlice ctx then (s.withPriority ctx x prio).arrive ctx
      else s.withPriority ctx x prio) = false := by
    split
    · rw [State.overfull, State.jr_arrive]
      exact State.overfull_withPriority hroom
    · exact State.overfull_withPriority hroom
  show execContextPriority h ctx prio s = _
  rw [execContextPriority, gheit_owned ht ho (decide_eq_false hprio.not_gt), s.modCtx_some _ ho.1]
  exact congrArg _ (s.endCmd_ok h [] _ hfits)

theorem exec_contextQuery (ht : Taken h false s) (ho : Owned h ctx x s) :
    exec (.contextQuery h ctx) s = .next (ok h
      [(1, x.state.code), (1, if x.resident then 1 else 0), (1, x.priority), (8, x.blockTime)] s) := by
  show execContextQuery h ctx s = _
  rw [execContextQuery, gheit_owned ht ho rfl]
  exact congrArg _ (s.endCmd_ok h _ s (State.overfull_of_own s s le_rfl))

/-! ### Rings (R360) -/

theorem exec_ringCreate {p : RingParams} {g : Nat} (ht : Taken h false s) (ho : Owned h p.ctx x s) (hdepth : ringDepthOk p.depth = true)
    (hticket : p.ticketAddr % 128 = 0) (hcompl : p.complAddr % 32 = 0) (hctrl : p.ctrlAddr % 128 = 0) (hticket64 : p.ticketAddr < 2 ^ 64)
    (hcompl64 : p.complAddr < 2 ^ 64) (hctrl64 : p.ctrlAddr < 2 ^ 64) (hvector : vectorOk x.owner p.vector = true)
    (hg : lowestFree 16384 (Tab.keys s.rings) = some g) (hroom : s.journalRoom 1 = true) :
    exec (.ringCreate h p) s = .next (ok h [(2, g)]
      (State.journalOp { s with rings := Tab.set s.rings g { params := p } } p.ctx (.ringCreate p))) := by
  have hgood : (!ringDepthOk p.depth || p.ticketAddr % 128 != 0 || p.complAddr % 32 != 0 || p.ctrlAddr % 128 != 0
      || !fits 64 p.ticketAddr || !fits 64 p.complAddr || !fits 64 p.ctrlAddr) = false := by
    rw [hdepth, hticket, hcompl, hctrl, not_fits_eq_false hticket64, not_fits_eq_false hcompl64, not_fits_eq_false hctrl64]
    rfl
  show execRingCreate h p s = _
  rw [execRingCreate, gheit_owned ht ho hgood, hvector, Bool.not_true, if_neg Bool.false_ne_true, hg]
  exact congrArg _ (State.endCmd_journalOp hroom le_rfl)

/-- A ring is free once nothing of it is being journaled and its context has no ticket of it (R360). -/
theorem State.ringBusy_of_idle {g : Nat} {r : Ring} (hx : s.ctx? r.params.ctx = some x) (hj : r.journaling = none)
    (hruns : ∀ q ∈ x.runs, q.ring ≠ g) : s.ringBusy g r = false := by
  have hany : x.runs.any (fun q => decide (q.ring = g)) = false := by
    rw [List.any_eq_false]
    exact fun q hq => by simpa using hruns q hq
  rw [State.ringBusy, hj, hx]
  exact hany

theorem exec_ringDestroy {g : Nat} {r : Ring} (ht : Taken h false s) (hr : Tab.get s.rings g = some r) (ho : Owned h r.params.ctx x s)
    (hbusy : s.ringBusy g r = false) (hroom : s.journalRoom 1 = true) :
    exec (.ringDestroy h g) s = .next (ok h []
      (State.journalOp { s with rings := Tab.erase s.rings g } r.params.ctx (.ringDestroy g))) := by
  show execRingDestroy h g s = _
  rw [execRingDestroy, gheit_taken ht rfl, hr]
  dsimp only
  rw [forOwner_owned ho, refuseIf_false hbusy, refuseIf_nil]
  exact congrArg _ (State.endCmd_journalOp hroom le_rfl)

/-! ### CLIENT_COUNTS (R359) -/

theorem exec_clientCounts {client : Nat} (ht : Taken h true s) (hclient : client ≤ 4095) :
    exec (.clientCounts h client) s = .next (ok h
      [(8, (Tab.getD s.clients client {}).accepted), (8, (Tab.getD s.clients client {}).completed),
       (8, (Tab.getD s.clients client {}).faulted)] s) := by
  show execClientCounts h client s = _
  rw [execClientCounts, gheit_taken ht (decide_eq_false hclient.not_gt)]
  exact congrArg _ (s.endCmd_ok h _ s (State.overfull_of_own s s le_rfl))

end ContextCommands

/-- Settles O4: a block that is taken and owned runs its body on the context (`gheit_owned`), where no condition of a refusal
holds; the new context takes up the messages that came before it (`takeEarly_setCtx`). -/
theorem contextCommandsComplete : Obligations.ContextCommandsComplete := by
  unfold Obligations.ContextCommandsComplete
  refine ⟨?create, ?destroy, ?priority, fun h ctx x s ht ho => exec_contextQuery ht ho⟩
  case create =>
    intro h p part n s ht hclient hprio hchain hpart hserves hn hquota hroom
    rw [exec_contextCreate ht hclient hprio hchain hpart hserves hn hquota hroom, State.takeEarly_setCtx _ _ _ rfl]
    rfl
  case destroy =>
    intro h ctx x s ht ho hkey hroom
    exact exec_contextDestroy ht ho hkey hroom
  case priority =>
    intro h ctx prio x s ht ho hprio hroom
    have hexec := exec_contextPriority ht ho hprio hroom
    refine ⟨s.withPriority ctx x prio, rfl, fun hstays => ?_, fun hrises hrunnable hholds => ?_⟩
    · rw [hexec, if_neg]
      simp only [Bool.and_eq_true, decide_eq_true_eq, Bool.not_eq_true']
      rintro ⟨⟨hrises, hrunnable⟩, hholds⟩
      rcases hstays with hle | hstate | hslice
      · omega
      · exact hstate hrunnable
      · rw [hslice] at hholds
        exact Bool.noConfusion hholds
    · rw [hexec, if_pos]
      simp [hrises, hrunnable, hholds]

/-- Settles O5: each command finds its ring, or a free number, and no condition of a refusal holds. -/
theorem ringCommandsComplete : Obligations.RingCommandsComplete := by
  unfold Obligations.RingCommandsComplete
  refine ⟨?create, ?destroy, fun h client s ht hclient => exec_clientCounts ht hclient⟩
  case create =>
    intro h p x g s ht ho hdepth hticket hcompl hctrl hticket64 hcompl64 hctrl64 hvector hg hroom
    exact exec_ringCreate ht ho hdepth hticket hcompl hctrl hticket64 hcompl64 hctrl64 hvector hg hroom
  case destroy =>
    intro h g r x s ht hr ho hj hruns hroom
    exact exec_ringDestroy ht hr ho (State.ringBusy_of_idle ho.1 hj hruns) hroom

end Sys2Proof.Machine

namespace Sys2Proof.Machine

/-! SUPPORT. Event records (R382), the registers of a function and its doorbells (R351, R362), command blocks (R353 to R355, R478). -/

section FunctionRows

variable {fn : Nat} {s : State}

/-! ### Events (R382) -/

theorem State.event_written (ty ctx detail detail2 : Nat) (ha : (s.fn fn).avail = true) (he : (s.fn fn).evq.enable = true)
    (hfull : ((s.fn fn).evq.tail + 1) % 2 ^ (s.fn fn).evq.logDepth ≠ (s.fn fn).evq.head % 2 ^ (s.fn fn).evq.logDepth) :
    s.event fn ty ctx detail detail2 = (s.setFn fn { s.fn fn with evq := { (s.fn fn).evq with
        seq := (s.fn fn).evq.seq + 1, tail := ((s.fn fn).evq.tail + 1) % 2 ^ (s.fn fn).evq.logDepth } }).emit
      [.write fn ((s.fn fn).evq.baseLo.toNat + 2 ^ 32 * (s.fn fn).evq.baseHi.toNat + 32 * (s.fn fn).evq.tail)
        (eventBytes ((s.fn fn).evq.seq + 1) ty ctx detail s.time.now detail2), .vector fn (s.fn fn).evq.vector] := by
  unfold State.event
  dsimp only
  rw [if_neg]
  simpa [ha, he] using hfull

theorem State.event_lost (ty ctx detail detail2 : Nat)
    (h : (s.fn fn).avail = false ∨ (s.fn fn).evq.enable = false
      ∨ ((s.fn fn).evq.tail + 1) % 2 ^ (s.fn fn).evq.logDepth = (s.fn fn).evq.head % 2 ^ (s.fn fn).evq.logDepth) :
    s.event fn ty ctx detail detail2 = s.setFn fn { s.fn fn with evq := { (s.fn fn).evq with
        seq := (s.fn fn).evq.seq + 1, lost := satAdd 32 (s.fn fn).evq.lost 1 } } := by
  unfold State.event
  dsimp only
  rw [if_pos]
  simpa [or_assoc] using h

/-- An event is written or lost: the cases of R382. -/
theorem State.event_cases (s : State) (fn : Nat) :
    ((s.fn fn).avail = true ∧ (s.fn fn).evq.enable = true
      ∧ ((s.fn fn).evq.tail + 1) % 2 ^ (s.fn fn).evq.logDepth ≠ (s.fn fn).evq.head % 2 ^ (s.fn fn).evq.logDepth)
    ∨ ((s.fn fn).avail = false ∨ (s.fn fn).evq.enable = false
      ∨ ((s.fn fn).evq.tail + 1) % 2 ^ (s.fn fn).evq.logDepth = (s.fn fn).evq.head % 2 ^ (s.fn fn).evq.logDepth) := by
  cases (s.fn fn).avail <;> cases (s.fn fn).evq.enable <;> simp [eq_or_ne, or_comm]

@[simp] theorem length_leBytes (n w : Nat) : (leBytes n w).length = n := by
  induction n generalizing w with
  | zero => rfl
  | succ n ih => rw [leBytes, List.length_cons, ih]

theorem length_eventBytes (seq ty ctx detail time detail2 : Nat) : (eventBytes seq ty ctx detail time detail2).length = 32 := by
  simp [eventBytes, le]

@[simp] theorem State.fn_emit (s : State) (l : List HostItem) (g : Nat) : (s.emit l).fn g = s.fn g := rfl

/-! ### Mailbox and event-queue registers (R351) -/

theorem fn_row (hfn : fn ≤ 62) (hl : s.live = true) (t : State) : withUnit (fn ≤ 62) (if s.live then t else s) = .next t := by
  rw [withUnit_next _ (decide_eq_true hfn), if_pos hl]

theorem State.mboxCfg_enable {v : Word32} (hoff : (s.fn fn).mbox.enable = false) (hon : bitOf v.toNat 31 = true)
    (hmin : 4 ≤ fieldOf v.toNat 3 0) (hmax : fieldOf v.toNat 3 0 ≤ 10) (hv : vectorOk fn (fieldOf v.toNat 26 16) = true) :
    s.mboxCfg fn v = s.setFn fn { s.fn fn with mbox := { (s.fn fn).mbox with
      logDepth := fieldOf v.toNat 3 0, vector := fieldOf v.toNat 26 16, enable := true, head := 0, tail := 0, stopped := false
      badBlock := none, restarted := true } } := by
  have hgood : (decide (fieldOf v.toNat 3 0 < 4) || decide (10 < fieldOf v.toNat 3 0) || !vectorOk fn (fieldOf v.toNat 26 16)) = false := by
    simp [hmin, hmax, hv]
  simp only [State.mboxCfg, State.modFn, hoff, hon, hgood, Bool.false_eq_true, if_false, if_true]

theorem State.evqCfg_enable {v : Word32} (hoff : (s.fn fn).evq.enable = false) (hon : bitOf v.toNat 31 = true)
    (hmin : 4 ≤ fieldOf v.toNat 3 0) (hmax : fieldOf v.toNat 3 0 ≤ 12) (hv : vectorOk fn (fieldOf v.toNat 26 16) = true) :
    s.evqCfg fn v = s.setFn fn { s.fn fn with evq := { (s.fn fn).evq with
      logDepth := fieldOf v.toNat 3 0, vector := fieldOf v.toNat 26 16, enable := true, head := 0, tail := 0 } } := by
  have hgood : (decide (fieldOf v.toNat 3 0 < 4) || decide (12 < fieldOf v.toNat 3 0) || !vectorOk fn (fieldOf v.toNat 26 16)) = false := by
    simp [hmin, hmax, hv]
  simp only [State.evqCfg, State.modFn, hoff, hon, hgood, Bool.false_eq_true, if_false, if_true]

/-- A new TAIL whose blocks can be read stops no mailbox that has not reached a block that cannot (log entry 158). -/
theorem Mbox.setTail_readable {m : Mbox} (hbad : m.badBlock = none ∨ m.badBlock ≠ some m.head) (tail : Nat) :
    m.setTail tail false = { m with tail := tail } := by
  have hhead : decide (m.badBlock = some m.head) = false := by
    rcases hbad with h | h
    · simp [h]
    · exact decide_eq_false h
  simp only [Mbox.setTail, Bool.false_and, Bool.false_eq_true, if_false, hhead, Bool.and_false, Bool.or_false]

/-- A mailbox at rest stops at once at a block that cannot be read (log entry 158). -/
theorem Mbox.setTail_unreadable {m : Mbox} {tail : Nat} (hbad : m.badBlock = none) (hw : m.waiting = none) (hrest : m.head = m.tail)
    (hmoves : tail ≠ m.tail) : m.setTail tail true = { m with tail := tail, badBlock := some m.tail, stopped := true } := by
  simp [Mbox.setTail, hbad, hw, hrest, hmoves]

theorem State.mboxTail_eq (s : State) (fn : Nat) (v : Word32) (readFails : Bool) :
    s.mboxTail fn v readFails = s.setFn fn { s.fn fn with mbox :=
      if (s.fn fn).mbox.enable then (s.fn fn).mbox.setTail (fieldOf v.toNat 9 0 % 2 ^ (s.fn fn).mbox.logDepth) readFails
      else { (s.fn fn).mbox with dropped := satAdd 16 (s.fn fn).mbox.dropped 1 } } := rfl

/-! ### Doorbells (R362) -/

theorem State.doorbell_raises {g tail : Nat} {r : Ring} (hr : Tab.get s.rings g = some r) (ho : s.ownerOf r.params.ctx = fn)
    (hnew : r.accepted < tail) (h64 : tail < 2 ^ 64) :
    s.doorbell fn g 8 tail = s.setRing g { r with tail := max r.tail tail, stopped := false } := by
  have hsame : ((8 : Nat) != 8 || s.ownerOf r.params.ctx != fn) = false := by simp [ho]
  have hpos : tail ≠ 0 := by omega
  simp only [State.doorbell, hr, hsame, Bool.false_eq_true, if_false, Nat.mod_eq_of_lt h64, if_neg hpos, if_pos hnew]

theorem State.doorbell_dropped {g width : Nat} (tail : Nat)
    (h : Tab.get s.rings g = none ∨ ∃ r, Tab.get s.rings g = some r ∧ (width ≠ 8 ∨ s.ownerOf r.params.ctx ≠ fn)) :
    s.doorbell fn g width tail = s.badDoorbell fn := by
  rcases h with hnone | ⟨r, hr, hbad⟩
  · simp only [State.doorbell, hnone]
  · have hdrop : (width != 8 || s.ownerOf r.params.ctx != fn) = true := by simpa using hbad
    simp only [State.doorbell, hr, hdrop, if_true]

end FunctionRows

/-- Settles O56: an event is written (`event_written`) or lost (`event_lost`), and either touches its function alone. -/
theorem eventRecords : Obligations.EventRecords := by
  intro s fn ty ctx detail detail2
  refine ⟨?seq, ?others, ?written, ?lost⟩
  case seq =>
    rcases s.event_cases fn with ⟨ha, he, hroom⟩ | h
    · rw [State.event_written ty ctx detail detail2 ha he hroom, State.fn_emit, State.fn_setFn_self]
    · rw [State.event_lost ty ctx detail detail2 h, State.fn_setFn_self]
  case others =>
    intro g hg
    rcases s.event_cases fn with ⟨ha, he, hroom⟩ | h
    · rw [State.event_written ty ctx detail detail2 ha he hroom, State.fn_emit, State.fn_setFn_ne _ _ hg]
    · rw [State.event_lost ty ctx detail detail2 h, State.fn_setFn_ne _ _ hg]
  case written =>
    intro ha he hroom
    rw [State.event_written ty ctx detail detail2 ha he hroom, State.fn_emit, State.fn_setFn_self]
    exact ⟨rfl, rfl, _, length_eventBytes _ _ _ _ _ _, rfl, rfl⟩
  case lost =>
    intro h
    rw [State.event_lost ty ctx detail detail2 (.inr h), State.fn_setFn_self]
    exact ⟨rfl, rfl, rfl⟩

/-- Settles O13: each write is taken by its function (`fn_row`) and does what its branch says; `satAdd` is the counter that holds at
its largest value. -/
theorem functionRegisterRowsComplete : Obligations.FunctionRegisterRowsComplete := by
  unfold Obligations.FunctionRegisterRowsComplete
  refine ⟨?mboxCfg, ?evqCfg, ?tail, ?badTail, ?doorbell, ?badDoorbell⟩
  case mboxCfg =>
    intro fn v s hfn hl hoff hon hmin hmax hv
    exact (fn_row hfn hl _).trans (congrArg _ (State.mboxCfg_enable hoff hon hmin hmax hv))
  case evqCfg =>
    intro fn v s hfn hl hoff hon hmin hmax hv
    exact (fn_row hfn hl _).trans (congrArg _ (State.evqCfg_enable hoff hon hmin hmax hv))
  case tail =>
    intro fn v s hfn hl hbad
    refine (fn_row hfn hl _).trans (congrArg _ ?_)
    rw [State.mboxTail_eq, Mbox.setTail_readable hbad]
    rfl
  case badTail =>
    intro fn v s hfn hl hen hbad hw hrest hmoves
    refine (fn_row hfn hl _).trans (congrArg _ ?_)
    rw [State.mboxTail_eq, if_pos hen, Mbox.setTail_unreadable hbad hw hrest hmoves]
  case doorbell =>
    intro fn g tail r s hfn hl hr ho hnew h64
    exact (fn_row hfn hl _).trans (congrArg _ (State.doorbell_raises hr ho hnew h64))
  case badDoorbell =>
    intro fn g width tail s hfn hl h
    exact (fn_row hfn hl _).trans (congrArg _ (State.doorbell_dropped tail h))

end Sys2Proof.Machine

namespace Sys2Proof.Machine

/-! SUPPORT. Command blocks: what refuses them, their completion words, their parameters (R353 to R355, R478). -/

section CommandBlocks

variable {h : CmdHead} {bad pf : Bool} {body : State → CmdEnd} {s : State}

/-! ### What ends a block before its command runs (R353 to R355) -/

theorem gheit_untaken (hfn : h.fn ≤ 62) (hc : s.canTake h.fn = false) : gheit h bad pf body s = .next s := by
  simp [gheit, withUnit, hfn, runCmd, hc]

theorem gheit_malformed (hfn : h.fn ≤ 62) (hc : s.canTake h.fn = true) (hb : (h.reserved || bad) = true) :
    gheit h bad pf body s = .next (s.finishCmd h 2 0 []) := by
  simp only [gheit, withUnit_next _ (decide_eq_true hfn), runCmd, hc, hb, Bool.not_true, Bool.false_eq_true, if_false, if_true, State.endCmd]

theorem gheit_notPermitted (hfn : h.fn ≤ 62) (hvf : h.fn ≠ 0) (hc : s.canTake h.fn = true) (hr : h.reserved = false) :
    gheit h false true body s = .next (s.finishCmd h 3 0 []) := by
  have hdenied : (true && h.fn != 0) = true := by simpa using hvf
  simp only [gheit, withUnit_next _ (decide_eq_true hfn), runCmd, hc, hr, hdenied, Bool.not_true, Bool.or_self, Bool.false_eq_true,
    if_false, if_true, State.endCmd]

theorem forOwner_foreign {ctx : Nat} {x : Ctx} {k : Ctx → CmdEnd} (hx : s.ctx? ctx = some x) (howner : h.fn ≠ x.owner) (hvf : h.fn ≠ 0) :
    forOwner h ctx k s = .notPermitted := by
  simp [forOwner, hx, howner, hvf]

theorem forOwner_missing {ctx : Nat} {k : Ctx → CmdEnd} (hx : s.ctx? ctx = none) : forOwner h ctx k s = .refused 0x12 0 := by
  simp [forOwner, hx]

/-! ### Completion (R353) -/

theorem State.fnWrite_avail {fn a : Nat} {b : List Byte} (ha : (s.fn fn).avail = true) : s.fnWrite fn a b = s.emit [.write fn a b] := by
  rw [State.fnWrite, if_pos ha]

/-- The three words of a completion, STATUS last. -/
def completionWords (fn a status cause : Nat) (res : List Byte) : List HostItem :=
  [.write fn (a + 16) (res ++ List.replicate (16 - res.length) 0), .write fn (a + 10) (leBytes 2 cause), .write fn (a + 8) (leBytes 2 status)]

/-- A command of an available function ends without a vector. -/
theorem State.finishCmd_eq {status cause a : Nat} {res : List Byte} (ha : (s.fn h.fn).avail = true) (hirq : h.irq = false)
    (hend : (s.fn h.fn).mbox.endAddr = some a) :
    s.finishCmd h status cause res =
      if (s.fn h.fn).mbox.waiting.isSome
      then (s.emit (completionWords h.fn a status cause res)).modFn h.fn (fun g => { g with mbox := g.mbox.advance })
      else ((s.emit (completionWords h.fn a status cause res)).modFn h.fn (fun g => { g with mbox := g.mbox.advance })).granted h.fn := by
  have hwords : ((s.fnWrite h.fn (a + 16) (res ++ List.replicate (16 - res.length) 0)).fnWrite h.fn (a + 10) (le 2 cause)).fnWrite
      h.fn (a + 8) (le 2 status) = s.emit (completionWords h.fn a status cause res) := by
    rw [State.fnWrite_avail ha, State.fnWrite_avail (s := s.emit _) ha, State.fnWrite_avail (s := (s.emit _).emit _) ha]
    simp only [State.emit, completionWords, le, List.append_assoc, List.cons_append, List.nil_append]
  simp only [State.finishCmd, hend, hirq, Bool.false_and, Bool.false_eq_true, if_false, hwords]

theorem Mbox.head_advance {m : Mbox} (hm : m.waiting = none ∨ m.restarted = false) : m.advance.head = (m.head + 1) % 2 ^ m.logDepth := by
  have hpasses : (m.waiting.isSome && m.restarted) = false := by
    rcases hm with hw | hr
    · rw [hw]; rfl
    · rw [hr, Bool.and_false]
  simp only [Mbox.advance, hpasses, Bool.false_eq_true, if_false]

theorem Mbox.head_advance_restarted {m : Mbox} (hw : m.waiting.isSome = true) (hr : m.restarted = true) : m.advance.head = m.head := by
  simp only [Mbox.advance, hw, hr, Bool.and_self, if_true]

theorem Mbox.endAddr_of_none {m : Mbox} (hw : m.waiting = none) : m.endAddr = some m.blockAddr := by
  rw [Mbox.endAddr, hw]
  rfl

theorem Mbox.endAddr_of_some {m : Mbox} (hw : m.waiting.isSome = true) : m.endAddr = m.block := if_pos hw

theorem State.finishCmd_completes {status cause a : Nat} {res : List Byte} (ha : (s.fn h.fn).avail = true) (hirq : h.irq = false)
    (hend : (s.fn h.fn).mbox.endAddr = some a) :
    ∃ t : State, t = s.finishCmd h status cause res ∧ t.hostOut = s.hostOut ++ completionWords h.fn a status cause res
      ∧ (t.fn h.fn).mbox = (s.fn h.fn).mbox.advance ∧ t = { s with funs := t.funs, arb := t.arb, hostOut := t.hostOut } := by
  refine ⟨_, rfl, ?_⟩
  rw [State.finishCmd_eq ha hirq hend]
  have hmbox : (((s.emit (completionWords h.fn a status cause res)).modFn h.fn (fun g => { g with mbox := g.mbox.advance })).fn h.fn).mbox
      = (s.fn h.fn).mbox.advance := by
    rw [State.modFn, State.fn_setFn_self]
    rfl
  split
  · exact ⟨rfl, hmbox, rfl⟩
  · exact ⟨rfl, hmbox, rfl⟩

/-! ### Parameters (R478) -/

/-- The places of the parameters of TENSOR_CREATE. -/
def tensorPlaces : List (Nat × Nat) :=
  [(32, 2), (34, 1), (35, 1), (36, 1), (40, 4), (44, 4), (48, 4), (52, 4), (56, 4), (60, 4), (64, 1), (65, 1), (66, 1),
   (68, 2), (70, 2), (72, 2), (76, 4), (80, 4)]

theorem paramPlaces_tensorCreate : (blockLayout 0x0201).map paramPlaces = some tensorPlaces := rfl

/-- The entries of DIMS up to RANK. -/
theorem arrayOf_dims (b : List Byte) {rank : Nat} (hrank : rank ≤ 6) :
    arrayOf (tensorPlaces.map (fun p => fieldAt b p.1 p.2)) 4 6 rank = (List.range rank).map (fun i => fieldAt b (40 + 4 * i) 4) := by
  have hsix : ((tensorPlaces.map (fun p => fieldAt b p.1 p.2)).drop 4).take 6 = (List.range 6).map (fun i => fieldAt b (40 + 4 * i) 4) := rfl
  rw [arrayOf, hsix, ← List.map_take, List.take_range, Nat.min_eq_left hrank]

/-- The command that a block of TENSOR_CREATE spells, its dimensions those up to RANK; it is malformed as the block is, or by more. -/
theorem blockInstr_tensorCreate {fn : Nat} {b : List Byte} {mem : HostRead} (hop : fieldAt b 0 2 = 0x0201) (hrank : fieldAt b 36 1 ≤ 6) :
    ∃ (bad : Bool) (kv : KvView), blockInstr fn b mem =
      .tensorCreate { blockHead fn b ((blockLayout 0x0201).getD []) with
          reserved := (blockHead fn b ((blockLayout 0x0201).getD [])).reserved || bad } (fieldAt b 32 2)
        { kind := fieldAt b 34 1, format := fieldAt b 35 1, dims := (List.range (fieldAt b 36 1)).map (fun i => fieldAt b (40 + 4 * i) 4)
          t := signedOf (fieldAt b 64 1) 8, persistent := fieldAt b 65 1 = 1, pin := fieldAt b 66 1 = 1, kv := kv } := by
  rw [← arrayOf_dims b hrank]
  simp only [blockInstr, hop]
  exact ⟨_, _, rfl⟩

/-- A reserved byte between RANK and DIMS that is not zero makes the block malformed. -/
theorem reserved_blockHead_tensorCreate {fn i : Nat} {b : List Byte} (hlo : 37 ≤ i) (hhi : i ≤ 39) (hb : b.getD i 0 ≠ 0) :
    (blockHead fn b ((blockLayout 0x0201).getD [])).reserved = true := by
  have hspare : spareByte tensorPlaces i = true := by
    interval_cases i <;> rfl
  have hany : (List.range 256).any (fun i => spareByte tensorPlaces i && b.getD i 0 != 0) = true := by
    rw [List.any_eq_true]
    exact ⟨i, List.mem_range.mpr (by omega), by simpa [hspare] using hb⟩
  show (_ || _) = true
  rw [Bool.or_eq_true]
  exact .inr hany

/-! ### Unknown opcodes (R354) -/

theorem schedBlock_of_unknown {op : Nat} (hop : blockLayout op = none) (h : CmdHead) (ps : List Nat) : schedBlock op h ps = none := by
  unfold schedBlock
  split
  case h_11 => rfl
  all_goals exact absurd hop nofun

theorem objectBlock_of_unknown {op : Nat} (hop : blockLayout op = none) (h : CmdHead) (ps : List Nat) (mem : HostRead) :
    objectBlock op h ps mem = none := by
  unfold objectBlock
  split
  case h_19 => rfl
  all_goals exact absurd hop nofun

theorem moduleBlock_of_unknown {op : Nat} (hop : blockLayout op = none) (h : CmdHead) (ps : List Nat) (mem : HostRead) :
    moduleBlock op h ps mem = none := by
  unfold moduleBlock
  split
  case h_18 => rfl
  all_goals exact absurd hop nofun

theorem blockInstr_of_unknown {fn : Nat} {b : List Byte} {mem : HostRead} (hop : blockLayout (fieldAt b 0 2) = none) :
    blockInstr fn b mem = malformedBlock (blockHead fn b []) := by
  simp only [blockInstr, schedBlock_of_unknown hop, objectBlock_of_unknown hop, moduleBlock_of_unknown hop, hop]
  rfl

end CommandBlocks

/-- Settles O57: what ends a block by the branch of `runCmd` that is taken (`gheit_untaken`, `gheit_malformed`, `gheit_notPermitted`),
its words by `finishCmd_completes`, its parameters by the places of the layout. -/
theorem commandBlocks : Obligations.CommandBlocks := by
  unfold Obligations.CommandBlocks
  refine ⟨?untaken, ?reserved, ?physical, ?foreign, ?missing, ?words, ?address, ?places, ?tensor, ?unknown⟩
  case untaken => exact fun h p s hfn hc => gheit_untaken hfn hc
  case reserved => exact fun h n q s hfn hc hr => gheit_malformed hfn hc (by rw [hr, Bool.true_or])
  case physical =>
    intro h n q s hfn hvf hc hr hmin hmax
    have hrange : (decide (q < 100) || decide (100000 < q)) = false := by simp [hmin, hmax]
    show execPartitionQuantum h n q s = _
    rw [execPartitionQuantum, hrange]
    exact gheit_notPermitted hfn hvf hc hr
  case foreign =>
    intro h ctx prio x s ht hx howner hvf hprio
    show execContextPriority h ctx prio s = _
    rw [execContextPriority, gheit_taken ht (decide_eq_false hprio.not_gt), forOwner_foreign hx howner hvf]
    rfl
  case missing =>
    intro h ctx prio s ht hx hprio
    show execContextPriority h ctx prio s = _
    rw [execContextPriority, gheit_taken ht (decide_eq_false hprio.not_gt), forOwner_missing hx]
    rfl
  case words =>
    intro h st cause a res s ha hirq _ hend
    obtain ⟨t, ht, hout, hmbox, hframe⟩ := State.finishCmd_completes (status := st) (cause := cause) (res := res) ha hirq hend
    refine ⟨t, ht, hout, fun hm => ?_, fun hw hr => ?_, hframe⟩
    · rw [hmbox, Mbox.head_advance hm]
    · rw [hmbox, Mbox.head_advance_restarted hw hr]
  case address => exact fun m => ⟨Mbox.endAddr_of_none, Mbox.endAddr_of_some⟩
  case places => exact ⟨_, paramPlaces_tensorCreate⟩
  case tensor =>
    intro fn b mem hop hrank
    obtain ⟨bad, kv, hinstr⟩ := blockInstr_tensorCreate (fn := fn) (b := b) (mem := mem) hop hrank
    refine ⟨_, kv, rfl, rfl, ?_, hinstr⟩
    rintro ⟨i, hlo, hhi, hb⟩
    show (_ || bad) = true
    rw [reserved_blockHead_tensorCreate hlo hhi hb, Bool.true_or]
  case unknown =>
    intro fn b mem s hfn hc hop
    refine ⟨{ blockHead fn b [] with reserved := true }, rfl, ?_⟩
    rw [blockInstr_of_unknown hop]
    exact gheit_malformed hfn hc rfl

end Sys2Proof.Machine

namespace Sys2Proof.Machine

/-! SUPPORT. The logbook's commit (R432), and the commands on the module: firmware, reset, resynchronisation, certificates, quotes,
the region table (R394, R402, R407, R411, R413, R415). -/

section SystemCommands

variable {h : CmdHead} {s : State}

/-! ### The logbook's commit (R432) -/

/-- The working copy as it is committed. -/
def Logbook.committed (l : Logbook) : Logbook := { l with generation := l.generation + 1 }

/-- Is bank 0 the older one? -/
def Flash.bank0Older (f : Flash) : Bool :=
  match f.bank0, f.bank1 with
  | none, _ => true
  | some _, none => false
  | some a, some b => a.generation ≤ b.generation

theorem State.commitLogbook_eq (s : State) : s.commitLogbook = { s with
    logbook := s.logbook.committed
    flash := if s.flash.bank0Older then { s.flash with bank0 := some s.logbook.committed }
      else { s.flash with bank1 := some s.logbook.committed } } := rfl

theorem State.flash_commitLogbook (s : State) :
    s.commitLogbook.flash = { s.flash with bank0 := s.commitLogbook.flash.bank0, bank1 := s.commitLogbook.flash.bank1 } := by
  rw [State.commitLogbook_eq]
  dsimp only
  split <;> rfl

/-- One of the banks holds what is committed. -/
theorem State.banks_commitLogbook (s : State) :
    s.commitLogbook.flash.bank0 = some s.commitLogbook.logbook ∨ s.commitLogbook.flash.bank1 = some s.commitLogbook.logbook := by
  rw [State.commitLogbook_eq]
  dsimp only
  split
  · exact .inl rfl
  · exact .inr rfl

/-! ### FW_UPDATE, MODULE_RESET (R402, R407) -/

/-- The module with a new image in flash, the update pending, the logbook committed. -/
def State.updated (s : State) (img : List Byte) : State :=
  State.commitLogbook (State.countEvent { s.writeImageArea (img.take (fieldAt img 0x14 4)) with
    boot := { s.boot with updatePending := true } } 13)

theorem exec_fwUpdate_read {addr len : Nat} {image : List Byte} (ht : Taken h true s) (hlen : len ≤ 67108864) (haddr : addr < 2 ^ 64) :
    exec (.fwUpdate h addr len (some image)) s = .next (if s.imageFail (image.take len) = 0 then ok h [] (s.updated (image.take len))
      else State.finishCmd { s with boot := { s.boot with fail := s.imageFail (image.take len) } } h 1 0x11
        (leBytes 8 (s.imageFail (image.take len)))) := by
  have hgood : (decide (67108864 < len) || !fits 64 addr) = false := by rw [decide_eq_false hlen.not_gt, not_fits_eq_false haddr]; rfl
  show execFwUpdate h addr len (some image) s = _
  rw [execFwUpdate, gheit_taken ht hgood]
  refine congrArg _ ?_
  dsimp only
  by_cases hf : s.imageFail (image.take len) = 0
  · rw [if_pos hf, if_neg (by simp [hf])]
    exact s.endCmd_ok h [] _ (s.overfull_of_own _ le_rfl)
  · rw [if_neg hf, if_pos (by simpa using hf)]
    rfl

theorem exec_fwUpdate_unread {addr len : Nat} (ht : Taken h true s) (hlen : len ≤ 67108864) (haddr : addr < 2 ^ 64) :
    exec (.fwUpdate h addr len none) s = .next (s.finishCmd h 1 0x10 (leBytes 8 0)) := by
  have hgood : (decide (67108864 < len) || !fits 64 addr) = false := by rw [decide_eq_false hlen.not_gt, not_fits_eq_false haddr]; rfl
  show execFwUpdate h addr len none s = _
  rw [execFwUpdate, gheit_taken ht hgood]
  rfl

theorem exec_moduleReset (ht : Taken h true s) :
    exec (.moduleReset h) s = .next (ok h [] { s.commitLogbook with boot := { s.boot with resetDue := true } }) := by
  show execModuleReset h s = _
  rw [execModuleReset, gheit_taken ht rfl]
  exact congrArg _ (s.endCmd_ok h [] _ (s.overfull_of_own _ le_rfl))

/-! ### FUNCTION_RESYNC (R394) -/

theorem Taken.avail {pf : Bool} (ht : Taken h pf s) : (s.fn h.fn).avail = true := by
  obtain ⟨-, -, htake, -⟩ := ht
  simp only [State.canTake, Bool.and_eq_true, State.mboxWinner, roundRobin] at htake
  have hpending := List.find?_some (of_decide_eq_true htake.2)
  simp only [State.mboxPending, Bool.and_eq_true] at hpending
  obtain ⟨⟨⟨⟨havail, -⟩, -⟩, -⟩, -⟩ := hpending
  exact havail

@[simp] theorem State.jr_refreshOwned (s : State) (fn : Nat) : (s.refreshOwned fn).jr = s.jr := by
  refine foldl_keeps State.jr (fun a c => ?_) _ _
  split
  · exact State.jr_refresh _ _
  · rfl

theorem exec_functionResync_empty {discard : Nat} (ht : Taken h false s) (hd : discard ≤ 1) (hempty : (s.fn h.fn).hold = []) :
    exec (.functionResync h discard) s = .next (ok h [] (State.refreshOwned
      (s.setFn h.fn { (s.fn h.fn) with awaitResync := false, holdFullAt := none }) h.fn)) := by
  show execFunctionResync h discard s = _
  rw [execFunctionResync, gheit_taken ht (decide_eq_false hd.not_gt)]
  refine congrArg _ ?_
  dsimp only
  rw [if_pos (by rw [hempty]; rfl)]
  exact s.endCmd_ok h [] (State.refreshOwned _ _) (s.overfull_of_own _ (by rw [State.jr_refreshOwned, State.jr_setFn]))

theorem isEmpty_eq_false_of_ne {α : Type} {l : List α} (hl : l ≠ []) : l.isEmpty = false := by
  rwa [Bool.eq_false_iff, ne_eq, List.isEmpty_iff]

theorem exec_functionResync_discard (ht : Taken h false s) (hheld : (s.fn h.fn).hold ≠ []) :
    exec (.functionResync h 1) s = .next (ok h [(8, 0)] (State.refreshOwned
      (s.setFn h.fn { (s.fn h.fn) with hold := [], holdFullAt := none, awaitResync := false }) h.fn)) := by
  show execFunctionResync h 1 s = _
  rw [execFunctionResync, gheit_taken ht (decide_eq_false (by omega))]
  refine congrArg _ ?_
  dsimp only
  rw [if_neg (by rw [isEmpty_eq_false_of_ne hheld]; exact Bool.false_ne_true), if_neg (by decide)]
  exact s.endCmd_ok h (result [(8, 0)]) (State.refreshOwned _ _) (s.overfull_of_own _ (by rw [State.jr_refreshOwned, State.jr_setFn]))

/-- A drain under way: the function works and holds nothing back; what has gone to the host stands before what goes now. -/
structure Draining (fn : Nat) (s t : State) : Prop where
  frame : t = { s with funs := t.funs, hostOut := t.hostOut }
  same : t.fn fn = s.fn fn
  sent : s.hostOut <+: t.hostOut

theorem Draining.refl (fn : Nat) (s : State) : Draining fn s s := ⟨rfl, rfl, List.prefix_rfl⟩

theorem Draining.trans {fn : Nat} {t u : State} (h1 : Draining fn s t) (h2 : Draining fn t u) : Draining fn s u :=
  ⟨by rw [h2.frame, h1.frame], h2.same.trans h1.same, h1.sent.trans h2.sent⟩

theorem State.draining_emit (s : State) (fn : Nat) (l : List HostItem) : Draining fn s (s.emit l) :=
  ⟨rfl, rfl, List.prefix_append _ _⟩

theorem State.draining_fnVector (s : State) (fn v : Nat) : Draining fn s (s.fnVector fn v) := by
  unfold State.fnVector
  split
  · exact s.draining_emit fn _
  · exact .refl fn s

/-- A write of a function that works goes to the host; one for another function may be held for that one. -/
theorem State.draining_jobWrite {fn : Nat} (ha : (s.fn fn).avail = true) (hw : (s.fn fn).awaitResync = false) (i addr : Nat) (b : List Byte) :
    Draining fn s (s.jobWrite i addr b) := by
  unfold State.jobWrite
  dsimp only
  split
  case isTrue => exact s.draining_emit fn _
  case isFalse hheld =>
    have hne : fn ≠ i := by
      rintro rfl
      exact hheld (by rw [ha, hw]; rfl)
    exact ⟨rfl, State.fn_setFn_ne s _ hne, List.prefix_rfl⟩

theorem State.draining_writeCtrl {fn : Nat} (ha : (s.fn fn).avail = true) (hw : (s.fn fn).awaitResync = false) (g a n : Nat) :
    Draining fn s (s.writeCtrl g a n) := by
  unfold State.writeCtrl
  split
  · exact State.draining_jobWrite ha hw _ _ _
  · exact .refl fn s

theorem Draining.foldl {α : Type} {fn : Nat} {f : State → α → State}
    (hf : ∀ (a : State) (e : α), (a.fn fn).avail = true → (a.fn fn).awaitResync = false → Draining fn a (f a e)) (l : List α)
    (ha : (s.fn fn).avail = true) (hw : (s.fn fn).awaitResync = false) : Draining fn s (l.foldl f s) := by
  induction l generalizing s with
  | nil => exact .refl fn s
  | cons e l ih =>
    have hstep := hf s e ha hw
    exact hstep.trans (ih (by rw [hstep.same, ha]) (by rw [hstep.same, hw]))

/-- The drain: the held items first, then control words and vectors, the function at work again (R394). -/
theorem State.drainHold_spec {fn : Nat} (ha : (s.fn fn).avail = true) :
    Draining fn ((s.setFn fn { (s.fn fn) with hold := [], holdFullAt := none, awaitResync := false }).emit (s.fn fn).hold) (s.drainHold fn) := by
  have hfn : ((s.setFn fn { (s.fn fn) with hold := [], holdFullAt := none, awaitResync := false }).emit (s.fn fn).hold).fn fn
      = { (s.fn fn) with hold := [], holdFullAt := none, awaitResync := false } := State.fn_setFn_self _ _ _
  unfold State.drainHold
  dsimp only
  have hctrl := Draining.foldl (fn := fn) (f := fun a g => a.writeCtrl g 0 16) (fun a g ha hw => State.draining_writeCtrl ha hw g 0 16)
    (((s.setFn fn { (s.fn fn) with hold := [], holdFullAt := none, awaitResync := false }).emit (s.fn fn).hold).fnRings fn)
    (by rw [hfn, ha]) (by rw [hfn])
  refine hctrl.trans (Draining.foldl (fun a v _ _ => a.draining_fnVector fn v) _ ?_ ?_)
  · rw [hctrl.same, hfn, ha]
  · rw [hctrl.same, hfn]

theorem exec_functionResync_drain (ht : Taken h false s) (hheld : (s.fn h.fn).hold ≠ []) :
    exec (.functionResync h 0) s = .next (ok h [(8, (s.fn h.fn).hold.length)] ((s.drainHold h.fn).refreshOwned h.fn)) := by
  have hjr : (s.drainHold h.fn).jr = s.jr := (congrArg State.jr (State.drainHold_spec ht.avail).frame :)
  show execFunctionResync h 0 s = _
  rw [execFunctionResync, gheit_taken ht (decide_eq_false (by omega))]
  refine congrArg _ ?_
  dsimp only
  rw [if_neg (by rw [isEmpty_eq_false_of_ne hheld]; exact Bool.false_ne_true), if_pos rfl]
  exact s.endCmd_ok h (result [(8, _)]) (State.refreshOwned _ _) (s.overfull_of_own _ (by rw [State.jr_refreshOwned, hjr]))

/-! ### CERT_READ, ATTEST_QUOTE, REGION_QUERY (R411, R413, R415) -/

theorem State.overfull_fnWrite {t : State} (hjr : t.jr = s.jr) (fn a : Nat) (b : List Byte) : s.overfull (t.fnWrite fn a b) = false :=
  s.overfull_of_own _ (by rw [State.jr_fnWrite, hjr])

theorem exec_certRead {addr : Nat} (ht : Taken h false s) (haddr : addr < 2 ^ 64) :
    exec (.certRead h addr) s = .next (ok h [] (s.fnWrite h.fn addr s.certChain)) := by
  show execCertRead h addr s = _
  rw [execCertRead, gheit_taken ht (not_fits_eq_false haddr)]
  exact congrArg _ (s.endCmd_ok h [] _ (State.overfull_fnWrite rfl _ _ _))

theorem exec_attestQuote {nonce : List Byte} {scope ctx addr : Nat} (ht : Taken h false s) (halign : addr % 64 = 0) (haddr : addr < 2 ^ 64)
    (hscope : scope = 0 ∨ (scope = 1 ∧ ∃ x, Owned h ctx x s)) :
    exec (.attestQuote h nonce scope ctx addr) s
      = .next (ok h [] (State.fnWrite { s with freeCtr := s.freeCtr + 1 } h.fn addr (s.quote nonce scope ctx).1)) := by
  have hends : s.endCmd h (.ok [] (State.fnWrite { s with freeCtr := s.freeCtr + 1 } h.fn addr (s.quote nonce scope ctx).1))
      = ok h [] (State.fnWrite { s with freeCtr := s.freeCtr + 1 } h.fn addr (s.quote nonce scope ctx).1) :=
    s.endCmd_ok h [] _ (State.overfull_fnWrite (t := { s with freeCtr := s.freeCtr + 1 }) rfl _ _ _)
  have hgood : (decide (1 < scope) || addr % 64 != 0 || !fits 64 addr) = false := by
    have hle : scope ≤ 1 := by omega
    rw [decide_eq_false hle.not_gt, halign, not_fits_eq_false haddr]
    rfl
  show execAttestQuote h nonce scope ctx addr s = _
  rw [execAttestQuote, gheit_taken ht hgood]
  refine congrArg _ (Eq.trans ?_ hends)
  rcases hscope with rfl | ⟨rfl, x, ho⟩
  · rfl
  · dsimp only
    rw [if_pos rfl, forOwner_owned ho]
    rfl

theorem exec_regionQuery {addr : Nat} (ht : Taken h true s) (haddr : addr < 2 ^ 64) :
    exec (.regionQuery h addr) s = .next (ok h [] (s.fnWrite h.fn addr s.regionBytes)) := by
  show execRegionQuery h addr s = _
  rw [execRegionQuery, gheit_taken ht (not_fits_eq_false haddr)]
  exact congrArg _ (s.endCmd_ok h [] _ (State.overfull_fnWrite rfl _ _ _))

end SystemCommands

/-- Settles O12: a taken command takes the branch that its hypotheses name; what a commit leaves of flash is `flash_commitLogbook`, and a
drain hands the held items over first (`drainHold_spec`). -/
theorem systemCommandsComplete : Obligations.SystemCommandsComplete := by
  unfold Obligations.SystemCommandsComplete
  refine ⟨?update, ?unread, ?reset, ?empty, ?discard, ?drain, ?cert, ?quote, ?region⟩
  case update =>
    intro h addr len image s ht hlen haddr
    refine ⟨_, exec_fwUpdate_read ht hlen haddr, rfl, rfl, ?_, ?_, State.banks_commitLogbook _⟩
    · rw [State.updated, State.flash_commitLogbook]
      rfl
    · rw [State.updated, State.flash_commitLogbook]
      rfl
  case unread => exact fun h addr len s ht hlen haddr => exec_fwUpdate_unread ht hlen haddr
  case reset =>
    intro h s ht
    exact ⟨_, exec_moduleReset ht, rfl, rfl, rfl, s.flash_commitLogbook, s.banks_commitLogbook⟩
  case empty => exact fun h discard s ht hd hempty => exec_functionResync_empty ht hd hempty
  case discard => exact fun h s ht hheld => exec_functionResync_discard ht hheld
  case drain =>
    intro h s ht hheld
    have hdrain := State.drainHold_spec ht.avail
    obtain ⟨more, hmore⟩ := hdrain.sent
    have hfn : (s.drainHold h.fn).fn h.fn = { (s.fn h.fn) with hold := [], holdFullAt := none, awaitResync := false } :=
      hdrain.same.trans (State.fn_setFn_self _ _ _)
    refine ⟨s.drainHold h.fn, more, exec_functionResync_drain ht hheld, ?_, hmore.symm, ?_, ?_, ?_⟩
    · rw [hdrain.frame]
      rfl
    all_goals rw [hfn]
  case cert => exact fun h addr s ht haddr => exec_certRead ht haddr
  case quote => exact fun h nonce scope ctx addr s ht halign haddr hscope => exec_attestQuote ht halign haddr hscope
  case region => exact fun h addr s ht haddr => exec_regionQuery ht haddr

end Sys2Proof.Machine

/-! SUPPORT. The reset state; dies, clusters and engines that wake and go down. -/

namespace Sys2Proof.Machine

/-! ### O47 -/

/-- Settles O47: the reset state has every table empty, so that a port, a laser or a function is the one of an empty entry. -/
theorem resetState : Obligations.ResetState := by
  unfold Obligations.ResetState
  exact ⟨rfl, rfl, rfl, rfl, rfl, rfl, rfl, rfl, rfl, rfl, rfl, rfl, fun _ => rfl, fun _ => rfl, fun _ => ⟨rfl, rfl⟩⟩

/-! ### O17: what a sleeping cluster loses -/

section Sleep

/-- A tile of a cluster that sleeps: its engines hold nothing and are gated. -/
def Tile.asleep (t : Tile) : Tile :=
  { t with engines := Tab.mapVals t.engines (fun _ g => { g with groups := [], current := none, stage := [], gated := true, starting := false }) }

/-- The tiles of a cluster. -/
def clusterTiles (c : Nat) : List Nat := (List.range 4).map (fun i => 4 * c + i)

theorem mem_clusterTiles {c j : Nat} : j ∈ clusterTiles c ↔ j / 4 = c := by
  simp only [clusterTiles, List.mem_map, List.mem_range]
  constructor
  · rintro ⟨i, hi, rfl⟩
    omega
  · intro h
    exact ⟨j - 4 * c, by omega, by omega⟩

theorem Tab.mem_mapVals {α β : Type} {t : Tab α} {f : Nat → α → β} {e : Nat × β} :
    e ∈ Tab.mapVals t f ↔ ∃ a, (e.1, a) ∈ t ∧ e.2 = f e.1 a := by
  simp only [Tab.mapVals, List.mem_map]
  constructor
  · rintro ⟨⟨k, a⟩, ha, rfl⟩
    exact ⟨a, ha, rfl⟩
  · rintro ⟨a, ha, he⟩
    exact ⟨(e.1, a), ha, Prod.ext rfl he.symm⟩

/-- The engines of an emptied tile hold no groups and are gated. -/
theorem Tile.engines_asleep (t : Tile) : ∀ e ∈ t.asleep.engines, e.2.groups = [] ∧ e.2.gated = true := by
  intro e he
  rw [Tile.asleep, Tab.mem_mapVals] at he
  obtain ⟨g, -, heq⟩ := he
  exact ⟨heq ▸ rfl, heq ▸ rfl⟩

/-- The extents of a context whose every extent is changed. -/
theorem Ctx.exts_mapExts (f : Ext → Ext) (x : Ctx) : (x.mapExts f).exts = x.exts.map (fun e => (e.1, f e.2)) := by
  simp [Ctx.exts, Ctx.mapExts, Tab.mapVals, List.map_flatMap, List.flatMap_map, Function.comp_def]

/-- What a change of every extent says of a copy that any context's extent has afterwards. -/
theorem State.ext_dropCopies {s : State} {f : Ext → Ext} {P : Ext → Prop} (hf : ∀ q, P (f q)) :
    ∀ x ∈ (s.dropCopies f).ctxs, ∀ e ∈ x.2.exts, P e.2 := by
  intro x hx e he
  rw [State.dropCopies, Tab.mem_mapVals] at hx
  obtain ⟨y, -, hy⟩ := hx
  rw [hy, Ctx.exts_mapExts, List.mem_map] at he
  obtain ⟨q, -, rfl⟩ := he
  exact hf q.2

/-- A cluster sleeps: its tiles' copies are gone, its engines empty, its die's idle time begins. -/
def State.clusterAsleep (s : State) (c : Nat) : State :=
  let s1 := (s.setCluster c { s.cluster c with state := .sleep }).dropCopies (fun q => { q with sram := q.sram.filter (fun t => !(clusterTiles c).contains t.2) })
  let s2 := { s1 with tiles := Tab.mapVals s1.tiles (fun i t => if (clusterTiles c).contains i then t.asleep else t) }
  s2.setDie (clusterDie c) { s2.die (clusterDie c) with idleSince := s2.time.now }

variable {s : State} {c : Nat}

theorem exec_clusterSleep (hc : c < 80) (hst : (s.cluster c).state = .run) (hkept : s.keptAwake (c / 8) = false)
    (hidle : 0 < fieldOf (s.power.policyAt (s.cluster c).idleSince) 7 0)
    (hlong : (s.cluster c).idleSince + 100000 * fieldOf (s.power.policyAt (s.cluster c).idleSince) 7 0 ≤ s.time.now)
    (htiles : ∀ i < 4, s.tileBusy (4 * c + i) = false) : exec (.clusterSleep c) s = .next (s.clusterAsleep c) := by
  refine (withUnit_next _ (decide_eq_true hc)).trans (congrArg Host.Outcome.next (if_pos ?_))
  have hbusy : s.clusterBusy c = false := by
    rw [State.clusterBusy, clusterDie, hkept, Bool.false_or, List.any_eq_false]
    intro i hi
    rw [htiles i (List.mem_range.mp hi)]
    exact Bool.false_ne_true
  simp [hst, hidle, hlong, hbusy]

theorem State.cluster_clusterAsleep : ((s.clusterAsleep c).cluster c).state = .sleep :=
  congrArg Cluster.state (s.cluster_setCluster_self c { s.cluster c with state := .sleep })

/-- No extent keeps a copy in a tile of the cluster. -/
theorem State.sram_clusterAsleep {i : Nat} (hi : i < 4) :
    ∀ x ∈ (s.clusterAsleep c).ctxs, ∀ e ∈ x.2.exts, ∀ q ∈ e.2.sram, q.2 ≠ 4 * c + i := by
  refine State.ext_dropCopies (P := fun e => ∀ q ∈ e.sram, q.2 ≠ 4 * c + i) (fun e q hq heq => ?_)
  have hmem : q.2 ∈ clusterTiles c := mem_clusterTiles.mpr (by omega)
  simp [hmem] at hq

theorem State.get_tiles_clusterAsleep (j : Nat) : Tab.get (s.clusterAsleep c).tiles j
    = (Tab.get s.tiles j).map (fun t => if (clusterTiles c).contains j then t.asleep else t) :=
  Tab.get_mapVals s.tiles (fun i t => if (clusterTiles c).contains i then t.asleep else t) j

theorem State.engines_clusterAsleep {i : Nat} (hi : i < 4) (y : Tile) (hy : Tab.get (s.clusterAsleep c).tiles (4 * c + i) = some y) :
    ∀ e ∈ y.engines, e.2.groups = [] ∧ e.2.gated = true := by
  have hmem : (clusterTiles c).contains (4 * c + i) = true := List.contains_iff_mem.mpr (mem_clusterTiles.mpr (by omega))
  rw [State.get_tiles_clusterAsleep, hmem] at hy
  obtain ⟨t, -, rfl⟩ := Option.map_eq_some_iff.mp hy
  exact t.engines_asleep

theorem State.tile_clusterAsleep_ne {j : Nat} (hj : j / 4 ≠ c) : (s.clusterAsleep c).tile j = s.tile j := by
  have hmem : (clusterTiles c).contains j = false := by
    rw [← Bool.not_eq_true, List.contains_iff_mem, mem_clusterTiles]
    exact hj
  rw [State.tile, Tab.getD, State.get_tiles_clusterAsleep, hmem, State.tile, Tab.getD]
  cases Tab.get s.tiles j <;> rfl

/-- A die in RUN that nothing keeps awake, its clusters asleep and no dirty copy in its pool, breaks no condition of Table 15.3. -/
theorem State.dieBusy_eq_false {d : Nat} (hkept : s.keptAwake d = false) (hclusters : ∀ i < 8, (s.cluster (8 * d + i)).state = .sleep)
    (hdirty : s.poolDirty d = false) : s.dieBusy d = false := by
  have hall : ((List.range 8).all fun i => decide ((s.cluster (8 * d + i)).state = .sleep)) = true :=
    List.all_eq_true.mpr (fun i hi => decide_eq_true (hclusters i (List.mem_range.mp hi)))
  rw [State.dieBusy, hkept, hall, hdirty]
  simp

end Sleep

/-- Settles O17: each row takes the branch that its hypotheses name; what a sleeping cluster or a napping die loses is a filter over
the copies of every extent (`State.ext_dropCopies`). -/
theorem wakeAndSleepRowsComplete : Obligations.WakeAndSleepRowsComplete := by
  unfold Obligations.WakeAndSleepRowsComplete
  refine ⟨?railUp, ?wakeDone, ?clusterUp, ?sleep, ?nap, ?off, ?gate, ?start⟩
  case railUp => exact fun d s hd hst => (withUnit_next _ (decide_eq_true hd)).trans (congrArg Host.Outcome.next (if_pos hst))
  case wakeDone => exact fun d s hd hst => (withUnit_next _ (decide_eq_true hd)).trans (congrArg Host.Outcome.next (if_pos hst))
  case clusterUp =>
    intro c s hc hst hdie
    refine (withUnit_next _ (decide_eq_true hc)).trans (congrArg Host.Outcome.next (if_pos ?_))
    simp [hst, clusterDie, hdie]
  case sleep =>
    intro c s hc hst hkept hidle hlong htiles
    exact ⟨_, exec_clusterSleep hc hst hkept hidle hlong htiles, State.cluster_clusterAsleep, fun i hi => State.sram_clusterAsleep hi,
      fun i hi y hy => State.engines_clusterAsleep hi y hy, fun j hj => State.tile_clusterAsleep_ne hj,
      congrArg Die.idleSince (State.die_setDie_self _ (clusterDie c) _), rfl⟩
  case nap =>
    intro d s hd hst hkept hidle hlong hclusters hdirty
    refine ⟨_, (withUnit_next _ (decide_eq_true hd)).trans (congrArg Host.Outcome.next (if_pos ?_)),
      congrArg Die.state (s.die_setDie_self d _), ?_, fun j hj => s.die_setDie_ne _ hj, rfl⟩
    · simp [hst, hidle, hlong, State.dieBusy_eq_false hkept hclusters hdirty]
    · exact State.ext_dropCopies (P := fun e => Tab.get e.pools d = none) (fun e => Tab.get_erase_self e.pools d)
  case off =>
    intro d s hd hst hkept hidle hlong
    refine (withUnit_next _ (decide_eq_true hd)).trans (congrArg Host.Outcome.next (if_pos ?_))
    simp [hst, hkept, hidle, hlong]
  case gate =>
    intro i e s hi he hcur hstart
    refine (withUnit_next _ (by simp [hi, he])).trans (congrArg Host.Outcome.next (if_pos ?_))
    simp [hcur, hstart]
  case start =>
    intro i e s hi he hstart hfew hfirst
    refine ⟨_, (withUnit_next _ (by simp [hi, he])).trans (congrArg Host.Outcome.next (if_pos ?_)), ?_, rfl,
      fun j hj => s.tile_setTile_ne _ hj, rfl⟩
    · simp [hstart, hfew, hfirst]
    · refine (congrArg (fun t : Tile => t.engine e) (s.tile_setTile_self i _)).trans ?_
      exact (s.tile i).engine_setEngine_self e _

end Sys2Proof.Machine

/-! SUPPORT. The power governor. -/

namespace Sys2Proof.Machine

section Governor
variable {s t u : State}

/-- The state with all that a sample may change out of sight. -/
def State.ungoverned (s : State) : State := { s with power := {}, telem := {}, logbook := {}, funs := [], hostOut := [] }

theorem State.eq_of_ungoverned (h : t.ungoverned = s.ungoverned) :
    t = { s with power := t.power, telem := t.telem, logbook := t.logbook, funs := t.funs, hostOut := t.hostOut } :=
  congrArg (fun v : State => { v with power := t.power, telem := t.telem, logbook := t.logbook, funs := t.funs, hostOut := t.hostOut }) h

/-- What the rules of a sample make of a state: B and k stay, and k as decided stays or, once in the sample, rises by one. -/
structure Governed (s t : State) : Prop where
  budget : t.power.budget = s.power.budget
  k : t.power.k = s.power.k
  steps : t.power.acted = s.power.acted ∧ t.power.kNext = s.power.kNext
    ∨ s.power.acted = false ∧ t.power.acted = true ∧ s.power.kNext < 24 ∧ t.power.kNext = s.power.kNext + 1
  frame : t.ungoverned = s.ungoverned

theorem Governed.trans (h : Governed s t) (h' : Governed t u) : Governed s u where
  budget := h'.budget.trans h.budget
  k := h'.k.trans h.k
  frame := h'.frame.trans h.frame
  steps := by
    obtain ⟨ha, hk⟩ | ⟨ha, ha1, hlt, hk⟩ := h.steps <;> obtain ⟨ha', hk'⟩ | ⟨ha', ha1', hlt', hk'⟩ := h'.steps
    · exact .inl ⟨ha'.trans ha, hk'.trans hk⟩
    · exact .inr ⟨ha ▸ ha', ha1', hk ▸ hlt', hk ▸ hk'⟩
    · exact .inr ⟨ha, ha'.trans ha1, hlt, hk'.trans hk⟩
    · exact absurd (ha1.symm.trans ha') (by decide)

/-- What changes neither B, k, k as decided nor the sample's step is within the rules. -/
theorem Governed.of_eq (hb : t.power.budget = s.power.budget) (hk : t.power.k = s.power.k) (ha : t.power.acted = s.power.acted)
    (hn : t.power.kNext = s.power.kNext) (hf : t.ungoverned = s.ungoverned) : Governed s t :=
  ⟨hb, hk, .inl ⟨ha, hn⟩, hf⟩

theorem Governed.refl (s : State) : Governed s s := .of_eq rfl rfl rfl rfl rfl

@[simp] theorem State.power_event (s : State) (fn ty ctx a b : Nat) : (s.event fn ty ctx a b).power = s.power :=
  (congrArg State.power (s.event_eq fn ty ctx a b) :)

@[simp] theorem State.ungoverned_event (s : State) (fn ty ctx a b : Nat) : (s.event fn ty ctx a b).ungoverned = s.ungoverned :=
  (congrArg State.ungoverned (s.event_eq fn ty ctx a b) :)

/-- A POWER event leaves of the governor all but the times of events. -/
theorem State.power_powerEvent (s : State) (cause : Nat) :
    (s.powerEvent cause).power = { s.power with told := (s.powerEvent cause).power.told } := by
  unfold State.powerEvent
  dsimp only
  split
  · rfl
  · simp

theorem State.ungoverned_powerEvent (s : State) (cause : Nat) : (s.powerEvent cause).ungoverned = s.ungoverned := by
  unfold State.powerEvent
  dsimp only
  split
  · rfl
  · exact State.ungoverned_event _ _ _ _ _ _

theorem Governed.powerEvent (h : Governed s t) (cause : Nat) : Governed s (t.powerEvent cause) := by
  have hp := t.power_powerEvent cause
  exact h.trans (.of_eq (congrArg Power.budget hp :) (congrArg Power.k hp :) (congrArg Power.acted hp :) (congrArg Power.kNext hp :)
    (t.ungoverned_powerEvent cause))

/-- A downward rule that may act: the floor is above k as decided, and none has acted in the sample. -/
theorem State.stepDown_acts {floor : Nat} {thermal : Bool} (ha : s.power.acted = false) (hk : s.power.kNext < floor) :
    s.stepDown floor thermal = { s with power := { s.power with
      kNext := s.power.kNext + 1, acted := true, thermalK := s.power.thermalK || thermal } } :=
  if_neg (by simp [ha, hk])

/-- One that may not. -/
theorem State.stepDown_rests {floor : Nat} {thermal : Bool} (h : s.power.acted = true ∨ floor ≤ s.power.kNext) : s.stepDown floor thermal = s :=
  if_pos (by simpa using h)

theorem State.stepDown_cases (s : State) (floor : Nat) (thermal : Bool) :
    s.stepDown floor thermal = s ∧ (s.power.acted = true ∨ floor ≤ s.power.kNext)
    ∨ (s.power.acted = false ∧ s.power.kNext < floor) ∧ s.stepDown floor thermal = { s with power := { s.power with
      kNext := s.power.kNext + 1, acted := true, thermalK := s.power.thermalK || thermal } } := by
  by_cases h : s.power.acted = true ∨ floor ≤ s.power.kNext
  · exact .inl ⟨State.stepDown_rests h, h⟩
  · have hacts : s.power.acted = false ∧ s.power.kNext < floor := by simpa using h
    exact .inr ⟨hacts, State.stepDown_acts hacts.1 hacts.2⟩

theorem Governed.stepDown (h : Governed s t) {floor : Nat} (hf : floor ≤ 24) (thermal : Bool) : Governed s (t.stepDown floor thermal) := by
  obtain ⟨heq, -⟩ | ⟨⟨ha, hk⟩, heq⟩ := t.stepDown_cases floor thermal <;> rw [heq]
  · exact h
  · exact h.trans ⟨rfl, rfl, .inr ⟨ha, rfl, by omega, rfl⟩, rfl⟩

/-- Once a rule's turn is over, k as decided stands above its floor or a rule has acted. -/
theorem State.acted_stepDown (s : State) (floor : Nat) (thermal : Bool) :
    (s.stepDown floor thermal).power.acted = true ∨ floor ≤ s.power.kNext := by
  obtain ⟨heq, hrest⟩ | ⟨-, heq⟩ := s.stepDown_cases floor thermal <;> rw [heq]
  · exact hrest
  · exact .inl rfl

/-- The rule that a sample in which B falls to 0 makes act. -/
theorem State.governed_exhaust (s : State) (before : Nat) : Governed s (s.exhaust before) := by
  have hlift : Governed s (if s.power.emptyActing && 30000000 ≤ s.power.budget then
      { s with power := { s.power with emptyActing := false } } else s) := by
    split
    · exact .of_eq rfl rfl rfl rfl rfl
    · exact .refl s
  unfold State.exhaust
  dsimp only
  generalize (if s.power.emptyActing && 30000000 ≤ s.power.budget then
      { s with power := { s.power with emptyActing := false } } else s) = s1 at hlift ⊢
  split
  case isFalse => exact hlift
  case isTrue =>
    refine Governed.powerEvent ?_ 1
    split
    case isTrue => exact hlift.trans (.of_eq rfl rfl rfl rfl rfl)
    case isFalse =>
      refine Governed.stepDown (floor := 16) ?_ (by decide) false
      exact hlift.trans (.of_eq rfl rfl rfl rfl rfl)

/-- What leaves k as decided alone, and is otherwise within the rules: the temperature conditions only tell. -/
structure Told (s t : State) : Prop where
  governed : Governed s t
  kNext : t.power.kNext = s.power.kNext

theorem Told.refl (s : State) : Told s s := ⟨.refl s, rfl⟩
theorem Told.trans (h : Told s t) (h' : Told t u) : Told s u := ⟨h.governed.trans h'.governed, h'.kNext.trans h.kNext⟩
theorem Told.of_eq (hb : t.power.budget = s.power.budget) (hk : t.power.k = s.power.k) (ha : t.power.acted = s.power.acted)
    (hn : t.power.kNext = s.power.kNext) (hf : t.ungoverned = s.ungoverned) : Told s t := ⟨.of_eq hb hk ha hn hf, hn⟩

theorem Told.powerEvent (h : Told s t) (cause : Nat) : Told s (t.powerEvent cause) :=
  ⟨h.governed.powerEvent cause, (congrArg Power.kNext (t.power_powerEvent cause)).trans h.kNext⟩

/-- The condition of a die's temperature. -/
def State.dieThermal (s : State) : State :=
  if 105 ≤ maxTemp s.power.dieTemps && !s.power.dieHot then
    ({ s with power := { s.power with dieHot := true } }.countEvent 5).powerEvent 3
  else if maxTemp s.power.dieTemps < 102 && s.power.dieHot then { s with power := { s.power with dieHot := false } }.powerEvent 4
  else s

/-- The condition of a stack's temperature. -/
def State.stackThermal (s : State) (stack : Int) : State :=
  if 93 ≤ stack && !s.power.stackHot then { s with power := { s.power with stackHot := true } }.powerEvent 5
  else if stack < 93 && s.power.stackHot then { s with power := { s.power with stackHot := false } }.powerEvent 6
  else s

theorem State.thermal_eq (s : State) : s.thermal = s.dieThermal.stackThermal (maxTemp s.power.stackTemps) := rfl

theorem State.told_dieThermal (s : State) : Told s s.dieThermal := by
  unfold State.dieThermal
  split
  · refine Told.powerEvent ?_ 3
    exact .of_eq rfl rfl rfl rfl rfl
  · split
    · refine Told.powerEvent ?_ 4
      exact .of_eq rfl rfl rfl rfl rfl
    · exact .refl s

theorem State.told_stackThermal (s : State) (stack : Int) : Told s (s.stackThermal stack) := by
  unfold State.stackThermal
  split
  · refine Told.powerEvent ?_ 5
    exact .of_eq rfl rfl rfl rfl rfl
  · split
    · refine Told.powerEvent ?_ 6
      exact .of_eq rfl rfl rfl rfl rfl
    · exact .refl s

theorem State.told_thermal (s : State) : Told s s.thermal := by
  rw [State.thermal_eq]
  exact s.told_dieThermal.trans (s.dieThermal.told_stackThermal _)

/-- Whether a die or a stack of a sample is hot. -/
def Sensors.hot (r : Sensors) : Bool := 105 ≤ maxTemp r.dieTemps || 95 ≤ maxTemp r.stackTemps

/-- A sample's thermal rule. -/
def State.cooled (s : State) (r : Sensors) : State := if r.hot then s.stepDown 24 true else s

/-- A sample's peak rule. -/
def State.curbed (s : State) (r : Sensors) : State :=
  if 3300 < r.watts then { s.stepDown 16 false with power := { (s.stepDown 16 false).power with peakAgo := 0 } } else s

theorem exec_powerSample (hp : s.boot.powered = true) (r : Sensors) :
    exec (.powerSample r) s = .next ((((s.measure r).exhaust s.power.budget).cooled r).curbed r).thermal :=
  congrArg Host.Outcome.next (if_neg (by simp [hp]))

theorem Governed.cooled (h : Governed s t) (r : Sensors) : Governed s (t.cooled r) := by
  unfold State.cooled
  split
  · exact h.stepDown (le_refl 24) true
  · exact h

theorem Governed.curbed (h : Governed s t) (r : Sensors) : Governed s (t.curbed r) := by
  unfold State.curbed
  split
  · exact (h.stepDown (by decide) false).trans (.of_eq rfl rfl rfl rfl rfl)
  · exact h

theorem Governed.kNext_of_acted (h : Governed s t) (ha : s.power.acted = false) (hacted : t.power.acted = true) :
    t.power.kNext = s.power.kNext + 1 := by
  obtain ⟨heq, -⟩ | ⟨-, -, -, hk⟩ := h.steps
  · exact absurd (hacted.symm.trans (heq.trans ha)) (by decide)
  · exact hk

theorem Governed.kNext_le (h : Governed s t) : s.power.kNext ≤ t.power.kNext ∧ t.power.kNext ≤ s.power.kNext + 1 := by
  obtain ⟨-, hk⟩ | ⟨-, -, -, hk⟩ := h.steps <;> omega

/-- k as decided once a rule of a floor above it has had its turn. -/
theorem Governed.kNext_stepDown (h : Governed s t) (ha : s.power.acted = false) {floor : Nat} (hk : s.power.kNext < floor) (hf : floor ≤ 24)
    (thermal : Bool) : (t.stepDown floor thermal).power.kNext = s.power.kNext + 1 := by
  obtain hacted | hfloor := t.acted_stepDown floor thermal
  · exact (h.stepDown hf thermal).kNext_of_acted ha hacted
  · obtain ⟨hrest, -⟩ | ⟨⟨-, hlt⟩, -⟩ := t.stepDown_cases floor thermal
    · rw [hrest]
      have := h.kNext_le
      omega
    · omega

/-- A rule that acts early in the sample is not acted on again. -/
theorem Governed.kNext_eq_of_le (hu : Governed t u) (hsu : Governed s u) (hk : t.power.kNext = s.power.kNext + 1) :
    u.power.kNext = s.power.kNext + 1 := by
  have h1 := hu.kNext_le
  have h2 := hsu.kNext_le
  omega

/-- A downward rule that no other rule has kept from acting raises k as decided. -/
theorem State.kNext_curbed {r : Sensors} (h : Governed s t) (ha : s.power.acted = false) (hk : s.power.kNext < 16) (hw : 3300 < r.watts) :
    (t.curbed r).power.kNext = s.power.kNext + 1 := by
  rw [State.curbed, if_pos hw]
  exact h.kNext_stepDown ha hk (by decide) false

theorem State.kNext_cooled {r : Sensors} (h : Governed s t) (ha : s.power.acted = false) (hk : s.power.kNext < 24)
    (hr : 105 ≤ maxTemp r.dieTemps) : (t.cooled r).power.kNext = s.power.kNext + 1 := by
  rw [State.cooled, Sensors.hot, decide_eq_true hr, Bool.true_or, if_pos rfl]
  exact h.kNext_stepDown ha hk (le_refl 24) true

/-! ### The intervals -/

/-- The end of an interval of 100 µs for the budget-empty rule. -/
def State.emptyInterval (s : State) : State :=
  if s.power.emptyActing && 10 ≤ s.power.emptyCount then
    let t := if 2600 * s.power.emptyCount < s.power.emptySum then s.stepDown 16 false else s
    { t with power := { t.power with emptySum := 0, emptyCount := 0 } }
  else s

/-- The end of one for the stack-warm rule, by what the interval held. -/
def State.warmInterval (s : State) (count : Nat) (held : Bool) : State :=
  if 10 ≤ count then
    let t := if held then s.stepDown 24 true else s
    { t with power := { t.power with warmHeld := true, warmCount := 0 } }
  else s

theorem exec_governorInterval (hp : s.boot.powered = true) :
    exec .governorInterval s = .next (s.emptyInterval.warmInterval s.power.warmCount s.power.warmHeld) :=
  congrArg Host.Outcome.next (if_neg (by simp [hp]))

/-- The state with the governor out of sight. -/
def State.unpaid (s : State) : State := { s with power := {} }

theorem State.eq_of_unpaid (h : t.unpaid = s.unpaid) : t = { s with power := t.power } :=
  congrArg (fun v : State => { v with power := t.power }) h

theorem State.unpaid_stepDown (s : State) (floor : Nat) (thermal : Bool) : (s.stepDown floor thermal).unpaid = s.unpaid := by
  obtain ⟨heq, -⟩ | ⟨-, heq⟩ := s.stepDown_cases floor thermal <;> rw [heq]
  rfl

theorem State.governed_emptyInterval (s : State) : Governed s s.emptyInterval ∧ s.emptyInterval.unpaid = s.unpaid := by
  unfold State.emptyInterval
  split
  case isFalse => exact ⟨.refl s, rfl⟩
  case isTrue =>
    by_cases hmean : 2600 * s.power.emptyCount < s.power.emptySum
    · rw [if_pos hmean]
      exact ⟨((Governed.refl s).stepDown (by decide) false).trans (.of_eq rfl rfl rfl rfl rfl), s.unpaid_stepDown 16 false⟩
    · rw [if_neg hmean]
      exact ⟨.of_eq rfl rfl rfl rfl rfl, rfl⟩

theorem Governed.warmInterval (h : Governed s t) (count : Nat) (held : Bool) :
    Governed s (t.warmInterval count held) ∧ (t.warmInterval count held).unpaid = t.unpaid := by
  unfold State.warmInterval
  split
  case isFalse => exact ⟨h, rfl⟩
  case isTrue =>
    cases held
    case false => exact ⟨h.trans (.of_eq rfl rfl rfl rfl rfl), rfl⟩
    case true => exact ⟨(h.stepDown (le_refl 24) true).trans (.of_eq rfl rfl rfl rfl rfl), t.unpaid_stepDown 24 true⟩

theorem State.kNext_emptyInterval (hact : s.power.emptyActing = true) (hcount : 10 ≤ s.power.emptyCount)
    (hmean : 2600 * s.power.emptyCount < s.power.emptySum) (ha : s.power.acted = false) (hk : s.power.kNext < 16) :
    s.emptyInterval.power.kNext = s.power.kNext + 1 := by
  rw [State.emptyInterval, if_pos (by simp [hact, hcount]), if_pos hmean]
  exact (Governed.refl s).kNext_stepDown ha hk (by decide) false

theorem State.kNext_warmInterval (h : Governed s t) (ha : s.power.acted = false) (hk : s.power.kNext < 24) {count : Nat} (hcount : 10 ≤ count) :
    (t.warmInterval count true).power.kNext = s.power.kNext + 1 := by
  rw [State.warmInterval, if_pos hcount]
  exact h.kNext_stepDown ha hk (le_refl 24) true

/-- May k fall by one at this millisecond? -/
def State.mayRise (s : State) : Bool :=
  0 < s.power.kNext && !s.power.acted && 0 < s.power.msCount && s.power.msSum ≤ 2600 * s.power.msCount && s.power.msOk

/-- k as decided after the millisecond. -/
def State.kRisen (s : State) : Nat := if s.mayRise then s.power.kNext - 1 else s.power.kNext

/-- A millisecond closes. -/
def State.risen (s : State) : State :=
  { s with power := { s.power with kNext := s.kRisen, msSum := 0, msCount := 0, msOk := true, thermalK := s.power.thermalK && s.kRisen != 0 } }

theorem exec_stepUpCheck (hp : s.boot.powered = true) :
    exec .stepUpCheck s = .next (if s.mayRise && s.kRisen = 0 then s.risen.powerEvent 2 else s.risen) :=
  congrArg Host.Outcome.next (if_neg (by simp [hp]))

theorem State.kRisen_eq (s : State) : s.kRisen = if 0 < s.power.kNext ∧ s.power.acted = false ∧ 0 < s.power.msCount
    ∧ s.power.msSum ≤ 2600 * s.power.msCount ∧ s.power.msOk = true then s.power.kNext - 1 else s.power.kNext := by
  rw [State.kRisen, State.mayRise]
  exact if_congr (by simp [and_assoc]) rfl rfl

/-- A POWER event changes the governor's times, functions and what goes to the host. -/
theorem State.powerEvent_eq (s : State) (cause : Nat) : s.powerEvent cause = { s with
    power := (s.powerEvent cause).power, funs := (s.powerEvent cause).funs, hostOut := (s.powerEvent cause).hostOut } := by
  unfold State.powerEvent
  dsimp only
  split
  · rfl
  · generalize hu : ({ s with power := { s.power with told := Tab.set s.power.told cause (s.time.now / 1000000) } } : State) = u
    have hs : { u with power := s.power } = s := hu ▸ rfl
    rw [u.event_eq, ← hs]

end Governor

/-- Settles O18: what a sample's rules do is one relation (`Governed`: at most one step up, the frame kept); a rule whose floor lies
above k as decided acts unless another has acted in the sample (`Governed.kNext_stepDown`). -/
theorem governorRowsComplete : Obligations.GovernorRowsComplete := by
  unfold Obligations.GovernorRowsComplete
  refine ⟨?sample, ?interval, ?up, ?apply⟩
  case sample =>
    intro r s hp
    generalize hm : s.measure r = m
    have hbudget : m.power.budget = min 120000000 (s.power.budget + 2600 - r.watts) := hm ▸ rfl
    have hk : m.power.k = s.power.k := hm ▸ rfl
    have hnext : m.power.kNext = s.power.kNext := hm ▸ rfl
    have hacted : m.power.acted = false := hm ▸ rfl
    have hframe : m.ungoverned = s.ungoverned := hm ▸ rfl
    have hempty : Governed m (m.exhaust s.power.budget) := m.governed_exhaust _
    have hcool := hempty.cooled r
    have htold := (((m.exhaust s.power.budget).cooled r).curbed r).told_thermal
    have hlate : Governed ((m.exhaust s.power.budget).cooled r) (((m.exhaust s.power.budget).cooled r).curbed r).thermal :=
      ((Governed.refl _).curbed r).trans htold.governed
    have hall : Governed m (((m.exhaust s.power.budget).cooled r).curbed r).thermal := hcool.trans hlate
    refine ⟨_, hm ▸ exec_powerSample hp r, ?_⟩
    generalize (((m.exhaust s.power.budget).cooled r).curbed r).thermal = t at *
    have hle := hall.kNext_le
    refine ⟨hall.budget.trans hbudget, by omega, by omega, hall.k.trans hk, fun h16 hw => ?peak, fun h24 hhot => ?hot, fun h24 => ?rest,
      State.eq_of_ungoverned (hall.frame.trans hframe)⟩
    case peak =>
      have := State.kNext_curbed hcool hacted (hnext ▸ h16) hw
      have := htold.kNext
      omega
    case hot =>
      have := Governed.kNext_eq_of_le hlate hall (State.kNext_cooled (r := r) hempty hacted (hnext ▸ h24) hhot)
      omega
    case rest =>
      obtain ⟨-, hsame⟩ | ⟨-, -, hlt, -⟩ := hall.steps <;> omega
  case interval =>
    intro s hp
    obtain ⟨hempty, hunpaid⟩ := s.governed_emptyInterval
    obtain ⟨hall, hunpaid'⟩ := hempty.warmInterval s.power.warmCount s.power.warmHeld
    refine ⟨_, exec_governorInterval hp, State.eq_of_unpaid (hunpaid'.trans hunpaid), hall.kNext_le.1, hall.kNext_le.2, hall.budget, ?_, ?_⟩
    · intro hcount hheld hacted hk
      rw [hheld]
      exact State.kNext_warmInterval hempty hacted hk hcount
    · intro hact hcount hmean hacted hk
      have hlate := ((Governed.refl s.emptyInterval).warmInterval s.power.warmCount s.power.warmHeld).1
      exact Governed.kNext_eq_of_le hlate hall (State.kNext_emptyInterval hact hcount hmean hacted hk)
  case up =>
    intro s hp
    refine ⟨_, exec_stepUpCheck hp, ?_⟩
    split
    · have h := s.risen.power_powerEvent 2
      exact ⟨(congrArg Power.budget h :), (congrArg Power.kNext h :).trans s.kRisen_eq, (congrArg Power.msSum h :), (congrArg Power.msCount h :),
        (congrArg Power.msOk h :), s.risen.powerEvent_eq 2⟩
    · exact ⟨rfl, s.kRisen_eq, rfl, rfl, rfl, rfl⟩
  case apply => exact fun s hp => congrArg Host.Outcome.next (if_pos hp)

end Sys2Proof.Machine

/-! SUPPORT. Every port down (R230, R253), a halt (R426), thermal shutdown (R450); the logbook's samples and commits, the telemetry
window (R432, R434, R444, R452, R453). -/

namespace Sys2Proof.Machine

/-! ### The logbook through the ports' work -/

section Logbook
variable (s : State)

/-- The logbook with what the ports' work counts out of sight. -/
def Logbook.beyondPorts (l : Logbook) : Logbook := { l with portDowns := [], portRetrains := [], failovers := [] }

theorem Logbook.eq_of_beyondPorts {l m : Logbook} (h : m.beyondPorts = l.beyondPorts) :
    m = { l with portDowns := m.portDowns, portRetrains := m.portRetrains, failovers := m.failovers } :=
  congrArg (fun k : Logbook => { k with portDowns := m.portDowns, portRetrains := m.portRetrains, failovers := m.failovers }) h

theorem State.logbook_setPState (i : Nat) (st : PState) (step : Nat) :
    (s.setPState i st step).logbook.beyondPorts = s.logbook.beyondPorts := by
  unfold State.setPState
  dsimp only
  split
  · rfl
  · rw [State.logbook_event]
    split
    · rfl
    · split <;> rfl

theorem State.logbook_laidDown (i : Nat) : (s.laidDown i).logbook.beyondPorts = s.logbook.beyondPorts := by
  have hcount : (s.countTokens i).logbook.beyondPorts = s.logbook.beyondPorts := by rw [State.logbook_countTokens]
  unfold State.laidDown
  dsimp only
  split
  · exact hcount
  · exact hcount

theorem State.logbook_leaveService (i : Nat) (st : PState) (step : Nat) :
    (s.leaveService i st step).logbook.beyondPorts = s.logbook.beyondPorts := by
  by_cases hin : (s.port i).state = .inService
  · rw [State.leaveService_of_inService s hin, State.logbook_reachChanged, State.logbook_elect, State.untethered_eq]
    exact (State.logbook_setPState _ i st step).trans (s.logbook_laidDown i)
  · rw [State.leaveService_of_ne s hin, State.logbook_setPState]

theorem State.logbook_sendDown (i : Nat) : (s.sendDown i).logbook.beyondPorts = s.logbook.beyondPorts := by
  unfold State.sendDown
  split
  · exact s.logbook_leaveService i .down 0
  · exact s.logbook_setPState i .down 0

end Logbook

/-! ### Every port down -/

section Downs
variable (s : State)

/-- One port of `downAll`. -/
def State.downOne (s : State) (i : Nat) : State :=
  if (s.port i).state = .down then s else (s.sendDown i).modPort i (fun p => { p with ctl := [.down] })

theorem State.downAll_eq : s.downAll = (List.range 36).foldl State.downOne s := rfl

theorem State.port_downOne_ne (i j : Nat) (h : j ≠ i) : (s.downOne i).port j = s.port j := by
  unfold State.downOne
  split
  · rfl
  · exact (State.port_modPort_ne _ _ h).trans (s.port_sendDown_ne h)

theorem State.state_downOne (i : Nat) : ((s.downOne i).port i).state = .down := by
  unfold State.downOne
  split
  case isTrue hdown => exact hdown
  case isFalse =>
    rw [State.port_modPort_self]
    exact s.state_sendDown i

theorem State.state_downAll {i : Nat} (hi : i < 36) : (s.downAll.port i).state = .down := by
  obtain ⟨pre, -, hport⟩ := State.port_foldl_of_mem State.port_downOne_ne List.nodup_range (List.mem_range.mpr hi) s
  rw [State.downAll_eq, hport]
  exact State.state_downOne _ i

theorem State.beyondLinks_downAll : s.downAll.beyondLinks = s.beyondLinks := by
  refine foldl_keeps State.beyondLinks (fun a i => ?_) _ s
  split
  · rfl
  · exact a.beyondLinks_sendDown i

theorem State.logbook_downAll : s.downAll.logbook = { s.logbook with
    portDowns := s.downAll.logbook.portDowns, portRetrains := s.downAll.logbook.portRetrains, failovers := s.downAll.logbook.failovers } := by
  refine Logbook.eq_of_beyondPorts (foldl_keeps (fun a : State => a.logbook.beyondPorts) (fun a i => ?_) _ s)
  split
  · rfl
  · exact a.logbook_sendDown i

end Downs

/-! ### O19 -/

section Shutdown
variable {s : State}

/-- The module once its blocks have lost power: no jobs, no work, HALTED. -/
def State.dark (u : State) : State :=
  { u with
    errs := { u.errs with halted := true }
    parts := [], ctxs := [], rings := [], slots := [], jr := {}, tiles := [], dies := [], clusters := [] }

/-- The module at its thermal shutdown, before the ports go down: work stopped, EVENTS[6] counted, the logbook committed. -/
def State.overheated (s : State) : State := (s.stopAll.countEvent 6).commitLogbook

theorem exec_thermalShutdown {r : Sensors} (hp : s.boot.powered = true) (hh : s.errs.halted = false)
    (hhot : 115 ≤ maxTemp r.dieTemps ∨ 100 ≤ maxTemp r.stackTemps) :
    exec (.thermalShutdown r) s = .next s.overheated.downAll.dark := by
  have hcond : (s.boot.powered && !s.errs.halted && (115 ≤ maxTemp r.dieTemps || 100 ≤ maxTemp r.stackTemps)) = true := by simp [hp, hh, hhot]
  have hexec : exec (.thermalShutdown r) s = execThermalShutdown r s := rfl
  rw [hexec, execThermalShutdown, if_pos hcond]
  unfold State.dark State.overheated
  rfl

theorem State.overheated_eq (s : State) : s.overheated = { s.stopAll with
    logbook := (s.stopAll.countEvent 6).logbook.committed, flash := s.overheated.flash } := rfl

end Shutdown

/-- Settles O19: the logbook is committed before the ports go down, which changes only what it counts of them
(`State.logbook_downAll`); all else that the ports' work leaves alone is `State.beyondLinks_downAll`. -/
theorem thermalShutdownHalts : Obligations.ThermalShutdownHalts := by
  unfold Obligations.ThermalShutdownHalts
  intro r s hp hh hhot
  refine ⟨_, exec_thermalShutdown hp hh hhot, ?_⟩
  have hbanks : s.overheated.flash.bank0 = some s.overheated.logbook ∨ s.overheated.flash.bank1 = some s.overheated.logbook :=
    State.banks_commitLogbook (s.stopAll.countEvent 6)
  have hlog : s.overheated.logbook = (s.stopAll.countEvent 6).logbook.committed := (congrArg State.logbook s.overheated_eq :)
  have herrs : s.overheated.errs = s.errs := (congrArg State.errs s.overheated_eq :)
  have hfuses : s.overheated.fuses = s.fuses := (congrArg State.fuses s.overheated_eq :)
  have hpending : s.overheated.pending = s.pending := (congrArg State.pending s.overheated_eq :)
  generalize s.overheated = u at *
  have hlinks := u.beyondLinks_downAll
  have hports := fun i (hi : i < 36) => u.state_downAll hi
  have hlogdown := u.logbook_downAll
  generalize u.downAll = v at *
  refine ⟨?errs, rfl, rfl, rfl, rfl, rfl, rfl, rfl, rfl, hports, (congrArg State.fuses hlinks :).trans hfuses,
    (congrArg State.pending hlinks :).trans hpending, u.logbook, ?banks, ?committed, ?counted, hlogdown⟩
  case errs => exact congrArg (fun e : ErrLog => { e with halted := true }) ((State.errs_of_beyondLinks hlinks).trans herrs)
  case banks => exact (State.flash_of_beyondLinks hlinks) ▸ hbanks
  case committed =>
    rw [hlog]
    rfl
  case counted =>
    rw [hlog]
    exact State.events_countEvent s.stopAll 6

/-! ### O20 -/

section Samples
variable {s : State}

/-- The logbook after a second, EVENTS apart. -/
def State.secondSampled (s : State) : Logbook :=
  { s.logbook with
    liveSeconds := satAdd 64 s.logbook.liveSeconds 1
    stateSeconds := bump 64 s.logbook.stateSeconds s.stateCode 1
    tjHist := ((s.power.dieTemps.zip (List.range 12))).foldl (fun t e => bump 32 t (32 * e.2 + tjBin e.1) 1) s.logbook.tjHist
    vinHist := bump 32 s.logbook.vinHist (vinBin s.power.vin) 1 }

theorem exec_logbookSecondSample (hp : s.boot.powered = true) : exec .logbookSecondSample s = .next
    (if 0 < s.power.k then State.countEvent { s with logbook := s.secondSampled } 4 else { s with logbook := s.secondSampled }) :=
  congrArg Host.Outcome.next (if_neg (by simp [hp]))

theorem getD_bump_ne {bits : Nat} {t : Tab Nat} {i j : Nat} (n : Nat) (h : j ≠ i) : Tab.getD (bump bits t i n) j 0 = Tab.getD t j 0 :=
  Tab.getD_set_ne _ _ _ h

/-- Is a laser one whose bias is sampled? -/
def State.sampledLaser (s : State) (i : Nat) : Bool := (s.laser i).lit && 0 < (s.laser i).factory

/-- The peak bias of a laser after a sample, in thousandths of its factory bias. -/
def State.peakOf (s : State) (i old : Nat) : Nat := max old (min 65535 ((s.laser i).bias * 1000 / (s.laser i).factory))

/-- The sample of one laser. -/
def State.hourOne (s : State) (l : Logbook) (i : Nat) : Logbook :=
  if s.sampledLaser i then { l with
    biasHist := bump 32 l.biasHist (16 * i + biasBin (s.laser i).bias (s.laser i).factory) 1
    peakPermille := Tab.set l.peakPermille i (s.peakOf i (Tab.getD l.peakPermille i 0)) }
  else l

/-- The logbook after an hour's sample. -/
def State.hourSampled (s : State) : Logbook := (List.range 48).foldl s.hourOne s.logbook

theorem exec_logbookHourlySample (hp : s.boot.powered = true) :
    exec .logbookHourlySample s = .next { s with logbook := s.hourSampled } :=
  congrArg Host.Outcome.next (if_neg (by simp [hp]))

/-- The logbook but for what an hour's sample writes. -/
def Logbook.beyondLasers (l : Logbook) : Logbook := { l with biasHist := [], peakPermille := [] }

theorem State.beyondLasers_hourOne (s : State) (l : Logbook) (i : Nat) : (s.hourOne l i).beyondLasers = l.beyondLasers := by
  unfold State.hourOne
  split <;> rfl

theorem State.hourSampled_eq (s : State) : s.hourSampled = { s.logbook with
    biasHist := s.hourSampled.biasHist, peakPermille := s.hourSampled.peakPermille } := by
  have h : s.hourSampled.beyondLasers = s.logbook.beyondLasers := foldl_keeps Logbook.beyondLasers s.beyondLasers_hourOne _ _
  exact congrArg (fun k : Logbook => { k with biasHist := s.hourSampled.biasHist, peakPermille := s.hourSampled.peakPermille }) h

/-- A laser whose turn another's is keeps its peak. -/
theorem State.peak_hourOne_ne (s : State) (l : Logbook) {i j : Nat} (h : j ≠ i) :
    Tab.get (s.hourOne l i).peakPermille j = Tab.get l.peakPermille j := by
  unfold State.hourOne
  split
  · exact Tab.get_set_ne _ _ h
  · rfl

/-- A dark laser keeps its peak. -/
theorem State.peak_hourSampled_of_dark (s : State) {j : Nat} (hdark : (s.laser j).lit = false) :
    Tab.get s.hourSampled.peakPermille j = Tab.get s.logbook.peakPermille j := by
  refine foldl_keeps (fun l : Logbook => Tab.get l.peakPermille j) (fun l i => ?_) _ _
  by_cases hij : j = i
  · subst hij
    rw [State.hourOne, if_neg (by simp [State.sampledLaser, hdark])]
  · exact s.peak_hourOne_ne l hij

/-- A walk over lasers, none of them twice, gives each sampled one its peak. -/
theorem State.peak_foldl_hourOne (s : State) {j : Nat} (hj : s.sampledLaser j = true) {is : List Nat} (hnodup : is.Nodup) (l : Logbook) :
    Tab.getD (is.foldl s.hourOne l).peakPermille j 0
      = if j ∈ is then s.peakOf j (Tab.getD l.peakPermille j 0) else Tab.getD l.peakPermille j 0 := by
  induction is generalizing l with
  | nil => rfl
  | cons i is ih =>
    obtain ⟨hi, hrest⟩ := List.nodup_cons.mp hnodup
    rw [List.foldl_cons, ih hrest]
    by_cases hij : j = i
    · subst hij
      rw [if_neg hi, if_pos List.mem_cons_self, State.hourOne, if_pos hj]
      exact Tab.getD_set_self _ _ _ _
    · have hkept : Tab.getD (s.hourOne l i).peakPermille j 0 = Tab.getD l.peakPermille j 0 :=
        congrArg (·.getD 0) (s.peak_hourOne_ne l hij)
      rw [hkept]
      simp [hij]

theorem State.peak_hourSampled (s : State) {j : Nat} (hj : j < 48) (hlit : (s.laser j).lit = true) (hfac : 0 < (s.laser j).factory) :
    Tab.getD s.hourSampled.peakPermille j 0 = s.peakOf j (Tab.getD s.logbook.peakPermille j 0) := by
  rw [State.hourSampled, s.peak_foldl_hourOne (by simp [State.sampledLaser, hlit, hfac]) List.nodup_range, if_pos (List.mem_range.mpr hj)]

/-- Two banks that are both written: the older one takes the commit. -/
theorem State.flash_commitLogbook_of_banks {a b : Logbook} (ha : s.flash.bank0 = some a) (hb : s.flash.bank1 = some b) :
    (a.generation ≤ b.generation → s.commitLogbook.flash.bank0 = some s.commitLogbook.logbook ∧ s.commitLogbook.flash.bank1 = some b)
    ∧ (b.generation < a.generation → s.commitLogbook.flash.bank1 = some s.commitLogbook.logbook ∧ s.commitLogbook.flash.bank0 = some a) := by
  have holder : s.flash.bank0Older = decide (a.generation ≤ b.generation) := by rw [Flash.bank0Older, ha, hb]
  rw [State.commitLogbook_eq, holder]
  refine ⟨fun hle => ?_, fun hlt => ?_⟩
  · rw [decide_eq_true hle, if_pos rfl]
    exact ⟨rfl, hb⟩
  · rw [decide_eq_false (by omega), if_neg Bool.false_ne_true]
    exact ⟨rfl, ha⟩

theorem exec_telemetryWindowEnd {start : Nat} (hl : s.live = true) (hst : s.telem.start = some start) (hp : 0 < s.telem.period)
    (hend : s.windowEnd start ≤ s.time.now) :
    exec .telemetryWindowEnd s = .next (s.closeWindow (s.windowEnd start) (s.windowEnd start)) := by
  refine congrArg Host.Outcome.next ?_
  rw [hst]
  refine if_pos ?_
  have hspan : 0 < s.telem.span := Nat.mul_pos hp (by decide)
  simp [hl, hend, hspan]

/-- A window that ends while the ring is disabled or full, or the physical function away, is lost. -/
theorem State.closeWindow_of_lost {start : Nat} (hst : s.telem.start = some start) (stop next : Nat)
    (hlost : (!s.telem.enable || (s.telem.tail + 1) % 2 ^ s.telem.logDepth = s.telem.head % 2 ^ s.telem.logDepth || !(s.fn 0).avail) = true) :
    s.closeWindow stop next
      = { s with telem := { s.telem.fresh next true s.power.k with seq := s.telem.seq + 1, lost := satAdd 32 s.telem.lost 1 } } := by
  rw [State.closeWindow, hst]
  exact if_pos hlost

/-- One that ends with room in an enabled ring is written. -/
theorem State.closeWindow_of_room {start : Nat} (hst : s.telem.start = some start) (stop next : Nat)
    (hroom : (!s.telem.enable || (s.telem.tail + 1) % 2 ^ s.telem.logDepth = s.telem.head % 2 ^ s.telem.logDepth || !(s.fn 0).avail) = false) :
    s.closeWindow stop next = { s with
      telem := { s.telem.fresh next false s.power.k with seq := s.telem.seq + 1, tail := (s.telem.tail + 1) % 2 ^ s.telem.logDepth }
      hostOut := s.hostOut ++ [.write 0 (s.telem.baseLo.toNat + 2 ^ 32 * s.telem.baseHi.toNat + 12288 * s.telem.tail) (s.telemRecord start stop),
        .vector 0 s.telem.vector] } := by
  rw [State.closeWindow, hst]
  exact if_neg (by rw [hroom]; exact Bool.false_ne_true)

end Samples

/-- Settles O20: the second's sample is one state but for EVENTS; the hour's is a walk over the lasers, each sampled once
(`State.peak_foldl_hourOne`); a window that ends is lost or written (`State.closeWindow_of_lost`, `State.closeWindow_of_room`). -/
theorem logbookAndTelemetryRowsComplete : Obligations.LogbookAndTelemetryRowsComplete := by
  unfold Obligations.LogbookAndTelemetryRowsComplete
  refine ⟨?second, ?hour, ?commit, ?window⟩
  case second =>
    intro s hp
    refine ⟨_, exec_logbookSecondSample hp, ?_⟩
    split
    case isTrue hk =>
      exact ⟨rfl, rfl, getD_bump_self _ _ _ _, getD_bump_self _ _ _ _, fun i hi => getD_bump_ne _ hi, fun h0 => absurd h0 (by omega)⟩
    case isFalse =>
      exact ⟨rfl, rfl, getD_bump_self _ _ _ _, getD_bump_self _ _ _ _, fun i hi => getD_bump_ne _ hi, fun _ => rfl⟩
  case hour =>
    intro s hp
    exact ⟨_, exec_logbookHourlySample hp, rfl, s.hourSampled_eq, fun j hj hlit hfac => s.peak_hourSampled hj hlit hfac,
      fun j hdark => s.peak_hourSampled_of_dark hdark⟩
  case commit =>
    intro s hp
    exact ⟨_, congrArg Host.Outcome.next (if_pos hp), s.commitLogbook_eq, rfl, s.flash_commitLogbook,
      fun a b ha hb => State.flash_commitLogbook_of_banks ha hb⟩
  case window =>
    intro start s hl hst hp hend
    refine ⟨_, exec_telemetryWindowEnd hl hst hp hend, ?_⟩
    cases hlost : (!s.telem.enable || (s.telem.tail + 1) % 2 ^ s.telem.logDepth = s.telem.head % 2 ^ s.telem.logDepth || !(s.fn 0).avail)
    case true =>
      rw [State.closeWindow_of_lost hst _ _ hlost]
      refine ⟨rfl, rfl, rfl, rfl, fun hen hroom havail => ?_, fun _ => ⟨rfl, rfl, rfl⟩⟩
      simp [hen, hroom, havail] at hlost
    case false =>
      rw [State.closeWindow_of_room hst _ _ hlost]
      refine ⟨rfl, rfl, rfl, rfl, fun _ _ _ => ⟨rfl, rfl⟩, fun hen => ?_⟩
      simp [hen] at hlost

end Sys2Proof.Machine

/-! SUPPORT. What the work on jobs and the twin leaves of the module: fuses, flash, the error log, the governor, the registers and the
rest that no job and no twin state touches; of the boot state, only the mark that jobs are still to be taken up (R403). -/

namespace Sys2Proof.Machine

section Steady
variable (s : State)

/-- The module with all that work on jobs, messages and the twin may change out of sight. -/
def State.steady (s : State) : State :=
  { s with
    funs := [], hostOut := [], parts := [], ctxs := [], rings := [], slots := [], tiles := [], ports := [], time := {}, net := {}, twin := {}
    jr := {}, logbook := {}, arb := {}, freeCtr := 0 }

theorem State.steady_of_beyondSlices {s t : State} (h : t.beyondSlices = s.beyondSlices) : t.steady = s.steady :=
  (congrArg State.steady h :)

theorem State.steady_of_beyondLinks {s t : State} (h : t.beyondLinks = s.beyondLinks) : t.steady = s.steady :=
  (congrArg State.steady h :)

@[simp] theorem State.steady_setFn (i : Nat) (f : Func) : (s.setFn i f).steady = s.steady := rfl
@[simp] theorem State.steady_modFn (i : Nat) (g : Func → Func) : (s.modFn i g).steady = s.steady := rfl
@[simp] theorem State.steady_setCtx (i : Nat) (x : Ctx) : (s.setCtx i x).steady = s.steady := rfl
@[simp] theorem State.steady_modCtx (i : Nat) (g : Ctx → Ctx) : (s.modCtx i g).steady = s.steady := rfl
@[simp] theorem State.steady_modPart (i : Nat) (g : Part → Part) : (s.modPart i g).steady = s.steady := rfl
@[simp] theorem State.steady_modRun (ctx ring tseq : Nat) (g : Run → Run) : (s.modRun ctx ring tseq g).steady = s.steady := rfl
@[simp] theorem State.steady_modTwin (g : Twin → Twin) : (s.modTwin g).steady = s.steady := rfl
@[simp] theorem State.steady_emit (l : List HostItem) : (s.emit l).steady = s.steady := rfl
@[simp] theorem State.steady_granted (fn : Nat) : (s.granted fn).steady = s.steady := rfl
@[simp] theorem State.steady_makeMapping (fn ctx handle offset size : Nat) : (s.makeMapping fn ctx handle offset size).steady = s.steady := rfl
@[simp] theorem State.steady_send (d : Nat) (p : Option Nat) (m : Msg) : (s.send d p m).steady = s.steady := (congrArg State.steady (s.send_eq d p m) :)
@[simp] theorem State.steady_journal (ring ctx tseq : Nat) (b : List JBody) : (s.journal ring ctx tseq b).steady = s.steady :=
  (congrArg State.steady (s.journal_eq ring ctx tseq b) :)
@[simp] theorem State.steady_event (fn ty ctx a b : Nat) : (s.event fn ty ctx a b).steady = s.steady :=
  (congrArg State.steady (s.event_eq fn ty ctx a b) :)
@[simp] theorem State.steady_passSlice (part : Nat) : (s.passSlice part).steady = s.steady := State.steady_of_beyondSlices (by simp)

/-! ### Commands and waiting TENSOR_MAPs -/

@[simp] theorem State.steady_jobWrite (fn a : Nat) (b : List Byte) : (s.jobWrite fn a b).steady = s.steady := by
  unfold State.jobWrite
  dsimp only
  split <;> rfl

@[simp] theorem State.steady_fnWrite (fn a : Nat) (b : List Byte) : (s.fnWrite fn a b).steady = s.steady := by
  unfold State.fnWrite
  split <;> rfl

@[simp] theorem State.steady_fnVector (fn v : Nat) : (s.fnVector fn v).steady = s.steady := by
  unfold State.fnVector
  split <;> rfl

@[simp] theorem State.steady_finishCmd (h : CmdHead) (status cause : Nat) (res : List Byte) :
    (s.finishCmd h status cause res).steady = s.steady := by
  unfold State.finishCmd
  dsimp only
  repeat' split
  all_goals simp

@[simp] theorem State.steady_retryMap (ctx fn : Nat) : (s.retryMap ctx fn).steady = s.steady := by
  unfold State.retryMap
  repeat' split
  all_goals simp

@[simp] theorem State.steady_retryMaps (ctx : Nat) : (s.retryMaps ctx).steady = s.steady :=
  foldl_keeps (f := fun (a : State) (f : Nat × Func) => a.retryMap ctx f.1) State.steady (fun a f => a.steady_retryMap ctx f.1) s.funs s

@[simp] theorem State.steady_refresh (ctx : Nat) : (s.refresh ctx).steady = s.steady :=
  (State.steady_of_beyondSlices (s.beyondSlices_refresh ctx)).trans (s.steady_retryMaps ctx)

@[simp] theorem State.steady_journalIf (ring ctx tseq : Nat) (b : List JBody) : (s.journalIf ring ctx tseq b).steady = s.steady := by
  unfold State.journalIf
  split <;> simp

@[simp] theorem State.steady_endMapping (fn offset : Nat) : (s.endMapping fn offset).steady = s.steady := by
  unfold State.endMapping
  dsimp only
  repeat' split
  all_goals simp

/-! ### Tickets, job faults, commits -/

@[simp] theorem State.steady_putRecord (ctx : Nat) (r : Run) (pos : Nat) (rec : List Byte) : (s.putRecord ctx r pos rec).steady = s.steady := by
  unfold State.putRecord
  split <;> simp

@[simp] theorem State.steady_settle (ctx ring tseq : Nat) : (s.settle ctx ring tseq).steady = s.steady := by
  unfold State.settle
  dsimp only
  repeat' split
  all_goals simp

@[simp] theorem State.steady_stopRun (ctx : Nat) (r : Run) (status fault : Nat) (bad : Option Nat) :
    (s.stopRun ctx r status fault bad).steady = s.steady := by
  unfold State.stopRun
  rw [State.steady_settle, State.steady_modRun]
  refine foldl_keeps State.steady (fun a i => ?_) _ s
  split <;> simp

@[simp] theorem State.steady_teardown (ctx cause tseq : Nat) : (s.teardown ctx cause tseq).steady = s.steady := by
  unfold State.teardown
  split
  case h_1 => rfl
  case h_2 =>
    dsimp only
    split <;> simp <;> rfl

@[simp] theorem State.steady_faultTickets (ctx cause : Nat) (by_ : Option (Nat × Nat × Nat)) : (s.faultTickets ctx cause by_).steady = s.steady := by
  unfold State.faultTickets
  refine foldl_keeps State.steady (fun a r => ?_) _ s
  repeat' split
  all_goals simp

@[simp] theorem State.steady_jobFault (ctx cause : Nat) (by_ : Option (Nat × Nat × Nat)) : (s.jobFault ctx cause by_).steady = s.steady := by
  unfold State.jobFault
  repeat' split
  all_goals simp

@[simp] theorem State.steady_noReplay (ctx : Nat) : (s.noReplay ctx).steady = s.steady := s.steady_jobFault ctx _ none

@[simp] theorem State.steady_decideCommit (ctx ring tseq status : Nat) : (s.decideCommit ctx ring tseq status).steady = s.steady := by
  unfold State.decideCommit
  simp

@[simp] theorem State.steady_endCommits (ctx status : Nat) : (s.endCommits ctx status).steady = s.steady := by
  unfold State.endCommits
  split
  case h_1 => rfl
  case h_2 => exact foldl_keeps State.steady (fun a (c : Commit) => a.steady_decideCommit ctx c.ring c.tseq status) _ _

@[simp] theorem State.steady_resealAll : s.resealAll.steady = s.steady :=
  foldl_keeps (f := fun (a : State) (c : Nat × Ctx) => a.endCommits c.1 0x12) State.steady (fun a c => a.steady_endCommits c.1 0x12) s.ctxs s

/-! ### Jobs that go back, or are taken up again (R348, R403) -/

@[simp] theorem State.steady_dropQueued (ctx : Nat) : (s.dropQueued ctx).steady = s.steady := by
  refine foldl_keeps State.steady (fun a c => ?_) s.ctxs s
  split <;> rfl

@[simp] theorem State.steady_returnTo (ctx : Nat) (x : Ctx) (k : Kept) : (s.returnTo ctx x k).steady = s.steady := by
  have hdropped := s.steady_dropQueued ctx
  unfold State.returnTo
  dsimp only
  repeat' split
  all_goals simp
  all_goals exact hdropped

@[simp] theorem State.steady_rollback (ctx : Nat) (x : Ctx) (k : Kept) : (s.rollback ctx x k).steady = s.steady :=
  (State.steady_returnTo _ ctx x k).trans (s.steady_journal _ _ _ _)

@[simp] theorem State.steady_replayAll (ctx : Nat) (x : Ctx) : (s.replayAll ctx x).steady = s.steady := by
  unfold State.replayAll
  dsimp only
  split
  · rfl
  · exact State.steady_noReplay _ ctx

@[simp] theorem State.steady_inPlaceFault (ctx : Nat) (x : Ctx) : (s.inPlaceFault ctx x).steady = s.steady := State.steady_noReplay _ ctx

@[simp] theorem State.steady_inPlace (ctx : Nat) (x : Ctx) : (s.inPlace ctx x).steady = s.steady := by
  unfold State.inPlace
  split
  · split
    · exact s.steady_inPlaceFault ctx x
    · rfl
  · exact s.steady_inPlaceFault ctx x

@[simp] theorem State.steady_restartInPlace : s.restartInPlace.steady = s.steady := by
  refine foldl_keeps State.steady (fun a c => ?_) s.ctxs s
  split <;> simp

@[simp] theorem State.steady_restartPaired : s.restartPaired.steady = s.steady := by
  refine foldl_keeps State.steady (fun a c => ?_) s.ctxs s
  repeat' split
  all_goals simp

/-! ### Twin states (R310, R339) -/

@[simp] theorem State.steady_setTwin (st : TState) : (s.setTwin st).steady = s.steady := by
  rw [State.setTwin_eq]
  rfl

@[simp] theorem State.steady_tellPair : s.tellPair.steady = s.steady := by
  unfold State.tellPair State.tellTo
  repeat' split
  all_goals simp

@[simp] theorem State.steady_beginAuth : s.beginAuth.steady = s.steady := by
  unfold State.beginAuth
  split
  · exact State.steady_send _ _ _ _
  · rfl

@[simp] theorem State.steady_resendRecords (t : Nat) : (s.resendRecords t).steady = s.steady := by
  unfold State.resendRecords
  dsimp only
  split <;> simp

@[simp] theorem State.steady_sendCommit (t ctx : Nat) (c : Commit) : (s.sendCommit t ctx c).steady = s.steady :=
  State.sendCommit_keeps (fun b m => b.steady_send t none m) s ctx c

@[simp] theorem State.steady_sendImage (dest ctx commit : Nat) : (s.sendImage dest ctx commit).steady = s.steady := by
  unfold State.sendImage
  split
  · rw [State.steady_send]
    exact foldl_keeps State.steady (fun b e => b.steady_send _ _ _) _ s
  · rfl

@[simp] theorem State.steady_resume (t : Nat) : (s.resume t).steady = s.steady := by
  have hcommits : ∀ (c : Nat × Ctx) (b : State),
      ((c.2.commits.filter (·.transferring)).foldl (fun b k => b.sendCommit t c.1 k) b).steady = b.steady :=
    fun c b => foldl_keeps State.steady (fun b k => b.steady_sendCommit t c.1 k) _ b
  unfold State.resume
  dsimp only
  refine (foldl_keeps State.steady (fun (b : State) (e : Nat × Nat) => b.steady_sendImage t e.1 e.2) _ _).trans ?_
  refine (foldl_keeps State.steady (fun (b : State) (c : Nat × Ctx) => hcommits c b) _ _).trans ?_
  rw [State.steady_send, State.steady_resendRecords]

/-! ### The twin at boot (R403) -/

/-- The steady module but for the mark that its jobs are still to be taken up. -/
def State.settled (s : State) : State := { s.steady with boot := { s.boot with rebuildDue := false } }

theorem State.settled_of_steady {s t : State} (h : t.steady = s.steady) : t.settled = s.settled :=
  (congrArg (fun u : State => { u with boot := { u.boot with rebuildDue := false } }) h :)

theorem State.settled_restartJobs (paired : Bool) : (s.restartJobs paired).settled = s.settled := by
  unfold State.restartJobs
  split
  case isFalse => rfl
  case isTrue =>
    dsimp only
    split
    · exact (State.settled_of_steady (State.steady_restartPaired _)).trans rfl
    · exact (State.settled_of_steady (State.steady_restartInPlace _)).trans rfl

theorem State.settled_enterPaired : s.enterPaired.settled = s.settled := by
  unfold State.enterPaired
  split
  case h_1 => rfl
  case h_2 =>
    dsimp only
    rw [State.settled_restartJobs]
    refine State.settled_of_steady ?_
    rw [State.steady_resume, State.steady_setTwin, State.steady_modTwin]
    exact (apply_ite State.steady _ _ _).trans (ite_eq_right_iff.mpr fun _ => s.steady_resealAll)

theorem State.settled_pairStep : s.pairStep.settled = s.settled := by
  unfold State.pairStep
  split
  case h_2 => rfl
  case h_1 t _ _ =>
    cases s.pairFirst t with
    | some cp => rfl
    | none =>
      dsimp only
      split
      case isTrue =>
        cases s.pairThird t with
        | some p => rfl
        | none => exact s.settled_enterPaired
      case isFalse =>
        split
        · exact State.settled_of_steady s.steady_beginAuth
        · rfl

theorem State.settled_bootTwin : s.bootTwin.settled = s.settled := by
  unfold State.bootTwin
  dsimp only
  split
  case isTrue => rfl
  case isFalse =>
    split
    case h_1 => exact State.settled_restartJobs _ false
    case h_2 =>
      rw [State.settled_pairStep]
      refine State.settled_of_steady ?_
      rw [State.steady_tellPair, State.steady_setTwin]
      rfl
    case h_3 => exact (State.settled_restartJobs _ false).trans (State.settled_of_steady (State.steady_setTwin _ _))

end Steady

end Sys2Proof.Machine

/-! SUPPORT. Boot, firmware start and recovery (R398, R399, R401, R404 to R406). -/

namespace Sys2Proof.Machine

/-! ### Firmware start: O23 and O58 -/

section Boot
variable {s : State} {r : Running}

/-- What an image that becomes READY has done at once: the fuses, the logbook, the boot state. -/
def State.readied (s : State) (r : Running) : State :=
  { s with
    fuses := s.fuses.afterReady r
    logbook := s.flash.loadLogbook
    boot := { s.boot with stage := .ready, updatePending := false } }

/-- The ports of a cartridge that is locked train, those in service excepted. -/
def State.trainLit (s : State) (c : Nat) : State :=
  if (s.cart c).locked then
    (cartPorts c).foldl (fun b i => if (b.port i).state = .inService then b else b.beginTraining i) s
  else s

theorem State.beyondLinks_trainLit (s : State) (c : Nat) : (s.trainLit c).beyondLinks = s.beyondLinks := by
  unfold State.trainLit
  split
  case isFalse => rfl
  case isTrue =>
    refine foldl_keeps State.beyondLinks (fun b i => ?_) _ s
    split
    · rfl
    · exact b.beyondLinks_beginTraining i

/-- The module as the firmware takes it up: the ports train, the twin is as it was, every job is brought up to date. -/
def State.takenUp (s : State) : State :=
  let t := ((List.range 4).foldl State.trainLit s.elect).bootTwin
  t.ctxs.foldl (fun a c => a.refresh c.1) t

theorem State.steady_refreshAll (s : State) (l : Tab Ctx) : (l.foldl (fun a c => a.refresh c.1) s).steady = s.steady :=
  foldl_keeps State.steady (fun a (c : Nat × Ctx) => a.steady_refresh c.1) l s

theorem State.settled_takenUp (s : State) : s.takenUp.settled = s.settled := by
  unfold State.takenUp
  dsimp only
  refine (State.settled_of_steady (State.steady_refreshAll _ _)).trans ?_
  rw [State.settled_bootTwin]
  refine State.settled_of_steady (State.steady_of_beyondLinks ?_)
  exact (foldl_keeps State.beyondLinks State.beyondLinks_trainLit _ _).trans s.beyondLinks_elect

theorem exec_firmwareReady (hr : s.boot.running = some r) (hp : s.boot.powered = true) (hh : s.errs.halted = false)
    (hst : s.boot.stage = .firmwareStart) :
    exec .firmwareReady s = .next ((s.readied r).countEvent (if s.boot.cold then 0 else 1)).takenUp := by
  have hexec : exec .firmwareReady s = execFirmwareReady s := rfl
  have hcond : (s.boot.powered && !s.errs.halted && s.boot.stage = .firmwareStart) = true := by simp [hp, hh, hst]
  rw [hexec, execFirmwareReady, hr]
  dsimp only
  rw [if_pos hcond]
  rfl

/-- What READY leaves of the steady module: the fuses after it, the boot state at READY, the rest as it was. -/
theorem firmwareReady_settled (hr : s.boot.running = some r) (hp : s.boot.powered = true) (hh : s.errs.halted = false)
    (hst : s.boot.stage = .firmwareStart) : ∃ t : State, exec .firmwareReady s = .next t ∧ t.settled = (s.readied r).settled :=
  ⟨_, exec_firmwareReady hr hp hh hst, (State.settled_takenUp _).trans rfl⟩

/-- The boot state after check 6. -/
def State.bodyChecked (s : State) : Boot :=
  if bodyOk s.flashImage then { s.boot with stage := .firmwareStart, keyLocked := true, running := some (s.runningOf s.flashImage) }
  else { s.boot with stage := .recovery, fail := 6 }

end Boot

/-- Settles O23: the checks are the branches of the two commands; of what READY sets, nothing that follows touches the boot state, the
fuses, the flash or the error log (`State.settled_takenUp`). -/
theorem bootRowsComplete : Obligations.BootRowsComplete := by
  unfold Obligations.BootRowsComplete
  refine ⟨?header, ?body, ?ready⟩
  case header =>
    intro s hp hh hst
    refine congrArg Host.Outcome.next ((if_pos (by simp [hp, hh, hst])).trans ?_)
    dsimp only
    split <;> rfl
  case body =>
    intro s hp hh hst
    have hexec : exec .bootBodyVerified s = .next { s with boot := s.bodyChecked } :=
      congrArg Host.Outcome.next (if_pos (by simp [hp, hh, hst]))
    rw [hexec, State.bodyChecked]
    exact ⟨fun hok => by rw [if_pos hok], fun hbad => by rw [if_neg (by rw [hbad]; exact Bool.false_ne_true)]⟩
  case ready =>
    intro r s hr hp hh hst
    obtain ⟨t, hexec, ht⟩ := firmwareReady_settled hr hp hh hst
    exact ⟨t, hexec, (congrArg (fun u : State => u.boot.stage) ht :), (congrArg (fun u : State => u.boot.updatePending) ht :),
      (congrArg (fun u : State => u.boot.running) ht :).trans hr, (congrArg State.fuses ht :), (congrArg State.flash ht :),
      (congrArg State.errs ht :)⟩

/-- Settles O58: the fuses are those of `Fuses.afterReady` (`firmwareReady_settled`). -/
theorem fusesAtReady : Obligations.FusesAtReady := by
  unfold Obligations.FusesAtReady
  intro r s hr hp hh hst
  obtain ⟨t, hexec, ht⟩ := firmwareReady_settled hr hp hh hst
  have hfuses : t.fuses = s.fuses.afterReady r := (congrArg State.fuses ht :)
  refine ⟨t, hexec, (congrArg (fun u : State => u.boot.stage) ht :), ?_⟩
  rw [hfuses]
  refine ⟨rfl, fun hc => if_pos hc, fun hc => if_neg (by rw [hc]; exact Bool.false_ne_true), ?_⟩
  simp [Fuses.afterReady]

/-! ### Recovery: O24 -/

section Recovery
variable {s : State} {src : RecSource}

/-- The ROM asks the twin by a message. -/
theorem State.askTwin_eq (s : State) : s.askTwin = { s with net := s.askTwin.net } := by
  unfold State.askTwin
  split
  · split
    · exact State.send_eq _ _ _ _
    · rfl
  · rfl

theorem State.recoveryFails_eq (s : State) (cause : Nat) : s.recoveryFails cause = { s with
    boot := { s.boot with fail := cause, recSource := none, recHeader := [], recBusy := false }, net := (s.recoveryFails cause).net } := by
  unfold State.recoveryFails
  dsimp only
  split
  · exact State.askTwin_eq _
  · rfl

/-- A source's header has failed a check: a failed host image starts the offers anew, the twin is asked again. -/
def State.headerRefused (s : State) (src : RecSource) (cause : Nat) : State :=
  if src = .host then s.recoveryFails cause else { s with boot := { s.boot with fail := cause } }.askTwin

theorem exec_recoveryHeader (hp : s.boot.powered = true) (hh : s.errs.halted = false) (hst : s.boot.stage = .recovery)
    (hnone : s.boot.recSource = none) (hoff : s.offered src = true) (hd : List Byte) :
    exec (.recoveryHeader src hd) s = .next (if s.headerFail (hd.take 4096) = 0 then { s with boot := { s.boot with
        recSource := some src, recHeader := hd.take 4096, recBusy := s.boot.recBusy && src = .host } }
      else s.headerRefused src (s.headerFail (hd.take 4096))) :=
  congrArg Host.Outcome.next (if_pos (by simp [hp, hh, hst, hnone, hoff]))

/-- A header that fails leaves its cause and no source. -/
theorem State.headerRefused_spec (hnone : s.boot.recSource = none) (hst : s.boot.stage = .recovery) (src : RecSource) (cause : Nat) :
    (s.headerRefused src cause).boot.stage = .recovery
      ∧ s.headerRefused src cause = { s with boot := (s.headerRefused src cause).boot, net := (s.headerRefused src cause).net }
      ∧ (s.headerRefused src cause).boot.fail = cause ∧ (s.headerRefused src cause).boot.recSource = none := by
  unfold State.headerRefused
  split
  · rw [State.recoveryFails_eq]
    exact ⟨hst, rfl, rfl, rfl⟩
  · rw [State.askTwin_eq]
    exact ⟨hst, rfl, rfl, hnone⟩

/-- The module once an image has been received whole. -/
def State.imageReceived (s : State) (src : RecSource) (img : List Byte) : State :=
  if bodyOk img then
    { s.writeImageArea img with boot := { s.boot with stage := .rom, source := src.code, recSource := none, recHeader := [], recBusy := false } }
  else (s.writeImageArea img).recoveryFails 6

theorem exec_recoveryImageReceived {body : List Byte} (hp : s.boot.powered = true) (hh : s.errs.halted = false) (hst : s.boot.stage = .recovery)
    (hsrc : s.boot.recSource = some src) : exec (.recoveryImageReceived (some body)) s
      = .next (s.imageReceived src ((s.boot.recHeader ++ body.drop 4096).take (fieldAt s.boot.recHeader 0x14 4))) := by
  have hexec : exec (.recoveryImageReceived (some body)) s = execRecoveryImageReceived (some body) s := rfl
  have hcond : ¬ (!(s.boot.powered && !s.errs.halted && s.boot.stage = .recovery)) = true := by simp [hp, hh, hst]
  rw [hexec, execRecoveryImageReceived, hsrc]
  dsimp only
  rw [if_neg hcond]
  rfl

end Recovery

/-- Settles O24: each command takes the branch that its hypotheses name; a failure changes the boot state and may ask the twin
(`State.recoveryFails_eq`). -/
theorem recoveryRowsComplete : Obligations.RecoveryRowsComplete := by
  unfold Obligations.RecoveryRowsComplete
  refine ⟨?go, ?header, ?image, ?serve⟩
  case go =>
    intro v s hp hh hst hbit hnone
    refine (withUnit_next _ rfl).trans (congrArg Host.Outcome.next ((if_pos (by simp [hp, hh, hst])).trans ?_))
    exact if_pos (c := 0x5C = 0x5C ∧ bitOf v.toNat 0 ∧ s.boot.recSource = none) ⟨rfl, hbit, hnone⟩
  case header =>
    intro src hd s hp hh hst hnone hoff
    refine ⟨_, exec_recoveryHeader hp hh hst hnone hoff hd, ?_⟩
    by_cases hfail : s.headerFail (hd.take 4096) = 0
    · rw [if_pos hfail]
      exact ⟨hst, rfl, fun _ => ⟨rfl, rfl⟩, fun hne => absurd hfail hne⟩
    · rw [if_neg hfail]
      obtain ⟨hstage, hframe, hcause, hsource⟩ := State.headerRefused_spec hnone hst src (s.headerFail (hd.take 4096))
      exact ⟨hstage, hframe, fun h0 => absurd h0 hfail, fun _ => ⟨hcause, hsource⟩⟩
  case image =>
    intro src body img s hp hh hst hsrc himg
    refine ⟨_, exec_recoveryImageReceived hp hh hst hsrc, ?_⟩
    rw [← himg, State.imageReceived]
    split
    case isTrue hok =>
      exact ⟨rfl, rfl, rfl, rfl, rfl, fun _ => ⟨rfl, rfl⟩, fun hbad => absurd (hok.symm.trans hbad) (by decide)⟩
    case isFalse hbad =>
      rw [State.recoveryFails_eq]
      exact ⟨rfl, rfl, rfl, rfl, rfl, fun hok => absurd hok hbad, fun _ => ⟨hst, rfl⟩⟩
  case serve =>
    intro ident r s hl hr hid
    have hcond : (s.live && (s.twin.twinId = some ident || (s.twin.holdsPartner && s.twin.partnerOf = some ident))) = true := by
      simpa [hl] using hid
    have hexec : exec (.recoveryImageRequest ident) s = .next (s.serveImage ident) := rfl
    rw [hexec, State.serveImage, hr]
    dsimp only
    rw [if_pos hcond]

end Sys2Proof.Machine

/-! SUPPORT. Functions that go and come, resets, the removal and return of 54 V (R391, R392, R402, R459, R460). -/

namespace Sys2Proof.Machine

/-! ### The end of every mapping -/

section Mappings

theorem Tab.get_of_mem_keys {α : Type} {t : Tab α} {e : Nat × α} (h : e ∈ t) : Tab.get t e.1 ≠ none := by
  induction t with
  | nil => exact absurd h List.not_mem_nil
  | cons a t ih =>
    rw [Tab.get]
    split
    case isTrue => exact Option.some_ne_none _
    case isFalse hne => exact ih ((List.mem_cons.mp h).resolve_left fun heq => hne (congrArg Prod.fst heq).symm)

/-- Nothing is erased where there is no entry. -/
theorem Tab.erase_of_get_eq_none {α : Type} {t : Tab α} {i : Nat} (h : Tab.get t i = none) : Tab.erase t i = t :=
  List.filter_eq_self.mpr fun _ he => bne_iff_ne.mpr fun heq => Tab.get_of_mem_keys he (heq ▸ h)

/-- Erasing the keys of entries one after another keeps the entries of other keys. -/
theorem Tab.foldl_erase {α β : Type} (l : Tab β) (t : Tab α) :
    l.foldl (fun u m => Tab.erase u m.1) t = t.filter (fun e => l.all (fun m => e.1 != m.1)) := by
  induction l generalizing t with
  | nil => exact (List.filter_eq_self.mpr fun _ _ => rfl).symm
  | cons a l ih =>
    rw [List.foldl_cons, ih, Tab.erase, List.filter_filter]
    exact List.filter_congr fun _ _ => by rw [List.all_cons, Bool.and_comm]

theorem Tab.foldl_erase_self {α : Type} (t : Tab α) : t.foldl (fun u m => Tab.erase u m.1) t = [] := by
  rw [Tab.foldl_erase, List.filter_eq_nil_iff]
  exact fun e he hall => absurd (List.all_eq_true.mp hall e he) (by simp)

variable (s : State)

/-- A mapping that ends is gone from its function's table, and nothing else of the function changes. -/
theorem State.fn_endMapping_self (fn offset : Nat) :
    (s.endMapping fn offset).fn fn = { (s.fn fn) with maps := Tab.erase (s.fn fn).maps offset } := by
  have herased := s.fn_setFn_self fn { (s.fn fn) with maps := Tab.erase (s.fn fn).maps offset }
  unfold State.endMapping
  dsimp only
  split
  case h_1 hnone => rw [Tab.erase_of_get_eq_none hnone]
  case h_2 =>
    split
    case isTrue => exact herased
    case isFalse =>
      rw [State.fn, State.funs_modCtx, State.funs_journalIf]
      exact herased

theorem State.fn_endMapping_ne {fn f : Nat} (offset : Nat) (h : f ≠ fn) : (s.endMapping fn offset).fn f = s.fn f := by
  unfold State.endMapping
  dsimp only
  split
  case h_1 => rfl
  case h_2 =>
    split
    case isTrue => exact s.fn_setFn_ne _ h
    case isFalse =>
      rw [State.fn, State.funs_modCtx, State.funs_journalIf]
      exact s.fn_setFn_ne _ h

/-- The mappings at the keys of a table's entries end one after another. -/
theorem State.fn_endMappings_self (fn : Nat) (l : Tab Mapping) :
    (l.foldl (fun a m => a.endMapping fn m.1) s).fn fn
      = { (s.fn fn) with maps := l.foldl (fun u m => Tab.erase u m.1) (s.fn fn).maps } := by
  induction l generalizing s with
  | nil => rfl
  | cons m l ih => rw [List.foldl_cons, ih, State.fn_endMapping_self, List.foldl_cons]

theorem State.fn_endMappings_ne {fn f : Nat} (l : Tab Mapping) (h : f ≠ fn) : (l.foldl (fun a m => a.endMapping fn m.1) s).fn f = s.fn f :=
  foldl_keeps (fun a : State => a.fn f) (fun a (m : Nat × Mapping) => a.fn_endMapping_ne m.1 h) l s

end Mappings

/-! ### What bringing jobs up to date leaves of a function -/

section Retried
variable {f g k : Func}

/-- What the end of waiting TENSOR_MAPs leaves of a function: its hold log; all of it where no command waits; of an unavailable one, all
but the mailbox's progress. -/
structure Func.Retried (f g : Func) : Prop where
  hold : g.hold = f.hold
  idle : f.mbox.waiting = none → g = f
  away : f.avail = false → g = { f with mbox := g.mbox } ∧ g.mbox.enable = f.mbox.enable

theorem Func.Retried.refl (f : Func) : f.Retried f := ⟨rfl, fun _ => rfl, fun _ => ⟨rfl, rfl⟩⟩

theorem Func.Retried.trans (h : f.Retried g) (h' : g.Retried k) : f.Retried k where
  hold := h'.hold.trans h.hold
  idle hw := by
    obtain rfl := h.idle hw
    exact h'.idle hw
  away ha := by
    obtain ⟨hg, hen⟩ := h.away ha
    obtain ⟨hk, hen'⟩ := h'.away (hg ▸ ha)
    refine ⟨?_, hen'.trans hen⟩
    rw [hg] at hk
    exact hk

/-- A waiting TENSOR_MAP completes: where the function is available it may have got the mapping. -/
theorem Func.Retried.of_waiting (hw : f.mbox.waiting ≠ none) (maps : Tab Mapping) (hmaps : f.avail = true ∨ maps = f.maps) :
    f.Retried { f with mbox := f.mbox.advance, maps := maps } where
  hold := rfl
  idle hnone := absurd hnone hw
  away ha := by
    obtain hon | rfl := hmaps
    · exact absurd (hon.symm.trans ha) (by decide)
    · exact ⟨rfl, rfl⟩

variable (s : State)

theorem State.fn_finishCmd_self (h : CmdHead) (status cause : Nat) (res : List Byte) :
    (s.finishCmd h status cause res).fn h.fn = { (s.fn h.fn) with mbox := (s.fn h.fn).mbox.advance } := by
  rw [State.fn, (s.finishCmd_frame h status cause res).2.2]
  exact Tab.getD_set_self _ _ _ _

theorem State.fn_finishCmd_ne {n : Nat} (h : CmdHead) (status cause : Nat) (res : List Byte) (hn : n ≠ h.fn) :
    (s.finishCmd h status cause res).fn n = s.fn n := by
  rw [State.fn, (s.finishCmd_frame h status cause res).2.2]
  exact Tab.getD_set_ne _ _ _ hn

theorem State.retried_finishCmd {u : State} (h : CmdHead) (status : Nat) (n : Nat) (hw : (s.fn h.fn).mbox.waiting ≠ none)
    (hself : ∃ maps, u.fn h.fn = { (s.fn h.fn) with maps := maps } ∧ ((s.fn h.fn).avail = true ∨ maps = (s.fn h.fn).maps))
    (hne : ∀ n, n ≠ h.fn → u.fn n = s.fn n) (cause : Nat) : (s.fn n).Retried ((u.finishCmd h status cause []).fn n) := by
  by_cases hn : n = h.fn
  · subst hn
    obtain ⟨maps, hu, hmaps⟩ := hself
    rw [State.fn_finishCmd_self, hu]
    exact .of_waiting hw maps hmaps
  · rw [u.fn_finishCmd_ne h status cause [] hn, hne n hn]
    exact .refl _

theorem State.retried_retryMap (ctx fn n : Nat) : (s.fn n).Retried ((s.retryMap ctx fn).fn n) := by
  unfold State.retryMap
  split
  case h_2 => exact .refl _
  case h_1 h c handle off x hwait _ =>
    split
    case isFalse => exact .refl _
    case isTrue hdue =>
      have hfn : h.fn = fn := by
        simp only [Bool.and_eq_true, decide_eq_true_eq] at hdue
        exact hdue.1.2
      have hw : (s.fn h.fn).mbox.waiting ≠ none := by
        rw [hfn, hwait]
        exact Option.some_ne_none _
      have hsame : ∃ maps, s.fn h.fn = { (s.fn h.fn) with maps := maps } ∧ ((s.fn h.fn).avail = true ∨ maps = (s.fn h.fn).maps) :=
        ⟨_, rfl, .inr rfl⟩
      split
      case h_2 => exact s.retried_finishCmd h 1 n hw hsame (fun _ _ => rfl) 0x12
      case h_1 =>
        refine s.retried_finishCmd h 0 n hw ?_ (fun m hm => ?_) 0
        · split
          case isTrue hon => exact ⟨_, s.fn_setFn_self h.fn _, .inl hon⟩
          case isFalse => exact hsame
        · split
          · exact s.fn_setFn_ne _ hm
          · rfl

/-- A walk whose steps each leave a function so does. -/
theorem State.retried_foldl {α : Type} {step : State → α → State} {n : Nat} (h : ∀ (a : State) (e : α), (a.fn n).Retried ((step a e).fn n)) (l : List α) :
    (s.fn n).Retried ((l.foldl step s).fn n) := by
  induction l generalizing s with
  | nil => exact .refl _
  | cons e l ih => exact (h s e).trans (ih (step s e))

theorem State.retried_refresh (ctx n : Nat) : (s.fn n).Retried ((s.refresh ctx).fn n) := by
  have hfuns : (s.refresh ctx).funs = (s.retryMaps ctx).funs := (congrArg State.funs (s.beyondSlices_refresh ctx) :)
  rw [State.fn, State.fn, hfuns]
  exact s.retried_foldl (fun a f => a.retried_retryMap ctx f.1 n) s.funs

end Retried

/-! ### Functions that become unavailable, or are reset -/

section Gone
variable (s : State)

/-- A function as it becomes unavailable. -/
def Func.gone (f : Func) : Func :=
  { f with
    maps := [], avail := false, awaitResync := true
    mbox := { f.mbox with enable := false, block := none }, evq := { f.evq with enable := false } }

/-- The mappings end, the function is away, its rings stop. -/
def State.withdrawn (s : State) (fn : Nat) : State :=
  let s1 := (s.fn fn).maps.foldl (fun a m => a.endMapping fn m.1) s
  let s2 := s1.modFn fn (fun f => { f with
    avail := false, awaitResync := true, mbox := { f.mbox with enable := false, block := none }, evq := { f.evq with enable := false } })
  { s2 with rings := Tab.mapVals s2.rings (fun g r => if (s2.fnRings fn).contains g then { r with stopped := true, again := [] } else r) }

theorem State.makeUnavailable_of_avail {fn : Nat} (h : (s.fn fn).avail = true) :
    s.makeUnavailable fn = (s.withdrawn fn).refreshOwned fn := by
  unfold State.makeUnavailable
  rw [if_neg (by simp [h])]
  rfl

theorem State.makeUnavailable_of_away {fn : Nat} (h : (s.fn fn).avail = false) : s.makeUnavailable fn = s :=
  if_pos (by simp [h])

theorem State.fn_withdrawn_self (fn : Nat) : (s.withdrawn fn).fn fn = (s.fn fn).gone := by
  unfold State.withdrawn
  refine (State.fn_setFn_self _ fn _).trans ?_
  rw [s.fn_endMappings_self fn, Tab.foldl_erase_self]
  rfl

theorem State.fn_withdrawn_ne {fn f : Nat} (h : f ≠ fn) : (s.withdrawn fn).fn f = s.fn f := by
  unfold State.withdrawn
  exact (State.fn_setFn_ne _ _ h).trans (s.fn_endMappings_ne _ h)

theorem State.retried_refreshOwned (fn n : Nat) : (s.fn n).Retried ((s.refreshOwned fn).fn n) := by
  refine s.retried_foldl (fun a c => ?_) s.ctxs
  split
  · exact a.retried_refresh c.1 n
  · exact .refl _

/-- What another function's leaving makes of a function. -/
theorem State.retried_makeUnavailable {fn f : Nat} (h : f ≠ fn) : (s.fn f).Retried ((s.makeUnavailable fn).fn f) := by
  cases ha : (s.fn fn).avail with
  | false => rw [s.makeUnavailable_of_away ha]; exact .refl _
  | true =>
    rw [s.makeUnavailable_of_avail ha, ← s.fn_withdrawn_ne h]
    exact State.retried_refreshOwned _ fn f

/-- What its own makes of one that was available. -/
theorem State.retried_gone {fn : Nat} (ha : (s.fn fn).avail = true) : (s.fn fn).gone.Retried ((s.makeUnavailable fn).fn fn) := by
  rw [s.makeUnavailable_of_avail ha, ← s.fn_withdrawn_self fn]
  exact State.retried_refreshOwned _ fn fn

/-- A function that leaves keeps its hold log. -/
theorem State.hold_makeUnavailable (fn f : Nat) : ((s.makeUnavailable fn).fn f).hold = (s.fn f).hold := by
  by_cases h : f = fn
  · subst h
    cases ha : (s.fn f).avail with
    | false => rw [s.makeUnavailable_of_away ha]
    | true => exact (s.retried_gone ha).hold
  · exact (s.retried_makeUnavailable h).hold

theorem State.waiting_makeUnavailable {fn : Nat} (hw : (s.fn fn).mbox.waiting = none) :
    ((s.makeUnavailable fn).fn fn).mbox.waiting = none := by
  cases ha : (s.fn fn).avail with
  | false => rwa [s.makeUnavailable_of_away ha]
  | true => rwa [(s.retried_gone ha).idle hw]

/-- A function once its state is reset. -/
def Func.reset (f : Func) : Func :=
  { awaitResync := f.awaitResync, hold := f.hold, holdFullAt := f.holdFullAt, mbox := { waiting := f.mbox.waiting, restarted := true } }

theorem State.fn_resetFn_self (fn : Nat) : (s.resetFn fn).fn fn = ((s.makeUnavailable fn).fn fn).reset := State.fn_setFn_self _ fn _

theorem State.fn_resetFn_ne {fn f : Nat} (h : f ≠ fn) : (s.resetFn fn).fn f = (s.makeUnavailable fn).fn f := State.fn_setFn_ne _ _ h

theorem State.hold_resetFn (fn f : Nat) : ((s.resetFn fn).fn f).hold = (s.fn f).hold := by
  by_cases h : f = fn
  · subst h
    rw [State.fn_resetFn_self]
    exact s.hold_makeUnavailable f f
  · rw [s.fn_resetFn_ne h]
    exact s.hold_makeUnavailable fn f

/-- Is a function unavailable, with no mapping left? -/
def State.cleared (s : State) (f : Nat) : Prop := (s.fn f).avail = false ∧ (s.fn f).maps = []

theorem State.cleared_resetFn_self (fn : Nat) : (s.resetFn fn).cleared fn := by
  rw [State.cleared, State.fn_resetFn_self]
  exact ⟨rfl, rfl⟩

theorem State.cleared_resetFn {f : Nat} (fn : Nat) (h : s.cleared f) : (s.resetFn fn).cleared f := by
  by_cases hf : f = fn
  · exact hf ▸ s.cleared_resetFn_self f
  · obtain ⟨ha, hm⟩ := h
    obtain ⟨heq, -⟩ := (s.retried_makeUnavailable hf).away ha
    rw [State.cleared, s.fn_resetFn_ne hf, heq]
    exact ⟨ha, hm⟩

/-- Every function of a list reset in turn: each is unavailable and without mappings. -/
theorem State.cleared_foldl_resetFn {f : Nat} (l : List Nat) (h : f ∈ l ∨ s.cleared f) : (l.foldl State.resetFn s).cleared f := by
  induction l generalizing s with
  | nil => exact h.resolve_left List.not_mem_nil
  | cons g l ih =>
    refine ih _ ?_
    obtain hmem | hcleared := h
    · obtain rfl | hl := List.mem_cons.mp hmem
      · exact .inr (s.cleared_resetFn_self f)
      · exact .inl hl
    · exact .inr (s.cleared_resetFn g hcleared)

/-- Every function is reset. -/
def State.resetAll (s : State) : State := allFns.foldl (fun a f => a.resetFn f) s

theorem State.cleared_resetAll {f : Nat} (h : f ≤ 62) : s.resetAll.cleared f :=
  s.cleared_foldl_resetFn allFns (.inl (List.mem_range.mpr (by omega)))

theorem State.hold_resetAll (f : Nat) : (s.resetAll.fn f).hold = (s.fn f).hold :=
  foldl_keeps (fun a : State => (a.fn f).hold) (fun a g => a.hold_resetFn g f) allFns s

/-! ### What a reset leaves of the module -/

theorem State.steady_withdrawn (fn : Nat) : (s.withdrawn fn).steady = s.steady :=
  (foldl_keeps State.steady (fun a (m : Nat × Mapping) => a.steady_endMapping fn m.1) (s.fn fn).maps s :)

theorem State.steady_makeUnavailable (fn : Nat) : (s.makeUnavailable fn).steady = s.steady := by
  cases ha : (s.fn fn).avail with
  | false => rw [s.makeUnavailable_of_away ha]
  | true =>
    rw [s.makeUnavailable_of_avail ha, ← s.steady_withdrawn fn]
    refine foldl_keeps State.steady (fun a c => ?_) _ _
    split <;> simp

theorem State.steady_resetFn (fn : Nat) : (s.resetFn fn).steady = s.steady := s.steady_makeUnavailable fn

theorem State.steady_resetAll : s.resetAll.steady = s.steady := foldl_keeps State.steady (fun a f => a.steady_resetFn f) allFns s

/-- The journals but for the module's own records. -/
def Journals.others (j : Journals) : Journals := { j with own := [], nextSeq := 0 }

theorem State.others_journalIf (ring ctx tseq : Nat) (b : List JBody) : (s.journalIf ring ctx tseq b).jr.others = s.jr.others := by
  unfold State.journalIf
  split
  · rw [State.jr_journal]
    rfl
  · rfl

theorem State.others_endMapping (fn offset : Nat) : (s.endMapping fn offset).jr.others = s.jr.others := by
  unfold State.endMapping
  dsimp only
  split
  case h_1 => rfl
  case h_2 =>
    split
    · rfl
    · exact State.others_journalIf _ _ _ _ _

theorem State.others_makeUnavailable (fn : Nat) : (s.makeUnavailable fn).jr.others = s.jr.others := by
  cases ha : (s.fn fn).avail with
  | false => rw [s.makeUnavailable_of_away ha]
  | true =>
    have hjr : (s.withdrawn fn).jr.others = s.jr.others :=
      (foldl_keeps (fun a : State => a.jr.others) (fun a (m : Nat × Mapping) => a.others_endMapping fn m.1) (s.fn fn).maps s :)
    rw [s.makeUnavailable_of_avail ha, State.jr_refreshOwned, hjr]

theorem State.others_resetFn (fn : Nat) : (s.resetFn fn).jr.others = s.jr.others := s.others_makeUnavailable fn

theorem State.others_resetAll : s.resetAll.jr.others = s.jr.others :=
  foldl_keeps (fun a : State => a.jr.others) (fun a f => a.others_resetFn f) allFns s

end Gone

end Sys2Proof.Machine

/-! SUPPORT. Which partitions there are, over a reset; resets and power as commands (R391, R392, R402, R459, R460). -/

namespace Sys2Proof.Machine

/-! ### The partitions that there are -/

section Partitions
variable (s : State) (n : Nat)

theorem Tab.has_modify {α : Type} (t : Tab α) (i j : Nat) (f : α → α) : Tab.has (Tab.modify t i f) j = Tab.has t j := by
  rw [Tab.has, Tab.get_modify, Tab.has]
  split <;> simp

/-- Is there a partition of this number? -/
def State.hasPart (s : State) (n : Nat) : Bool := Tab.has s.parts n

theorem State.hasPart_of_parts {s t : State} (h : t.parts = s.parts) : t.hasPart n = s.hasPart n := by rw [State.hasPart, h, State.hasPart]

@[simp] theorem State.hasPart_setCtx (i : Nat) (x : Ctx) : (s.setCtx i x).hasPart n = s.hasPart n := rfl
@[simp] theorem State.hasPart_modPart (i : Nat) (g : Part → Part) : (s.modPart i g).hasPart n = s.hasPart n := Tab.has_modify s.parts i n g
@[simp] theorem State.hasPart_retryMaps (ctx : Nat) : (s.retryMaps ctx).hasPart n = s.hasPart n :=
  State.hasPart_of_parts n (s.parts_retryMaps ctx)

@[simp] theorem State.hasPart_swapOut (part v : Nat) : (s.swapOut part v).hasPart n = s.hasPart n := by
  unfold State.swapOut
  split <;> rfl

@[simp] theorem State.hasPart_beginSwitch (part c len : Nat) (out : Option Nat) :
    (s.beginSwitch part c len out).hasPart n = s.hasPart n := by
  unfold State.beginSwitch
  cases out with
  | none => exact s.hasPart_modPart n _ _
  | some v => exact (State.hasPart_modPart _ n _ _).trans (s.hasPart_swapOut n part v)

@[simp] theorem State.hasPart_passSlice (part : Nat) : (s.passSlice part).hasPart n = s.hasPart n := by
  unfold State.passSlice
  dsimp only
  repeat' split
  all_goals simp

@[simp] theorem State.hasPart_arrive (ctx : Nat) : (s.arrive ctx).hasPart n = s.hasPart n := by
  unfold State.arrive
  dsimp only
  repeat' split
  all_goals simp

@[simp] theorem State.hasPart_refresh (ctx : Nat) : (s.refresh ctx).hasPart n = s.hasPart n := by
  unfold State.refresh
  dsimp only
  repeat' split
  all_goals simp

theorem State.hasPart_endMapping (fn offset : Nat) : (s.endMapping fn offset).hasPart n = s.hasPart n := by
  unfold State.endMapping State.journalIf
  dsimp only
  split
  case h_1 => rfl
  case h_2 =>
    split
    case isTrue => rfl
    case isFalse =>
      refine State.hasPart_of_parts n ?_
      split
      · exact (congrArg State.parts (State.journal_eq _ _ _ _ _) :)
      · rfl

theorem State.hasPart_withdrawn (fn : Nat) : (s.withdrawn fn).hasPart n = s.hasPart n :=
  (foldl_keeps (fun a : State => a.hasPart n) (fun a (m : Nat × Mapping) => a.hasPart_endMapping n fn m.1) (s.fn fn).maps s :)

theorem State.hasPart_refreshOwned (fn : Nat) : (s.refreshOwned fn).hasPart n = s.hasPart n := by
  refine foldl_keeps (fun a : State => a.hasPart n) (fun a c => ?_) s.ctxs s
  split
  · exact a.hasPart_refresh n c.1
  · rfl

theorem State.hasPart_resetFn (fn : Nat) : (s.resetFn fn).hasPart n = s.hasPart n := by
  refine (State.hasPart_of_parts n (t := s.resetFn fn) (s := s.makeUnavailable fn) rfl).trans ?_
  cases ha : (s.fn fn).avail with
  | false => rw [s.makeUnavailable_of_away ha]
  | true => rw [s.makeUnavailable_of_avail ha, State.hasPart_refreshOwned, State.hasPart_withdrawn]

theorem State.hasPart_resetAll : s.resetAll.hasPart n = s.hasPart n :=
  foldl_keeps (fun a : State => a.hasPart n) (fun a f => a.hasPart_resetFn n f) allFns s

end Partitions

/-! ### O22 and O21 -/

theorem State.boot_of_steady {s t : State} (h : t.steady = s.steady) : t.boot = s.boot := (congrArg State.boot h :)

section Rows
variable {s : State} {fn : Nat}

theorem exec_functionLevelReset (hfn : fn ≤ 62) (hp : s.boot.powered = true) :
    exec (.functionLevelReset fn) s = .next (if fn = 0 then { s.resetAll with numVfs := 0 } else s.resetFn fn) :=
  (withUnit_next _ (decide_eq_true hfn)).trans (congrArg Host.Outcome.next (if_neg (by simp [hp])))

theorem exec_linkReset (hp : s.boot.powered = true) : exec .linkReset s = .next { s.resetAll with numVfs := 0, linkUp := false } :=
  congrArg Host.Outcome.next (if_pos hp)

theorem exec_warmReset (hp : s.boot.powered = true) (hdue : s.boot.resetDue = true) (hh : s.errs.halted = false) :
    exec .warmReset s = .next s.warmReset :=
  congrArg Host.Outcome.next (if_pos (by simp [hp, hdue, hh]))

end Rows

/-- Settles O22: a function that goes is `Func.gone` but for its mailbox's progress (`State.retried_gone`); a reset of every function
leaves each one unavailable and without mappings (`State.cleared_resetAll`), and the rest of the module as it was. -/
theorem functionRowsComplete : Obligations.FunctionRowsComplete := by
  unfold Obligations.FunctionRowsComplete
  refine ⟨?unavailable, ?available, ?one, ?physical, ?link⟩
  case unavailable =>
    intro fn s hfn hp ha
    obtain ⟨hgone, henable⟩ := (s.retried_gone ha).away rfl
    exact ⟨s.makeUnavailable fn, (withUnit_next _ (decide_eq_true hfn)).trans (congrArg Host.Outcome.next (if_pos hp)),
      (congrArg Func.avail hgone :), (congrArg Func.awaitResync hgone :), henable, (congrArg (fun g : Func => g.evq.enable) hgone :),
      (congrArg Func.maps hgone :), fun f hf hw => (s.retried_makeUnavailable hf).idle hw⟩
  case available =>
    intro fn s hfn hp
    exact (withUnit_next _ (decide_eq_true hfn)).trans (congrArg Host.Outcome.next (if_pos hp))
  case one =>
    intro fn s h1 hfn hp
    refine ⟨s.resetFn fn, (exec_functionLevelReset hfn hp).trans (congrArg _ (if_neg (by omega))), (s.cleared_resetFn_self fn).1,
      (s.cleared_resetFn_self fn).2, s.hold_resetFn fn fn, fun hw => ?mbox, ?evq, ?msix, fun f hf hw => ?other,
      (congrArg State.numVfs (s.steady_resetFn fn) :)⟩
    case mbox =>
      rw [s.fn_resetFn_self fn, Func.reset, s.waiting_makeUnavailable hw]
    case evq => rw [s.fn_resetFn_self fn, Func.reset]
    case msix => rw [s.fn_resetFn_self fn, Func.reset]
    case other => rw [s.fn_resetFn_ne hf, (s.retried_makeUnavailable hf).idle hw]
  case physical =>
    intro s hp
    refine ⟨_, (exec_functionLevelReset (Nat.zero_le 62) hp).trans (congrArg _ (if_pos rfl)), ?_⟩
    have hcleared := fun f (hf : f ≤ 62) => s.cleared_resetAll hf
    generalize s.resetAll = u at *
    exact ⟨rfl, hcleared⟩
  case link =>
    intro s hp
    refine ⟨_, exec_linkReset hp, ?_⟩
    have hcleared := fun f (hf : f ≤ 62) => s.cleared_resetAll hf
    have hboot := State.boot_of_steady s.steady_resetAll
    have hparts := fun n => s.hasPart_resetAll n
    generalize s.resetAll = u at *
    exact ⟨rfl, rfl, hcleared, hboot, hparts⟩

/-- Settles O21: a removal keeps only what `State.unpowered` names; a warm reset resets every function (`State.cleared_resetAll`,
`State.hold_resetAll`), which leaves flash, fuses, budget, lasers and cartridges (`State.steady_resetAll`) and all of the journals but the
module's own records (`State.others_resetAll`). -/
theorem powerAndResetRowsComplete : Obligations.PowerAndResetRowsComplete := by
  unfold Obligations.PowerAndResetRowsComplete
  refine ⟨?removal, ?applied, ?warm⟩
  case removal =>
    intro vin micros s hp hvin hmicros
    exact ⟨s.unpowered, congrArg Host.Outcome.next (if_pos (by simp [hp, hvin, hmicros])), rfl, rfl, rfl, rfl, rfl, rfl, rfl, rfl, rfl, rfl⟩
  case applied =>
    intro s hp
    exact ⟨{ s.unpowered with boot := {} }, congrArg Host.Outcome.next (if_neg (by simp [hp])), rfl, rfl, rfl, rfl, rfl, rfl, rfl, rfl, rfl, rfl⟩
  case warm =>
    intro s hp hdue hh
    refine ⟨s.warmReset, exec_warmReset hp hdue hh, ?_⟩
    have hcleared := fun f (hf : f ≤ 62) => s.cleared_resetAll hf
    have hhold := fun f => s.hold_resetAll f
    have hsteady := s.steady_resetAll
    have hothers := s.others_resetAll
    unfold State.warmReset
    dsimp only
    rw [← State.resetAll]
    generalize s.resetAll = u at *
    refine ⟨rfl, rfl, rfl, rfl, rfl, rfl, (congrArg (fun v : State => v.power.budget) hsteady :), (congrArg State.fuses hsteady :),
      (congrArg State.flash hsteady :), (congrArg Journals.partner hothers :), (congrArg Journals.images hothers :),
      (congrArg Journals.slots hothers :), (congrArg State.lasers hsteady :), (congrArg State.carts hsteady :), rfl, rfl, rfl, rfl,
      fun p hmem => ?parts, fun r hmem => ?rings, fun f hf => ⟨(hcleared f hf).1, (hcleared f hf).2, hhold f⟩⟩
    case parts =>
      obtain ⟨q, -, hq⟩ := Tab.mem_mapVals.mp hmem
      rw [hq]
    case rings =>
      obtain ⟨q, -, hq⟩ := Tab.mem_mapVals.mp hmem
      rw [hq]
      exact ⟨rfl, rfl⟩

end Sys2Proof.Machine

/-! SUPPORT. Detected errors (R419, R421 to R428): error records, the fault of a job, a halt, windows of coalesced records. -/

namespace Sys2Proof.Machine

/-! ### Error records -/

section Records
variable (s : State)

/-- The log after a record: its number, the record itself, the counts; the windows stay. -/
theorem State.errs_putError (r : ErrRec) : (s.putError r).errs = { s.errs with
    seq := s.errs.seq + 1
    records := Tab.set (s.errs.records.filter (fun e => s.errs.seq + 1 < e.1 + 16384)) (s.errs.seq + 1) (r.bytes (s.errs.seq + 1))
    wrapped := s.errs.wrapped || 16384 < s.errs.seq + 1
    ueCount := if countedUe r.cls then satAdd 16 s.errs.ueCount 1 else s.errs.ueCount } := by
  unfold State.putError
  exact (congrArg State.errs (State.event_eq _ _ _ _ _ _) :)

theorem State.seq_putError (r : ErrRec) : (s.putError r).errs.seq = s.errs.seq + 1 := by rw [State.errs_putError]
theorem State.window_putError (r : ErrRec) : (s.putError r).errs.window = s.errs.window := by rw [State.errs_putError]
theorem State.ceWindow_putError (r : ErrRec) : (s.putError r).errs.ceWindow = s.errs.ceWindow := by rw [State.errs_putError]
theorem State.halted_putError (r : ErrRec) : (s.putError r).errs.halted = s.errs.halted := by rw [State.errs_putError]

theorem State.jr_putError (r : ErrRec) : (s.putError r).jr = s.jr := by
  unfold State.putError
  exact (congrArg State.jr (State.event_eq _ _ _ _ _ _) :)

/-- Records one after another: as many numbers, the windows as they were. -/
theorem State.errs_putErrors (l : List Coalesced) : (l.foldl (fun a c => a.putError c.record) s).errs.seq = s.errs.seq + l.length
    ∧ (l.foldl (fun a c => a.putError c.record) s).errs.window = s.errs.window := by
  induction l generalizing s with
  | nil => exact ⟨rfl, rfl⟩
  | cons c l ih =>
    obtain ⟨hseq, hwindow⟩ := ih (s.putError c.record)
    rw [List.foldl_cons]
    refine ⟨?_, hwindow.trans (s.window_putError _)⟩
    rw [hseq, State.seq_putError, List.length_cons]
    omega

end Records

/-! ### What a fault leaves standing of a job -/

section Faults
variable (s : State) (c : Nat)

/-- State and fault cause of a job, the number of its operations, its collectives. -/
def Ctx.outline (x : Ctx) : CState × Nat × Nat × List Coll := (x.state, x.faultCause, x.ops.length, x.colls)

/-- The same of the job of a number. -/
def State.outline (s : State) (c : Nat) : Option (CState × Nat × Nat × List Coll) := (s.ctx? c).map Ctx.outline

theorem State.outline_of_ctxs {s t : State} (h : t.ctxs = s.ctxs) : t.outline c = s.outline c := by
  rw [State.outline, State.ctx?, h, State.outline, State.ctx?]

@[simp] theorem State.outline_modPart (i : Nat) (g : Part → Part) : (s.modPart i g).outline c = s.outline c := rfl

@[simp] theorem State.outline_modRun (ctx ring tseq : Nat) (g : Run → Run) : (s.modRun ctx ring tseq g).outline c = s.outline c :=
  State.map_ctx?_modCtx Ctx.outline (by exact fun _ => rfl) s ctx c

@[simp] theorem State.outline_event (fn ty ctx a b : Nat) : (s.event fn ty ctx a b).outline c = s.outline c :=
  State.outline_of_ctxs c (s.ctxs_event fn ty ctx a b)

@[simp] theorem State.outline_journal (ring ctx tseq : Nat) (b : List JBody) : (s.journal ring ctx tseq b).outline c = s.outline c :=
  State.outline_of_ctxs c (s.ctxs_journal ring ctx tseq b)

@[simp] theorem State.outline_journalIf (ring ctx tseq : Nat) (b : List JBody) : (s.journalIf ring ctx tseq b).outline c = s.outline c := by
  unfold State.journalIf
  split <;> simp

@[simp] theorem State.outline_jobWrite (fn a : Nat) (b : List Byte) : (s.jobWrite fn a b).outline c = s.outline c :=
  State.outline_of_ctxs c (s.ctxs_jobWrite fn a b)

@[simp] theorem State.outline_swapOut (part v : Nat) : (s.swapOut part v).outline c = s.outline c := by
  unfold State.swapOut
  split
  case h_1 => rfl
  case h_2 x hx => exact State.map_ctx?_setCtx (x := x) Ctx.outline hx (by simp [Ctx.outline, Ctx.mapExts]) c

@[simp] theorem State.outline_beginSwitch (part ctx len : Nat) (out : Option Nat) :
    (s.beginSwitch part ctx len out).outline c = s.outline c := by
  unfold State.beginSwitch
  cases out with
  | none => rfl
  | some v => exact s.outline_swapOut c part v

@[simp] theorem State.outline_passSlice (part : Nat) : (s.passSlice part).outline c = s.outline c := by
  unfold State.passSlice
  dsimp only
  repeat' split
  all_goals simp

@[simp] theorem State.outline_putRecord (ctx : Nat) (r : Run) (pos : Nat) (rec : List Byte) : (s.putRecord ctx r pos rec).outline c = s.outline c := by
  unfold State.putRecord
  split <;> simp

@[simp] theorem State.outline_settle (ctx ring tseq : Nat) : (s.settle ctx ring tseq).outline c = s.outline c := by
  unfold State.settle
  dsimp only
  repeat' split
  all_goals simp

@[simp] theorem State.outline_stopRun (ctx : Nat) (r : Run) (status fault : Nat) (bad : Option Nat) :
    (s.stopRun ctx r status fault bad).outline c = s.outline c := by
  unfold State.stopRun
  rw [State.outline_settle, State.outline_modRun]
  refine foldl_keeps (fun a : State => a.outline c) (fun a i => ?_) _ s
  split <;> simp

@[simp] theorem State.outline_faultTickets (ctx cause : Nat) (by_ : Option (Nat × Nat × Nat)) :
    (s.faultTickets ctx cause by_).outline c = s.outline c := by
  unfold State.faultTickets
  refine foldl_keeps (fun a : State => a.outline c) (fun a r => ?_) _ s
  repeat' split
  all_goals simp

variable {s} in
/-- A job that is torn down is FAULTED with the cause, its operations and collectives gone. -/
theorem State.outline_teardown {ctx : Nat} {x : Ctx} (hx : s.ctx? ctx = some x) (cause tseq : Nat) :
    (s.teardown ctx cause tseq).outline ctx = some (.faulted, cause, 0, []) := by
  have hset : ∀ u : State, (u.setCtx ctx { x.stopped with state := .faulted, faultCause := cause }).outline ctx = some (.faulted, cause, 0, []) :=
    fun u => congrArg (Option.map Ctx.outline) (u.ctx?_setCtx_self ctx _)
  unfold State.teardown
  simp only [hx]
  split <;> simp [hset]

variable {s} in
theorem State.exists_ctx_of_outline {ctx cause n : Nat} {st : CState} {l : List Coll} (h : s.outline ctx = some (st, cause, n, l)) :
    ∃ y : Ctx, s.ctx? ctx = some y ∧ y.state = st ∧ y.faultCause = cause ∧ y.ops.length = n ∧ y.colls = l := by
  obtain ⟨y, hy, hout⟩ := Option.map_eq_some_iff.mp h
  simp only [Ctx.outline, Prod.mk.injEq] at hout
  exact ⟨y, hy, hout⟩

variable {s} in
/-- A job fault leaves the job FAULTED with its cause. -/
theorem State.outline_jobFault {ctx : Nat} {x : Ctx} (hx : s.ctx? ctx = some x) (hst : x.state ≠ .faulted) (cause : Nat)
    (by_ : Option (Nat × Nat × Nat)) : (s.jobFault ctx cause by_).outline ctx = some (.faulted, cause, 0, []) := by
  unfold State.jobFault
  simp only [hx, if_neg hst]
  rw [State.outline_faultTickets]
  exact State.outline_teardown hx cause _

end Faults

/-! ### Errors of a job (R423) -/

section JobErrors
variable {s : State} {ctx : Nat} {x : Ctx} {k : Kept} (r : ErrorReport)

theorem State.ctx?_noteCtx (s : State) (cls ctx action c : Nat) : (s.noteCtx r cls ctx action).ctx? c = s.ctx? c := by
  rw [State.ctx?, State.noteCtx, State.ctxs_putError, State.ctx?]

/-- The commit that an error is to roll the job back to, if it may. -/
def State.errorGoal (s : State) (x : Ctx) : Option Kept :=
  if s.twin.state = .paired && s.journalRoom 1 then x.backTo.filter x.replaysFrom else none

theorem State.errorGoal_eq_none (h : s.twin.state ≠ .paired ∨ s.journalRoom 1 = false ∨ ∀ k, x.backTo = some k → x.replaysFrom k = false) :
    s.errorGoal x = none := by
  unfold State.errorGoal
  split
  case isFalse => rfl
  case isTrue hmay =>
    simp only [Bool.and_eq_true, decide_eq_true_eq] at hmay
    obtain hpaired | hroom | hreplay := h
    · exact absurd hmay.1 hpaired
    · exact absurd (hmay.2.symm.trans hroom) (by decide)
    · cases hback : x.backTo with
      | none => rfl
      | some k => simp [Option.filter, hreplay k hback]

theorem State.errorGoal_eq_some (hpaired : s.twin.state = .paired) (hroom : s.journalRoom 1 = true) (hback : x.backTo = some k)
    (hreplay : x.replaysFrom k = true) : s.errorGoal x = some k := by
  rw [State.errorGoal, if_pos (by simp [hpaired, hroom]), hback]
  simp [Option.filter, hreplay]

/-- Without a commit to go back to, the job is faulted. -/
theorem State.ueJob_of_no_goal (hx : s.ctx? ctx = some x) (hst : x.state ≠ .faulted) (hgoal : s.errorGoal x = none) (cls : Nat) :
    s.ueJob r cls ctx = (s.noteCtx r cls ctx 4).jobFault ctx 0x0B r.reader := by
  rw [State.errorGoal] at hgoal
  unfold State.ueJob
  simp only [hx, if_neg hst, hgoal]

/-- The commit with one error more counted. -/
def Kept.blamed (k : Kept) : Kept := { k with rollbacks := min 3 (k.rollbacks + 1) }

/-- The job with it. -/
def Ctx.blamed (x : Ctx) (k : Kept) : Ctx := { x with kept := x.kept.map (fun q => if q.id = k.id then k.blamed else q) }

/-- The job is torn down after its record. -/
def State.tornDown (s : State) (r : ErrorReport) (cls ctx : Nat) : State :=
  (s.noteCtx r cls ctx 3).teardown ctx 0x0B ((r.reader.map (fun d => d.2.1)).getD 0)

/-- With one, it is faulted at the third error, else torn down and rolled back. -/
theorem State.ueJob_of_goal (hx : s.ctx? ctx = some x) (hst : x.state ≠ .faulted) (hgoal : s.errorGoal x = some k) (cls : Nat) :
    s.ueJob r cls ctx = if 3 ≤ k.blamed.rollbacks then ((s.modCtx ctx (fun y => y.blamed k)).noteCtx r cls ctx 4).jobFault ctx 0x0B r.reader
      else match ((s.modCtx ctx (fun y => y.blamed k)).tornDown r cls ctx).ctx? ctx with
        | some y => (((s.modCtx ctx (fun y => y.blamed k)).tornDown r cls ctx).rollback ctx y k.blamed).refresh ctx
        | none => (s.modCtx ctx (fun y => y.blamed k)).tornDown r cls ctx := by
  rw [State.errorGoal] at hgoal
  unfold State.ueJob
  simp only [hx, if_neg hst, hgoal]
  rfl

theorem State.ctx?_blamed (hx : s.ctx? ctx = some x) (k : Kept) (cls action : Nat) :
    ((s.modCtx ctx (fun y => y.blamed k)).noteCtx r cls ctx action).ctx? ctx = some (x.blamed k) := by
  rw [State.ctx?_noteCtx, State.ctx?_modCtx, if_pos rfl, hx, Option.map_some]

/-- The third error of one commit faults the job with cause 0x0B. -/
theorem State.ueJob_third (hx : s.ctx? ctx = some x) (hst : x.state ≠ .faulted) (hgoal : s.errorGoal x = some k) (cls : Nat)
    (hthird : 2 ≤ k.rollbacks) : ∃ y : Ctx, (s.ueJob r cls ctx).ctx? ctx = some y ∧ y.state = .faulted ∧ y.faultCause = 0x0B := by
  have hcount : 3 ≤ k.blamed.rollbacks := by simp only [Kept.blamed]; omega
  rw [State.ueJob_of_goal r hx hst hgoal, if_pos hcount]
  obtain ⟨y, hy, hstate, hcause, -, -⟩ := State.exists_ctx_of_outline
    (State.outline_jobFault (State.ctx?_blamed r hx k cls 4) hst 0x0B r.reader)
  exact ⟨y, hy, hstate, hcause⟩

/-- An earlier one tears the job down and rolls it back. -/
theorem State.ueJob_rolled (hx : s.ctx? ctx = some x) (hst : x.state ≠ .faulted) (hgoal : s.errorGoal x = some k) (cls : Nat)
    (hfew : k.rollbacks < 2) : ∃ (u : State) (y : Ctx), s.ueJob r cls ctx = (u.rollback ctx y { k with rollbacks := k.rollbacks + 1 }).refresh ctx
      ∧ u.ctx? ctx = some y ∧ y.state = .faulted ∧ y.ops = [] ∧ y.colls = [] := by
  have hcount : ¬ 3 ≤ k.blamed.rollbacks := by simp only [Kept.blamed]; omega
  have hblamed : k.blamed = { k with rollbacks := k.rollbacks + 1 } := by
    rw [Kept.blamed, min_eq_right (by omega)]
  obtain ⟨y, hy, hstate, -, hops, hcolls⟩ := State.exists_ctx_of_outline
    (State.outline_teardown (State.ctx?_blamed r hx k cls 3) 0x0B ((r.reader.map (fun d => d.2.1)).getD 0))
  refine ⟨_, y, ?_, hy, hstate, List.length_eq_zero_iff.mp hops, hcolls⟩
  rw [State.ueJob_of_goal r hx hst hgoal, if_neg hcount, State.tornDown, hy, hblamed]

end JobErrors

/-! ### A halt (R426) -/

section Halt
variable (s : State)

/-- The module on its way to a halt: its record, EVENTS[2], the logbook committed. -/
def State.halting (s : State) (r : ErrRec) : State := ((s.putError { r with cls := 0x05, action := 5 }).countEvent 2).commitLogbook

theorem State.haltModule_eq (r : ErrRec) : s.haltModule r
    = { (s.halting r).downAll.stopAll with errs := { (s.halting r).downAll.stopAll.errs with halted := true } } := by
  unfold State.haltModule State.halting
  rfl

/-- A halted module: no work, no service, every port down. -/
theorem State.haltModule_spec (r : ErrRec) : (s.haltModule r).errs.halted = true ∧ (s.haltModule r).tiles = []
    ∧ (s.haltModule r).live = false ∧ ∀ i < 36, ((s.haltModule r).port i).state = .down := by
  have hdown := fun i (hi : i < 36) => (s.halting r).state_downAll hi
  rw [State.haltModule_eq]
  generalize (s.halting r).downAll = u at *
  exact ⟨rfl, rfl, by simp [State.live], hdown⟩

end Halt

end Sys2Proof.Machine

/-! SUPPORT. Errors by the place they are found in (Table 14.3), the patrol scrub, the close of a window. -/

namespace Sys2Proof.Machine

section Detected
variable {s : State} {r : ErrorReport} {ctx : Nat} {x : Ctx}

theorem exec_errorDetected (hl : s.live = true) (r : ErrorReport) : exec (.errorDetected r) s = .next (s.detect r) :=
  congrArg Host.Outcome.next (if_pos hl)

theorem ErrorReport.not_corrected (hc : r.corrected = false) : ¬ r.corrected = true := by
  rw [hc]
  exact Bool.false_ne_true

/-! ### Corrected words -/

/-- The corrected words of the window of a second under way. -/
def State.ceNow (s : State) : Tab Nat := if s.errs.ceStart = s.time.now / 1000000000 * 1000000000 then s.errs.ceWindow else []

/-- A corrected word is counted with its unit. -/
def State.ceCounted (s : State) (r : ErrorReport) : State :=
  { s with
    logbook := s.logbook.countUnit false r.source r.unit
    errs := { s.errs with
      ceWindow := Tab.set s.ceNow (r.source * 65536 + r.unit) (Tab.getD s.ceNow (r.source * 65536 + r.unit) 0 + 1)
      ceStart := s.time.now / 1000000000 * 1000000000 } }

theorem State.countCe_eq (s : State) (r : ErrorReport) : s.countCe r
    = if Tab.getD s.ceNow (r.source * 65536 + r.unit) 0 + 1 = 4096 then (s.ceCounted r).putError (r.base s.time.now 0x01 0xFFFF 0xFF 0)
      else s.ceCounted r := rfl

theorem State.getD_ceNow (s : State) (key : Nat) : Tab.getD s.ceNow key 0
    = if s.errs.ceStart = s.time.now / 1000000000 * 1000000000 then Tab.getD s.errs.ceWindow key 0 else 0 := by
  unfold State.ceNow
  split <;> rfl

/-- Counting touches neither the jobs nor the journals, nor halts the module; the unit's count rises by one. -/
theorem State.countCe_spec (s : State) (r : ErrorReport) : (s.countCe r).ctxs = s.ctxs ∧ (s.countCe r).errs.halted = s.errs.halted
    ∧ (s.countCe r).jr = s.jr ∧ Tab.getD (s.countCe r).errs.ceWindow (r.source * 65536 + r.unit) 0
      = Tab.getD s.ceNow (r.source * 65536 + r.unit) 0 + 1 := by
  have hcount : Tab.getD (s.ceCounted r).errs.ceWindow (r.source * 65536 + r.unit) 0 = Tab.getD s.ceNow (r.source * 65536 + r.unit) 0 + 1 :=
    Tab.getD_set_self _ _ _ _
  rw [State.countCe_eq]
  split
  · rw [State.ctxs_putError, State.halted_putError, State.jr_putError, State.ceWindow_putError]
    exact ⟨rfl, rfl, rfl, hcount⟩
  · exact ⟨rfl, rfl, rfl, hcount⟩

/-! ### The error's place -/

/-- An error in a job's state, its home or its way through a datapath is the job's. -/
theorem State.detect_job (hc : r.corrected = false)
    (hp : r.place = .jobState ctx ∨ (∃ e, r.place = .jobHome ctx e) ∨ r.place = .datapath (some ctx)) : s.detect r = s.ueJob r 0x03 ctx := by
  unfold State.detect
  rw [if_neg (r.not_corrected hc)]
  obtain hp | ⟨e, hp⟩ | hp := hp <;> rw [hp]

theorem State.detect_module (hc : r.corrected = false) (hp : r.place = .moduleState ∨ r.place = .datapath none) :
    s.detect r = s.haltModule (r.base s.time.now 0x05 0xFFFF 0xFF 5) := by
  unfold State.detect
  rw [if_neg (r.not_corrected hc)]
  obtain hp | hp := hp <;> rw [hp]

/-- The record of a mirror slot that the twin is to send again. -/
def ErrorReport.lostSlot (r : ErrorReport) (now ctx commit : Nat) : ErrRec :=
  { r.base now 0x07 ctx 0xFF 7 with detail := 1, detail2 := commit }

theorem exec_patrolScrub_live (hl : s.live = true) {pass : ScrubPass} (hd : pass.die.all (fun d => d < 10) = true) :
    exec (.patrolScrub pass) s = .next (match pass.found with
      | some r => (match pass.die with | some d => s.wakeDie d false | none => s).detect { r with reader := none }
      | none => (match pass.die with | some d => s.wakeDie d false | none => s)) :=
  (withUnit_next _ hd).trans (congrArg Host.Outcome.next (if_neg (by simp [hl])))

end Detected

/-- Settles O36: an error is contained by its place; one of a job by the commit it may go back to (`State.errorGoal`), faulted at the third
(`State.ueJob_third`) or rolled back (`State.ueJob_rolled`); a halt is `State.haltModule_spec`; a record leaves jobs and journals and takes
one number (`State.errs_putError`). -/
theorem errorRowsComplete : Obligations.ErrorRowsComplete := by
  unfold Obligations.ErrorRowsComplete
  refine ⟨?corrected, ?reread, ?job, ?partition, ?module, ?ownRecord, ?partnerRecord, ?mirror, ?scrub, ?scrubDie, ?scrubNone, ?close, ?cow⟩
  case corrected =>
    intro r s hl hc
    obtain ⟨hctxs, hhalted, hjr, hcount⟩ := s.countCe_spec r
    exact ⟨s.countCe r, (exec_errorDetected hl r).trans (congrArg _ (if_pos hc)), hctxs, hhalted, hjr,
      hcount.trans (congrArg (· + 1) (s.getD_ceNow _))⟩
  case reread =>
    intro r s hl hc
    refine ⟨fun ctx hp => ⟨?_, State.ctxs_putError _ _⟩, fun hp => ⟨?_, State.ctxs_putError _ _⟩⟩ <;>
      rw [exec_errorDetected hl, State.detect, if_neg (r.not_corrected hc), hp]
  case job =>
    intro r ctx x s hl hc hp hx hst
    rw [exec_errorDetected hl, State.detect_job hc hp]
    refine ⟨fun hno => ?none, fun k hpaired hroom hback hreplay hthird => ?third, fun k hpaired hroom hback hreplay hfew => ?rolled⟩
    case none => rw [State.ueJob_of_no_goal r hx hst (State.errorGoal_eq_none hno)]
    case third =>
      obtain ⟨y, hy⟩ := State.ueJob_third r hx hst (State.errorGoal_eq_some hpaired hroom hback hreplay) 0x03 hthird
      exact ⟨_, y, rfl, hy⟩
    case rolled =>
      obtain ⟨u, y, heq, hy⟩ := State.ueJob_rolled r hx hst (State.errorGoal_eq_some hpaired hroom hback hreplay) 0x03 hfew
      exact ⟨u, y, congrArg _ heq, hy⟩
  case partition =>
    intro r part s hl hc hp
    have hexec : exec (.errorDetected r) s = .next (s.uePart r part) := by
      rw [exec_errorDetected hl, State.detect, if_neg (r.not_corrected hc), hp]
    rw [hexec, State.uePart]
    refine ⟨fun hsome => ?_, fun hnone => ?_⟩
    · cases hkeys : Tab.keys (s.ctxsOf part) with
      | nil => exact absurd (List.map_eq_nil_iff.mp hkeys) hsome
      | cons c cs => rfl
    · rw [hnone]
      exact ⟨_, rfl, s.ctxs_putError _, s.seq_putError _⟩
  case module =>
    intro r s hl hc hp
    exact ⟨_, (exec_errorDetected hl r).trans (congrArg _ (State.detect_module hc hp)), s.haltModule_spec _⟩
  case ownRecord =>
    intro r seq q s hl hc hp hq
    have hexec : exec (.errorDetected r) s = .next (s.ueOwnRecord r seq) := by
      rw [exec_errorDetected hl, State.detect, if_neg (r.not_corrected hc), hp]
    rw [hexec, State.ueOwnRecord, hq]
    refine ⟨fun tw hpaired htwin => ?_, fun hnot => ?_⟩
    · rw [hpaired, htwin]
    · dsimp only
      split
      case h_1 hpaired _ => exact absurd hpaired hnot
      case h_2 => rfl
  case partnerRecord =>
    intro r seq tw s hl hc hp hpaired htwin
    rw [exec_errorDetected hl, State.detect, if_neg (r.not_corrected hc), hp]
    dsimp only
    rw [State.uePartnerRecord, hpaired, htwin]
  case mirror =>
    intro r slot tw ctx commit e s hl hc hp howner hpaired htwin
    refine ⟨s.putError (r.lostSlot s.time.now ctx commit), ?_, s.seq_putError _, s.jr_putError _, s.ctxs_putError _⟩
    rw [exec_errorDetected hl, State.detect, if_neg (r.not_corrected hc), hp]
    dsimp only
    rw [State.ueMirrorSlot, howner]
    dsimp only
    rw [hpaired, htwin, ErrorReport.lostSlot]
  case scrub =>
    intro r s hl
    rw [exec_patrolScrub_live hl rfl, exec_errorDetected hl]
  case scrubDie =>
    intro d s hd hl
    have hdie : (some d).all (fun d => d < 10) = true := decide_eq_true hd
    refine ⟨exec_patrolScrub_live (pass := ⟨some d, none⟩) hl hdie, fun r hawake => ?_⟩
    rw [exec_patrolScrub_live (pass := ⟨some d, some r⟩) hl hdie, exec_errorDetected hawake]
  case scrubNone =>
    intro s
    refine (withUnit_next _ rfl).trans (congrArg Host.Outcome.next ?_)
    exact ite_self s
  case close =>
    intro s hl
    obtain ⟨hseq, hwindow⟩ := s.errs_putErrors (s.errs.window.filter (fun c => decide (c.start + 1000000 ≤ s.time.now)))
    refine ⟨_, congrArg Host.Outcome.next (if_pos hl), ?_, hseq⟩
    exact congrArg (List.filter fun c : Coalesced => !decide (c.start + 1000000 ≤ s.time.now)) hwindow
  case cow =>
    intro r ctx s hl hc hp
    refine ⟨s.ueJob r 0x03 ctx, (exec_errorDetected hl _).trans (congrArg _ (State.detect_job (r := { r with place := .jobState ctx }) hc (.inl rfl))), ?_⟩
    rw [exec_errorDetected hl, State.detect, if_neg (r.not_corrected hc), hp]

end Sys2Proof.Machine
